-- ==== Sys2Proof/Word.lean ====
section
/-! DEFINITION. The words of the manual: bytes, ticks, line numbers and 32-bit fields. -/
namespace Sys2Proof

/-- One byte. -/
abbrev Byte := BitVec 8
/-- A tick of 250 ns; the counter is 48 bits wide (R18). -/
abbrev Tick := BitVec 48
/-- A camera line number (R20). -/
abbrev Line := BitVec 32
/-- A 32-bit field or counter. -/
abbrev U32 := BitVec 32

end Sys2Proof
end

