-- ==== Sys2Proof/Types.lean ====
section
/-! DEFINITION. The fixed sets of names and the small records that both the commands and the state use. -/
namespace Sys2Proof

/-- Table 4.1: the nine unit states, in the order of their codes. -/
inductive UnitState where
  | dark | waking | held | ready | run | drain | fault | standby | collapse
deriving DecidableEq, Repr

/-- R523: the severity of an event, in the order of Table 16.1. -/
inductive Severity where
  | info | note | fault | alarm
deriving DecidableEq, Repr

/-- Table 2.6: privilege levels; `none` is a logged-out session. -/
inductive Level where
  | none | view | operate | engineer | factory
deriving DecidableEq, Repr

/-- R70: the event level of a session. -/
inductive EvLevel where
  | info | note | fault | alarm | none
deriving DecidableEq, Repr

/-- R78: the mode of a session. -/
inductive SesMode where
  | typed | gen | genCheck
deriving DecidableEq, Repr

/-- Table 3.8 and the lot bond (R435): the bonds. `geometry n`, `limits n` and `tach n` count from 1. -/
inductive Bond where
  | sync | lot | geometry (n : Nat) | limits (n : Nat) | tach (n : Nat)
deriving DecidableEq, Repr

/-- What BOND COMMIT and BOND DISCARD may name (R110, R111, R113). -/
inductive BondRef where
  | one (b : Bond) | geometry | all
deriving DecidableEq, Repr

/-- The five banks of NOR flash. -/
inductive BankId where
  | a | b | u1 | u2 | factory
deriving DecidableEq, Repr

/-- What POWER_UP finds: the supply in 0.01 V (Table 4.2), and the banks that have lost validity through a NOR fault (R134). -/
structure PowerOn where
  bus     : Nat := 1920
  spoiled : List BankId := []
deriving DecidableEq, Repr

/-- sys.config.source (Table 3.11). -/
inductive CfgSource where
  | a | b | factory | window
deriving DecidableEq, Repr

/-- cal.source (Table 3.11). -/
inductive CalSource where
  | user | factory | default
deriving DecidableEq, Repr

/-- How an erase, program and read-back of a bank ends (R117, R132). -/
inductive NorResult where
  | ok | eraseFail | programFail | readBackFail
deriving DecidableEq, Repr

/-- The four STATE verbs (Table 4.3). -/
inductive StateVerb where
  | ready | run | drain | hold
deriving DecidableEq, Repr

/-- A verb that may answer pending (Table 2.7), with the function it works on. -/
inductive PendOp where
  | configSave | calSave | calRestore
  | state (v : StateVerb)
  | courseEnable (n : Nat) | courseDisable (n : Nat) | courseTest (n : Nat) | courseLearn (n : Nat)
  | fanStart (n : Nat) | fanStop (n : Nat)
  | loopMode (n : Nat) | loopOff (n : Nat)
  | linkReset (p : Nat) | linkOff (p : Nat)
  | ledgerLoad | ledgerUnload | ledgerSeek | ledgerVerify | ledgerReplay
  | sealRekey (s : Nat) | sealClear (s : Nat) | sealLedger
  | crownYield
deriving DecidableEq, Repr

/-- One item of a reply or unsolicited line (Table 2.4). -/
inductive Out where
  | ok (text : String)
  | err (code : Nat) (detail : String)
  | pending (text : String)
  | multi (body : List String)
  | event (sev : Severity) (code : Nat) (seq : U32) (text : String)
  | suppressed (sev : Severity) (n : Nat)
  | echo (b : List Byte)
  | prompt
deriving DecidableEq, Repr

/-- One line the Keystone sends: the tag it carries in GEN mode, the label it carries in TYPED mode (0: none), whether
a check suffix is appended (R61), and its content. -/
structure OutLine where
  tag   : Option Nat := none
  label : Nat := 0
  check : Bool := false
  out   : Out := .ok ""
deriving DecidableEq, Repr

/-- The header of an executed Fjart line: its session, its tag in GEN mode and its bytes (R56, R58). -/
structure Ln where
  ses  : Nat := 0
  tag  : Option Nat := none
  text : List Byte := []
deriving DecidableEq, Repr

/-- One segment of a parameter path (R52). -/
inductive Seg where
  | name (s : String) | idx (n : Nat)
deriving DecidableEq, Repr

/-- A parameter as a line names it: by path, or by `#` and its ID with an element index (R52, R53, R95). -/
inductive PRef where
  | path (segs : List Seg) | id (id : Nat) (elem : Option Nat)
deriving DecidableEq, Repr

/-- Table 2.2: the unit suffixes. -/
inductive Suffix where
  | tick | us | ms | s | min | h | Hz | kHz | rpm | V | A | mA | C | pct | pctps | um | mm | m | mps | mps2 | kPa | dBm
  | KiB | MBps
deriving DecidableEq, Repr

/-- A literal (R46, R48): a decimal number is `mant / 10 ^ frac` with its sign and suffix. -/
inductive Lit where
  | dec (neg : Bool) (mant : Nat) (frac : Nat) (suffix : Option Suffix)
  | hex (v : Nat)
  | bin (v : Nat)
  | word (w : String)
  | str (bytes : List Byte)
deriving DecidableEq, Repr

/-- What SHOW may name (R76 and each chapter's table). `ring n` names ticket source `n` and, for 1 and 2, probe ring `n` too. -/
inductive ShowSubj where
  | time | partners | state | tickets | ring (n : Nat) | plumb (n : Nat) | course (n : Nat) | air (n : Nat) | conns
  | conn (n : Nat) | windows (conn : Option Nat) | group (g : Nat) | loop (n : Nat) | dryer | fan (n : Nat) | io
  | cartridge | ledger | hardware
  | subtree (p : PRef)
deriving DecidableEq, Repr

/-- What HELP may name (R77). -/
inductive HelpTopic where
  | all | verb (v : String) | param (p : PRef)
deriving DecidableEq, Repr

/-- Table 1.6: a link whose loss the Keystone acts on. -/
inductive LossLink where
  | port (p : Nat) | course (n : Nat) | field | ledger | probeRing (r : Nat)
deriving DecidableEq, Repr

/-- A course-protocol link of the Keystone (Table 1.2). -/
inductive LinkId where
  | course (n : Nat) | field | ledger
deriving DecidableEq, Repr

/-- Table 5.3, kind. -/
inductive TicketKind where
  | prov | conf | firm | cancel
deriving DecidableEq, Repr

/-- Table 5.3: the fields of a ticket slot. -/
structure TicketSlot where
  seq      : U32 := 0
  line     : U32 := 0
  object   : U32 := 0
  velocity : Nat := 0
  cls      : Nat := 0
  priority : Nat := 0
  kind     : TicketKind := .prov
  offset   : Nat := 0
  chute    : Nat := 0
  width    : Nat := 0
  first    : Nat := 0
  lateness : Nat := 0
  air      : Nat := 0
  tag      : U32 := 0
  /-- A reserved bit or byte of the slot is not 0. -/
  reserved : Bool := false
  crcOk    : Bool := true
deriving DecidableEq, Repr

/-- Table 5.6: the outcomes. -/
inductive Outcome where
  | fired | merged | extended | shifted | deniedAir | deniedLate | deniedBoost | lapsed | cancelled | cancelTooLate
  | droppedFailover
deriving DecidableEq, Repr

/-- Table 7.4. -/
inductive CourseState where
  | off | enabling | on | draining
deriving DecidableEq, Repr

/-- Table 7.1: the phases of a valve channel. -/
inductive ChPhase where
  | off | prime | peak | hold | release
deriving DecidableEq, Repr

/-- Table 7.6: PLAN. Times are in µs as the frame carries them. -/
structure PlanBody where
  slot    : Nat := 0
  ch      : Nat := 0
  prov    : Bool := false
  primed  : Bool := false
  ceil    : Nat := 0
  profile : Nat := 0
  start   : Tick := 0
  durUs   : Nat := 0
  leadUs  : Nat := 0
deriving DecidableEq, Repr

/-- Table 7.6: the downlink frames as the Keystone sends them. -/
inductive DownKind where
  | sync (t : Tick)
  | config (addr : Nat) (ws : List U32)
  | enable
  | drain (abort : Bool)
  | crown (gen : U32) (horizon : Tick) (handover : Bool)
  | query (addr groups : Nat)
  | echo (t : Tick) (clk num : Nat)
  | plan (p : PlanBody)
  | confirm (bank : Nat) (mask : BitVec 128)
  | commit (bank : Nat) (mask : BitVec 128)
  | drop (bank : Nat) (mask : BitVec 128)
  | extend (slot durUs : Nat)
  | idle
deriving DecidableEq, Repr

/-- Header of a downlink frame as a device receives it (Table 7.5): the device's index (course 1–8; 0 for the field
bank and the transport), the uplink it came in on, its count and its generation. -/
structure Dn where
  course : Nat := 1
  up     : Nat := 0
  seq    : BitVec 16 := 0
  gen    : U32 := 0
deriving DecidableEq, Repr

/-- Header of an uplink frame as the Keystone receives it (Table 7.5). -/
structure UpHdr where
  course : Nat := 1
  gen    : U32 := 0
deriving DecidableEq, Repr

/-- Table 7.6: STATUS. -/
structure StatusFrame where
  st        : CourseState := .off
  ready     : Bool := false
  bankV     : Nat := 0
  fieldV    : Nat := 0
  phases    : List Nat := [0, 0, 0, 0, 0, 0]
  n         : Nat := 0
  tick      : Tick := 0
  crownLive : Bool := false
deriving DecidableEq, Repr

/-- Table 7.6: END. -/
structure EndBody where
  slot    : Nat := 0
  code    : Nat := 0
  primed  : Bool := false
  release : Tick := 0
deriving DecidableEq, Repr

/-- Table 8.8, op. -/
inductive WorkOp where
  | write | writeNotice | read | send | atomicAdd | wait
deriving DecidableEq, Repr

/-- Tables 8.3 and 9.3: opcodes. -/
inductive RlOp where
  | write | writeNotice | readReq | readResp | send | atomicAdd | atomicResp | ack | nak | rekey | rekeyAck | rekeyReq
  | connect | accept | refuse | disconnect | groupPost | groupDeliver | groupDone | groupResult
deriving DecidableEq, Repr

/-- R315: the class of a frame at egress. -/
inductive FrameClass where
  | control | ticket | bulk
deriving DecidableEq, Repr

/-- Table 8.10. -/
inductive CqStatus where
  | ok | nak | retry | flushed | local_ | cancelled | sent | broken
deriving DecidableEq, Repr

/-- R277: the states of a connection. -/
inductive ConnState where
  | closed | opening | ready | closing | error
deriving DecidableEq, Repr

/-- Table 8.12. -/
inductive Reason where
  | none | peerClose | localClose | violationSent | violationReceived | retry | rnr | silence | linkDown | waitBroken
  | nonceLimit | epochLimit
deriving DecidableEq, Repr

/-- Table 8.6. -/
inductive RefuseReason where
  | noResource | version | state | replay
deriving DecidableEq, Repr

/-- R542: the modules of a cage. -/
inductive ModuleKind where
  | none | sr | lr | dac | other | faulty
deriving DecidableEq, Repr

/-- R303: window permissions. -/
inductive Perm where
  | ro | wo | rw
deriving DecidableEq, Repr

/-- R325: where the delivery to one target of a group post stands. -/
inductive TargetState where
  | waiting | sent | accepted | ended
deriving DecidableEq, Repr

/-- R325, R328, R330: the modes of a group. -/
inductive GroupMode where
  | reliable | unreliable | free
deriving DecidableEq, Repr

/-- A member that GROUP ADD and GROUP REMOVE name (R330). -/
inductive Member where
  | port (p : Nat) | conn (c : Nat)
deriving DecidableEq, Repr

/-- Where a received frame is addressed (R270, R329): the address of the port it came in on, the address of group `g`, or another. -/
inductive EthDest where
  | port | group (g : Nat) | other
deriving DecidableEq, Repr

/-- The carriage of a received frame (Table 8.1): its destination, its EtherType, and the VID of its 802.1Q tag when it has one. -/
structure Eth where
  dest : EthDest := .port
  type : Nat := 0x88B5
  vid  : Option Nat := none
deriving DecidableEq, Repr

/-- The Ramalink header of a received frame (Table 8.2), with its carriage, the port it came in on and the Keystone connection it is
for. `bad`: its opcode or a bit of it is reserved, or the length field is unlike the payload (INVALID of Table 8.11). -/
structure RlHdr where
  eth    : Eth := {}
  port   : Nat := 1
  version : Nat := 1
  conn   : Nat := 0
  ackreq : Bool := false
  first  : Bool := true
  last   : Bool := true
  psn    : U32 := 0
  ack    : U32 := 0
  epoch  : U32 := 0
  fseq   : Nat := 0
  rkey   : U32 := 0
  offset : U32 := 0
  bad    : Bool := false
deriving DecidableEq, Repr

/-- A received CONNECT (Table 8.4): the source address (R270), the 32 bytes of its header and the 64 of its payload. -/
structure ConnectFrame where
  eth     : Eth := {}
  source  : List Byte := []
  header  : List Byte := []
  payload : List Byte := []
deriving DecidableEq, Repr

/-- A received ACCEPT (Table 8.5): the 32 bytes of its header and the 64 of its payload. -/
structure AcceptFrame where
  eth     : Eth := {}
  header  : List Byte := []
  payload : List Byte := []
deriving DecidableEq, Repr

/-- What a Keystone function posts (Table 8.8): `local_` is the Keystone address of its data, `data` what stands there. -/
structure WorkPost where
  op     : WorkOp := .write
  ticket : Bool := false
  length : Nat := 0
  rkey   : U32 := 0
  offset : U32 := 0
  local_ : Nat := 0
  data   : List Byte := []
  id     : U32 := 0
  reserved : Bool := false
deriving DecidableEq, Repr

/-- dry.loop.n.active (Table 10.6). -/
inductive LoopActive where
  | off | stopping | manual | auto | frozen | tracking
deriving DecidableEq, Repr

/-- dry.loop.n.mode (Table 10.6). -/
inductive LoopMode where
  | off | manual | auto
deriving DecidableEq, Repr

/-- dry.zone.N.drain (Table 10.6). -/
inductive DrainState where
  | none | draining | complete
deriving DecidableEq, Repr

/-- dry.batch.state (Table 10.6). -/
inductive BatchState where
  | idle | running | held
deriving DecidableEq, Repr

/-- Table 10.4. -/
inductive BatchStep where
  | fill | heat | dry | temper | cool | empty
deriving DecidableEq, Repr

/-- Table 11.1. -/
inductive FanState where
  | stopped | starting | retryWait | running | tachLost | coasting | fanStall | driveFault
deriving DecidableEq, Repr

/-- probe.r.status (Table 11.7). -/
inductive NodeStatus where
  | ok | farEnd | lost | invalid | mismatch
deriving DecidableEq, Repr

/-- Where the sweep of R387 stands. -/
inductive SweepPhase where
  | measOut | fromOut | measRet | fromRet
deriving DecidableEq, Repr

/-- probe.r.last (Table 11.7). -/
inductive SweepLast where
  | none | complete | aborted
deriving DecidableEq, Repr

/-- sys.field.power (R540). -/
inductive PhantomState where
  | off | on | tripped
deriving DecidableEq, Repr

/-- One field cycle's inputs from the bank (R366): readbacks, analogue inputs in 0.001 mA or 0.001 V, the fans'
running inputs and motor currents with their validity, and the load supply in 0.01 V. -/
structure FieldIn where
  doRb    : BitVec 16 := 0
  aoRb    : List Int := [0, 0, 0, 0, 0, 0, 0, 0]
  ai      : List Int := [0, 0, 0, 0, 0, 0, 0, 0]
  fanRun  : BitVec 8 := 0
  current : List (Nat × Bool) := []
  loadV   : Nat := 0
deriving DecidableEq, Repr

/-- The result of a probe node's conversion (Table 11.4). -/
structure Conversion where
  moist    : BitVec 20 := 0
  temp     : BitVec 16 := 0
  mInvalid : Bool := false
  tInvalid : Bool := false
  selfTest : Bool := false
deriving DecidableEq, Repr

/-- Table 12.9, kind. -/
inductive AshlarKind where
  | header | data | capstone
deriving DecidableEq, Repr

/-- Table 13.2. -/
inductive LedgerState where
  | empty | loading | writable | closed | full | foreign | unloading | fault
deriving DecidableEq, Repr

/-- ledger.op (Table 13.6). -/
inductive LedgerOp where
  | none | load | seek | verify | replay | unload
deriving DecidableEq, Repr

/-- What LEDGER SEEK names (R448). -/
inductive SeekTarget where
  | seq (n : Nat) | serial (n : Nat) | end_
deriving DecidableEq, Repr

/-- A REPLAY asked for (R450). -/
structure ReplayReq where
  serial : Nat := 0
  count  : Nat := 0
  off    : Nat := 0
  len    : Nat := 0
deriving DecidableEq, Repr

/-- Table 14.8, seal.slot.s.state. -/
inductive SlotState where
  | active | repointing | split | quarantined
deriving DecidableEq, Repr

/-- Why an access was answered with a bus error (R460, R475, R476, R478, R474, R487). -/
inductive BusError where
  | key | poison | quarantine | held | engine | range
deriving DecidableEq, Repr

/-- R483: the JTAG instructions. -/
inductive JtagIr where
  | bypass | idcode | sample | other
deriving DecidableEq, Repr

/-- crown.synced (Table 15.7). -/
inductive SyncState where
  | no | base | yes
deriving DecidableEq, Repr

/-- An event before it has its number (Table 16.1): code, source and parameters. -/
structure Event where
  code  : Nat := 0
  kind  : Nat := 0
  index : Nat := 0
  p0    : U32 := 0
  p1    : U32 := 0
  p2    : U32 := 0
  p3    : U32 := 0
deriving DecidableEq, Repr

/-- Table 15.1: the heartbeat. -/
structure Heartbeat where
  beat     : U32 := 0
  gen      : U32 := 0
  state    : BitVec 8 := 0
  holds    : Bool := false
  synced   : Bool := false
  yielding : Bool := false
  rebase   : Bool := false
  rank     : Nat := 1
  tick     : Tick := 0
  epoch    : U32 := 0
  crcOk    : Bool := true
deriving DecidableEq, Repr

/-- What the self-test of WAKING found (Table 4.4): the results of its steps that the state does not already hold. `mramBad` is
the header of the mortar journal, `recorderBad` that of the recorder store (R537); `slotsBad` are the seqs of the store's records
whose slots fail their crc (R527); `storeBad` is step 8. Steps 5 and 9 are computed from the banks and the heartbeats; step 4's keys
come from the key store. -/
structure SelfTest where
  imagesBad     : Bool := false
  dramBad       : Bool := false
  mramBad       : Bool := false
  recorderBad   : Bool := false
  lidOpen       : Bool := false
  holdup        : Nat := 100
  coursesAbsent : List Nat := []
  fieldAbsent   : Bool := false
  ledgerAbsent  : Bool := false
  slotsBad      : List U32 := []
  storeBad      : Bool := false
deriving DecidableEq, Repr

end Sys2Proof
end

