-- ==== Sys2Proof/Images.lean ====
section
/-! DEFINITION. What travels between the Keystone, the tape and the standby: ledger records (chapter 12), ashlars and
cartridges, and the mirror epochs of chapter 15. -/
namespace Sys2Proof

/-- A ledger record (Table 12.11). -/
structure Record where
  /-- type; Table 12.12. -/
  typ : BitVec 8 := 0
  /-- NO-LINE; Table 12.11. -/
  noLine : Bool := false
  /-- run; Table 12.11. -/
  run : BitVec 16 := 0
  /-- line; Table 12.11. -/
  line : Line := 0
  /-- lot in force at that line; Table 12.11. -/
  lot : U32 := 0
  /-- body; Table 12.13. -/
  body : List Byte := []
deriving DecidableEq, Repr

/-- What the read channel acquires of a row block (R401, R405): the 132 bytes of each part, none of a part whose sync mark it missed. -/
structure RowRead where
  /-- row header and bytes 0 to 123 of the codeword, after SYNC-A. -/
  partA : Option (List Byte) := none
  /-- the header copy and bytes 124 to 247, after SYNC-B. -/
  partB : Option (List Byte) := none
deriving DecidableEq, Repr

/-- An ashlar: forming, closed, on tape or stored. -/
structure Ashlar where
  /-- sequence number; R412. -/
  seq : Nat := 0
  /-- HEADER, DATA or CAPSTONE; Table 12.9. -/
  kind : AshlarKind := .data
  /-- RESTART; Table 12.9. -/
  restart : Bool := false
  /-- REDO; Table 12.9. -/
  redo : Bool := false
  /-- serial of the first record; Table 12.9. -/
  serial : BitVec 64 := 0
  /-- its records; Table 12.9. -/
  recs : List Record := []
  /-- batches; Table 12.9. -/
  batches : Nat := 0
  /-- used record area; Table 12.9. -/
  used : Nat := 0
  /-- wrap; Table 12.9. -/
  wrap : Nat := 0
  /-- wedge of its preamble; Table 12.9. -/
  wedge : Nat := 100
  /-- written in reverse direction; R396. -/
  reverse : Bool := false
  /-- last complete ashlar before it; Table 12.9. -/
  prev : Nat := 0
  /-- HEADER only; Table 12.9. -/
  keyid : List Byte := []
  /-- sys.config.generation at its start; Table 12.9. -/
  config : U32 := 0
  /-- trailers valid on tape; R445. -/
  trailers : Nat := 0
  /-- every row and the tag verify; R438. -/
  sound : Bool := false
  /-- copies written on each channel; R444. -/
  perCh : List Nat := List.replicate 16 0
  /-- its batches that have ended: records, and whether DEFLATE gave fewer bytes; R416, R417. -/
  cuts : List (Nat × Bool) := []
  /-- HEADER only: wrapped cartridge key; Table 12.9. -/
  wrapped : List Byte := []
  /-- records of the batch being formed; 0 none; R431. -/
  inBatch : Nat := 0
  /-- ledger.deflate when that batch began; Table 12.14. -/
  deflate : Bool := true
  /-- CAPSTONE only: 1 FULL, 2 CLOSED; Table 12.13. -/
  reason : Nat := 0
  /-- tick of its first record; R431. -/
  firstAt : Tick := 0
deriving DecidableEq, Repr

/-- The cartridge in the transport. -/
structure Cartridge where
  /-- instance ID; R412. -/
  instance_ : BitVec 48 := 0
  /-- nothing written; R438. -/
  blank : Bool := true
  /-- keyid of its header ashlars; R414. -/
  keyid : List Byte := []
  /-- a header ashlar is sound; R438. -/
  headersOk : Bool := true
  /-- ashlars on tape in write order; R410. -/
  tape : List Ashlar := []
  /-- cartridge key; R413. -/
  ck : List Byte := []
  /-- wrap of the next ashlar; R410. -/
  wrap : Nat := 0
  /-- wedge at which the next ashlar may begin; R410. -/
  wedge : Nat := 100
deriving DecidableEq, Repr

/-- A TICKETS entry of an epoch (Table 15.3). -/
structure MirTicket where
  /-- source (by port and pconn); Table 15.3. -/
  src : Nat := 0
  /-- the slot as taken; Table 15.3. -/
  slot : TicketSlot := {}
  /-- stamp; Table 15.3. -/
  stamp : Tick := 0
  /-- state: the ticket has ended; Table 15.3. -/
  ended : Bool := false
  /-- fire start (from its plans); Table 15.3. -/
  start : Tick := 0
  /-- CONFIRMED; Table 15.3. -/
  confirmed : Bool := false
  /-- COMMITTED; Table 15.3. -/
  committed : Bool := false
  /-- RESERVED; Table 15.3. -/
  reserved : Bool := false
  /-- PREEMPTED; Table 15.3. -/
  preempted : Bool := false
  /-- primed plan; Table 15.3. -/
  primedPlan : Bool := false
  /-- shift; Table 15.3. -/
  shift : Nat := 0
  /-- port of the source; Table 15.3. -/
  port : Nat := 0
  /-- pconn of the source; Table 15.3. -/
  pconn : BitVec 16 := 0
deriving DecidableEq, Repr

/-- A PLANS entry of an epoch (Table 15.3). -/
structure MirPlan where
  /-- course; Table 15.3. -/
  course : Nat := 1
  /-- slot; Table 15.3. -/
  slot : Nat := 0
  /-- channel; Table 15.3. -/
  ch : Nat := 0
  /-- PROV; Table 15.3. -/
  prov : Bool := false
  /-- PRIMED; Table 15.3. -/
  primed : Bool := false
  /-- committed; Table 15.3. -/
  committed : Bool := false
  /-- dropped; Table 15.3. -/
  dropped : Bool := false
  /-- fire start; Table 15.3. -/
  start : Tick := 0
  /-- D; Table 15.3. -/
  dur : Nat := 0
deriving DecidableEq, Repr

/-- A RINGS entry of an epoch (Table 15.3). -/
structure MirRing where
  /-- source; Table 15.3. -/
  src : Nat := 1
  /-- port; Table 15.3. -/
  port : Nat := 0
  /-- pconn; Table 15.3. -/
  pconn : BitVec 16 := 0
  /-- next; Table 15.3. -/
  next : U32 := 0
  /-- no slot taken since the ring opened; R176. -/
  fresh : Bool := true
  /-- source counters; Table 15.3. -/
  gaps : U32 := 0
  /-- source counters; Table 15.3. -/
  refused : U32 := 0
  /-- source counters; Table 15.3. -/
  overruns : U32 := 0
deriving DecidableEq, Repr

/-- An AIR entry of an epoch (Table 15.3). -/
structure MirAir where
  /-- L; Table 15.3. -/
  level : Nat := 0
  /-- H; Table 15.3. -/
  hard : Nat := 0
  /-- S; Table 15.3. -/
  soft : Nat := 0
  /-- ρ; Table 15.3. -/
  rhoNum : Nat := 0
  /-- ρ; Table 15.3. -/
  rhoDen : Nat := 1
  /-- refill state; Table 15.3. -/
  held : Bool := false
deriving DecidableEq, Repr

/-- A LOOPS entry of an epoch (Table 15.3). -/
structure MirLoop where
  /-- mode; Table 15.3. -/
  mode : LoopMode := .off
  /-- active mode; Table 15.3. -/
  active : LoopActive := .off
  /-- region index; Table 15.3. -/
  i1 : Nat := 0
  /-- region index; Table 15.3. -/
  i2 : Nat := 0
  /-- I; Table 15.3. -/
  i : Int := 0
  /-- D; Table 15.3. -/
  d : Int := 0
  /-- y₁; Table 15.3. -/
  y : Int := 0
  /-- r₁; Table 15.3. -/
  r : Int := 0
  /-- u; Table 15.3. -/
  u : Int := 0
  /-- flags; Table 15.3. -/
  flags : BitVec 8 := 0
deriving DecidableEq, Repr

/-- The UNIT section and the batch of an epoch (Table 15.3). -/
structure MirUnit where
  /-- unit state; Table 15.3. -/
  state : UnitState := .held
  /-- fault causes; Table 15.3. -/
  causes : U32 := 0
  /-- course states; Table 15.3. -/
  courses : List CourseState := []
  /-- fan states and attempts; Table 15.3. -/
  fans : List (FanState × Nat) := []
  /-- averages; Table 15.3. -/
  avgOutMoist : Nat := 0
  /-- averages; Table 15.3. -/
  avgOutTemp : Int := 0
  /-- averages; Table 15.3. -/
  avgInMoist : Nat := 0
  /-- averages; Table 15.3. -/
  avgValid : BitVec 8 := 0
  /-- filtered moisture; Table 15.3. -/
  moist : Nat := 0
  /-- band; Table 15.3. -/
  band : Nat := 0
  /-- crack index; Table 15.3. -/
  crack : Nat := 0
  /-- pending lot change: id, line, name; Table 15.3. -/
  lot : Option (U32 × Line × List Byte) := none
  /-- batch state; Table 15.3. -/
  batchState : BatchState := .idle
  /-- batch step; Table 15.3. -/
  batchStep : BatchStep := .fill
  /-- step timer; Table 15.3. -/
  batchSince : Tick := 0
deriving DecidableEq, Repr

/-- The JOURNAL section of an epoch (Table 15.3). -/
structure MirJournal where
  /-- oldest unreleased serial; Table 15.3. -/
  oldest : BitVec 64 := 0
  /-- next serial; Table 15.3. -/
  next : BitVec 64 := 0
  /-- next ashlar sequence number; Table 15.3. -/
  nextSeq : Nat := 0
  /-- cartridge instance; Table 15.3. -/
  instance_ : BitVec 48 := 0
  /-- lot; Table 15.3. -/
  lot : U32 := 0
  /-- its name; Table 15.3. -/
  lotName : List Byte := []
  /-- journal frames written since the cut before; Table 15.3. -/
  frames : List (BitVec 64 × Record) := []
deriving DecidableEq, Repr

/-- The mirrored state as a standby holds it. -/
structure Mirror where
  /-- tickets not ended; R497. -/
  tickets : List MirTicket := []
  /-- plans; R497. -/
  plans : List MirPlan := []
  /-- sources; R497. -/
  rings : List MirRing := []
  /-- line, edge, phase, period; R497. -/
  line : Option (Line × Tick × BitVec 48 × U32) := none
  /-- manifolds; R497. -/
  air : List MirAir := []
  /-- loops; R497. -/
  loops : List MirLoop := []
  /-- unit; R497. -/
  unit : Option MirUnit := none
  /-- committed parameters; R497. -/
  params : List (Nat × Nat × Int) := []
  /-- journal; R497. -/
  journal : Option MirJournal := none
deriving DecidableEq, Repr

/-- A mirror epoch (Tables 15.2 and 15.3); a section not carried is empty or none. -/
structure Epoch where
  /-- 0 DELTA, 1 BASE, 2 YIELD; Table 15.2. -/
  kind : Nat := 0
  /-- epoch number; Table 15.2. -/
  epoch : U32 := 0
  /-- pair tick of the cut; Table 15.2. -/
  cut : Tick := 0
  /-- crown generation of the sender; Table 15.2. -/
  gen : U32 := 0
  /-- magic, version, lengths, trailer and crc as Table 15.2 states; Table 15.2. -/
  sound : Bool := true
  /-- TICKETS; Table 15.3. -/
  tickets : List MirTicket := []
  /-- PLANS; Table 15.3. -/
  plans : List MirPlan := []
  /-- RINGS; Table 15.3. -/
  rings : List MirRing := []
  /-- LINE: line, edge, phase, period; Table 15.3. -/
  line : Option (Line × Tick × BitVec 48 × U32) := none
  /-- AIR; Table 15.3. -/
  air : List MirAir := []
  /-- LOOPS; Table 15.3. -/
  loops : List MirLoop := []
  /-- UNIT and batch; Table 15.3. -/
  unit : Option MirUnit := none
  /-- PARAMS: ID, element, raw value; Table 15.3. -/
  params : List (Nat × Nat × Int) := []
  /-- JOURNAL; Table 15.3. -/
  journal : Option MirJournal := none
  /-- BASE: offset of the chunk, and whether it is the last; Table 15.3. -/
  base : Option (Nat × Bool) := none
  /-- the first chunk of a base: the mirrored state without the journal frames that stood before the base; R498. -/
  image : Option Mirror := none
  /-- the journal frames that a chunk of a base carries; R498. -/
  chunk : List (BitVec 64 × Record) := []
deriving DecidableEq, Repr

end Sys2Proof
end

