-- ==== Sys2Proof/Syntax.lean ====
section
/-! DEFINITION. The commands of the block, one constructor per row of spec/opcode_table.json, in the table's order: the
operations a partner or a person commands, and the events that the line, its parts and its clock bring about. The operands
are what arrives with the command: a Fjart line's parsed words, a frame's fields, or a measurement. -/
namespace Sys2Proof

/-- A command of the KY-620 line. -/
inductive Instr where
  -- Power and clock (chapters 1, 4)
  /-- POWER_UP (R141). Supply at or above 19.2 V for 100 ms with the 200 MHz clock locked takes the unit from DARK into WAKING and starts the tick counter at 0. -/
  | powerUp (bus : PowerOn)
  /-- WAKING_END (R146). The self-test ends and the unit leaves WAKING for HELD, READY, STANDBY, FAULT or DARK. -/
  | wakingEnd (t : SelfTest)
  /-- WAKING_TIMEOUT (R165). A self-test that exceeds 6 s ends WAKING in FAULT with the running step recorded as the cause. -/
  | wakingTimeout (stage : Nat)
  /-- JOURNAL_REPLAY (R455). After WAKING and any autoload, replays the mortar journal, releases verified records and pages the rest into staging. -/
  | journalReplay (bad : Option Nat)
  /-- LINE_SYNC_EDGE (R20). The phase accumulator issues a LINE SYNC edge, advances the line number and records the edge tick. -/
  | lineSyncEdge
  /-- TIME_PAGE_UPDATE (R25). Updates the 32-byte time page as one unit at each edge, at each state change, or every 100 µs while line sync is stopped. -/
  | timePageUpdate
  /-- CLOCK_LOCK_LOSS (R35). Loss of lock of the 200 MHz clock stops LINE SYNC, stops committing fires and enters FAULT. -/
  | clockLockLoss
  /-- PORT_LINK_LOSS (R36). Loss of a partner port or internal link has the effect of Table 1.6 within 1 ms. -/
  | portLinkLoss (l : LossLink)
  -- Fjart (chapter 2)
  /-- CONSOLE_CHAR (R54). A byte received on CONSOLE is echoed, applied as an editing key or added to the TYPED line. -/
  | consoleChar (b : Byte) (err : Bool)
  /-- CONSOLE_BREAK (R89). A break condition on CONSOLE acts as Ctrl-C and abandons the partial line. -/
  | consoleBreak
  /-- FJART_LINE_REFUSED (R68). A host line that fails length, check, tag, syntax or verb lookup is answered with the first error code and has no effect. -/
  | fjartLineRefused (ses : Nat) (text : List Byte)
  /-- TAG_REPEAT (R58). A GEN line that repeats the last consumed tag byte for byte gets its earlier reply again without execution. -/
  | tagRepeat (ses : Nat) (text : List Byte)
  /-- UNSOLICITED_LINE_SEND (R69). Sends a queued event line to a session once no reply is in progress and the rate limit allows. -/
  | unsolicitedLineSend (ses : Nat)
  /-- SUPPRESSION_LINE (R72). Sends one suppression line with the count and highest severity of dropped unsolicited lines once the rate allows. -/
  | suppressionLine (ses : Nat)
  /-- CONSOLE_IDLE_LOGOUT (R87). A CONSOLE session without a line or final reply for sys.console.idle is logged out. -/
  | consoleIdleLogout
  /-- LOGIN_LOCKOUT_END (R82). The 60 s lock-out of a session after five failed responses ends. -/
  | loginLockoutEnd (ses : Nat)
  /-- GET (R73). Returns the values of the named parameters from one snapshot on one line. -/
  | get (ln : Ln) (ps : List PRef)
  /-- SET (R74). Writes every path and value pair of the line as one unit, staging or committing bond members. -/
  | set (ln : Ln) (ps : List (PRef × Lit))
  /-- SHOW (R76). Lists a subject or a parameter subtree as a multi-line reply for people. -/
  | showCmd (ln : Ln) (subj : ShowSubj)
  /-- HELP (R77). Lists verbs, or gives a verb's syntax or a parameter's attributes. -/
  | help (ln : Ln) (topic : HelpTopic)
  /-- MODE (R78). Sets the session mode to TYPED, GEN or GEN CHECK. -/
  | mode (ln : Ln) (m : SesMode)
  /-- MODE_EVENTS (R78). Sets the session's event level. -/
  | modeEvents (ln : Ln) (l : EvLevel)
  /-- LOGIN (R80). Logs in at VIEW or issues a fresh challenge for a higher level. -/
  | login (ln : Ln) (lv : Level) (who : List Byte)
  /-- LOGIN_RESPONSE (R81). Checks an HMAC response to the session's challenge and grants the level or counts a failure. -/
  | loginResponse (ln : Ln) (resp : U32)
  /-- LOGOUT (R83). Returns the session to logged out while pending operations continue. -/
  | logout (ln : Ln)
  -- Parameters, bonds, banks (chapter 3)
  /-- BOND_COMMIT (R110). Completes a bond's staged set, runs its check and commits it for its effect point. -/
  | bondCommit (ln : Ln) (b : BondRef)
  /-- BOND_DISCARD (R111). Drops the staged values of a bond, of geometry, or of every bond, and closes them. -/
  | bondDiscard (ln : Ln) (b : BondRef)
  /-- BOND_SHOW (R108). Lists the staged and running values of open bonds. -/
  | bondShow (ln : Ln) (b : Option Bond)
  /-- BOND_EFFECT (R112). At a committed bond's effect point the running blocks take the whole new set in one step. -/
  | bondEffect (b : Bond)
  /-- CONFIG_SAVE (R117). Snapshots the KEPT values and starts writing them to the older configuration bank. -/
  | configSave (ln : Ln)
  /-- CONFIG_SAVE_ABORT (R118). Aborts a pending CONFIG SAVE under the abort rule. -/
  | configSaveAbort (ln : Ln) (stepSix : Option Tick)
  /-- CONFIG_SAVE_COMPLETE (R117). The NOR erase, program, read-back and crc steps of a save end and its final reply is sent. -/
  | configSaveComplete (r : NorResult)
  /-- CONFIG_LOAD (R123). In HELD, replaces every running KEPT value from bank A, B, the defaults or the load window. -/
  | configLoad (ln : Ln) (src : CfgSource)
  /-- CONFIG_ACCEPT (R122). In HELD, accepts the running KEPT and CAL values as they stand. -/
  | configAccept (ln : Ln)
  /-- CONFIG_DIFF (R125). Lists KEPT parameters whose running value differs from a bank or the defaults. -/
  | configDiff (ln : Ln) (src : Option CfgSource)
  /-- CAL_SHOW (R130). Lists CAL parameters with running, USER and FACTORY values. -/
  | calShow (ln : Ln) (p : Option PRef)
  /-- CAL_SET (R128). Sets CAL parameters as SET does and refuses other paths. -/
  | calSet (ln : Ln) (ps : List (PRef × Lit))
  /-- CAL_SAVE (R129). Starts writing the running CAL values to the older USER copy. -/
  | calSave (ln : Ln)
  /-- CAL_SAVE_COMPLETE (R129). The USER copy write of a CAL SAVE or restore ends and its final reply is sent. -/
  | calSaveComplete (r : NorResult)
  /-- CAL_RESTORE_FACTORY (R131). Issues a six-letter confirm word for a factory calibration restore. -/
  | calRestoreFactory (ln : Ln)
  /-- CAL_RESTORE_CONFIRM (R131). With a valid confirm word, copies FACTORY values into running CAL and the older USER copy. -/
  | calRestoreConfirm (ln : Ln) (word : List Byte)
  /-- SET_REQUEST (R101). A WRITE-WITH-NOTICE on the set block copies the block and queues a set request. -/
  | setRequest (conn : Nat) (block : List Byte)
  /-- SET_REQUEST_EXEC (R104). Executes a queued set request as one SET line and writes the result block. -/
  | setRequestExec (conn : Nat)
  -- Unit states and supply (chapter 4)
  /-- STATE_READY (R149). Checks the start conditions and begins bring-up from HELD or completes at once in READY. -/
  | stateReady (ln : Ln)
  /-- STATE_RUN (R143). Takes the unit from READY to RUN, or queues the change during DRAIN. -/
  | stateRun (ln : Ln)
  /-- STATE_DRAIN (R143). Takes the unit from RUN into DRAIN. -/
  | stateDrain (ln : Ln)
  /-- STATE_HOLD (R143). Leads the unit to HELD through drain and shutdown, or from FAULT once no cause is active. -/
  | stateHold (ln : Ln)
  /-- BRINGUP_COMPLETE (R150). The last bring-up step of Table 4.5 ends and the unit enters READY. -/
  | bringupComplete
  /-- BRINGUP_STEP_TIMEOUT (R164). A bring-up step not ended within 2 s fails the bring-up into HELD with 601. -/
  | bringupStepTimeout
  /-- SHUTDOWN_COMPLETE (R150). The last shutdown step ends and the unit enters HELD, running any queued enable. -/
  | shutdownComplete
  /-- SHUTDOWN_STEP_TIMEOUT (R164). A shutdown step not ended within 200 ms takes the unit into FAULT with outputs off. -/
  | shutdownStepTimeout
  /-- DRAIN_COMPLETE (R152). All pre-DRAIN tickets are final, timelines empty and every zone drained, so the unit enters READY or goes on to HELD. -/
  | drainComplete
  /-- DRAIN_LIMIT (R153). sys.drain.limit expires with a zone not drained; its loops go to manual at 4 mA and DRAIN ends. -/
  | drainLimit
  /-- SUPPLY_BELOW_COLLAPSE (R160). The supply bus falls below 17.0 V and the 2 ms collapse timer starts. -/
  | supplyBelowCollapse (bus : Nat)
  /-- SUPPLY_DIP_END (R160). The bus recovers above 17.0 V within 2 ms and a dip NOTE is recorded. -/
  | supplyDipEnd (low : Nat) (bus : Nat)
  /-- SUPPLY_LOW (R160). The bus enters the range 17.0 to 19.2 V and a NOTE is recorded once. -/
  | supplyLow (bus : Nat)
  /-- COLLAPSE_DECLARED (R161). The bus stays below 17.0 V for 2 ms; COLLAPSE is entered and the collapse sequence begins. -/
  | collapseDeclared (offSpeed : Bool) (unthreading : Bool) (stepSix : Bool)
  /-- COLLAPSE_SEQUENCE_END (R161). The collapse sequence ends with the journal sealed and the unit goes DARK. -/
  | collapseSequenceEnd
  /-- HOLDUP_MEASURE (R162). The hourly measurement of hold-up energy updates sys.holdup.ok and records a FAULT when short. -/
  | holdupMeasure (pct : Nat)
  -- Tickets (chapter 5)
  /-- TICKET_PROD_WRITE (R170). A classifier write of prod makes the hardware take slots from cons to prod, or handles an overrun or a jump. -/
  | ticketProdWrite (src : Nat) (prod : U32)
  /-- TICKET_PROV (R178). A taken PROV slot is checked, stamped, its fire start computed and placed with a soft air reservation. -/
  | ticketProv (src : Nat)
  /-- TICKET_FIRM (R178). A taken FIRM slot is checked, stamped, its fire start computed and placed with a hard air debit. -/
  | ticketFirm (src : Nat)
  /-- TICKET_CONF (R199). A taken CONF slot confirms its PROV target and converts its reservation into a hard debit, or is refused. -/
  | ticketConf (src : Nat)
  /-- TICKET_CANCEL (R185). A taken CANCEL slot withdraws its target before the commit tick, or is recorded as too late or refused. -/
  | ticketCancel (src : Nat)
  /-- COMMIT_TICK (R247). At a commit tick the course's tickets are admitted against boost, the simultaneous-fire limit and air, and committed or denied. -/
  | commitTick (course : Nat)
  /-- COMPLETION_CCONS_WRITE (R204). A classifier write of ccons frees completion entries, or is ignored with a FAULT when invalid. -/
  | completionCconsWrite (src : Nat) (ccons : U32)
  /-- TICKET_FORGET (R175). 1 s after its completion entry a ticket is no longer available for reference. -/
  | ticketForget
  /-- TALLY_READ (R201). Every second reads every open source's tally area and sums the increases per chute and class. -/
  | tallyRead
  /-- RECIPE_REPORT (R202). A WRITE-WITH-NOTICE on the recipe block generates a RECIPE record or a NOTE event. -/
  | recipeReport (src : Nat)
  -- Plumb model (chapter 6)
  /-- MOISTURE_UPDATE (R218). Once a second filters the outlet moisture and moves the moisture band with hysteresis. -/
  | moistureUpdate
  /-- OUTLET_AVG_MISSING (R229). No outlet average for 3 sweep periods records NOTE 0x2031 while the band holds. -/
  | outletAvgMissing
  /-- COURSE_LEARN (R222). Starts a drop-test sweep on a chute, opening the learn window on the named source. -/
  | courseLearn (ln : Ln) (n : Nat) (src : Nat)
  /-- COURSE_LEARN_STOP (R227). Ends a learn sweep without applying any result. -/
  | courseLearnStop (ln : Ln) (n : Nat)
  /-- LEARN_RESULT_READ (R224). 1 s after a learn ticket's completion entry, reads its hit or miss byte and counts it in its bin. -/
  | learnResultRead (n : Nat) (tid : Nat)
  /-- LEARN_LIMIT (R227). plumb.learn.limit expires and the sweep ends and is applied. -/
  | learnLimit (n : Nat)
  -- Courses: the Keystone's side (chapter 7)
  /-- COURSE_ENABLE (R254). Starts a course enable: train, identify, send settings, self-test the boost phases and charge. -/
  | courseEnable (ln : Ln) (n : Nat)
  /-- COURSE_ENABLE_COMPLETE (R254). The boost charge of an enable reaches V_ready or times out, and the course enters ON or is left OFF. -/
  | courseEnableComplete (n : Nat)
  /-- COURSE_DISABLE (R256). Starts a course drain: ends uncommitted tickets, runs committed fires and discharges the boost. -/
  | courseDisable (ln : Ln) (n : Nat)
  /-- COURSE_DISABLE_ABORT (R257). Aborts a course drain under the abort rule, returning the course to ON when the abort wins. -/
  | courseDisableAbort (ln : Ln) (n : Nat)
  /-- COURSE_DRAIN_COMPLETE (R256). A course reports OFF after its drain, and any queued enable runs. -/
  | courseDrainComplete (n : Nat)
  /-- COURSE_TEST (R258). Places test pulses on one channel as priority-3 FIRM requests without a source. -/
  | courseTest (ln : Ln) (n : Nat) (ch : Nat) (dur : Option Lit) (count : Option Nat) (period : Option Lit)
  /-- COURSE_TEST_COMPLETE (R258). The last test pulse ends and the verb answers with the count fired. -/
  | courseTestComplete (n : Nat)
  /-- LINK_TRAIN (R261). Trains a course-link frame layer, measures the cable delay by echo and writes it to the device. -/
  | linkTrain (l : LinkId)
  /-- LINK_LANE_DOWN (R261). A direction loses symbol lock or receives 8 bad frames in a row, and the link trains again. -/
  | linkLaneDown (l : LinkId)
  /-- COURSE_SYNC_SEND (R260). Every 4,096 ticks the Keystone sends a SYNC frame with its tick. -/
  | courseSyncSend (l : LinkId)
  /-- PLAN_SEND (R566). Sends a PLAN to the course at placement or s − 5,000 ticks when a plan slot is free. -/
  | planSend (n : Nat)
  /-- COMMIT_RESEND (R264). A COMMIT not acknowledged within 16 ticks is sent once more. -/
  | commitResend (n : Nat)
  /-- COURSE_DOWNLINK_RESEND (R269). After 64 ticks without an ACK the Keystone resends from the last acknowledged frame. -/
  | courseDownlinkResend (l : LinkId)
  /-- COURSE_STATUS (R245). A STATUS frame updates course state, boost readiness, phases and generation, and may apply a new sim_eff. -/
  | courseStatus (up : UpHdr) (f : StatusFrame)
  /-- COURSE_END (R248). An END frame reports a fire ran, was refused for boost, had no commit, or met the boundary, and settles its ticket. -/
  | courseEnd (up : UpHdr) (f : EndBody)
  /-- COURSE_ACK (R264). An ACK frame acknowledges downlink frames in order. -/
  | courseAck (l : LinkId) (seq : BitVec 16)
  /-- COURSE_READBACK (R263). A READBACK frame returns four setting words for comparison or identity. -/
  | courseReadback (l : LinkId) (addr : Nat) (ws : List U32)
  /-- COURSE_ECHO_REPLY (R261). An ECHO-REPLY gives one round trip of the cable-delay measurement. -/
  | courseEchoReply (l : LinkId) (num : Nat) (clocks : Nat)
  -- Courses: the course's side (chapter 7)
  /-- COURSE_RX_SYNC (R260). The course aligns its tick counter to a SYNC plus the cable delay. -/
  | courseRxSync (d : Dn) (t : Tick)
  /-- COURSE_RX_CONFIG (R262). The course applies four setting words while OFF or ENABLING. -/
  | courseRxConfig (d : Dn) (addr : Nat) (ws : List U32)
  /-- COURSE_RX_QUERY (R263). The course answers a QUERY with READBACK frames in ascending order. -/
  | courseRxQuery (d : Dn) (addr : Nat) (groups : Nat)
  /-- COURSE_RX_ECHO (R261). The course answers an ECHO with an ECHO-REPLY within 20 ticks. -/
  | courseRxEcho (d : Dn) (t : Tick) (clk : Nat) (num : Nat)
  /-- COURSE_RX_ENABLE (R254). The course starts its boost self-test and charge. -/
  | courseRxEnable (d : Dn)
  /-- COURSE_RX_DRAIN (R256). The course drains, or aborts its drain when ABORT is set. -/
  | courseRxDrain (d : Dn) (abort : Bool)
  /-- COURSE_RX_PLAN (R259). The course stores a plan in a slot with its channel, start, duration and priming. -/
  | courseRxPlan (d : Dn) (p : PlanBody)
  /-- COURSE_RX_CONFIRM (R259). The course clears PROV on the masked plan slots. -/
  | courseRxConfirm (d : Dn) (bank : Nat) (mask : BitVec 128)
  /-- COURSE_RX_COMMIT (R264). The course commits the masked plan slots. -/
  | courseRxCommit (d : Dn) (bank : Nat) (mask : BitVec 128)
  /-- COURSE_RX_DROP (R193). The course removes the masked plans and releases their priming. -/
  | courseRxDrop (d : Dn) (bank : Nat) (mask : BitVec 128)
  /-- COURSE_RX_EXTEND (R240). The course moves the RELEASE tick of a committed fire. -/
  | courseRxExtend (d : Dn) (slot : Nat) (dur : Nat)
  /-- COURSE_RX_CROWN (R503). The course judges a CROWN frame and adopts a later generation, keeping or dropping old plans. -/
  | courseRxCrown (d : Dn) (gen : U32) (horizon : Tick) (handover : Bool)
  /-- COURSE_RX_IDLE (R268). An IDLE frame keeps the uplink alive without other effect. -/
  | courseRxIdle (d : Dn)
  /-- COURSE_STATUS_SEND (R245). The course sends STATUS at every change of readiness or n and at least every 64 ticks. -/
  | courseStatusSend (n : Nat)
  /-- COURSE_PRIME_START (R193). At s − priming lead a planned primed channel starts PRIME from OFF. -/
  | coursePrimeStart (n : Nat) (ch : Nat)
  /-- COURSE_PEAK_START (R248). At a fire start the course starts PEAK under a commit, or refuses for boost or missing commit. -/
  | coursePeakStart (n : Nat) (ch : Nat) (reached : Bool)
  /-- COURSE_PEAK_END (R232). PEAK ends at I_peak, t_peak_max or s + D and HOLD begins. -/
  | coursePeakEnd (n : Nat) (ch : Nat) (peak : Bool)
  /-- COURSE_RELEASE_START (R233). At s + D the channel enters RELEASE and the course reports the end of the fire. -/
  | courseReleaseStart (n : Nat) (ch : Nat)
  /-- BOOST_PHASE_FAULT (R267). A phase judged LOST or SENSE over its window is stopped and the others re-phased. -/
  | boostPhaseFault (n : Nat) (phase : Nat) (sense : Bool)
  /-- BOOST_OVERVOLTAGE (R267). Bank above 110 % for 10 µs stops switching, clamps the bank and drains the course. -/
  | boostOvervoltage (n : Nat)
  /-- COURSE_FIELD_SUPPLY_LOW (R267). Field supply below 18.0 V for 1 ms stops boost switching while the course stays ON. -/
  | courseFieldSupplyLow (n : Nat) (v : Nat)
  /-- COURSE_FIELD_SUPPLY_LOSS (R548). Field supply below 14.0 V for 1 ms stops the course electronics and its link. -/
  | courseFieldSupplyLoss (n : Nat) (v : Nat)
  /-- COURSE_UPLINK_SILENCE (R268). A course without a valid downlink frame for 400 ticks runs committed fires and drops uncommitted plans. -/
  | courseUplinkSilence (n : Nat)
  /-- COURSE_ORPHAN_DRAIN (R268). 2 s after losing its uplink a course drains itself to OFF. -/
  | courseOrphanDrain (n : Nat)
  /-- COURSE_LINK_LOSS (R268). The Keystone sees 400 ticks without a valid uplink frame, ends the course's uncommitted tickets and sets it OFF. -/
  | courseLinkLoss (n : Nat)
  -- Air (chapter 7)
  /-- AIR_PRESSURE_SAMPLE (R253). Every 2 ms reads header pressure and holds the refill on a sample below p_low. -/
  | airPressureSample (m : Nat)
  /-- AIR_QUIET_WINDOW (R252). At the end of a quiet window updates ρ from the pressure slope or fills the bucket. -/
  | airQuietWindow (m : Nat)
  /-- AIR_HOLD_RELEASE (R253). Pressure at or above p_low + 20 kPa for 100 ms releases the refill hold. -/
  | airHoldRelease (m : Nat)
  -- Ramalink connections (chapter 8)
  /-- RL_CONNECT (R275). A CONNECT frame is authenticated and answered with ACCEPT, REFUSE or nothing. -/
  | rlConnect (port : Nat) (f : ConnectFrame)
  /-- CONNECT_TIMEOUT (R276). No authenticated frame within 10 ms of ACCEPT returns the connection to CLOSED. -/
  | connectTimeout (conn : Nat)
  /-- RL_WRITE (R285). A WRITE frame is checked against its window and its data made visible in psn order. -/
  | rlWrite (h : RlHdr) (data : List Byte)
  /-- RL_WRITE_WITH_NOTICE (R287). A WRITE-WITH-NOTICE is written and, after LAST, its notice raised to the window's owner. -/
  | rlWriteWithNotice (h : RlHdr) (data : List Byte)
  /-- RL_READ_REQ (R286). A READ-REQ is checked and answered with READ-RESP frames. -/
  | rlReadReq (h : RlHdr) (data : List Byte)
  /-- RL_READ_RESP (R282). READ-RESP data for a Keystone READ entry is taken and the entry completes when all arrived. -/
  | rlReadResp (h : RlHdr) (data : List Byte)
  /-- RL_SEND (R39). A SEND takes a receive entry and delivers its Fjart lines to the session, or is answered RNR. -/
  | rlSend (h : RlHdr) (data : List Byte)
  /-- RL_ATOMIC_ADD (R288). An ATOMIC-ADD adds to an aligned 8-byte value and returns the value before the add. -/
  | rlAtomicAdd (h : RlHdr) (data : List Byte)
  /-- RL_ATOMIC_RESP (R282). An ATOMIC-RESP completes a Keystone ATOMIC-ADD entry. -/
  | rlAtomicResp (h : RlHdr) (data : List Byte)
  /-- RL_ACK (R289). An ACK advances the acknowledged psn and completes entries. -/
  | rlAck (h : RlHdr)
  /-- RL_NAK (R291). A NAK causes go-back, an RNR resend, an INTEGRITY completion or a violation ending the connection. -/
  | rlNak (h : RlHdr) (data : List Byte)
  /-- RL_REKEY (R297). A REKEY from the partner side starts a move to the next epoch. -/
  | rlRekey (h : RlHdr) (data : List Byte)
  /-- RL_REKEY_ACK (R297). An authenticated REKEY-ACK makes the Keystone send only under the new epoch. -/
  | rlRekeyAck (h : RlHdr) (data : List Byte)
  /-- RL_REKEY_REQ (R296). A REKEY-REQ starts a rekey, or is ignored while one runs. -/
  | rlRekeyReq (h : RlHdr) (data : List Byte)
  /-- RL_DISCONNECT (R277). A DISCONNECT moves the connection to CLOSING after the frames before it. -/
  | rlDisconnect (h : RlHdr) (data : List Byte)
  /-- RL_AUTH_FAIL (R295). A frame failing authentication or replay checks is dropped and counted. -/
  | rlAuthFail (port : Nat) (fcs : Bool)
  /-- RL_STALE_FRAME (R300). A frame for a connection not OPENING or READY, or an unused group, is dropped and counted. -/
  | rlStaleFrame (port : Nat) (dconn : Nat)
  /-- RETRANSMIT_TIMEOUT (R289). The oldest unacknowledged frame waits port.N.rto and sending restarts from it, or RETRY ends the connection. -/
  | retransmitTimeout (conn : Nat)
  /-- RNR_RESEND (R291). After an RNR delay the SEND is sent again, up to port.N.rnr_retry attempts. -/
  | rnrResend (conn : Nat)
  /-- KEEPALIVE (R279). A READY connection with nothing sent for 1 ms sends an ACK. -/
  | keepalive (conn : Nat)
  /-- CONN_SILENCE (R279). No authenticated frame for port.N.silence puts the connection into ERROR. -/
  | connSilence (conn : Nat)
  /-- PORT_LINK_DOWN (R279). A port link going down puts every connection on it into ERROR within 100 µs. -/
  | portLinkDown (port : Nat)
  /-- PORT_LINK_UP (R17). A port link comes up, selecting SUP or SUP-T as supervisor port where none is in use. -/
  | portLinkUp (port : Nat)
  /-- CONN_FLUSH_DONE (R277). The flush of ERROR or CLOSING ends and the connection returns to CLOSED. -/
  | connFlushDone (conn : Nat)
  /-- REKEY_PERIOD (R296). port.N.rekey hours since the epoch began start a rekey. -/
  | rekeyPeriod (conn : Nat)
  /-- OLD_EPOCH_EXPIRE (R297). 1 ms after the first frame of the new epoch, frames of the old epoch are no longer accepted. -/
  | oldEpochExpire (conn : Nat)
  /-- EGRESS_GRANT (R318). The egress arbiter grants the next control frame or a frame of the current window's class that fits. -/
  | egressGrant (port : Nat)
  /-- EGRESS_GUARD_FAULT (R334). A frame still in the MAC at the start of a guard records a FAULT and retrains the port. -/
  | egressGuardFault (port : Nat)
  /-- WORK_ENTRY_POST (R317). A Keystone function posts a work entry, refused LOCAL when no window of its class can hold its frame. -/
  | workEntryPost (conn : Nat) (w : WorkPost)
  /-- SFP_MODULE_CHANGE (R542). An SFP+ module is inserted, removed or faults, and is identified, held disabled or treated as link-down. -/
  | sfpModuleChange (port : Nat) (m : ModuleKind) (power : Int)
  /-- RNG_HEALTH_FAIL (R302). The random source fails its health test; CONNECTs are ignored and no key is drawn. -/
  | rngHealthFail
  -- Ramalink windows and groups (chapter 9)
  /-- WINDOW_OPEN (R307). Opens a user window on a SHARE range for a connection. -/
  | windowOpen (ln : Ln) (conn : Nat) (off : Nat) (len : Nat) (perm : Perm) (ticket : Bool)
  /-- WINDOW_OPEN_FULL (R313). Grants a full key on a READY connection. -/
  | windowOpenFull (ln : Ln) (conn : Nat)
  /-- WINDOW_REVOKE (R311). Revokes a user window at a revoke tick after admitted accesses end. -/
  | windowRevoke (ln : Ln) (conn : Nat) (index : Nat)
  /-- WINDOW_REVOKE_FULL (R313). Withdraws a connection's full key under the revoke rule. -/
  | windowRevokeFull (ln : Ln) (conn : Nat)
  /-- RL_GROUP_POST (R323). A GROUP-POST is given a gsn, its targets fixed and a delivery posted to each. -/
  | rlGroupPost (h : RlHdr) (g : Nat) (data : List Byte)
  /-- RL_GROUP_RESULT (R324). A member's GROUP-RESULT marks its delivery accepted or schedules a retry. -/
  | rlGroupResult (h : RlHdr) (data : List Byte)
  /-- GROUP_RETRY (R325). Every 400 ticks a RELIABLE group retries a target that has not accepted. -/
  | groupRetry (g : Nat)
  /-- GROUP_TIMEOUT (R327). port.group.g.timeout passes since a post; waiting retries are cancelled and GROUP-DONE follows. -/
  | groupTimeout (g : Nat) (gsn : U32)
  /-- GROUP_MODE (R330). Sets a group's mode to RELIABLE, UNRELIABLE or FREE. -/
  | groupMode (ln : Ln) (g : Nat) (m : GroupMode)
  /-- GROUP_ADD (R330). Adds a port or READY connection to a group. -/
  | groupAdd (ln : Ln) (g : Nat) (m : Member)
  /-- GROUP_REMOVE (R330). Removes a port or connection from a group. -/
  | groupRemove (ln : Ln) (g : Nat) (m : Member)
  /-- GROUP_POST_PORTS (R330). Sets the ports allowed to post to a group. -/
  | groupPostPorts (ln : Ln) (g : Nat) (ports : List Nat)
  /-- GROUP_TIMEOUT_SET (R330). Sets a group's delivery timeout. -/
  | groupTimeoutSet (ln : Ln) (g : Nat) (ms : Lit)
  /-- GROUP_CLASS (R330). Sets a group's class to TICKET or BULK. -/
  | groupClass (ln : Ln) (g : Nat) (ticket : Bool)
  /-- GROUP_SEND (R330). Posts a text message to a group from within the Keystone. -/
  | groupSend (ln : Ln) (g : Nat) (msg : List Byte)
  /-- LINK_SHOW (R331). Lists ports with link state, rate, cycle counters and connections. -/
  | linkShow (ln : Ln) (port : Option Nat)
  /-- LINK_RESET (R331). Closes every connection on a port and retrains its link. -/
  | linkReset (ln : Ln) (port : Nat)
  /-- LINK_RESET_OFF (R331). Closes every connection on a port and turns its transmitter off. -/
  | linkResetOff (ln : Ln) (port : Nat)
  /-- LINK_RESET_TIMEOUT (R331). No link within 2 s of a reset answers DOWN while the port stays enabled. -/
  | linkResetTimeout (port : Nat)
  -- Conditioning (chapter 10)
  /-- LOOP_SAMPLE (R347). At its sample tick a loop computes its output by the steps of Table 10.2, with inhibits and batch exits. -/
  | loopSample (n : Nat)
  /-- CRACK_UPDATE (R352). Once a second filters the fissured-class count into the crack index. -/
  | crackUpdate
  /-- LOOP_INPUT_BAD_TIME (R362). A loop source invalid for dry.loop.n.bad_time sets heat inhibit cause INPUT. -/
  | loopInputBadTime (n : Nat)
  /-- ZONE_PURGE_END (R358). A zone's purge time in DRAIN ends and its discharge loop goes to u_lo or drain completes. -/
  | zonePurgeEnd (z : Nat)
  /-- BATCH_STEP_LIMIT (R356). A batch step runs past dry.batch.limit and the batch enters HELD. -/
  | batchStepLimit
  /-- LOOP_MODE (R360). Sets a loop to MANUAL or AUTO, queuing during an off ramp. -/
  | loopMode (ln : Ln) (n : Nat) (auto : Bool) (value : Option Lit)
  /-- LOOP_OFF (R361). Turns a loop off, ramping its output to u_lo. -/
  | loopOff (ln : Ln) (n : Nat)
  /-- LOOP_OFF_RAMP_DONE (R361). The off ramp of a loop reaches u_lo and the loop is OFF. -/
  | loopOffRampDone (n : Nat)
  /-- LOOP_FLAGS (R348). Returns and clears a loop's sticky flags in one snapshot. -/
  | loopFlags (ln : Ln) (n : Nat)
  /-- LOOP_BATCH_START (R357). Starts a batch at FILL in RUN. -/
  | loopBatchStart (ln : Ln)
  /-- LOOP_BATCH_NEXT (R357). Ends the current batch step at the next sample. -/
  | loopBatchNext (ln : Ln)
  /-- LOOP_BATCH_HOLD (R357). Puts the batch into HELD. -/
  | loopBatchHold (ln : Ln)
  /-- LOOP_BATCH_RESUME (R357). Resumes a held batch step with its timer restarted. -/
  | loopBatchResume (ln : Ln)
  /-- LOOP_BATCH_ABORT (R357). Ends the batch in IDLE with every drying zone inhibited. -/
  | loopBatchAbort (ln : Ln)
  -- Field bank, fans, probe rings (chapter 11)
  /-- FIELD_CYCLE (R366). Every 1,000 ticks exchanges outputs and inputs with the field bank and runs readback and fan classification. -/
  | fieldCycle (inp : FieldIn)
  /-- DI_SAMPLE (R367). The bank samples each digital input every 400 ticks and runs its up/down filter. -/
  | diSample (levels : BitVec 24)
  /-- READBACK_MISMATCH (R368). An output mismatch or match lasting io.rb_time sets or clears its mismatch bit. -/
  | readbackMismatch (dig : Bool) (ch : Nat)
  /-- DO_CURRENT_LIMIT (R369). A digital output in current limit for 5 ms is switched off and held off by the bank. -/
  | doCurrentLimit (ch : Nat)
  /-- FIELD_FAULT_BIT (R373). The field bank's common fault bit sets or clears and is recorded. -/
  | fieldFaultBit (set : Bool)
  /-- FIELD_LINK_LOSS (R392). The FIELD link is lost; outputs go off, fans stop, sweeps abort and averages are lost. -/
  | fieldLinkLoss
  /-- FIELD_PHANTOM_LIMIT (R540). FIELD phantom power in current limit for 10 ms is switched off for 1 s. -/
  | fieldPhantomLimit
  /-- FIELD_PHANTOM_RETRY (R540). 1 s after a phantom trip the Keystone switches the field bank power on again. -/
  | fieldPhantomRetry
  /-- TACH_EDGE (R376). A tachometer edge stamped by the bank updates the fan's measured period. -/
  | tachEdge (n : Nat) (at_ : Tick)
  /-- FAN_START (R378). Starts a fan's first start attempt, or queues it during COASTING. -/
  | fanStart (ln : Ln) (n : Nat) (speed : Option Lit)
  /-- FAN_START_WINDOW_END (R378). A start attempt that has not reached RUNNING fails at the end of its window. -/
  | fanStartWindowEnd (n : Nat)
  /-- FAN_RETRY_WAIT_END (R378). A fan's back-off ends and its next start attempt begins. -/
  | fanRetryWaitEnd (n : Nat)
  /-- FAN_STOP (R380). Starts a fan's stop sequence, or cancels a start in RETRY-WAIT. -/
  | fanStop (ln : Ln) (n : Nat)
  /-- FAN_COAST_TIMEOUT (R380). fan.N.coast passes while coasting and the fan is set STOPPED with a NOTE. -/
  | fanCoastTimeout (n : Nat)
  /-- FAN_RESET (R379). Takes a fan from FAN-STALL or DRIVE-FAULT to STOPPED. -/
  | fanReset (ln : Ln) (n : Nat)
  /-- PROBE_SWEEP_START (R386). At its period a ring's sweep starts with a MEASURE from OUT, or is skipped as an overrun. -/
  | probeSweepStart (r : Nat)
  /-- PROBE_MEASURE_WAIT_END (R387). 100,000 ticks after a MEASURE the sweep starts reading positions. -/
  | probeMeasureWaitEnd (r : Nat)
  /-- PROBE_SLOT_END (R387). A query slot ends; the sweep retries, moves on, turns to RET or finishes. -/
  | probeSlotEnd (r : Nat)
  /-- PROBE_REPLY (R388). A valid READ-RESP sets a node's values and status. -/
  | probeReply (r : Nat) (f : List Byte)
  /-- PROBE_RUN_STOP (R391). Setting probe.r.run to STOP aborts a running sweep under the abort rule. -/
  | probeRunStop (ln : Ln) (r : Nat)
  /-- PROBE_NODE_READ (R385). A node forwards a READ with hop − 1, or answers it when hop is 1. -/
  | probeNodeRead (r : Nat) (pos : Nat) (fromRet : Bool) (f : List Byte)
  /-- PROBE_NODE_MEASURE (R385). A node forwards a MEASURE and starts a conversion. -/
  | probeNodeMeasure (r : Nat) (pos : Nat) (fromRet : Bool) (f : List Byte)
  /-- PROBE_NODE_REPLY_FORWARD (R385). A node forwards a reply unchanged towards the asking end. -/
  | probeNodeReplyForward (r : Nat) (pos : Nat) (toRet : Bool) (f : List Byte)
  /-- PROBE_CONVERSION_DONE (R385). A node's moisture and temperature conversion ends within 25 ms. -/
  | probeConversionDone (r : Nat) (pos : Nat) (c : Conversion)
  -- Ledger (chapters 12, 13)
  /-- RECORD_JOURNAL (R428). A generated record gets its serial and is written to the mortar journal, or to the reserve, or dropped. -/
  | recordJournal
  /-- STAGING_PAGE (R430). Hardware copies a journal frame into DRAM staging in serial order. -/
  | stagingPage
  /-- LEDGER_FLUSH_TIMER (R431). ledger.flush passes since an ashlar's first record and the ashlar closes. -/
  | ledgerFlushTimer
  /-- TAPE_START (R443). With a closed ashlar waiting, the tape repositions and starts at the speed the fill selects. -/
  | tapeStart
  /-- ASHLAR_WRITE_END (R443). An ashlar's trailers are written; the tape streams on or stops and the speed may step. -/
  | ashlarWriteEnd (trailers : Nat)
  /-- BLOCK_READBACK (R444). A block read back by the trailing head is decoded and a failed block is rewritten. `read`: what the read
  channel acquired of it; none when it has not been read back within 40 block lengths. -/
  | blockReadback (read : Option RowRead) (ch : Nat)
  /-- ASHLAR_VERIFIED (R445). An ashlar's trailers and rows are read back and it is verified, or rewritten as REDO. -/
  | ashlarVerified (trailers : Nat) (rowsOk : Bool)
  /-- LOT_CHANGE_EFFECT (R436). At the edge of the lot change line, LOT END and LOT BEGIN records are made. -/
  | lotChangeEffect
  /-- CARTRIDGE_INSERTED (R438). A cartridge inserted with ledger.autoload = YES starts a load. -/
  | cartridgeInserted (c : Cartridge)
  /-- LEDGER_LOAD (R438). Starts loading a cartridge: thread, read headers, unwrap the key and find the end of data. -/
  | ledgerLoad (ln : Ln)
  /-- LEDGER_LOAD_DONE (R438). A load ends in WRITABLE, CLOSED, FULL, FOREIGN or FAULT. -/
  | ledgerLoadDone (threaded : Bool) (verified : Bool)
  /-- LEDGER_UNLOAD (R442). Starts an unload: flush closed ashlars, optionally write a capstone, rewind and unthread. -/
  | ledgerUnload (ln : Ln) (close : Bool)
  /-- LEDGER_UNLOAD_DONE (R442). The cartridge is ejected and the ledger is EMPTY. -/
  | ledgerUnloadDone
  /-- LEDGER_SEEK (R448). Starts positioning the tape at an ashlar, a serial or the end of data. -/
  | ledgerSeek (ln : Ln) (t : SeekTarget)
  /-- LEDGER_SEEK_DONE (R448). Servo locks on the target wedge and the seek answers. -/
  | ledgerSeekDone (ok : Bool)
  /-- LEDGER_VERIFY (R449). Starts reading and checking a range of ashlars without writing. -/
  | ledgerVerify (ln : Ln) (first : Option Nat) (last : Option Nat)
  /-- LEDGER_VERIFY_DONE (R449). The last ashlar of the range is read and the counts are reported. -/
  | ledgerVerifyDone
  /-- LEDGER_REPLAY (R450). Starts delivering records from tape into a SHARE range. -/
  | ledgerReplay (ln : Ln) (serial : Nat) (count : Nat) (off : Nat) (len : Nat)
  /-- LEDGER_REPLAY_DONE (R450). A replay stops at its count, the space, the end of data or 120 s and reports. -/
  | ledgerReplayDone
  /-- LEDGER_ABORT (R451). Aborts a pending SEEK, VERIFY or UNLOAD under the abort rule. -/
  | ledgerAbort (ln : Ln) (completion : Option Tick)
  /-- LEDGER_LINK_LOSS (R456). The LEDGER link is lost; the ashlar on tape is abandoned and the ledger enters FAULT. -/
  | ledgerLinkLoss
  /-- TRANSPORT_FAULT (R457). A servo, tension or head fault abandons the ashlar, stops the tape and enters ledger FAULT. -/
  | transportFault (why : Nat)
  /-- TRANSPORT_SUPPLY_COLLAPSE (R546). The transport's own input below 17.0 V for 2 ms stops writing at a block boundary and unloads the heads. -/
  | transportSupplyCollapse
  /-- JOURNAL_MRAM_FAIL (R458). A journal MRAM write fails; cause [4] is set and no further record is journalled. -/
  | journalMramFail
  -- Memory protection (chapter 14)
  /-- SEAL_READ (R462). A read of a SEAL line checks its tag and decrypts, or poisons the line and signals a bus error. -/
  | sealRead (who : Nat) (key : Nat) (addr : Nat) (len : Nat) (altered : Option (List Byte))
  /-- SEAL_WRITE (R462). A write to a SEAL line advances its counter and encrypts, merging first for a partial write. -/
  | sealWrite (who : Nat) (key : Nat) (addr : Nat) (data : List Byte) (altered : Bool)
  /-- HELD_WRITE_TIMEOUT (R485). A write held 10 ms without a rekey starting is refused with a bus error. -/
  | heldWriteTimeout
  /-- GROUT_ACCESS (R465). An access to a GROUT region applies or undoes the keyed byte mix per 8-byte unit. -/
  | groutAccess (key : Nat) (addr : Nat) (wr : Option (List Byte)) (len : Nat)
  /-- WRONG_KEY_ACCESS (R460). An access naming a region with the wrong or a reserved key ID gets a bus error. -/
  | wrongKeyAccess (who : Nat) (key : Nat) (addr : Nat)
  /-- ECC_UNCORRECTABLE (R479). An uncorrectable DRAM ECC error poisons a sealed line or sets cause [3] elsewhere. -/
  | eccUncorrectable (who : Nat) (addr : Nat)
  /-- REKEY_PERIOD_EXPIRE (R472). seal.slot.s.period hours since a region's last key change queues a rekey. -/
  | rekeyPeriodExpire (slot : Nat)
  /-- REKEY_BEGIN (R472). The repointer takes the next queued rekey, draws a new key and starts at the boundary. -/
  | rekeyBegin
  /-- REKEY_RNG_RETRY (R485). Every 100 ms a rekey waiting for the random source is retried. -/
  | rekeyRngRetry
  /-- REPOINT_LINE (R471). The repointer moves one line to the new key and advances the boundary. -/
  | repointLine (altered : Bool)
  /-- SEAL_SHOW (R65). Lists slots, states, boundaries, counters and cache figures. -/
  | sealShow (ln : Ln) (slot : Option Nat)
  /-- SEAL_SHOW_LEDGER (R480). Exports the unit ledger key wrapped under the reader key. -/
  | sealShowLedger (ln : Ln)
  /-- SEAL_REKEY (R473). Starts or continues a rekey of a region. -/
  | sealRekey (ln : Ln) (slot : Nat)
  /-- SEAL_REKEY_ABORT (R473). Aborts a rekey, leaving the slot SPLIT when the abort wins. -/
  | sealRekeyAbort (ln : Ln) (slot : Nat)
  /-- SEAL_REKEY_CLEAR (R473). Rewrites a region as zeros under a new key and lifts a quarantine. -/
  | sealRekeyClear (ln : Ln) (slot : Nat)
  /-- SEAL_REKEY_LEDGER (R481). Draws a new unit ledger key and writes the key store. -/
  | sealRekeyLedger (ln : Ln)
  /-- SEAL_REKEY_LEDGER_IMPORT (R481). Installs a unit ledger key unwrapped under the reader key. -/
  | sealRekeyLedgerImport (ln : Ln) (wrapped : List Byte)
  /-- LID_SWITCH (R484). The lid opens or closes and an ALARM or NOTE is recorded. -/
  | lidSwitch (open_ : Bool)
  /-- JTAG_INSTRUCTION (R483). A JTAG instruction is accepted or refused by the seal.jtag setting. -/
  | jtagInstruction (ir : JtagIr)
  /-- DEBUG_ACCESS_BLOCKED (R482). A non-sealed path reaching a keyed range reads zeros or is discarded with an ALARM. -/
  | debugAccessBlocked (engine : Nat) (addr : Nat) (wr : Bool)
  /-- SEAL_ENGINE_FAIL (R487). A seal engine self-check failure makes every SEAL region answer with bus errors until DARK. -/
  | sealEngineFail
  -- Standby and the crown (chapter 15)
  /-- HEARTBEAT_SEND (R492). A Keystone writes its heartbeat into the peer's window 7. -/
  | heartbeatSend
  /-- HEARTBEAT_RECEIVE (R492). An authenticated heartbeat marks path 1 alive and carries the peer's flags. -/
  | heartbeatReceive (b : Heartbeat)
  /-- EPOCH_CUT (R495). Every 4,000 pair ticks the active cuts an epoch and writes it to the standby's ring. -/
  | epochCut
  /-- EPOCH_APPLY (R497). At an epoch trailer's notice the standby checks and applies the whole epoch or discards it. -/
  | epochApply (e : Epoch)
  /-- CROWN_SILENCE_TAKEOVER (R506). Both peer paths silent for 2,400 ticks make a SYNCED standby take the crown. -/
  | crownSilenceTakeover (mramOk : Bool)
  /-- CROWN_RESEND (R519). Every 64 ticks the new master resends CROWN to a course not reporting the new generation. -/
  | crownResend (n : Nat)
  /-- LINE_SYNC_RELEASE (R516). No course reporting the holder's generation for 400 ticks puts its LINE SYNC drivers at high impedance. -/
  | lineSyncRelease
  /-- FIELD_CROWN_SILENCE (R505). 10 ms of crown-uplink silence makes the field bank set its outputs off. -/
  | fieldCrownSilence
  /-- TRANSPORT_CROWN_SILENCE (R505). 400 ticks of crown-uplink silence make the transport stop writing at a block boundary. -/
  | transportCrownSilence
  /-- CROWN_SHOW (R65). Lists role, generation, paths, epochs and offset. -/
  | crownShow (ln : Ln)
  /-- CROWN_YIELD (R512). Requests a planned handover at the next epoch cut. -/
  | crownYield (ln : Ln)
  /-- YIELD_AT_CUT (R512). At the next cut the yielding Keystone closes rings, commits near tickets, sends a YIELD epoch and HANDOVER. -/
  | yieldAtCut
  /-- YIELD_TIMEOUT (R513). No course reports the new generation within 5 ms and the yielding Keystone resumes. -/
  | yieldTimeout
  /-- CROWN_TAKE (R514). Takes the crown on a standby whose peer paths are silent, with or without mirrored state. -/
  | crownTake (ln : Ln) (mramOk : Bool)
  /-- PEER_LINK_LOSS (R517). The PEER link or a PEER connection fails; the active keeps the crown and the standby loses SYNCED. -/
  | peerLinkLoss
  -- Event recorder (chapter 16)
  /-- EVENT_RECORD (R525). An event takes a seq in the ring, queues its unsolicited line and, for FAULT and ALARM, an EVENT record. -/
  | eventRecord
  /-- EV_FLUSH (R526). Writes unflushed ring records into the MRAM store under the overwrite policy. -/
  | evFlush
  /-- EV_READ (R533). Returns recorder records in ascending seq with a next line. -/
  | evRead (ln : Ln) (start : Option Nat) (count : Option Nat) (min : Option Severity)
  /-- EV_FREEZE (R530). Freezes the recorder store for 60 s, counting INFO and NOTE events. -/
  | evFreeze (ln : Ln)
  /-- EV_THAW (R531). Ends the freeze, records the summary and flushes. -/
  | evThaw (ln : Ln)
  /-- EV_AUTO_THAW (R532). 60 s after the last FREEZE the recorder thaws by itself. -/
  | evAutoThaw
  /-- EV_CLEAR (R534). Removes records in a range from the store and records a CLEARED ALARM. -/
  | evClear (ln : Ln) (range : Option (Nat × Nat))
  /-- EV_MRAM_FAIL (R536). An MRAM write of a flush or ceiling fails; flushing stops and cause [4] is set. -/
  | evMramFail (ceiling : Bool)
  -- Environment (chapter 17) and rows added later
  /-- COOLING_FAN_STOP (R539). A Keystone cooling fan stops and a NOTE is recorded. -/
  | coolingFanStop (fan : Nat)
  /-- OVER_TEMPERATURE (R539). Internal temperature above 85 °C records a FAULT at most once per minute. -/
  | overTemperature (t : Int)
  /-- SUPPLY_INPUT_LOST (R545). One SUPPLY input below 17.0 V for 2 ms while the bus stays up records a NOTE. -/
  | supplyInputLost (b : Bool)
  /-- SUPPLY_INPUT_RESTORED (R545). A lost SUPPLY input back at 19.2 V for 100 ms records a NOTE. -/
  | supplyInputRestored (b : Bool)
  /-- REFERENCE_CLOCK_LOCK (R154). The 200 MHz clock regains lock to its reference, tick.ref.lock reads LOCKED and the 1 s hold that clears cause [0] starts. -/
  | referenceClockLock
  /-- RL_ACCEPT (R276). An ACCEPT frame answering the Keystone's own CONNECT on PEER moves that connection to READY with its keys derived. -/
  | rlAccept (port : Nat) (f : AcceptFrame)
  /-- RL_REFUSE (R276). A REFUSE frame with a valid mac answering the Keystone's CONNECT on PEER ends the attempt and starts the 100 ms wait. -/
  | rlRefuse (port : Nat) (dconn : Nat) (reason : RefuseReason) (macOk : Bool)
  /-- PEER_CONNECT_RETRY (R491). The opening Keystone sends a fresh CONNECT for a PEER connection that is not open, at least 100 ms after a REFUSE or an unanswered attempt. -/
  | peerConnectRetry (conn : Nat)
  /-- KEY_STORE_WRITE_COMPLETE (R481). The NOR write of the key store for SEAL REKEY LEDGER or IMPORT ends and the verb answers with the keyid, or 601 on failure. -/
  | keyStoreWriteComplete (ok : Bool)
  /-- CONDITION_RECORD (R421). At each tick that is a multiple of 40,000,000, a CONDITION record is generated for each zone with a loop not OFF. -/
  | conditionRecord
  /-- COURSE_FIELD_SUPPLY_RETURN (R267). The course field supply returns to at least 19.2 V, so the course recharges its boost or starts again from power-up. -/
  | courseFieldSupplyReturn (n : Nat) (v : Nat)
  /-- FIELD_RX_CROWN (R505). The field bank judges a CROWN frame under R503 and adopts a later generation and uplink. -/
  | fieldRxCrown (d : Dn) (gen : U32) (handover : Bool)
  /-- TRANSPORT_RX_CROWN (R505). The ledger transport judges a CROWN frame, including a HANDOVER, and adopts a later generation and uplink. -/
  | transportRxCrown (d : Dn) (gen : U32) (handover : Bool)
  /-- RANDOM_SOURCE_RECOVERED (R302). The random source passes its health test again, so CONNECTs are answered and keys may be drawn. -/
  | randomSourceRecovered
  /-- CARTRIDGE_REMOVED (R457). A cartridge is taken out of the transport by hand, as after a transport fault before reinsertion. -/
  | cartridgeRemoved
deriving DecidableEq, Repr

end Sys2Proof
end

