-- ==== Sys2Proof/Decode.lean ====
section
/-! DEFINITION. The command that a word spells. -/
namespace Sys2Proof

/-- No row of spec/opcode_table.json has a field of bits: the commands of this block are lines, frames, entries and events, each in
its own form, and no machine word spells one. -/
def decodeTableWord (_nbits _w : Nat) : Option Instr := none

end Sys2Proof
end

