-- ==== Sys2Proof/Config.lean ====
section
/-! DEFINITION. What one delivered line fixes, and the values the manual leaves open.
Every constant here is opaque: no proof can see a value of it. -/
namespace Sys2Proof.Config

/-- The number in this unit's serial number (R81). -/
opaque serialNumber : Nat
/-- The unit's own part of the FACTORY login key (R80): 32 bytes that Olondand holds. -/
opaque factoryKey : List Byte
/-- The firmware build number a bank and an ashlar carry (Tables 3.9 and 12.9). -/
opaque build : U32
/-- The unit number in a cartridge instance (R412), a fixed fact of the unit. -/
opaque ledgerUnit : Nat
/-- The hardware unique key (Table 14.5). -/
opaque huk : List Byte
/-- The device wrapping key (Table 14.5). -/
opaque dk : List Byte
/-- The unit ledger key made at manufacture (Table 14.5). -/
opaque manufacturedUlk : List Byte
/-- The MAC address of port `p` (R270). -/
opaque portMac : Nat → List Byte
/-- Random bytes: draw `n` of length `len` (R80, R131, R302). The manual fixes no value of them. -/
opaque random : Nat → Nat → List Byte
/-- A free word: draw `n`, of a value the manual leaves open. -/
opaque freeWord : Nat → BitVec 64
/-- The raw DEFLATE stream that the Keystone makes of a batch of records (R417): the format leaves the choice of blocks to
the encoder, so the stream is free. -/
opaque deflate : List Byte → List Byte
/-- Whether a frame that is no REKEY asks for an acknowledgement at once (ACKREQ, Table 8.2), by its epoch and fseq: the
manual does not say when the Keystone asks. -/
opaque asksAck : U32 → Nat → Bool
/-- The keyed byte mix of a GROUT region (R465), as a function of seed, address and the eight bytes. -/
opaque groutMix : List Byte → Nat → List Byte → List Byte

/-- The MAC address of the peer Keystone's PEER port (R491, R501). -/
opaque peerMac : List Byte
/-- The one-way delay on the crown connection, in ticks (R493). -/
opaque peerDelay : Nat
/-- The order of the arrays in the array area, and the words before the first (Table 3.4): the manual does not place them. -/
opaque arrayRank : Nat → Nat
opaque arrayShift : Nat
/-- Table 15.3 lists the fields of these entries of an epoch's sections and does not place them: a ticket's after its slot and stamp, a
plan's, a source's, LINE, a manifold's, a loop's, the batch, UNIT, what stands before the frames of JOURNAL, the base image before its journal frames; and
the entry count of a JOURNAL section. -/
opaque ticketTail : MirTicket → List Byte
opaque planEntry : MirPlan → List Byte
opaque ringEntry : MirRing → List Byte
opaque lineEntry : Line × Tick × BitVec 48 × U32 → List Byte
opaque airEntry : MirAir → List Byte
opaque loopEntry : MirLoop → List Byte
opaque batchEntry : MirUnit → List Byte
opaque unitEntry : MirUnit → List Byte
opaque journalHead : MirJournal → List Byte
opaque journalCount : MirJournal → Nat
opaque baseImage : Mirror → List Byte

end Sys2Proof.Config
end

