-- ==== Sys2Proof/Machine/State.lean ====
section
/-! DEFINITION. The state of one KY-620 line: every piece of state the manual gives the Keystone, the courses, the field
bank and the ledger transport, as plain data. Each field's default is its value in `State.reset`, the machine in DARK that
has never been powered. A field marked with an assumption has no reset value in the manual (notes/assumptions). -/
namespace Sys2Proof.Machine

/-- Why the machine stops with a fault. No command of this block stops so: a part named by a number the line does not
have leaves the state as it is, and an access the manual refuses is answered in the state. The one constructor is kept
for an access outside the DRAM address space (R459), which is safe. -/
inductive Fault where
  /-- Raised by no meaning; reserved for an address that the DRAM map does not hold. Safe. -/
  | noSuchAddress
deriving DecidableEq, Repr

/-- Why a command has no meaning. -/
inductive Refusal where
  /-- Raised by `exec` for a command whose meaning is not written. Safe. -/
  | notModelled (mnemonic : String)
deriving DecidableEq, Repr

/-- The tick, its reference and the pair offset. -/
structure Clock where
  /-- tick counter; 0 on entry to WAKING; R18. -/
  tick : Tick := 0
  /-- 200 MHz clock locked to its reference (tick.ref.lock); R35, assumption 2. -/
  refLocked : Bool := false
  /-- tick at which the present lock began (1 s clears cause [0]); R154, assumption 2. -/
  lockedSince : Tick := 0
  /-- pair offset Δ; R493, assumption 2. -/
  delta : Tick := 0
  /-- clock trim in units of 0.01 ppm; R493, assumption 2. -/
  trim : Int := 0
deriving DecidableEq, Repr

/-- One line of the line record. -/
structure LineRec where
  /-- line number; R21. -/
  line : Line := 0
  /-- tick of its LINE SYNC edge; R21. -/
  edge : Tick := 0
  /-- period in force at that edge; R209. -/
  period : U32 := 0
deriving DecidableEq, Repr

/-- LINE SYNC generator and line record. -/
structure LineSync where
  /-- line sync runs (READY, RUN, DRAIN); R140. -/
  running : Bool := false
  /-- LINE SYNC drivers enabled; false is high impedance; R541. -/
  driving : Bool := false
  /-- phase accumulator; R20 text. -/
  phase : BitVec 48 := 0
  /-- the accumulator has completed a line whose edge is not issued yet; R20, assumption 2. -/
  edgeDue : Bool := false
  /-- an edge has been issued in this run; R20, assumption 2. -/
  started : Bool := false
  /-- current line number; R20, assumption 2. -/
  line : Line := 0
  /-- tick of the current line's edge; R25, assumption 2. -/
  edge : Tick := 0
  /-- line period; 0 while stopped; Table 1.3. -/
  period : U32 := 0
  /-- ticks for which the pulse of each of LINE SYNC outputs 1 to 4 still lasts; R22. -/
  outs : List Nat := [0, 0, 0, 0]
  /-- line record of the run, newest first; R21. -/
  record : List LineRec := []
  /-- the standby's shadow of LINE SYNC runs; R494. -/
  shadow : Bool := false
  /-- first line this Keystone drove after taking the crown; R508. -/
  firstDriven : Option Line := none
  /-- tick from which the new crown holder drives its edges; R494. -/
  driveAt : Option Tick := none
  /-- last tick at which a course reported the holder's own generation; R516, assumption 2. -/
  ownGenSince : Tick := 0
deriving DecidableEq, Repr

/-- The exported time page (window 0). -/
structure TimePage where
  /-- tick at the update; R25, assumption 2. -/
  tick : Tick := 0
  /-- current line number; R25, assumption 2. -/
  line : Line := 0
  /-- edge of that line; R25, assumption 2. -/
  edge : Tick := 0
  /-- line period; R25, assumption 2. -/
  period : U32 := 0
  /-- crown generation; R25, assumption 2. -/
  crown : U32 := 0
  /-- unit state code; R25. -/
  state : BitVec 8 := 0
deriving DecidableEq, Repr

/-- A pending operation of a session. -/
structure Pending where
  /-- the operation; R66. -/
  op : PendOp := .configSave
  /-- the tag of the line that started it (GEN); R66. -/
  tag : Option Nat := none
  /-- TYPED pending label; R66. -/
  label : Nat := 0
deriving DecidableEq, Repr

/-- An unspent LOGIN challenge. -/
structure Challenge where
  /-- level asked for; R80. -/
  level : Level := .none
  /-- the challenge; R80. -/
  value : U32 := 0
  /-- when it was issued (60 s); R81. -/
  at_ : Tick := 0
deriving DecidableEq, Repr

/-- An event record (Table 16.1). -/
structure EventRec where
  /-- seq; Table 16.1. -/
  seq : U32 := 0
  /-- code, source and parameters; Table 16.1. -/
  ev : Event := {}
  /-- FROZEN; Table 16.1. -/
  frozen : Bool := false
  /-- STANDBY; Table 16.1. -/
  standby : Bool := false
deriving DecidableEq, Repr

/-- A received line that waits for its execution. -/
structure InLine where
  /-- its bytes, without the terminator; R45. -/
  text : List Byte := []
  /-- it is malformed whatever its bytes: a byte with a framing or parity error, or no terminator; R39, R89. -/
  bad : Bool := false
  /-- tick at which its terminator reached the interpreter; R42. -/
  at_ : Tick := 0
deriving DecidableEq, Repr

/-- Bytes of a session's reply buffer: one line with its terminator, an echo or a prompt. -/
structure OutBytes where
  /-- the bytes still to be sent; R46, R54. -/
  bytes : List Byte := []
  /-- CONSOLE: the rate at which they go out; ch. 2, "When things coincide". -/
  baud : Nat := 0
deriving DecidableEq, Repr

/-- One Fjart session; index 0 is CONSOLE, 1–8 text queues. -/
structure Session where
  /-- session index; R38. -/
  idx : Nat := 0
  /-- connection of a text queue; R38. -/
  conn : Option Nat := none
  /-- TYPED, GEN or GEN CHECK; R41. -/
  mode : SesMode := .typed
  /-- event level; R41, R70. -/
  evLevel : EvLevel := .fault
  /-- privilege level; none is logged out; R41. -/
  level : Level := .none
  /-- login id of the session, 0 at VIEW; R524. -/
  loginId : U32 := 0
  /-- seq of the 0xA004 record of the login; R534. -/
  loginSeq : U32 := 0
  /-- name given at LOGIN; R80. -/
  name : List Byte := []
  /-- name given with the unanswered challenge; R80. -/
  asked : List Byte := []
  /-- unspent challenge; R80–R82. -/
  challenge : Option Challenge := none
  /-- failed responses of the session; R82. -/
  failed : Nat := 0
  /-- end of the 60 s lock-out; R82. -/
  lockedUntil : Option Tick := none
  /-- unspent fresh authentication; R84. -/
  freshAt : Option Tick := none
  /-- tag most recently consumed; R56–R59. -/
  lastTag : Option Nat := none
  /-- the next line may carry any tag and sets the sequence; R56. -/
  anyTag : Bool := true
  /-- the line that consumed it; R58. -/
  lastLine : List Byte := []
  /-- its reply so far; R58. -/
  lastReply : List OutLine := []
  /-- received lines awaiting execution; R43. -/
  input : List InLine := []
  /-- the session's place in the rotation: the number of the line it was last served with; R42, assumption 2. -/
  served : Nat := 0
  /-- pending operations; R66. -/
  pend : List Pending := []
  /-- TYPED line being entered; R54, R55. -/
  partialLine : List Byte := []
  /-- inside an ESC sequence; R54. -/
  escape : Bool := false
  /-- last byte was CR (CRLF is one terminator); R45. -/
  lastCr : Bool := false
  /-- a byte of the line being entered had a framing or parity error; R89. -/
  spoiled : Bool := false
  /-- event lines waiting to be sent; R69, R71. -/
  queue : List EventRec := []
  /-- ticks of the unsolicited lines of the last second; R72. -/
  sentAt : List Tick := []
  /-- dropped lines not yet told; R72. -/
  suppressed : Nat := 0
  /-- highest severity among them; R72. -/
  suppressedSev : Severity := .info
  /-- last host line or final reply; R87. -/
  idleSince : Tick := 0
  /-- CAL RESTORE FACTORY confirm word and its tick; R131. -/
  confirm : Option (List Byte × Tick) := none
  /-- lines the Keystone has sent, newest first; R44, R62. -/
  sent : List OutLine := []
  /-- reply buffer: the bytes of those lines that have not left yet, oldest first; R91. -/
  out : List OutBytes := []
  /-- CONSOLE: the rate in force for the bytes that enter the reply buffer; sys.console.baud, Table 2.8. -/
  baud : Nat := 115200
  /-- CONSOLE: what the byte being sent has gathered, in bits per second times ticks; ch. 2, "8N1 at every rate", assumption 2. -/
  txPhase : Nat := 0
deriving DecidableEq, Repr

/-- A running value that differs from its default. -/
structure ParamVal where
  /-- parameter ID; R93. -/
  id : Nat := 0
  /-- element index; 0 for a scalar; R95. -/
  elem : Nat := 0
  /-- raw value; R97. -/
  raw : Int := 0
deriving DecidableEq, Repr

/-- A string value that is set. -/
structure StrVal where
  /-- parameter ID; R93. -/
  id : Nat := 0
  /-- the string; Table 3.2. -/
  text : List Byte := []
deriving DecidableEq, Repr

/-- A staged bond value. -/
structure Staged where
  /-- parameter ID; R107. -/
  id : Nat := 0
  /-- staged raw value; R107. -/
  raw : Int := 0
  /-- session that staged it; BOND SHOW. -/
  byWhom : Nat := 0
deriving DecidableEq, Repr

/-- A committed set waiting for its effect point. -/
structure Committed where
  /-- the bond; R110, R112. -/
  bond : Bond := .sync
  /-- the whole new set; R110. -/
  vals : List ParamVal := []
  /-- the commit tick; R112. -/
  at_ : Tick := 0
  /-- lot bond only: ledger.lot.name read at the commit; R435. -/
  name : List Byte := []
deriving DecidableEq, Repr

/-- A record of a bank (Table 3.10). -/
structure BankRec where
  /-- parameter ID; Table 3.10. -/
  id : BitVec 16 := 0
  /-- element index or string chunk number; Table 3.10. -/
  index : BitVec 8 := 0
  /-- 0 value, 1 staged, 2 string chunk; Table 3.10. -/
  kind : BitVec 8 := 0
  /-- value or four string bytes; Table 3.10. -/
  value : U32 := 0
deriving DecidableEq, Repr

/-- A configuration or calibration bank as NOR holds it. -/
structure Bank where
  /-- `KYCF` or `KYCL`; Table 3.9, assumption 3. -/
  magic : U32 := 0xFFFFFFFF
  /-- format version; Table 3.9, assumption 3. -/
  version : BitVec 16 := 0xFFFF
  /-- generation number; Table 3.9, assumption 3. -/
  generation : U32 := 0xFFFFFFFF
  /-- bytes of the record area; Table 3.9, assumption 3. -/
  length : U32 := 0xFFFFFFFF
  /-- firmware build; Table 3.9, assumption 3. -/
  build : U32 := 0xFFFFFFFF
  /-- the records; Table 3.10, assumption 3. -/
  recs : List BankRec := []
  /-- CRC-32 as stored; Table 3.9, R116, assumption 3. -/
  crc : U32 := 0xFFFFFFFF
deriving DecidableEq, Repr

/-- A CONFIG SAVE or a CAL write under way. -/
structure Save where
  /-- bank being written; R117. -/
  target : BankId := .a
  /-- the snapshot to be written; R117 step 1. -/
  image : Bank := {}
deriving DecidableEq, Repr

/-- A connection's result block (Table 3.7). -/
structure SetRes where
  /-- request number answered; Table 3.7, assumption 2. -/
  request : U32 := 0
  /-- 0 or an error code; Table 3.7, assumption 2. -/
  code : BitVec 16 := 0
  /-- first failing pair, 0xFF none; Table 3.7, assumption 2. -/
  pair : BitVec 8 := 0xFF
  /-- requests executed on the connection; Table 3.7. -/
  done : U32 := 0
deriving DecidableEq, Repr

/-- The parameter tree, bonds, banks. -/
structure Params where
  /-- running values unlike their default, ascending by (ID, element); R93, R97. -/
  vals : List ParamVal := []
  /-- strings that are set; Table 3.2. -/
  strs : List StrVal := []
  /-- staged bond members; R107, R109. -/
  staged : List Staged := []
  /-- committed sets before their effect point; R112. -/
  committed : List Committed := []
  /-- the values at the start of the present tick of the parameters that have changed in it; R210, R239. -/
  before : List ParamVal := []
  /-- change counts by ID, modulo 2^16, sparse; R100. -/
  counts : List (Nat × Nat) := []
  /-- the values of the read-only scalars at the last tick, in the order of the parameter table; R100, assumptions 2 and 26. -/
  seen : List Int := []
  /-- configuration bank A in NOR; Table 3.9, assumption 3. -/
  bankA : Bank := {}
  /-- configuration bank B in NOR; Table 3.9, assumption 3. -/
  bankB : Bank := {}
  /-- USER copy U1 in NOR; R126, assumption 3. -/
  user1 : Bank := {}
  /-- USER copy U2 in NOR; R126, assumption 3. -/
  user2 : Bank := {}
  /-- FACTORY calibration bank in NOR; R126, assumption 3. -/
  factory : Bank := {}
  /-- the banks that the last check found valid, or a save has made so since; R116, R134. -/
  validBanks : List BankId := []
  /-- sys.config.source; R117, assumption 2. -/
  source : CfgSource := .factory
  /-- sys.config.generation; R117. -/
  generation : U32 := 0
  /-- sys.config.accepted; R121, assumption 2. -/
  accepted : Bool := false
  /-- the running configuration came from a valid, cross-checked bank; R148, assumption 2. -/
  trusted : Bool := false
  /-- cal.source; R129, assumption 2. -/
  calSource : CalSource := .default
  /-- cal.generation; R129, assumption 2. -/
  calGeneration : U32 := 0
  /-- CONFIG SAVE under way; R117. -/
  save : Option Save := none
  /-- CAL SAVE or restore under way; R129. -/
  calSave : Option Save := none
  /-- which of the two holds NOR; true for CONFIG SAVE; "When things coincide". -/
  norFirst : Option Bool := none
  /-- copied set requests by connection, in notice order; R104. -/
  setReqs : List (Nat × List Byte) := []
  /-- result blocks by connection; R99. -/
  results : List (Nat × SetRes) := []
  /-- set blocks by connection; R99. -/
  setBlocks : List (Nat × List Byte) := []
  /-- load areas by supervisor connection, canonical; R124. -/
  loadAreas : List (Nat × List Host.Cell) := []
deriving DecidableEq, Repr

/-- A bring-up under way. -/
structure Bringup where
  /-- step under way; Table 4.5. -/
  step : Nat := 1
  /-- start of the step (2 s); R164. -/
  since : Tick := 0
  /-- started by sys.start = READY; R148. -/
  auto : Bool := false
deriving DecidableEq, Repr

/-- A shutdown under way. -/
structure Shutdown where
  /-- step under way; Table 4.5. -/
  step : Nat := 1
  /-- start of the step (200 ms); R164. -/
  since : Tick := 0
  /-- a failed bring-up: the final reply of STATE READY; R164. -/
  failWith : Option (Nat × String) := none
deriving DecidableEq, Repr

/-- The unit state machine and the supply. -/
structure UnitCtl where
  /-- sys.state; R135. -/
  state : UnitState := .dark
  /-- state before the last transition; SHOW state, assumption 2. -/
  prev : UnitState := .dark
  /-- tick of the last transition; SHOW state, assumption 2. -/
  since : Tick := 0
  /-- sys.fault.causes; R154. -/
  causes : U32 := 0
  /-- bring-up under way; R150. -/
  bringup : Option Bringup := none
  /-- shutdown under way; R150. -/
  shutdown : Option Shutdown := none
  /-- STATE verbs waiting for a pending bring-up or shutdown; R145. -/
  waiting : List StateVerb := []
  /-- a STATE HOLD is outstanding; R143, R152. -/
  holdOut : Bool := false
  /-- a STATE RUN is queued during DRAIN; R143, R144. -/
  runQueued : Bool := false
  /-- entry to DRAIN; R153, assumption 2. -/
  drainAt : Tick := 0
  /-- front display reads NO IMAGE; R146. -/
  noImage : Bool := false
  /-- an image failure has happened and the supply has not fallen below 17.0 V since; Table 4.2. -/
  imageFail : Bool := false
  /-- sys.waking.time; Table 4.10, assumption 2. -/
  wakingMs : Nat := 0
  /-- sys.holdup.energy; R162, assumption 2. -/
  holdup : Nat := 0
  /-- sys.holdup.ok; R162, assumption 2. -/
  holdupOk : Bool := false
  /-- sys.supply.a; Table 4.10, assumption 2. -/
  supplyA : Nat := 0
  /-- sys.supply.b; Table 4.10, assumption 2. -/
  supplyB : Nat := 0
  /-- sys.supply.bus; Table 4.10, assumption 2. -/
  bus : Nat := 0
  /-- bus below 17.0 V since (2 ms); R160. -/
  belowSince : Option Tick := none
  /-- NOTE made for this entry below 19.2 V; R160. -/
  lowNoted : Bool := false
  /-- sys.collapse.count (FACT); Table 4.10, assumption 3. -/
  collapses : U32 := 0
  /-- tick 0 of the collapse sequence; Table 4.9, assumption 2. -/
  collapseAt : Tick := 0
  /-- SUPPLY A, B noted lost; R545. -/
  inputLost : List Bool := [false, false]
  /-- sys.temp; Table 17.12, assumption 2. -/
  temp : Int := 0
  /-- last 0x1051 (at most one a minute); R539. -/
  overTempAt : Option Tick := none
  /-- sys.cool.rpm; Table 17.12, assumption 2. -/
  coolRpm : List Nat := [0, 0, 0]
  /-- cooling fans running (sys.cool.fans); R539, assumption 2. -/
  coolRun : List Bool := [false, false, false]
  /-- ALARM recorded since WAKING; Table 17.2. -/
  alarmLed : Bool := false
deriving DecidableEq, Repr

/-- One ticket source: its rings and counters. -/
structure Source where
  /-- status [0] OPEN; R168, Table 5.1. -/
  open_ : Bool := false
  /-- status [1] STALLED; R171. -/
  stalled : Bool := false
  /-- status [2] OVERRUN seen since open; R203. -/
  overrun : Bool := false
  /-- connection that carries the rings; R167. -/
  conn : Option Nat := none
  /-- partner connection number; R490. -/
  pconn : BitVec 16 := 0
  /-- producer index; Table 5.1. -/
  prod : U32 := 0
  /-- consumer index; Table 5.1. -/
  cons : U32 := 0
  /-- next expected sequence number; R176. -/
  next : U32 := 0
  /-- no slot taken since the ring opened; R176. -/
  fresh : Bool := true
  /-- completion entries written; Table 5.2. -/
  cprod : U32 := 0
  /-- completion entries read; Table 5.2. -/
  ccons : U32 := 0
  /-- completion entries reserved for slots taken; R171. -/
  reserved : Nat := 0
  /-- ticket slots, canonical sparse bytes (cleared reads as 0); Table 5.1, assumption 2. -/
  slots : List Host.Cell := []
  /-- tally area, canonical sparse bytes; R200. -/
  tally : List Host.Cell := []
  /-- counter values of the previous reading, sparse; R201. -/
  tallyLast : List (Nat × U32) := []
  /-- a reading has been made since the ring opened or the crown was taken; R201. -/
  tallySeen : Bool := false
  /-- last NOTE 0x2012 of the source (once a second); R201. -/
  tallyNoted : Option Tick := none
  /-- recipe block, canonical sparse bytes; Table 5.17. -/
  recipe : List Host.Cell := []
  /-- completion entries, canonical sparse bytes; Table 5.2. -/
  entries : List Host.Cell := []
  /-- ticket.src.N.gaps; Table 5.16. -/
  gaps : U32 := 0
  /-- ticket.src.N.refused; Table 5.16. -/
  refused : U32 := 0
  /-- ticket.src.N.overruns; Table 5.16. -/
  overruns : U32 := 0
  /-- generation of the ticket ring entry; R305. -/
  ringGen : Nat := 0
  /-- generation of the completion ring entry; R305. -/
  compGen : Nat := 0
  /-- learn window bytes of the source, canonical; Table 6.4. -/
  learnWin : List Host.Cell := []
deriving DecidableEq, Repr

/-- The settings of one channel as a ticket meets them: those in force at the start of its stamp tick. -/
structure ChSet where
  /-- course.N.ch.mode is SEPARATE; R239. -/
  separate : Bool := false
  /-- course.N.ch.t_off, in ticks; R239. -/
  off : Nat := 0
  /-- course.N.ch.prime_ceil; R239. -/
  ceil : Nat := 0
deriving DecidableEq, Repr

/-- A ticket the Keystone has taken and not forgotten. -/
structure Ticket where
  /-- model's own serial of the ticket (order of taking); R182. -/
  tid : Nat := 0
  /-- source number; 0 for COURSE TEST pulses (R258); R167. -/
  src : Nat := 0
  /-- port of the source; R490. -/
  port : Nat := 0
  /-- pconn of the source; R490. -/
  pconn : BitVec 16 := 0
  /-- the slot as taken; Table 5.3. -/
  slot : TicketSlot := {}
  /-- scheduler stamp; R27. -/
  stamp : Tick := 0
  /-- moisture band fixed at placement; R32, R211. -/
  band : Nat := 0
  /-- requested fire start s; R208. -/
  reqStart : Tick := 0
  /-- a fire start was computed; Table 5.5. -/
  computed : Bool := false
  /-- fire start after any shift; R181. -/
  start : Tick := 0
  /-- shift applied; R178. -/
  shift : Nat := 0
  /-- air duration; R236. -/
  dur : Nat := 0
  /-- priming lead of the ticket; R242. -/
  lead : Nat := 0
  /-- the settings of its channels, from its first one on; R239. -/
  sets : List ChSet := []
  /-- planned as primed; R181. -/
  primedPlan : Bool := false
  /-- FIRM, or PROV after its accepted CONF; R182. -/
  confirmed : Bool := false
  /-- committed; R187. -/
  committed : Bool := false
  /-- on the timelines; R177. -/
  placed : Bool := false
  /-- order of first placement, from 1; 0 never placed; R198. -/
  order : Nat := 0
  /-- order in which it became confirmed, from 1; 0 not confirmed; R180. -/
  confOrder : Nat := 0
  /-- its source's connection has left its ready state; R205. -/
  detached : Bool := false
  /-- air demand d held in H or S; R180. -/
  demand : Nat := 0
  /-- holds a soft reservation (in S); R196. -/
  reserved : Bool := false
  /-- holds a hard debit (in H); R197. -/
  hard : Bool := false
  /-- detail bits gathered so far; Table 5.5. -/
  detail : BitVec 16 := 0
  /-- valve time added, summed over its channels; Table 5.5. -/
  valveTicks : Nat := 0
  /-- outcome fixed at the commit tick for a fire that runs; R183. -/
  fireKind : Option Outcome := none
  /-- CANCELs stamped at or after the commit tick: slot, stamp and slot index; Table 5.8. -/
  lateCancels : List (TicketSlot × Tick × Nat) := []
  /-- final outcome; R182. -/
  final_ : Option Outcome := none
  /-- tick of its completion entry; R175, R224. -/
  entryAt : Option Tick := none
  /-- channels whose fire this ticket started; R248. -/
  starts_ : List Nat := []
  /-- END code 3 seen for a fire it started; R504. -/
  boundary : Bool := false
  /-- channels whose end the course has not reported; R14. -/
  endsDue : List Nat := []
  /-- every fire it started reported PRIMED; Table 5.5. -/
  primedAll : Bool := true
  /-- learn ticket: its bin and step (δ index); R223. -/
  learn : Option (Nat × Nat) := none
  /-- a COURSE TEST pulse; R258. -/
  test : Bool := false
  /-- detail REPLAYED; R508. -/
  replayed : Bool := false
deriving DecidableEq, Repr

/-- The ticket scheduler. -/
structure TicketCtl where
  /-- sources 1–16; R167. -/
  sources : List Source := List.replicate 16 {}
  /-- tickets taken and not forgotten, oldest first; R175. -/
  tickets : List Ticket := []
  /-- next model serial of a ticket; R182. -/
  nextTid : Nat := 1
  /-- next placement order; R198. -/
  nextOrder : Nat := 0
  /-- ticket.taken; Table 5.16. -/
  taken : U32 := 0
  /-- ticket.late; Table 5.16. -/
  late : U32 := 0
  /-- ticket.stalls; Table 5.16. -/
  stalls : U32 := 0
  /-- ticket.denied_spec; Table 5.16. -/
  deniedSpec : U32 := 0
  /-- confirmed outcomes final in the second, per chute; Table 12.13. -/
  confirmedSec : List Nat := [0,0,0,0,0,0,0,0]
  /-- objects seen in the last second, index 256 (k − 1) + c; R201. -/
  seen : List Nat := List.replicate 2048 0
deriving DecidableEq, Repr

/-- One velocity bin of a sweep. -/
structure LearnBin where
  /-- learn tickets assigned in the bin; R223. -/
  issued : Nat := 0
  /-- counted results: step index and hit; R224, R225. -/
  counted : List (Nat × Bool) := []
deriving DecidableEq, Repr

/-- A COURSE LEARN sweep. -/
structure Learn where
  /-- source; R222. -/
  src : Nat := 1
  /-- start of the sweep; R227. -/
  since : Tick := 0
  /-- plumb.learn.class at acceptance; R222. -/
  cls : Nat := 0
  /-- plumb.learn.span; R222. -/
  span : Nat := 0
  /-- plumb.learn.step; R222. -/
  step : Nat := 1
  /-- the eight bins; R223. -/
  bins : List LearnBin := List.replicate 8 {}
deriving DecidableEq, Repr

/-- Plumb state of one chute. -/
structure Chute where
  /-- flight time column; Table 6.2, assumption 2. -/
  t : List Nat := List.replicate 64 0
  /-- drag column; Table 6.2, assumption 2. -/
  s : List Nat := List.replicate 64 0
  /-- drop column; Table 6.2, assumption 2. -/
  r : List Nat := List.replicate 64 0
  /-- plumb.N.clamped; Table 6.5. -/
  clamped : U32 := 0
  /-- plumb.N.sat; Table 6.5. -/
  sat : U32 := 0
  /-- generation of the learn window entry; R305. -/
  learnGen : Nat := 0
  /-- sweep under way (plumb.N.learn); R222. -/
  learn : Option Learn := none
deriving DecidableEq, Repr

/-- Flight tables, moisture and band. -/
structure Plumb where
  /-- chutes 1–8; R215. -/
  chutes : List Chute := List.replicate 8 {}
  /-- filtered moisture m; R218, assumption 2. -/
  moist : Nat := 0
  /-- m has been set by a first outlet average; R218. -/
  moistSet : Bool := false
  /-- latest outlet average x; R218, assumption 2. -/
  x : Nat := 0
  /-- an outlet average has been delivered since WAKING; R218. -/
  xSet : Bool := false
  /-- moisture band b; R219, R220, assumption 2. -/
  band : Nat := 0
  /-- band in force before the change of this tick; R211, assumption 2. -/
  bandPrev : Nat := 0
  /-- tick of the last band change; R219, assumption 2. -/
  bandAt : Tick := 0
  /-- last outlet average delivered; R229, assumption 2. -/
  lastAvg : Tick := 0
  /-- NOTE 0x2031 made; R229. -/
  missNoted : Bool := false
deriving DecidableEq, Repr

/-- One air credit bucket. -/
structure Manifold where
  /-- L; R249, assumption 2. -/
  level : Nat := 0
  /-- H; R249. -/
  hard : Nat := 0
  /-- S; R249. -/
  soft : Nat := 0
  /-- ρ numerator, units/s (double precision); R249, assumption 2. -/
  rhoNum : Nat := 0
  /-- ρ denominator; R249, assumption 2. -/
  rhoDen : Nat := 1
  /-- refill held; R253. -/
  held : Bool := false
  /-- every sample at or above p_low + 20 kPa since; R253. -/
  okSince : Option Tick := none
  /-- the last sample of that span; R253, assumption 2. -/
  okAt : Tick := 0
  /-- air.N.pressure; Table 7.9, assumption 2. -/
  pressure : Int := 0
  /-- valid samples of the present quiet window (tick, 0.01 kPa); R252. -/
  samples : List (Tick × Int) := []
  /-- start of the present quiet window; R252, assumption 2. -/
  quietSince : Tick := 0
  /-- air.N.denied; Table 7.9. -/
  denied : U32 := 0
deriving DecidableEq, Repr

/-- One fire on one channel as the Keystone holds it. -/
structure Plan where
  /-- plan slot; none while the plan waits; R566. -/
  slot : Option Nat := none
  /-- channel; Table 7.6. -/
  ch : Nat := 0
  /-- fire start; Table 7.6. -/
  start : Tick := 0
  /-- duration; Table 7.6. -/
  dur : Nat := 0
  /-- planned as primed; Table 7.6. -/
  primed : Bool := false
  /-- PROV: only unconfirmed requests; Table 7.6. -/
  prov : Bool := false
  /-- priming lead; Table 7.6. -/
  lead : Nat := 0
  /-- priming ceiling; Table 7.6. -/
  ceil : Nat := 0
  /-- profile; Table 7.6. -/
  profile : Nat := 0
  /-- COMMIT sent; R264. -/
  committed : Bool := false
  /-- tickets that ride on the fire; R183. -/
  tids : List Nat := []
deriving DecidableEq, Repr

/-- A downlink frame sent and not acknowledged. -/
structure DownFrame where
  /-- seq; Table 7.5. -/
  seq : BitVec 16 := 0
  /-- type and body; R259. -/
  kind : DownKind := .idle
  /-- tick it was sent; R264, R269. -/
  sentAt : Tick := 0
  /-- a COMMIT has been sent once more; R264. -/
  resent : Bool := false
deriving DecidableEq, Repr

/-- The latest STATUS of a course. -/
structure Status where
  /-- tick it was received; R247, assumption 2. -/
  at_ : Tick := 0
  /-- course state; Table 7.6. -/
  st : CourseState := .off
  /-- boost ready; R245. -/
  ready : Bool := false
  /-- bank voltage; Table 7.6, assumption 2. -/
  bankV : Nat := 0
  /-- field supply; Table 7.6, assumption 2. -/
  fieldV : Nat := 0
  /-- phase states; Table 7.6. -/
  phases : List Nat := [0,0,0,0,0,0]
  /-- working phases; Table 7.6. -/
  n : Nat := 0
  /-- course's generation; R515. -/
  gen : U32 := 0
  /-- CROWN-LIVE; R492. -/
  crownLive : Bool := false
deriving DecidableEq, Repr

/-- A COURSE TEST under way. -/
structure CourseTest where
  /-- channel; R258. -/
  ch : Nat := 0
  /-- duration; R258. -/
  dur : Nat := 0
  /-- pulses asked; R258. -/
  count : Nat := 1
  /-- period; R258. -/
  period : Nat := 100
  /-- pulses placed or denied; R258. -/
  placed : Nat := 0
  /-- pulses fired; R258. -/
  fired : Nat := 0
  /-- next fire start; R258. -/
  nextAt : Tick := 0
  /-- denied pulses; R258. -/
  denials : List (Nat × Outcome) := []
deriving DecidableEq, Repr

/-- A course-link frame layer at the Keystone (course, FIELD, LEDGER). -/
structure LinkCtl where
  /-- both directions up and the link trained; R261. -/
  up : Bool := false
  /-- training under way; R261. -/
  training : Bool := false
  /-- a device has identified itself; R263. -/
  present : Bool := false
  /-- device kind read; R263, assumption 2. -/
  kind : Nat := 0
  /-- while training: valid frames in a row, 16 of which bring the direction up; R261 step 1, assumption 2. -/
  good : Nat := 0
  /-- tick at which the present round of ECHO frames began; R261 steps 2 and 4, assumption 2. -/
  echoAt : Tick := 0
  /-- echo number and round trip in 5 ns clocks; R261. -/
  echoes : List (Nat × Nat) := []
  /-- cable delay written to word 0x0008; R261. -/
  delay : Nat := 0
  /-- next downlink seq; Table 7.5, assumption 2. -/
  txSeq : BitVec 16 := 0
  /-- frames sent and not acknowledged, oldest first; R269. -/
  sent : List DownFrame := []
  /-- last valid uplink frame; R268, assumption 2. -/
  lastRx : Tick := 0
deriving DecidableEq, Repr

/-- The Keystone's view of one course. -/
structure Course where
  /-- course.N.state; Table 7.4. -/
  state : CourseState := .off
  /-- its link; R261. -/
  link : LinkCtl := {}
  /-- enable step under way; 0 none; R254. -/
  step : Nat := 0
  /-- start of the enable; R254, assumption 2. -/
  enSince : Tick := 0
  /-- words read back; R263. -/
  wordsBack : List (Nat × U32) := []
  /-- stamp of the drain; R256, assumption 2. -/
  drainAt : Tick := 0
  /-- the drain was started by COURSE DISABLE; R257. -/
  drainVerb : Bool := false
  /-- start of the boost discharge; R256 step 3. -/
  dischargeAt : Option Tick := none
  /-- COURSE ENABLE queued; R156. -/
  enQueued : Bool := false
  /-- latest STATUS; R247. -/
  last : Status := {}
  /-- STATUS before the present tick's; R247. -/
  prior : Status := {}
  /-- PEAK intervals of fires whose END has come, while they last; R246. -/
  peaksLeft : List (Tick × Tick) := []
  /-- plans sent and waiting; R566. -/
  plans : List Plan := []
  /-- course.N.fires; Table 7.9. -/
  fires : U32 := 0
  /-- course.N.denied_boost; Table 7.9. -/
  deniedBoost : U32 := 0
  /-- course.N.ident: model; R263, assumption 2. -/
  identModel : List Byte := []
  /-- course.N.ident: serial; R263, assumption 2. -/
  identSerial : U32 := 0
  /-- course.N.ident: firmware; R263, assumption 2. -/
  identFw : U32 := 0
  /-- last NOTE 0x3020; R244. -/
  dutyNoted : Option Tick := none
  /-- tickets whose priming was cut short in the last second, with the tick of the END; R207, Table 16.3. -/
  cutShort : List (Nat × Tick) := []
  /-- start of the last RELEASE of each channel that has had one; R241. -/
  relAt : List (Nat × Tick) := []
  /-- last NOTE 0x2020; R207. -/
  cutNoted : Option Tick := none
  /-- test under way; R258. -/
  test : Option CourseTest := none
deriving DecidableEq, Repr

/-- A plan held by a course. -/
structure DevPlan where
  /-- slot; Table 7.6. -/
  slot : Nat := 0
  /-- channel; Table 7.6. -/
  ch : Nat := 0
  /-- PROV; Table 7.6. -/
  prov : Bool := false
  /-- PRIMED; Table 7.6. -/
  primed : Bool := false
  /-- priming ceiling, clamped at 45; R243. -/
  ceil : Nat := 0
  /-- profile; Table 7.6. -/
  profile : Nat := 0
  /-- fire start; Table 7.6. -/
  start : Tick := 0
  /-- duration; Table 7.6. -/
  dur : Nat := 0
  /-- priming lead; Table 7.6. -/
  lead : Nat := 0
  /-- committed; R264. -/
  committed : Bool := false
  /-- generation under which it was taken; R503. -/
  gen : U32 := 0
deriving DecidableEq, Repr

/-- One valve channel of a course. -/
structure Channel where
  /-- OFF, PRIME, PEAK, HOLD, RELEASE; Table 7.1. -/
  phase : ChPhase := .off
  /-- plan in progress; R232, assumption 2. -/
  slot : Nat := 0
  /-- start of the phase; R232, assumption 2. -/
  since : Tick := 0
  /-- RELEASE tick of the fire in progress; R233, assumption 2. -/
  releaseAt : Tick := 0
  /-- tick by which the falling current is zero; R193, R233, assumption 2. -/
  zeroBy : Tick := 0
  /-- priming ceiling of the fire in progress, in % of I_peak; R243. -/
  ceil : Nat := 0
  /-- profile table of the fire in progress; R237. -/
  profile : Nat := 0
  /-- priming current has reached the ceiling; Table 5.5. -/
  reached : Bool := false
  /-- generation of the fire in progress; R504. -/
  gen : U32 := 0
  /-- coil energised since; R244. -/
  onSince : Option Tick := none
  /-- energised spans of the last 10 s, which course.N.ch.duty counts; R244. -/
  spans : List (Tick × Tick) := []
deriving DecidableEq, Repr

/-- An END waiting on the uplink. -/
structure EndFrame where
  /-- slot; Table 7.6. -/
  slot : Nat := 0
  /-- code; Table 7.6. -/
  code : Nat := 0
  /-- PRIMED; Table 7.6. -/
  primed : Bool := false
  /-- RELEASE tick; Table 7.6. -/
  release : Tick := 0
deriving DecidableEq, Repr

/-- One KY-C64 course. -/
structure CourseDev where
  /-- field supply in range and electronics running; R267. -/
  powered : Bool := false
  /-- course field supply; R548, assumption 2. -/
  fieldV : Nat := 0
  /-- field supply below 18.0 V: switching stopped; R267. -/
  low : Bool := false
  /-- state the course reports; Table 7.4. -/
  state : CourseState := .off
  /-- device kind; Table 7.10, assumption 2. -/
  kind : Nat := 1
  /-- serial number; Table 7.10, assumption 2. -/
  serial : U32 := 0
  /-- firmware build; Table 7.10, assumption 2. -/
  fw : U32 := 0
  /-- hardware revision; Table 7.10, assumption 2. -/
  hwRev : Nat := 0
  /-- tick counter aligned to a SYNC; R260. -/
  aligned : Bool := false
  /-- its counter less the Keystone's; R260, assumption 2. -/
  tickErr : Int := 0
  /-- current generation; 0 at power-up; R503. -/
  gen : U32 := 0
  /-- uplink that holds the crown; R503. -/
  crownUp : Option Nat := none
  /-- generation named in a HANDOVER; R503. -/
  handover : Option U32 := none
  /-- last valid downlink frame on each uplink; R268, R503, assumption 2. -/
  lastRx : List Tick := [0, 0]
  /-- seq of the last frame received in order; R269, assumption 2. -/
  rxSeq : List (BitVec 16) := [0, 0]
  /-- crown uplink lost; R268. -/
  lost : Bool := false
  /-- tick of the loss (2 s); R268, assumption 2. -/
  lostAt : Tick := 0
  /-- uplinks that were lost, on which it executes nothing but ENABLE until enabled; R268. -/
  enableOnly : List Bool := [false, false]
  /-- write words that are not 0; Table 7.10, assumption 2. -/
  words : List (Nat × U32) := []
  /-- bank voltage; R245, assumption 2. -/
  bankV : Nat := 0
  /-- bank clamped after an overvoltage; R267. -/
  clamp : Bool := false
  /-- phase codes 0 OFF, 1 RUN, 2 LOST, 3 SENSE; Table 7.6. -/
  phases : List Nat := [0,0,0,0,0,0]
  /-- start of the boost discharge; R256. -/
  discharge : Option Tick := none
  /-- plans held; R259. -/
  plans : List DevPlan := []
  /-- channels; R232. -/
  chans : List Channel := List.replicate 64 {}
  /-- END frames sent on the uplink, newest first; R248. -/
  ends : List EndFrame := []
  /-- seq acknowledged on the uplink; Table 7.6, assumption 2. -/
  acked : BitVec 16 := 0
  /-- READBACK frames of the last QUERY, oldest first; R263. -/
  readbacks : List (Nat × List U32) := []
  /-- last ECHO-REPLY: number, tick, clock; R261. -/
  echoReply : Option (Nat × Tick × Nat) := none
  /-- last STATUS sent; R245, assumption 2. -/
  statusAt : Tick := 0
  /-- last STATUS sent; R245. -/
  statusSent : Option Status := none
  /-- frames discarded (course.N.stale); R265. -/
  stale : U32 := 0
deriving DecidableEq, Repr

/-- A work entry of a send queue. -/
structure WorkEntry where
  /-- op; Table 8.8. -/
  op : WorkOp := .write
  /-- class flag: TICKET; Table 8.8. -/
  ticket : Bool := false
  /-- length; Table 8.8. -/
  length : Nat := 0
  /-- remote handle; for WAIT the watched connection; Table 8.8. -/
  rkey : U32 := 0
  /-- remote offset; for WAIT the threshold; Table 8.8. -/
  offset : U32 := 0
  /-- Keystone address of the data, where a READ or ATOMIC-ADD stores what it returns; none: the function that posted it keeps the data
  itself; Table 8.8. -/
  local_ : Option Nat := none
  /-- the local data; Table 8.8. -/
  data : List Byte := []
  /-- poster's identifier; Table 8.8. -/
  id : U32 := 0
  /-- bytes already framed; R281. -/
  sentBytes : Nat := 0
  /-- every frame has been sent once; R281. -/
  framed : Bool := false
  /-- psn of the last frame sent; R282. -/
  lastPsn : U32 := 0
  /-- bytes of response data received; R282. -/
  got : Nat := 0
  /-- its response has arrived in full; R282. -/
  answered : Bool := false
  /-- NAK code the entry met (INTEGRITY); R291. -/
  nak : Nat := 0
  /-- a cancel came too late: completes SENT; R319. -/
  sent_ : Bool := false
  /-- group delivery: group and gsn; R323. -/
  group : Option (Nat × U32) := none
  /-- refused LOCAL or cancelled before its first byte: it is never framed; R317, R319. -/
  fate : Option CqStatus := none
deriving DecidableEq, Repr

/-- A frame the Keystone has to send or has sent. -/
structure TxFrame where
  /-- opcode; Table 8.3. -/
  op : RlOp := .ack
  /-- psn; Table 8.2. -/
  psn : U32 := 0
  /-- rkey; Table 8.2. -/
  rkey : U32 := 0
  /-- offset; Table 8.2. -/
  offset : U32 := 0
  /-- FIRST; Table 8.2. -/
  first : Bool := false
  /-- LAST; Table 8.2. -/
  last : Bool := false
  /-- class; R315. -/
  cls : FrameClass := .control
  /-- payload; R270. -/
  payload : List Byte := []
  /-- when it began to wait; once sent, when it was sent; R318 (09), R289. -/
  queuedAt : Tick := 0
  /-- key epoch it was sent under; Table 8.2. -/
  epoch : U32 := 0
  /-- fseq it was sent with; Table 8.2. -/
  fseq : Nat := 0
  /-- connection it was sent on; none for CONNECT, ACCEPT and REFUSE; R270. -/
  conn : Option Nat := none
  /-- dconn; Table 8.2. -/
  dconn : Nat := 0
  /-- ack it was sent with; Table 8.2. -/
  ack : U32 := 0
  /-- destination address; R270. -/
  dest : List Byte := []
  /-- indices through which the access that a response answers was admitted; R310. -/
  wins : List Nat := []
deriving DecidableEq, Repr

/-- A completion entry (Table 8.9). -/
structure Completion where
  /-- work entry's id; Table 8.9. -/
  id : U32 := 0
  /-- op; Table 8.9. -/
  op : WorkOp := .write
  /-- status; Table 8.10. -/
  status : CqStatus := .ok
  /-- NAK code; Table 8.9. -/
  code : Nat := 0
  /-- bytes; Table 8.9. -/
  done : Nat := 0
  /-- completion count after this entry; Table 8.9. -/
  count : U32 := 0
deriving DecidableEq, Repr

/-- One Keystone connection (queue pair). -/
structure Conn where
  /-- state; R277. -/
  state : ConnState := .closed
  /-- port; 0 none; Table 8.16. -/
  port : Nat := 0
  /-- partner's connection number; Table 8.4. -/
  pconn : BitVec 16 := 0
  /-- connection number of an ACCEPT that the Keystone received (PEER); Table 8.5. -/
  kconn : BitVec 16 := 0
  /-- receive entries the partner offers; Table 8.4. -/
  prq : Nat := 0
  /-- reason of leaving READY; Table 8.12. -/
  reason : Reason := .none
  /-- header and payload of the CONNECT that opened it; R275. -/
  connect : List Byte := []
  /-- payload of the ACCEPT that answered it; R275. -/
  accept : List Byte := []
  /-- the partner's MAC address, learnt from its CONNECT; R270. -/
  partner : List Byte := []
  /-- Keystone nonce; Table 8.5. -/
  nk : List Byte := []
  /-- PRK of the connection; R274. -/
  prk : List Byte := []
  /-- the Keystone sent the CONNECT (PEER); R491. -/
  opening : Bool := false
  /-- tick of the ACCEPT (10 ms); R276. -/
  acceptAt : Tick := 0
  /-- send key epoch; R276. -/
  epoch : U32 := 0
  /-- next send fseq; Table 8.2. -/
  fseq : Nat := 0
  /-- when the epoch began; R296. -/
  epochSince : Tick := 0
  /-- receive key epoch; R297. -/
  rxEpoch : U32 := 0
  /-- fseqs accepted within 64 of the highest, newest first; R295. -/
  rxSeen : List Nat := []
  /-- fseqs accepted of the epoch before; R297. -/
  oldSeen : List Nat := []
  /-- until when frames of the old epoch are accepted; R297. -/
  oldUntil : Option Tick := none
  /-- a rekey is under way; R296. -/
  rekeying : Bool := false
  /-- REKEY-REQ sent in this epoch (PEER, partner's role); R296, R491. -/
  rekeyAsked : Bool := false
  /-- next psn to send; R289. -/
  txPsn : U32 := 0
  /-- expected psn; R289. -/
  rxPsn : U32 := 0
  /-- PSN-SEQ sent for the present gap; R289. -/
  gapNaked : Bool := false
  /-- frames received since the last ACK; R289. -/
  rxUnacked : Nat := 0
  /-- later frames of an entry refused INTEGRITY are discarded; Table 8.11. -/
  skipEntry : Bool := false
  /-- send queue, oldest first; R280. -/
  sq : List WorkEntry := []
  /-- frames to be sent again; R289. -/
  resend : List TxFrame := []
  /-- responses waiting to be sent; R286. -/
  resp : List TxFrame := []
  /-- control frames waiting; R315. -/
  ctl : List TxFrame := []
  /-- frames sent and not acknowledged; R289. -/
  unacked : List TxFrame := []
  /-- free receive entries; Table 8.5. -/
  recvFree : Nat := 0
  /-- completions, newest first; R282. -/
  cq : List Completion := []
  /-- completion count; R283. -/
  cqCount : U32 := 0
  /-- frames sent again; Table 8.16. -/
  retx : U32 := 0
  /-- timeouts in a row without progress; R289. -/
  retries : Nat := 0
  /-- offset of the FIRST frame of the entry being received; R287. -/
  entryStart : Nat := 0
  /-- PEER: handle of the partner's window that it has read from the partner's directory; R306 (09), R491, assumption 4. -/
  remote : U32 := 0
  /-- RNR attempts; Table 8.11. -/
  rnrTries : Nat := 0
  /-- end of the RNR delay; Table 8.11. -/
  rnrUntil : Option Tick := none
  /-- last authenticated frame; R279. -/
  lastRx : Tick := 0
  /-- last frame sent; R279. -/
  lastTx : Tick := 0
  /-- generation of its full key; R313. -/
  fullGen : Nat := 0
  /-- a full key is granted; R313. -/
  fullOn : Bool := false
  /-- indices revoked on it and not opened again since; R310. -/
  revoked : List Nat := []
deriving DecidableEq, Repr

/-- A frame that the present window holds back. -/
structure HeldMark where
  /-- its connection; none for a control frame of the port; R316. -/
  conn : Option Nat := none
  /-- the frame; R316. -/
  frame : TxFrame := {}
  /-- the window, counted from the start of the ticks; R316. -/
  window : Nat := 0
deriving DecidableEq, Repr

/-- A WINDOW REVOKE whose `=` reply waits for the responses of admitted accesses. -/
structure Revoking where
  /-- connection; R310. -/
  conn : Nat := 0
  /-- index revoked; R310. -/
  index : Nat := 0
  /-- the line that revoked it; R310. -/
  ln : Ln := {}
  /-- its reply; R310. -/
  text : String := ""
deriving DecidableEq, Repr

/-- One 10 Gb/s or 1000BASE-T port. -/
structure Port where
  /-- port.N.link; Table 8.16. -/
  link : Bool := false
  /-- turned OFF by LINK RESET OFF; R331. -/
  off : Bool := false
  /-- shutdown of a LINK RESET under way; R331. -/
  closingAt : Option Tick := none
  /-- that shutdown is a LINK RESET OFF; R331. -/
  goingOff : Bool := false
  /-- training since (2 s); R331. -/
  resetAt : Option Tick := none
  /-- LINK RESET queued; R156. -/
  enQueued : Bool := false
  /-- port.N.authfail; Table 8.16. -/
  authfail : U32 := 0
  /-- port.N.drops; Table 8.16. -/
  drops : U32 := 0
  /-- port.N.fcs, the FCS share of the drops; R271. -/
  fcs : U32 := 0
  /-- port.N.held; R316. -/
  held : U32 := 0
  /-- port.N.local; R317. -/
  localCnt : U32 := 0
  /-- np values accepted, newest first; R275. -/
  nps : List (List Byte) := []
  /-- authentication failures of the last second; R295. -/
  authTicks : List Tick := []
  /-- last ALARM 0x4201; R295. -/
  authAlarm : Option Tick := none
  /-- last REFUSE sent; Table 8.6. -/
  refused : Option RefuseReason := none
  /-- frame in the MAC and the tick it ends; R319. -/
  mac : Option (TxFrame × Tick) := none
  /-- connection last granted; R318. -/
  rot : Nat := 0
  /-- control frames of no open connection (ACCEPT, REFUSE); R315. -/
  ctlPort : List TxFrame := []
  /-- port.N.ticket in force in the present cycle; R320. -/
  ticketUs : Nat := 20
  /-- port.N.module; R542. -/
  module_ : ModuleKind := .none
  /-- port.N.rx_power; R542. -/
  rxPower : Int := 0
  /-- frames held in the present window; R316. -/
  heldMarks : List HeldMark := []
deriving DecidableEq, Repr

/-- An open user window. -/
structure UserWin where
  /-- entry and index; R303. -/
  index : Nat := 48
  /-- generation; R305. -/
  gen : Nat := 1
  /-- connection; R307. -/
  conn : Nat := 0
  /-- offset within SHARE; R307. -/
  base : Nat := 0
  /-- length; R303. -/
  length : Nat := 64
  /-- RO, WO or RW; R303. -/
  perm : Perm := .ro
  /-- class TICKET; R303. -/
  ticket : Bool := false
deriving DecidableEq, Repr

/-- One target of a group post. -/
structure Target where
  /-- connection; R321. -/
  conn : Nat := 0
  /-- where its delivery stands; R325. -/
  st : TargetState := .waiting
  /-- when it was last tried; R325. -/
  at_ : Tick := 0
  /-- a delivery has been posted; R325. -/
  tried : Bool := false
  /-- it ended with a delivery sent and not answered; Table 9.4. -/
  uncertain : Bool := false
deriving DecidableEq, Repr

/-- A group post outstanding. -/
structure Post where
  /-- group sequence number; R323. -/
  gsn : U32 := 0
  /-- posting connection; none from within; R323. -/
  poster : Option Nat := none
  /-- psn of the GROUP-POST; Table 9.4. -/
  ppsn : U32 := 0
  /-- tick of the post; R325. -/
  at_ : Tick := 0
  /-- message; R322. -/
  msg : List Byte := []
  /-- targets; R321. -/
  targets : List Target := []
deriving DecidableEq, Repr

/-- A GROUP-DONE record (Table 9.4). -/
structure Done where
  /-- gsn; Table 9.4. -/
  gsn : U32 := 0
  /-- psn of the post; Table 9.4. -/
  ppsn : U32 := 0
  /-- targets; Table 9.4. -/
  targets : BitVec 64 := 0
  /-- delivered; Table 9.4. -/
  delivered : BitVec 64 := 0
  /-- uncertain; Table 9.4. -/
  uncertain : BitVec 64 := 0
  /-- DONE, BUSY, EMPTY; Table 9.4. -/
  status : Nat := 0
deriving DecidableEq, Repr

/-- One multicast group (its settings are parameters). -/
structure Group where
  /-- member connections; Table 9.7. -/
  conns : BitVec 64 := 0
  /-- last gsn given; Table 9.7. -/
  gsn : U32 := 0
  /-- posts outstanding; Table 9.4. -/
  posts : List Post := []
  /-- posts with delivered ≠ targets; Table 9.7. -/
  partial_ : U32 := 0
  /-- posts ended BUSY; Table 9.7. -/
  busy : U32 := 0
  /-- last GROUP-DONE; R327. -/
  lastDone : Option Done := none
deriving DecidableEq, Repr

/-- Ramalink as a whole. -/
structure Net where
  /-- connections 0–63; R299. -/
  conns : List Conn := List.replicate 64 {}
  /-- CLS-A to CLS-D, SUP, SUP-T, PEER; Table 8.16. -/
  ports : List Port := List.replicate 7 {}
  /-- supervisor port in use; R17. -/
  supPort : Option Nat := none
  /-- random source passes its health test; R302. -/
  rngOk : Bool := true
  /-- open user windows; R303. -/
  userWins : List UserWin := []
  /-- generations of user entries 48–255; R305. -/
  userGen : List Nat := List.replicate 208 0
  /-- generation of the configuration window entry; R305. -/
  cfgGen : Nat := 0
  /-- generation of the PEER window entries; R305. -/
  peerGen : Nat := 0
  /-- groups 0–15; R321. -/
  groups : List Group := List.replicate 16 {}
  /-- revokes that wait for admitted accesses to end; R310. -/
  revoking : List Revoking := []
deriving DecidableEq, Repr

/-- The coefficients in force of a loop. -/
structure Coef where
  /-- kp; R346. -/
  kp : Int := 0
  /-- ki; R346. -/
  ki : Int := 0
  /-- ad; R346. -/
  ad : Int := 0
  /-- bd; R346. -/
  bd : Int := 0
deriving DecidableEq, Repr

/-- One control loop. -/
structure Loop where
  /-- dry.loop.n.active; R354. -/
  active : LoopActive := .off
  /-- frozen on an invalid source; R362. -/
  frozen : Bool := false
  /-- coefficients in force; R346. -/
  coef : Coef := {}
  /-- measurement of the last sample; R344. -/
  y : Int := 0
  /-- setpoint of the last sample; R344. -/
  r : Int := 0
  /-- D; R347. -/
  d : Int := 0
  /-- I; R347. -/
  i : Int := 0
  /-- output; R345. -/
  u : Int := 0
  /-- FF_crack in force; R353. -/
  ff : Int := 0
  /-- the next AUTO sample is the first since entry; R347. -/
  first : Bool := true
  /-- a rederivation waits for the next sample; R346, R350. -/
  switchDue : Bool := false
  /-- sticky flags; R348. -/
  flags : BitVec 8 := 0
  /-- index of sv1; R349. -/
  i1 : Nat := 0
  /-- index of sv2; R349. -/
  i2 : Nat := 0
  /-- source invalid since; R362. -/
  badSince : Option Tick := none
  /-- airflow estimate in use; R363. -/
  est : Bool := false
  /-- off ramp under way; R361. -/
  ramping : Bool := false
  /-- AUTO (true) or MANUAL with its value queued during the ramp; R361, R156. -/
  queued : Option (Bool × Option Int) := none
  /-- zone setpoint, high, low this loop runs on; R112. -/
  limits : List Int := [4000, 6000, 0]
deriving DecidableEq, Repr

/-- One dryer zone. -/
structure Zone where
  /-- dry.zone.N.inhibit; R339. -/
  inhibit : BitVec 8 := 0
  /-- at or below high − 2 °C since (10 s); R339. -/
  highOkSince : Option Tick := none
  /-- below low since (600 s); R341. -/
  lowSince : Option Tick := none
  /-- NOTE 0x5021 made; R341. -/
  lowNoted : Bool := false
  /-- dry.zone.N.drain; Table 10.6. -/
  drain : DrainState := .none
  /-- dry.zone.N.plenum; Table 10.6, assumption 2. -/
  plenum : Int := 0
  /-- heat available; R338. -/
  heat : Bool := true
  /-- drain ended by sys.drain.limit: heat demand at 4 mA; R153. -/
  limited : Bool := false
deriving DecidableEq, Repr

/-- The batch. -/
structure Batch where
  /-- dry.batch.state; Table 10.6. -/
  state : BatchState := .idle
  /-- dry.batch.step; Table 10.6. -/
  step : BatchStep := .fill
  /-- start of the step timer; R356, assumption 2. -/
  since : Tick := 0
  /-- exit condition true since; Table 10.4. -/
  condSince : Option Tick := none
  /-- consecutive outlet averages at or below target; Table 10.4. -/
  dryHits : Nat := 0
  /-- LOOP BATCH NEXT given; R357. -/
  next_ : Bool := false
deriving DecidableEq, Repr

/-- The conditioning side. -/
structure Dryer where
  /-- loops 0–15; R335. -/
  loops : List Loop := List.replicate 16 {}
  /-- zones 1–5; R335. -/
  zones : List Zone := List.replicate 5 {}
  /-- the batch; R356. -/
  batch : Batch := {}
  /-- c; R352. -/
  crack : Nat := 0
  /-- c at the start of the tick of its last update; R353. -/
  crackPrev : Nat := 0
  /-- tick of the last update; R352, assumption 2. -/
  crackAt : Tick := 0
  /-- dry.crack.count; Table 10.6. -/
  crackCount : U32 := 0
deriving DecidableEq, Repr

/-- One digital input. -/
structure Di where
  /-- level on the terminal; R367, assumption 2. -/
  raw : Bool := false
  /-- up/down counter; R367. -/
  count : Nat := 0
  /-- filtered state; R367. -/
  state : Bool := false
  /-- filtered state before the latest sample; R366. -/
  was : Bool := false
deriving DecidableEq, Repr

/-- One analogue output. -/
structure Ao where
  /-- command at the terminal; R370. -/
  out : Nat := 0
  /-- readback; Table 11.7, assumption 2. -/
  rb : Int := 0
  /-- last change of its command; R368, assumption 2. -/
  changedAt : Tick := 0
  /-- mismatch (or match) standing since; R368. -/
  since : Option Tick := none
  /-- mismatch bit; R368. -/
  mis : Bool := false
deriving DecidableEq, Repr

/-- One digital output. -/
structure Do where
  /-- command at the terminal; R370. -/
  out : Bool := false
  /-- readback; Table 11.7. -/
  rb : Bool := false
  /-- last change of its command; R368, assumption 2. -/
  changedAt : Tick := 0
  /-- mismatch (or match) standing since; R368. -/
  since : Option Tick := none
  /-- mismatch bit; R368. -/
  mis : Bool := false
  /-- held off by the bank after a current limit; R369. -/
  heldOff : Bool := false
deriving DecidableEq, Repr

/-- One analogue input. -/
structure Ai where
  /-- measured current or voltage; R371, assumption 2. -/
  x : Int := 0
  /-- io.ai.value; Table 11.7, assumption 2. -/
  value : Int := 0
  /-- io.ai.valid; R371. -/
  valid : Bool := false
deriving DecidableEq, Repr

/-- One fan channel. -/
structure Fan where
  /-- fan.N.state; Table 11.1. -/
  state : FanState := .stopped
  /-- run relay closed; Table 11.1. -/
  relay : Bool := false
  /-- speed command; R375. -/
  cmd : Nat := 0
  /-- the heat has been forced down; the relay opens in a later field cycle into this state; R377. -/
  opening : Option FanState := none
  /-- the demand forced down has gone out in a field cycle; R377. -/
  openSent : Bool := false
  /-- drive-running input; R378. -/
  runIn : Bool := false
  /-- running input false since (500 ms); R381. -/
  notRunSince : Option Tick := none
  /-- tachometer edges of this run, newest first; R376. -/
  edges : List Tick := []
  /-- fan.N.rpm; R376. -/
  rpm : Nat := 0
  /-- periods measured since RUNNING began; R381. -/
  periods : Nat := 0
  /-- rpm below 20 % of the command since; R381. -/
  lowSince : Option Tick := none
  /-- T at entry to TACH-LOST, times fan.N.ppr; R381. -/
  tLost : Nat := 0
  /-- consecutive periods near T_lost; R381. -/
  good : Nat := 0
  /-- start of the window, back-off or coast; R378, R380, assumption 2. -/
  since : Tick := 0
  /-- failed attempts since the last RUNNING (fan.N.attempts); Table 11.7. -/
  attempts : BitVec 8 := 0
  /-- failed attempts of this start; R378. -/
  tries : Nat := 0
  /-- fan.N.current; Table 11.7, assumption 2. -/
  current : Nat := 0
  /-- current input valid; R381, assumption 2. -/
  currentOk : Bool := false
  /-- FAN START queued; R378. -/
  startQueued : Bool := false
deriving DecidableEq, Repr

/-- What the Keystone holds of one position. -/
structure Node where
  /-- moisture, 0.0001 %; Table 11.7, assumption 2. -/
  moist : Nat := 0
  /-- temperature; Table 11.7, assumption 2. -/
  temp : Int := 0
  /-- status; Table 11.7. -/
  status : NodeStatus := .lost
  /-- when its values were read; R390. -/
  readAt : Option Tick := none
deriving DecidableEq, Repr

/-- A sweep under way. -/
structure Sweep where
  /-- sweep number; Table 11.3. -/
  number : BitVec 8 := 0
  /-- start; R386. -/
  startAt : Tick := 0
  /-- positions of the ring when the sweep began; R387. -/
  n : Nat := 0
  /-- where the pseudocode stands; R387. -/
  phase : SweepPhase := .measOut
  /-- start of the wait or slot; R387. -/
  slotAt : Tick := 0
  /-- attempt of the read; R387. -/
  attempt : Nat := 1
  /-- positions read from OUT; R387. -/
  k : Nat := 0
  /-- positions read from RET; R387. -/
  j : Nat := 0
  /-- a valid reply arrived in the slot; R387. -/
  got : Bool := false
  /-- completion step: READ sent to the last position not yet read; R391. -/
  lastReadAt : Option Tick := none
  /-- stamp of an abort that lost; R391. -/
  stopAt : Option Tick := none
deriving DecidableEq, Repr

/-- One probe ring. -/
structure Ring where
  /-- positions 1–48; R388. -/
  nodes : List Node := List.replicate 48 {}
  /-- sweep under way (probe.r.state); R386. -/
  sweep : Option Sweep := none
  /-- next sweep number; Table 11.3, assumption 2. -/
  number : BitVec 8 := 0
  /-- probe.r.break; R389, assumption 2. -/
  breakAt : Nat := 0
  /-- probe.r.closed; R389, assumption 2. -/
  closed : Bool := false
  /-- probe.r.last; Table 11.7. -/
  last : SweepLast := .none
  /-- probe.r.time; Table 11.7. -/
  timeMs : Nat := 0
  /-- probe.r.overruns; Table 11.7. -/
  overruns : U32 := 0
  /-- last query sent: from RET?, type, distance; Table 11.3. -/
  query : Option (Bool × Nat × Nat) := none
deriving DecidableEq, Repr

/-- One KY-P probe node. -/
structure NodeDev where
  /-- serial number; Table 11.4, assumption 2. -/
  serial : U32 := 0
  /-- result of the last completed conversion; Table 11.4, assumption 2. -/
  moist : BitVec 20 := 0
  /-- result of the last completed conversion; Table 11.4, assumption 2. -/
  temp : BitVec 16 := 0
  /-- M-INVALID; Table 11.4, assumption 2. -/
  mInvalid : Bool := false
  /-- T-INVALID; Table 11.4, assumption 2. -/
  tInvalid : Bool := false
  /-- STALE: no MEASURE since it last answered a READ; Table 11.4, assumption 2. -/
  stale : Bool := true
  /-- SELFTEST failed; Table 11.4, assumption 2. -/
  selfTest : Bool := false
  /-- conversion under way since; R385. -/
  converting : Option Tick := none
  /-- last frame sent towards OUT; R385. -/
  outA : List Byte := []
  /-- last frame sent towards RET; R385. -/
  outB : List Byte := []
deriving DecidableEq, Repr

/-- How the field bank or the transport judges the crown. -/
structure DevCrown where
  /-- generation adopted; R505. -/
  gen : U32 := 0
  /-- uplink that holds the crown; R505. -/
  crownUp : Option Nat := none
  /-- generation named in a HANDOVER; R503. -/
  handover : Option U32 := none
  /-- last valid downlink frame on each uplink; R505, assumption 2. -/
  lastRx : List Tick := [0, 0]
deriving DecidableEq, Repr

/-- The field bank, fans and probe rings. -/
structure Field where
  /-- FIELD link; R366. -/
  link : LinkCtl := {}
  /-- digital inputs; R367. -/
  di : List Di := List.replicate 24 {}
  /-- tick of the latest sample of the inputs; R366, assumption 2. -/
  diAt : Tick := 0
  /-- filtered states in the latest set of inputs (io.di.state); R366, R367. -/
  diSet : BitVec 24 := 0
  /-- digital outputs; R370. -/
  dos : List Do := List.replicate 16 {}
  /-- analogue inputs; R371. -/
  ais : List Ai := List.replicate 8 {}
  /-- analogue outputs; R370. -/
  aos : List Ao := List.replicate 8 {}
  /-- outputs released (driven); Table 4.5 step 1. -/
  released : Bool := false
  /-- io.fault; R373. -/
  fault : Bool := false
  /-- io.load.v; Table 11.7, assumption 2. -/
  loadV : Nat := 0
  /-- fans 1–8; R375. -/
  fans : List Fan := List.replicate 8 {}
  /-- rings 1, 2; R386. -/
  rings : List Ring := List.replicate 2 {}
  /-- probe nodes; R385. -/
  nodeDevs : List (List NodeDev) := List.replicate 2 (List.replicate 48 {})
  /-- OUTLET_MOIST; R390, assumption 2. -/
  avgOutMoist : Nat := 0
  /-- OUTLET_TEMP; R390, assumption 2. -/
  avgOutTemp : Int := 0
  /-- INLET_MOIST; R390, assumption 2. -/
  avgInMoist : Nat := 0
  /-- probe.avg.valid; Table 11.7. -/
  avgValid : BitVec 8 := 0
  /-- sys.field.power; R540, assumption 2. -/
  power : PhantomState := .off
  /-- when the phantom power was switched off; R540, assumption 2. -/
  powerOffAt : Tick := 0
  /-- the bank's view of the crown; R505. -/
  crown : DevCrown := {}
  /-- the bank has set its outputs off; R36 (01), R505. -/
  bankOff : Bool := true
  /-- tick of the last field cycle; R366. -/
  cycleAt : Option Tick := none
deriving DecidableEq, Repr

/-- A journal frame. -/
structure Frame where
  /-- serial; R429. -/
  serial : BitVec 64 := 0
  /-- the record; R429. -/
  record : Record := {}
  /-- copied into staging; R430. -/
  staged : Bool := false
  /-- it stands in a verified ashlar; R433. -/
  verified : Bool := false
deriving DecidableEq, Repr

/-- A lot in force from a line of a run. -/
structure LotSpan where
  /-- run; R419. -/
  run : BitVec 16 := 0
  /-- begin line; R419. -/
  line : Line := 0
  /-- lot id; R419. -/
  lot : U32 := 0
deriving DecidableEq, Repr

/-- The mortar journal and its header. -/
structure Journal where
  /-- frames in serial order, oldest first; R429. -/
  frames : List Frame := []
  /-- oldest unreleased serial; R429, assumption 3. -/
  oldest : BitVec 64 := 0
  /-- instance of the cartridge being written; R429, assumption 3. -/
  instance_ : BitVec 48 := 0
  /-- next ashlar sequence number; R429, assumption 3. -/
  nextSeq : Nat := 0
  /-- lot in force; R429. -/
  lot : U32 := 0
  /-- its name; R429. -/
  lotName : List Byte := []
  /-- OPEN or SEALED; R429, assumption 3. -/
  sealed : Bool := true
deriving DecidableEq, Repr

/-- Ledger operation. -/
structure Ledger where
  /-- mortar journal; R429. -/
  journal : Journal := {}
  /-- next record serial; R420, assumption 3. -/
  serial : BitVec 64 := 0
  /-- ledger.run; R419, assumption 3. -/
  run : BitVec 16 := 0
  /-- lots of the run, newest first; R419. -/
  lots : List LotSpan := []
  /-- ledger.state; Table 13.2. -/
  state : LedgerState := .empty
  /-- ledger.op; Table 13.6. -/
  op : LedgerOp := .none
  /-- stamp of the pending ledger verb; R442, assumption 2. -/
  opAt : Tick := 0
  /-- the next data ashlar would break R410: a capstone FULL is due; R441. -/
  fullDue : Bool := false
  /-- the ledger FAULT came from a lost LEDGER link; R456. -/
  linkFault : Bool := false
  /-- UNLOAD CLOSE; R442. -/
  closeAsked : Bool := false
  /-- a LEDGER LOAD queued during an unload; R156 (04), R442. -/
  loadQueued : Bool := false
  /-- its capstone has been written; R442. -/
  capDone : Bool := false
  /-- first ashlar of VERIFY; R449. -/
  verifyFrom : Nat := 2
  /-- last ashlar of VERIFY; R449. -/
  verifyTo : Nat := 2
  /-- REPLAY asked for; R450. -/
  replay : Option ReplayReq := none
  /-- SEEK target; R448. -/
  seekTo : SeekTarget := .end_
  /-- cartridge in the transport; R438. -/
  cart : Option Cartridge := none
  /-- tape threaded; R454, assumption 2. -/
  threaded : Bool := false
  /-- ashlar being formed; R431. -/
  forming : Option Ashlar := none
  /-- closed ashlars waiting in staging; R432. -/
  closed : List Ashlar := []
  /-- ashlar being written; R443. -/
  onTape : Option Ashlar := none
  /-- blocks still due on the longest channel; R453. -/
  blocksDue : Nat := 0
  /-- written, not yet verified; R445. -/
  awaiting : List Ashlar := []
  /-- next serial the formatter takes; R431, assumption 2. -/
  fmtSerial : BitVec 64 := 0
  /-- the next data ashlar carries RESTART; Table 12.9. -/
  restartDue : Bool := true
  /-- the next data ashlar carries REDO; R455. -/
  redoDue : Bool := false
  /-- the tape streams; R443. -/
  streaming : Bool := false
  /-- ledger.speed; R443. -/
  speed : Nat := 0
  /-- ledger.rewrites; Table 13.6. -/
  rewrites : U32 := 0
  /-- ledger.abandoned; Table 13.6. -/
  abandoned : U32 := 0
  /-- ledger.redo; Table 13.6. -/
  redo : U32 := 0
  /-- ledger.lost; Table 13.6. -/
  lost : U32 := 0
  /-- last ALARM 0x7032 (once a second); R434. -/
  lostNoted : Option Tick := none
  /-- NOTE 0x7030 made for this rise; R434. -/
  warned : Bool := false
  /-- the ratio has reached 100 %; R434. -/
  full : Bool := false
  /-- cartridge counter in NOR; R412, assumption 3. -/
  counter : U32 := 0
  /-- LEDGER link; R456. -/
  link : LinkCtl := {}
  /-- the transport's view of the crown; R505. -/
  crown : DevCrown := {}
  /-- the transport has stopped writing at a block boundary; R505. -/
  stopped : Bool := false
  /-- heads unloaded; R454, assumption 2. -/
  headsUp : Bool := true
  /-- the journal's MRAM has failed a write; R458. -/
  mramFailed : Bool := false
  /-- the journal has been replayed since WAKING; R455. -/
  replayed : Bool := false
  /-- counts of the last VERIFY; R449. -/
  lastVerify : List Nat := [0,0,0,0]
  /-- bytes of the journal reserve in use; R434. -/
  reserve : Nat := 0
deriving DecidableEq, Repr

/-- Metadata of a sealed line (Table 14.2). -/
structure LineMeta where
  /-- slot of its region; Table 14.3. -/
  slot : Nat := 0
  /-- line offset within the region; R463. -/
  line : Nat := 0
  /-- counter; Table 14.2. -/
  ctr : BitVec 28 := 0
  /-- POISON; Table 14.2. -/
  poison : Bool := false
deriving DecidableEq, Repr

/-- A write held by the counter rule. -/
structure Held where
  /-- slot; R474. -/
  slot : Nat := 1
  /-- line offset; R474. -/
  line : Nat := 0
  /-- offset in the line; R474. -/
  off : Nat := 0
  /-- bytes to be written; R474. -/
  data : List Byte := []
  /-- since when it is held; R485. -/
  at_ : Tick := 0
deriving DecidableEq, Repr

/-- One key slot. -/
structure KeySlot where
  /-- seal.slot.s.state; Table 14.8. -/
  state : SlotState := .active
  /-- Ke, or the seed of a GROUT slot; Table 14.5, assumption 2. -/
  key : List Byte := []
  /-- key of the lines at or above the boundary; R471. -/
  oldKey : List Byte := []
  /-- boundary; R471. -/
  boundary : Nat := 0
  /-- seal.slot.s.alarms; R475. -/
  alarms : U32 := 0
  /-- seal.slot.s.epoch; R471. -/
  epoch : U32 := 1
  /-- last key change; R472, assumption 2. -/
  changedAt : Tick := 0
  /-- the rekey is a CLEAR; Clearing a region. -/
  clearing : Bool := false
  /-- FAULT 0x8004 made for this rekey; R474. -/
  heldNoted : Bool := false
  /-- region quarantined; R476. -/
  quarantined : Bool := false
  /-- FAULT 0x8070 made for this wait; R485. -/
  rngNoted : Bool := false
deriving DecidableEq, Repr

/-- A queued rekey. -/
structure RekeyReq where
  /-- slot; R472. -/
  slot : Nat := 1
  /-- started by the counter rule; R472. -/
  counter : Bool := false
  /-- CLEAR; Clearing a region. -/
  clear : Bool := false
deriving DecidableEq, Repr

/-- One copy of the key store in NOR. -/
structure KeyStore where
  /-- generation and CRC-32 hold; R468, assumption 3. -/
  valid : Bool := true
  /-- generation; R468, assumption 3. -/
  generation : U32 := 0
  /-- ULK (held wrapped under HUK); Table 14.5, assumption 3. -/
  ulk : List Byte := Config.manufacturedUlk
deriving DecidableEq, Repr

/-- Memory protection. -/
structure Seal where
  /-- DRAM contents in clear, canonical; an unlisted byte reads 0; R459, assumption 5. -/
  dram : List Host.Cell := []
  /-- metadata entries that are not (counter 0, not poisoned), ascending; R463. -/
  lines : List LineMeta := []
  /-- key slots; R459. -/
  slots : List KeySlot := List.replicate 16 {}
  /-- queued rekeys, next first; R472. -/
  queue : List RekeyReq := []
  /-- slot the repointer works on; R471. -/
  running : Option Nat := none
  /-- tick at which an abort began to stop the repointer, which stops after the line in progress; R473. -/
  stopping : Option Tick := none
  /-- held writes; R474. -/
  heldWrites : List Held := []
  /-- seal.cache.hits; Table 14.8. -/
  hits : U32 := 0
  /-- seal.cache.misses; Table 14.8. -/
  misses : U32 := 0
  /-- metadata lines held (slot, line), most recent first; counter/tag cache. -/
  cache : List (Nat × Nat) := []
  /-- seal.partial; Table 14.8. -/
  partial_ : U32 := 0
  /-- seal.lid; R484, assumption 2. -/
  lidOpen : Bool := false
  /-- seal.lid.count (FACT); R484, assumption 3. -/
  lidCount : U32 := 0
  /-- key store copy 0; R468. -/
  storeA : KeyStore := {}
  /-- key store copy 1; R468. -/
  storeB : KeyStore := {}
  /-- key store write under way: login id, new ULK; R481. -/
  storeBusy : Option (Nat × List Byte) := none
  /-- seal engine failed a self-check; R487. -/
  engineFailed : Bool := false
  /-- engines or JTAG sessions already reported (0x8060); R482. -/
  blocked : List Nat := []
  /-- bus error signalled by the last access; R460, R475. -/
  busError : Option BusError := none
  /-- data returned by the last access; R462, R465. -/
  readData : List Byte := []
  /-- whether the last JTAG instruction was accepted; R483. -/
  jtagLast : Option Bool := none
deriving DecidableEq, Repr

/-- The crown, the peer and the mirror. -/
structure Crown where
  /-- this Keystone holds the crown; R489. -/
  holds : Bool := false
  /-- generation held or known; R501. -/
  gen : U32 := 0
  /-- generation in MRAM; R501, assumption 3. -/
  nvGen : U32 := 0
  /-- path 1 last seen alive; R492, assumption 2. -/
  path1 : Tick := 0
  /-- path 2 last seen alive; R492, assumption 2. -/
  path2 : Tick := 0
  /-- a heartbeat has been heard since WAKING; R501. -/
  heard : Bool := false
  /-- last heartbeat received (window 7); Table 15.1. -/
  peerBeat : Option Heartbeat := none
  /-- heartbeats sent; Table 15.1. -/
  beat : U32 := 0
  /-- crown.synced; R498. -/
  synced : SyncState := .no
  /-- REBASE; R498. -/
  rebase : Bool := false
  /-- the last base chunk has been applied; R498. -/
  baseEnd : Bool := false
  /-- 0x9031 recorded for the present silence; R506. -/
  silentNoted : Bool := false
  /-- last epoch sent or applied; Table 15.7. -/
  epoch : U32 := 0
  /-- crown.lag; Table 15.7. -/
  lag : Nat := 0
  /-- crown.clock.err; Table 15.7. -/
  clockErr : Int := 0
  /-- crown.takes; Table 15.7. -/
  takes : U32 := 0
  /-- crown.dropped; Table 15.7. -/
  dropped : U32 := 0
  /-- YIELDING; R512. -/
  yielding : Bool := false
  /-- HANDOVER sent (5 ms); R513. -/
  yieldAt : Option Tick := none
  /-- CROWN YIELD waits for the next cut; R512. -/
  yieldAsked : Bool := false
  /-- HANDOVER on the LEDGER link is still to be sent; R512. -/
  ledgerHandover : Bool := false
  /-- the active has a base to send; R498. -/
  baseDue : Bool := false
  /-- a base under way: the first serial that its next chunk carries; R498. -/
  baseFrom : Option Nat := none
  /-- a base under way: the serial before which its journal frames end; R498. -/
  baseTo : Nat := 0
  /-- a base under way: the offset of its next chunk; Table 15.3. -/
  baseOff : Nat := 0
  /-- last epoch the standby has applied; R499. -/
  peerApplied : U32 := 0
  /-- epochs cut: number, next serial, next sequence number; R499. -/
  cutSeq : List (Nat × Nat × Nat) := []
  /-- notices of trailers in the epoch ring (window 8) that no epoch has answered yet: place in the ring and tick; R287, R497. -/
  notices : List (Nat × Tick) := []
  /-- epoch ring of the standby (window 8), slot and epoch; R495. -/
  ring : List (Nat × Epoch) := []
  /-- mirrored state as applied; R497. -/
  mirror : Mirror := {}
  /-- last epoch written to the standby; R495. -/
  lastSent : Option Epoch := none
  /-- committed parameter changes since the last cut; R495. -/
  changedParams : List ParamVal := []
  /-- horizon H of the crown held; R507, assumption 2. -/
  horizon : Tick := 0
  /-- courses that have not reported the new generation; R519. -/
  resendAt : List Nat := []
  /-- last CROWN sent to each course; R519, assumption 2. -/
  crownSent : List Tick := List.replicate 8 0
  /-- earliest tick of the next CONNECT for the crown and the mirror connection; R491. -/
  peerRetry : List (Option Tick) := [none, none]
deriving DecidableEq, Repr

/-- The event recorder. -/
structure Recorder where
  /-- ring records not in the store, oldest first; R525. -/
  ring : List EventRec := []
  /-- store in MRAM, ascending seq; R526. -/
  store : List EventRec := []
  /-- next seq; R521, assumption 2. -/
  next : U32 := 0
  /-- ceiling in the header; R522, assumption 3. -/
  ceiling : U32 := 0
  /-- header marked CLEAN; R522, assumption 3. -/
  clean : Bool := true
  /-- next number written at the seal; R522, assumption 3. -/
  storedNext : U32 := 0
  /-- numbering fixed in this WAKING; R522. -/
  fixed : Bool := false
  /-- events held until the numbering is fixed; R522. -/
  heldEvents : List Event := []
  /-- frozen since the last FREEZE; R530. -/
  frozen : Option Tick := none
  /-- INFO and NOTE events not recorded, by class; R531. -/
  counts : List Nat := List.replicate 16 0
  /-- ev.dropped; Table 16.4. -/
  dropped : U32 := 0
  /-- ev.overwritten; Table 16.4. -/
  overwritten : U32 := 0
  /-- a flush is due; R526. -/
  flushDue : Bool := false
  /-- a flush or ceiling write has failed; R536. -/
  mramFailed : Bool := false
  /-- last login id given; R524. -/
  login : U32 := 0
  /-- failed LOGIN responses since WAKING (sys.auth.failures); Table 2.8. -/
  authFailures : U32 := 0
deriving DecidableEq, Repr

/-- The whole block. -/
structure State where
  /-- tick and reference; ch. 1. -/
  clk : Clock := {}
  /-- LINE SYNC; ch. 1. -/
  sync : LineSync := {}
  /-- time page; Table 1.3. -/
  page : TimePage := {}
  /-- open Fjart sessions; R38. -/
  sessions : List Session := []
  /-- operations that run on after their session ended: its index and the operation; R90. -/
  orphans : List (Nat × Pending) := []
  /-- parameters, bonds, banks; ch. 3. -/
  par : Params := {}
  /-- unit state and supply; ch. 4. -/
  ctl : UnitCtl := {}
  /-- tickets and rings; ch. 5. -/
  tk : TicketCtl := {}
  /-- plumb model; ch. 6. -/
  plumb : Plumb := {}
  /-- manifolds 1–8; R249. -/
  air : List Manifold := List.replicate 8 {}
  /-- Keystone's view of courses 1–8; Table 7.4. -/
  courses : List Course := List.replicate 8 {}
  /-- the courses 1–8; ch. 7. -/
  devs : List CourseDev := List.replicate 8 {}
  /-- rotation among the sources; R29, assumption 2. -/
  rotation : Nat := 0
  /-- Ramalink; ch. 8, 9. -/
  net : Net := {}
  /-- conditioning; ch. 10. -/
  dry : Dryer := {}
  /-- field bank; ch. 11. -/
  fld : Field := {}
  /-- ledger; ch. 12, 13. -/
  led : Ledger := {}
  /-- memory protection; ch. 14. -/
  mp : Seal := {}
  /-- crown and standby; ch. 15. -/
  crown : Crown := {}
  /-- event recorder; ch. 16. -/
  evr : Recorder := {}
  /-- events raised and not yet taken into the ring, oldest first; R525. -/
  raised : List Event := []
  /-- records generated and not yet journalled, oldest first; R428. -/
  made : List Record := []
  /-- how many free values have been drawn; the MODEL's own, assumption 4. -/
  freeCount : Nat := 0
  /-- commands waiting, first in first out; the MODEL's own. -/
  pending : List Instr := []
deriving DecidableEq, Repr

/-- The machine right after reset: in DARK, never powered up since manufacture, no command waiting. Every field has the
default its declaration gives, with the rule or the assumption it comes from. -/
def State.reset : State := {}

end Sys2Proof.Machine
end

