-- ==== Sys2Proof/Machine/Ops.lean ====
section
/-! DEFINITION. The named operations that the meanings share: modular comparison, lists and byte memories, events and
ledger records, and the sessions. -/
namespace Sys2Proof.Machine

/-- What a command answers. -/
abbrev Res := Host.Outcome State Fault Refusal

/-! ### Time and modular numbers -/

/-- R19: tick `a` is before tick `b`. -/
def tickBefore (a b : Tick) : Bool := 1 ≤ (b - a).toNat && (b - a).toNat < 2 ^ 47
/-- Tick `a` is not after tick `b` (R19). -/
def tickLe (a b : Tick) : Bool := a == b || tickBefore a b
/-- Ticks from `a` to `b`, modulo 2^48. -/
def ticksFrom (a b : Tick) : Nat := (b - a).toNat
/-- Signed distance from tick `a` to tick `b` on the scale of R19. -/
def tickDist (a b : Tick) : Int := (b - a).toInt
/-- The tick `n` after `t`; `n` may be negative. -/
def tickPlus (t : Tick) (n : Int) : Tick := t + BitVec.ofInt 48 n
/-- R305: the generation after `g`: 1 to 255, in order. -/
def nextGen (g : Nat) : Nat := if g < 255 then g + 1 else 1
/-- R19 with 2^31 in place of 2^47: `a` is before `b`. -/
def u32Before (a b : U32) : Bool := 1 ≤ (b - a).toNat && (b - a).toNat < 2 ^ 31

/-- Ticks in `n` µs, ms and s. -/
def usT (n : Nat) : Nat := 4 * n
def msT (n : Nat) : Nat := 4000 * n
def secT (n : Nat) : Nat := 4000000 * n

/-- Nearest integer to `n / d`, ties away from zero (R50). -/
def roundDiv (n : Int) (d : Nat) : Int :=
  if 0 ≤ n then (2 * n + d) / (2 * d) else -((2 * (-n) + d) / (2 * d))

/-- `x` held between `lo` and `hi`. -/
def clampI (lo hi x : Int) : Int := if x < lo then lo else if hi < x then hi else x
/-- `x` held between `lo` and `hi`. -/
def clampN (lo hi x : Nat) : Nat := if x < lo then lo else if hi < x then hi else x

/-! ### Lists -/

/-- The first element that satisfies `p`, changed by `f`. -/
def updFirst {α : Type} (p : α → Bool) (f : α → α) : List α → List α
  | [] => []
  | x :: xs => if p x then f x :: xs else x :: updFirst p f xs
/-- Every element that satisfies `p`, changed by `f`. -/
def updAll {α : Type} (p : α → Bool) (f : α → α) (l : List α) : List α := l.map fun x => if p x then f x else x
/-- Element `i` changed by `f`. -/
def updAt {α : Type} (i : Nat) (f : α → α) (l : List α) : List α := l.modify i f
/-- Value of key `k` in an association list, or `d`. -/
def lookupD {α β : Type} [BEq α] (k : α) (d : β) (l : List (α × β)) : β := (l.find? (fun p => p.1 == k)).elim d (·.2)
/-- Association list with `k` bound to `v`. -/
def assocSet {α β : Type} [BEq α] (k : α) (v : β) (l : List (α × β)) : List (α × β) :=
  l.filter (fun p => !(p.1 == k)) ++ [(k, v)]
/-- The numbers `0 … n − 1` on which `p` holds. -/
def numsWhere (n : Nat) (p : Nat → Bool) : List Nat := (List.range n).filter p
/-- Sum of `f` over a list. -/
def sumOf {α : Type} (f : α → Nat) (l : List α) : Nat := l.foldl (fun a x => a + f x) 0
/-- `x` put before the first element that `before x` holds of. -/
def insertBy {α : Type} (before : α → α → Bool) (x : α) : List α → List α
  | [] => [x]
  | y :: ys => if before x y then x :: y :: ys else y :: insertBy before x ys
/-- Insertion sort. -/
def sortBy {α : Type} (before : α → α → Bool) (l : List α) : List α := l.foldl (fun a x => insertBy before x a) []

/-! ### Bytes and byte memories -/

/-- The low `n` bytes of `v`, least significant first (R8). -/
def leBytes : Nat → Nat → List Byte
  | 0, _ => []
  | n + 1, v => BitVec.ofNat 8 v :: leBytes n (v / 256)
/-- A signed number in `n` little-endian bytes. -/
def leInt (n : Nat) (v : Int) : List Byte := leBytes n (BitVec.ofInt (8 * n) v).toNat
/-- The number little-endian bytes spell (R8). -/
def leNat : List Byte → Nat
  | [] => 0
  | b :: bs => b.toNat + 256 * leNat bs
/-- The number big-endian bytes spell. -/
def beNat (l : List Byte) : Nat := leNat l.reverse
/-- The low `n` bytes of `v`, most significant first. -/
def beBytes (n v : Nat) : List Byte := (leBytes n v).reverse
/-- The ASCII bytes of a text. -/
def bytesOf (t : String) : List Byte := t.toList.map fun c => BitVec.ofNat 8 c.toNat
/-- The text of ASCII bytes. -/
def textOf (l : List Byte) : String := String.ofList (l.map fun b => Char.ofNat b.toNat)
/-- `l` cut or padded with zeros to `n` bytes. -/
def padTo (n : Nat) (l : List Byte) : List Byte := (l ++ List.replicate n 0#8).take n
/-- `n` bytes of `l` from `i`, zeros beyond its end. -/
def sliceB (l : List Byte) (i n : Nat) : List Byte := padTo n (l.drop i)

/-- The byte a memory holds at `a`; an unlisted byte reads 0. -/
def cellAt : List Host.Cell → Nat → Byte
  | [], _ => 0
  | (k, v) :: rest, a => if k = a then v else if a < k then 0 else cellAt rest a
/-- Memory with `v` at `a`, in canonical form: a zero byte is not listed. -/
def cellPut (a : Nat) (v : Byte) : List Host.Cell → List Host.Cell
  | [] => if v = 0 then [] else [(a, v)]
  | (k, w) :: rest =>
    if a < k then if v = 0 then (k, w) :: rest else (a, v) :: (k, w) :: rest
    else if a = k then if v = 0 then rest else (a, v) :: rest
    else (k, w) :: cellPut a v rest
/-- `n` bytes of a memory from `a`. -/
def readCells (m : List Host.Cell) (a : Nat) : Nat → List Byte
  | 0 => []
  | n + 1 => cellAt m a :: readCells m (a + 1) n
/-- Memory with `bs` stored from `a`. -/
def writeCells (m : List Host.Cell) (a : Nat) : List Byte → List Host.Cell
  | [] => m
  | b :: bs => writeCells (cellPut a b m) (a + 1) bs
/-- Memory with the bytes from `a` to `a + n − 1` at zero. -/
def clearCells (m : List Host.Cell) (a n : Nat) : List Host.Cell := m.filter fun c => c.1 < a || a + n ≤ c.1
/-- The canonical form of a byte memory: addresses strictly rising, no zero byte listed. -/
def Memory.wf : List Host.Cell → Bool
  | [] => true
  | [(_, v)] => v != 0
  | (k, v) :: (k', v') :: rest => k < k' && v != 0 && Memory.wf ((k', v') :: rest)

/-! ### The state's parts -/

/-- The present tick (R18); in a pair the pair tick, which the offset of R493 gives. -/
def State.now (s : State) : Tick := s.clk.tick + s.clk.delta
/-- The place in a list of the part numbered `n` from 1; 0 names no part. -/
def ix (n : Nat) : Nat := if n = 0 then 2 ^ 20 else n - 1
/-- Course `n` as the Keystone sees it, counted from 1. -/
def State.course (s : State) (n : Nat) : Course := s.courses.getD (ix n) {}
/-- Course `n` changed by `f`. -/
def State.updCourse (s : State) (n : Nat) (f : Course → Course) : State :=
  { s with courses := updAt (ix n) f s.courses }
/-- Course `n` itself. -/
def State.dev (s : State) (n : Nat) : CourseDev := s.devs.getD (ix n) {}
/-- Course `n` itself changed by `f`. -/
def State.updDev (s : State) (n : Nat) (f : CourseDev → CourseDev) : State :=
  { s with devs := updAt (ix n) f s.devs }
/-- Connection `c`. -/
def State.conn (s : State) (c : Nat) : Conn := s.net.conns.getD c {}
/-- Connection `c` changed by `f`. -/
def State.updConn (s : State) (c : Nat) (f : Conn → Conn) : State :=
  { s with net.conns := updAt c f s.net.conns }
/-- Port `p`, counted from 1 (Table 8.16). -/
def State.port (s : State) (p : Nat) : Port := s.net.ports.getD (ix p) {}
/-- Port `p` changed by `f`. -/
def State.updPort (s : State) (p : Nat) (f : Port → Port) : State :=
  { s with net.ports := updAt (ix p) f s.net.ports }
/-- Ticket source `n`, counted from 1. -/
def State.source (s : State) (n : Nat) : Source := s.tk.sources.getD (ix n) {}
/-- Ticket source `n` changed by `f`. -/
def State.updSource (s : State) (n : Nat) (f : Source → Source) : State :=
  { s with tk.sources := updAt (ix n) f s.tk.sources }
/-- Ticket with serial `t`. -/
def State.ticket? (s : State) (t : Nat) : Option Ticket := s.tk.tickets.find? fun k => k.tid == t
/-- Ticket with serial `t` changed by `f`. -/
def State.updTicket (s : State) (t : Nat) (f : Ticket → Ticket) : State :=
  { s with tk.tickets := updFirst (fun k => k.tid == t) f s.tk.tickets }
/-- Fan `n`, counted from 1. -/
def State.fan (s : State) (n : Nat) : Fan := s.fld.fans.getD (ix n) {}
/-- Fan `n` changed by `f`. -/
def State.updFan (s : State) (n : Nat) (f : Fan → Fan) : State :=
  { s with fld.fans := updAt (ix n) f s.fld.fans }
/-- Probe ring `r`, counted from 1. -/
def State.ring (s : State) (r : Nat) : Ring := s.fld.rings.getD (ix r) {}
/-- Probe ring `r` changed by `f`. -/
def State.updRing (s : State) (r : Nat) (f : Ring → Ring) : State :=
  { s with fld.rings := updAt (ix r) f s.fld.rings }
/-- Loop `n`, counted from 0. -/
def State.loop (s : State) (n : Nat) : Loop := s.dry.loops.getD n {}
/-- Loop `n` changed by `f`. -/
def State.updLoop (s : State) (n : Nat) (f : Loop → Loop) : State :=
  { s with dry.loops := updAt n f s.dry.loops }
/-- Zone `z`, counted from 1. -/
def State.zone (s : State) (z : Nat) : Zone := s.dry.zones.getD (ix z) {}
/-- Zone `z` changed by `f`. -/
def State.updZone (s : State) (z : Nat) (f : Zone → Zone) : State :=
  { s with dry.zones := updAt (ix z) f s.dry.zones }
/-- Manifold `m`, counted from 1. -/
def State.manifold (s : State) (m : Nat) : Manifold := s.air.getD (ix m) {}
/-- Manifold `m` changed by `f`. -/
def State.updManifold (s : State) (m : Nat) (f : Manifold → Manifold) : State :=
  { s with air := updAt (ix m) f s.air }
/-- Chute `n`, counted from 1. -/
def State.chute (s : State) (n : Nat) : Chute := s.plumb.chutes.getD (ix n) {}
/-- Chute `n` changed by `f`. -/
def State.updChute (s : State) (n : Nat) (f : Chute → Chute) : State :=
  { s with plumb.chutes := updAt (ix n) f s.plumb.chutes }
/-- Key slot `i` (R459). -/
def State.slot (s : State) (i : Nat) : KeySlot := s.mp.slots.getD i {}
/-- Key slot `i` changed by `f`. -/
def State.updSlot (s : State) (i : Nat) (f : KeySlot → KeySlot) : State :=
  { s with mp.slots := updAt i f s.mp.slots }
/-- Group `g`. -/
def State.group (s : State) (g : Nat) : Group := s.net.groups.getD g {}
/-- Group `g` changed by `f`. -/
def State.updGroup (s : State) (g : Nat) (f : Group → Group) : State :=
  { s with net.groups := updAt g f s.net.groups }
/-- The frame layer of a course-protocol link. -/
def State.linkOf (s : State) : LinkId → LinkCtl
  | .course n => (s.course n).link
  | .field => s.fld.link
  | .ledger => s.led.link
/-- R498: a base is due, from its first chunk on. -/
def State.startBase (s : State) : State := { s with crown.baseDue := true, crown.baseFrom := none, crown.baseOff := 0 }
/-- The frame layer of a link changed by `f`. -/
def State.updLink (s : State) (l : LinkId) (f : LinkCtl → LinkCtl) : State :=
  match l with
  | .course n => s.updCourse n fun c => { c with link := f c.link }
  | .field => { s with fld.link := f s.fld.link }
  | .ledger => { s with led.link := f s.led.link }

/-- A number with no value in the manual: the next free word (assumption 4). -/
def State.freeWord (s : State) : BitVec 64 := Config.freeWord s.freeCount
/-- The same state after one free value has been drawn. -/
def State.drew (s : State) : State := { s with freeCount := s.freeCount + 1 }
/-- The next `n` random bytes. -/
def State.randomBytes (s : State) (n : Nat) : List Byte := padTo n (Config.random s.freeCount n)

/-- The code of a unit state (Table 4.1). -/
def stateCode : UnitState → Nat
  | .dark => 0 | .waking => 1 | .held => 2 | .ready => 3 | .run => 4 | .drain => 5 | .fault => 6 | .standby => 7
  | .collapse => 8
/-- The name of a unit state (Table 4.1). -/
def stateText : UnitState → String
  | .dark => "DARK" | .waking => "WAKING" | .held => "HELD" | .ready => "READY" | .run => "RUN" | .drain => "DRAIN"
  | .fault => "FAULT" | .standby => "STANDBY" | .collapse => "COLLAPSE"
/-- R135: what the front status display shows: the name of the unit's state; in DARK nothing, or NO IMAGE after step 1 of the self-test
has found both firmware images bad (Table 4.2). -/
def State.frontDisplay (s : State) : String :=
  if s.ctl.state != .dark then stateText s.ctl.state else if s.ctl.noImage then "NO IMAGE" else ""
/-- The unit is in one of the listed states. -/
def State.inAny (s : State) (l : List UnitState) : Bool := l.contains s.ctl.state
/-- The electronics of the Keystone run: every state but DARK. -/
def State.awake (s : State) : Bool := s.ctl.state != .dark

/-! ### Events (chapter 16) and records (chapter 12) -/

/-- The event is raised; EVENT_RECORD takes it into the ring (R525). -/
def State.raise (s : State) (e : Event) : State := { s with raised := s.raised ++ [e] }
/-- The event with code `code`, source kind and index, and parameters, is raised. -/
def State.event (s : State) (code kind index : Nat) (p0 : Nat := 0) (p1 : Nat := 0) (p2 : Nat := 0) (p3 : Nat := 0) :
    State :=
  s.raise { code := code, kind := kind, index := index, p0 := BitVec.ofNat 32 p0, p1 := BitVec.ofNat 32 p1,
            p2 := BitVec.ofNat 32 p2, p3 := BitVec.ofNat 32 p3 }
/-- A tick as two event parameters: [31:0] and [47:32] (Table 16.3). -/
def tickLo (t : Tick) : Nat := t.toNat % 2 ^ 32
def tickHi (t : Tick) : Nat := t.toNat / 2 ^ 32

/-- R419: the lot in force at a line of a run: the newest span of the run that begins at or before it. -/
def lotAt (spans : List LotSpan) (run : BitVec 16) (line : Line) : U32 :=
  ((spans.filter fun x => x.run == run && (x.line == line || u32Before x.line line)).head?).elim 0 (·.lot)
/-- A record generated at line `line`; with line sync stopped it carries NO-LINE and line 0 (Table 12.11). -/
def State.makeRecord (s : State) (typ : Nat) (line : Option Line) (body : List Byte) : State :=
  { s with made := s.made ++
    [{ typ := BitVec.ofNat 8 typ, noLine := line.isNone, run := s.led.run, line := line.getD 0,
       lot := lotAt s.led.lots s.led.run (line.getD 0), body := body }] }
/-- The current line, when line sync runs. -/
def State.lineNow (s : State) : Option Line := if s.sync.running && s.sync.started then some s.sync.line else none

/-! ### Sessions and texts (chapter 2) -/

/-- The open session with index `i`. -/
def State.session? (s : State) (i : Nat) : Option Session := s.sessions.find? fun x => x.idx == i
/-- Session `i` changed by `f`. -/
def State.updSession (s : State) (i : Nat) (f : Session → Session) : State :=
  { s with sessions := updFirst (fun x => x.idx == i) f s.sessions }
/-- Order of the privilege levels (Table 2.6). -/
def levelRank : Level → Nat
  | .none => 0 | .view => 1 | .operate => 2 | .engineer => 3 | .factory => 4
/-- Order of the severities. -/
def sevRank : Severity → Nat
  | .info => 0 | .note => 1 | .fault => 2 | .alarm => 3
/-- The name of a severity in a line. -/
def sevName : Severity → String
  | .info => "INFO" | .note => "NOTE" | .fault => "FAULT" | .alarm => "ALARM"

/-- A decimal number as text. -/
def natText (n : Nat) : String := toString n
/-- `v` as exactly `n` decimal digits. -/
def digitsText : Nat → Nat → String
  | 0, _ => ""
  | n + 1, v => digitsText n (v / 10) ++ toString (v % 10)
/-- sys.serial (R81): `K6` and eight decimal digits. -/
def unitSerial : List Byte := bytesOf ("K6" ++ digitsText 8 (Config.serialNumber % 100000000))
/-- One upper-case hex digit. -/
def hexDigit (n : Nat) : Char := if n < 10 then Char.ofNat (48 + n) else Char.ofNat (55 + n)
/-- `d` upper-case hex digits of `n`. -/
def hexText : Nat → Nat → String
  | 0, _ => ""
  | d + 1, n => hexText d (n / 16) ++ String.ofList [hexDigit (n % 16)]

/-- No event of this block stops the machine: the meaning answers a next state. -/
def go (s : State) : Res := .next s

end Sys2Proof.Machine
end

