-- ==== Sys2Proof/Machine/ParamTable.lean ====
section
/-! DEFINITION. The parameter tree (chapter 3 and the table "Verbs and parameters" of every chapter), one row per family.
In a path, "#" stands for the member of an indexed family and "@" for the element of an array (R94, R95, R217). Bounds and
defaults are raw values; a value is its raw number times stepN / stepD of its native unit (R97). -/
namespace Sys2Proof.Machine

/-- Table 3.2. -/
inductive PType where
  | uint (w : Nat) | sint (w : Nat) | enum (names : List String) | fix (signed : Bool) (w frac : Nat) | str (n : Nat)
deriving DecidableEq, Repr

/-- Table 3.3. -/
inductive PClass where
  | live | kept | cal | fact
deriving DecidableEq, Repr

/-- Whether a parameter is read-only or write-only. -/
inductive PAccess where
  | rw | ro | wo
deriving DecidableEq, Repr

/-- The bond family a parameter belongs to (Table 3.8, R435). -/
inductive BondFam where
  | sync | lot | geometry | limits | tach
deriving DecidableEq, Repr

/-- One row of a parameter table. -/
structure PDesc where
  base   : Nat
  stride : Nat := 0
  count  : Nat := 1
  elems  : Nat := 0
  path   : List String
  typ    : PType
  unit   : Option Suffix := none
  stepN  : Nat := 1
  stepD  : Nat := 1
  cls    : PClass := .live
  acc    : PAccess := .rw
  lo     : Int := 0
  hi     : Int := 0
  dflt   : Int := 0
  level  : Option Level := none
  bond   : Option BondFam := none
deriving DecidableEq, Repr

/-- Parameters of the area `sys`, part 1 (Table 3.1). -/
def paramsSys1 : List PDesc := [
  { base := 0x0001, path := ["sys", "serial"], typ := .str 10, cls := .fact, acc := .ro },
  { base := 0x0002, path := ["sys", "courses"], typ := .uint 8, cls := .kept, lo := 1, hi := 8, dflt := 1,
    bond := some .geometry },
  { base := 0x0003, path := ["sys", "standby"], typ := .enum ["NONE", "PAIRED"], cls := .kept, lo := 0, hi := 1 },
  { base := 0x0010, path := ["sys", "state"], typ := .enum ["DARK", "WAKING", "HELD", "READY", "RUN", "DRAIN",
    "FAULT", "STANDBY", "COLLAPSE"], acc := .ro, lo := 0, hi := 8 },
  { base := 0x0011, path := ["sys", "fault", "causes"], typ := .uint 32, acc := .ro, lo := 0, hi := 4294967295 },
  { base := 0x0012, path := ["sys", "start"], typ := .enum ["HOLD", "READY"], cls := .kept, lo := 0, hi := 1 },
  { base := 0x0013, path := ["sys", "run", "ledger"], typ := .enum ["NO", "YES"], cls := .kept, lo := 0, hi := 1,
    dflt := 1 },
  { base := 0x0014, path := ["sys", "drain", "limit"], typ := .uint 32, cls := .kept, unit := some .s, lo := 1,
    hi := 7200, dflt := 900 },
  { base := 0x0015, path := ["sys", "holdup", "ok"], typ := .enum ["NO", "YES"], acc := .ro, lo := 0, hi := 1 },
  { base := 0x0016, path := ["sys", "holdup", "energy"], typ := .uint 16, acc := .ro, unit := some .pct, lo := 0,
    hi := 65535 },
  { base := 0x0017, path := ["sys", "supply", "a"], typ := .uint 16, acc := .ro, unit := some .V, stepN := 1,
    stepD := 100, lo := 0, hi := 65535 },
  { base := 0x0018, path := ["sys", "supply", "b"], typ := .uint 16, acc := .ro, unit := some .V, stepN := 1,
    stepD := 100, lo := 0, hi := 65535 },
  { base := 0x0019, path := ["sys", "supply", "bus"], typ := .uint 16, acc := .ro, unit := some .V, stepN := 1,
    stepD := 100, lo := 0, hi := 65535 },
  { base := 0x001A, path := ["sys", "collapse", "count"], typ := .uint 32, cls := .fact, acc := .ro, lo := 0,
    hi := 4294967295 },
  { base := 0x001B, path := ["sys", "waking", "time"], typ := .uint 16, acc := .ro, unit := some .ms, lo := 0,
    hi := 65535 },
  { base := 0x0020, path := ["sys", "console", "baud"], typ := .uint 32, cls := .kept, lo := 9600, hi := 921600,
    dflt := 115200 },
  { base := 0x0021, path := ["sys", "console", "flow"], typ := .enum ["NONE", "RTSCTS"], cls := .kept, lo := 0,
    hi := 1 },
  { base := 0x0022, path := ["sys", "console", "idle"], typ := .uint 32, cls := .kept, unit := some .s, lo := 0,
    hi := 14400, dflt := 900 },
  { base := 0x0023, path := ["sys", "console", "events"], typ := .enum ["INFO", "NOTE", "FAULT"], cls := .kept,
    lo := 0, hi := 2, dflt := 2 },
  { base := 0x0024, path := ["sys", "text", "events"], typ := .enum ["NONE", "INFO", "NOTE", "FAULT", "ALARM"],
    cls := .kept, lo := 0, hi := 4 },
  { base := 0x0025, path := ["sys", "sessions"], typ := .uint 8, acc := .ro, lo := 0, hi := 255 },
  { base := 0x0040, path := ["sys", "auth", "operate", "key"], typ := .str 64, cls := .kept, acc := .wo },
  { base := 0x0041, path := ["sys", "auth", "engineer", "key"], typ := .str 64, cls := .kept, acc := .wo },
  { base := 0x0042, path := ["sys", "auth", "failures"], typ := .uint 32, acc := .ro, lo := 0, hi := 4294967295 }]

/-- Parameters of the area `sys`, part 2 (Table 3.1). -/
def paramsSys2 : List PDesc := [
  { base := 0x0050, path := ["sys", "config", "source"], typ := .enum ["A", "B", "FACTORY", "WINDOW"], acc := .ro,
    lo := 0, hi := 3 },
  { base := 0x0051, path := ["sys", "config", "generation"], typ := .uint 32, acc := .ro, lo := 0, hi := 4294967295 },
  { base := 0x0052, path := ["sys", "config", "accepted"], typ := .enum ["NO", "YES"], acc := .ro, lo := 0, hi := 1 },
  { base := 0x0053, path := ["sys", "config", "bank", "a"], typ := .enum ["VALID", "INVALID"], acc := .ro, lo := 0,
    hi := 1 },
  { base := 0x0054, path := ["sys", "config", "bank", "b"], typ := .enum ["VALID", "INVALID"], acc := .ro, lo := 0,
    hi := 1 },
  { base := 0x0055, path := ["sys", "bonds", "open"], typ := .uint 8, acc := .ro, lo := 0, hi := 255 },
  { base := 0x0060, path := ["sys", "temp"], typ := .sint 20, acc := .ro, unit := some .C, lo := -524288,
    hi := 524287 },
  { base := 0x0061, path := ["sys", "cool", "fans"], typ := .uint 8, acc := .ro, lo := 0, hi := 255 },
  { base := 0x0062, path := ["sys", "cool", "rpm", "@"], typ := .uint 16, acc := .ro, elems := 3,
    unit := some .rpm, lo := 0, hi := 65535 },
  { base := 0x0063, path := ["sys", "field", "power"], typ := .enum ["ON", "LIMIT", "OFF"], acc := .ro, lo := 0,
    hi := 2 }]

/-- Parameters of the area `port`, part 1 (Table 3.1). -/
def paramsPort1 : List PDesc := [
  { base := 0x0100, path := ["port", "#", "link"], typ := .enum ["DOWN", "UP"], acc := .ro, stride := 0x10,
    count := 7, lo := 0, hi := 1 },
  { base := 0x0101, path := ["port", "#", "ethertype"], typ := .uint 16, cls := .kept, stride := 0x10, count := 7,
    lo := 1536, hi := 65535, dflt := 34997 },
  { base := 0x0102, path := ["port", "#", "vlan"], typ := .enum ["OFF", "ON"], cls := .kept, stride := 0x10,
    count := 7, lo := 0, hi := 1 },
  { base := 0x0103, path := ["port", "#", "vid"], typ := .uint 16, cls := .kept, stride := 0x10, count := 7,
    lo := 1, hi := 4094, dflt := 1 },
  { base := 0x0104, path := ["port", "#", "pcp"], typ := .uint 8, cls := .kept, stride := 0x10, count := 7,
    lo := 0, hi := 7, dflt := 6 },
  { base := 0x0105, path := ["port", "#", "secret"], typ := .str 64, cls := .kept, acc := .wo, stride := 0x10,
    count := 7 },
  { base := 0x0106, path := ["port", "#", "max_conns"], typ := .uint 8, cls := .kept, stride := 0x10, count := 7,
    lo := 1, hi := 64, dflt := 8 },
  { base := 0x0107, path := ["port", "#", "rto"], typ := .uint 16, cls := .kept, stride := 0x10, count := 7,
    unit := some .us, lo := 100, hi := 10000, dflt := 500 },
  { base := 0x0108, path := ["port", "#", "retry"], typ := .uint 8, cls := .kept, stride := 0x10, count := 7,
    lo := 1, hi := 15, dflt := 7 },
  { base := 0x0109, path := ["port", "#", "rnr_retry"], typ := .uint 8, cls := .kept, stride := 0x10, count := 7,
    lo := 0, hi := 15, dflt := 7 },
  { base := 0x010A, path := ["port", "#", "window"], typ := .uint 16, cls := .kept, stride := 0x10, count := 7,
    lo := 16, hi := 1024, dflt := 256 },
  { base := 0x010B, path := ["port", "#", "silence"], typ := .uint 16, cls := .kept, stride := 0x10, count := 7,
    unit := some .ms, lo := 2, hi := 1000, dflt := 10 },
  { base := 0x010C, path := ["port", "#", "rekey"], typ := .uint 8, cls := .kept, stride := 0x10, count := 7,
    unit := some .h, lo := 1, hi := 24, dflt := 24 },
  { base := 0x010D, path := ["port", "#", "authfail"], typ := .uint 32, acc := .ro, stride := 0x10, count := 7,
    lo := 0, hi := 4294967295 },
  { base := 0x010E, path := ["port", "#", "drops"], typ := .uint 32, acc := .ro, stride := 0x10, count := 7,
    lo := 0, hi := 4294967295 },
  { base := 0x010F, path := ["port", "#", "mac"], typ := .str 17, acc := .ro, stride := 0x10, count := 7 },
  { base := 0x0180, path := ["port", "conn", "@", "state"], typ := .enum ["CLOSED", "OPENING", "READY", "ERROR",
    "CLOSING"], acc := .ro, elems := 64, lo := 0, hi := 4 },
  { base := 0x0181, path := ["port", "conn", "@", "port"], typ := .enum ["NONE", "CLS-A", "CLS-B", "CLS-C",
    "CLS-D", "SUP", "SUP-T", "PEER"], acc := .ro, elems := 64, lo := 0, hi := 7 },
  { base := 0x0182, path := ["port", "conn", "@", "reason"], typ := .enum ["NONE", "PEER-CLOSE", "LOCAL-CLOSE",
    "VIOLATION-SENT", "VIOLATION-RECEIVED", "RETRY", "RNR", "SILENCE", "LINK-DOWN", "WAIT-BROKEN", "NONCE-LIMIT",
    "EPOCH-LIMIT"], acc := .ro, elems := 64, lo := 0, hi := 11 },
  { base := 0x0183, path := ["port", "conn", "@", "epoch"], typ := .uint 32, acc := .ro, elems := 64, lo := 0,
    hi := 4294967295 },
  { base := 0x0184, path := ["port", "conn", "@", "fseq_hi"], typ := .uint 16, acc := .ro, elems := 64, lo := 0,
    hi := 65535 },
  { base := 0x0185, path := ["port", "conn", "@", "fseq_lo"], typ := .uint 32, acc := .ro, elems := 64, lo := 0,
    hi := 4294967295 },
  { base := 0x0186, path := ["port", "conn", "@", "retx"], typ := .uint 32, acc := .ro, elems := 64, lo := 0,
    hi := 4294967295 },
  { base := 0x0187, path := ["port", "conn", "@", "sq"], typ := .uint 16, acc := .ro, elems := 64, lo := 0,
    hi := 65535 }]

/-- Parameters of the area `port`, part 2 (Table 3.1). -/
def paramsPort2 : List PDesc := [
  { base := 0x0188, path := ["port", "conn", "@", "cq"], typ := .uint 32, acc := .ro, elems := 64, lo := 0,
    hi := 4294967295 },
  { base := 0x0189, path := ["port", "conn", "@", "fullkey"], typ := .uint 8, acc := .ro, elems := 64, lo := 0,
    hi := 255 },
  { base := 0x0190, path := ["port", "#", "rq"], typ := .uint 16, cls := .kept, stride := 0x1, count := 7, lo := 1,
    hi := 1024, dflt := 8 },
  { base := 0x0198, path := ["port", "#", "ticket"], typ := .uint 8, cls := .kept, stride := 0x1, count := 7,
    unit := some .us, lo := 4, hi := 40, dflt := 20 },
  { base := 0x01A0, path := ["port", "group", "@", "mode"], typ := .enum ["FREE", "RELIABLE", "UNRELIABLE"],
    cls := .kept, elems := 16, lo := 0, hi := 2 },
  { base := 0x01A1, path := ["port", "group", "@", "ports"], typ := .uint 8, cls := .kept, elems := 16, lo := 0,
    hi := 127 },
  { base := 0x01A2, path := ["port", "group", "@", "conns_hi"], typ := .uint 32, acc := .ro, elems := 16, lo := 0,
    hi := 4294967295 },
  { base := 0x01A3, path := ["port", "group", "@", "conns_lo"], typ := .uint 32, acc := .ro, elems := 16, lo := 0,
    hi := 4294967295 },
  { base := 0x01A4, path := ["port", "group", "@", "post"], typ := .uint 8, cls := .kept, elems := 16, lo := 0,
    hi := 127 },
  { base := 0x01A5, path := ["port", "group", "@", "timeout"], typ := .uint 16, cls := .kept, elems := 16,
    unit := some .ms, stepN := 1, stepD := 10, lo := 5, hi := 1000, dflt := 50 },
  { base := 0x01A6, path := ["port", "group", "@", "class"], typ := .enum ["BULK", "TICKET"], cls := .kept,
    elems := 16, lo := 0, hi := 1 },
  { base := 0x01A7, path := ["port", "group", "@", "gsn"], typ := .uint 32, acc := .ro, elems := 16, lo := 0,
    hi := 4294967295 },
  { base := 0x01A8, path := ["port", "group", "@", "partial"], typ := .uint 32, acc := .ro, elems := 16, lo := 0,
    hi := 4294967295 },
  { base := 0x01A9, path := ["port", "group", "@", "busy"], typ := .uint 32, acc := .ro, elems := 16, lo := 0,
    hi := 4294967295 },
  { base := 0x01B0, path := ["port", "win", "free"], typ := .uint 16, acc := .ro, lo := 0, hi := 65535 },
  { base := 0x01C0, path := ["port", "#", "held"], typ := .uint 32, acc := .ro, stride := 0x1, count := 7, lo := 0,
    hi := 4294967295 },
  { base := 0x01C8, path := ["port", "#", "local"], typ := .uint 32, acc := .ro, stride := 0x1, count := 7,
    lo := 0, hi := 4294967295 },
  { base := 0x01D0, path := ["port", "#", "module"], typ := .enum ["NONE", "SR", "LR", "UNSUPPORTED", "COPPER"],
    acc := .ro, stride := 0x1, count := 7, lo := 0, hi := 4 },
  { base := 0x01D8, path := ["port", "#", "rx_power"], typ := .sint 20, acc := .ro, stride := 0x1, count := 7,
    unit := some .dBm, stepN := 1, stepD := 10, lo := -524288, hi := 524287 }]

/-- Parameters of the area `tick` (Table 3.1). -/
def paramsTick : List PDesc := [
  { base := 0x0200, path := ["sync", "rate"], typ := .uint 32, cls := .kept, unit := some .Hz, lo := 1000,
    hi := 60000, dflt := 20000, bond := some .sync },
  { base := 0x0201, path := ["sync", "out", "#", "enable"], typ := .enum ["OFF", "ON"], cls := .kept,
    stride := 0x1, count := 4, lo := 0, hi := 1, dflt := 1 },
  { base := 0x0210, path := ["tick", "now", "hi"], typ := .uint 16, acc := .ro, lo := 0, hi := 65535 },
  { base := 0x0211, path := ["tick", "now", "lo"], typ := .uint 32, acc := .ro, lo := 0, hi := 4294967295 },
  { base := 0x0212, path := ["line", "now"], typ := .uint 32, acc := .ro, lo := 0, hi := 4294967295 },
  { base := 0x0213, path := ["tick", "ref", "lock"], typ := .enum ["LOCKED", "UNLOCKED"], acc := .ro, lo := 0,
    hi := 1 }]

/-- Parameters of the area `plumb`, part 1 (Table 3.1). -/
def paramsPlumb1 : List PDesc := [
  { base := 0x0300, path := ["plumb", "#", "drop"], typ := .uint 20, cls := .kept, stride := 0x10, count := 8,
    unit := some .um, lo := 20000, hi := 500000, dflt := 150000, bond := some .geometry },
  { base := 0x0301, path := ["plumb", "#", "row_offset"], typ := .sint 20, cls := .kept, stride := 0x10,
    count := 8, unit := some .um, stepN := 10, stepD := 1, lo := -500000, hi := 500000, bond := some .geometry },
  { base := 0x0302, path := ["plumb", "#", "v0"], typ := .uint 20, cls := .kept, stride := 0x10, count := 8,
    unit := some .mps, stepN := 1, stepD := 100000, lo := 0, hi := 1000000 },
  { base := 0x0303, path := ["plumb", "#", "v_lo"], typ := .uint 20, cls := .cal, stride := 0x10, count := 8,
    unit := some .mps, stepN := 1, stepD := 100000, lo := 100000, hi := 950000, dflt := 200000 },
  { base := 0x0304, path := ["plumb", "#", "v_hi"], typ := .uint 20, cls := .cal, stride := 0x10, count := 8,
    unit := some .mps, stepN := 1, stepD := 100000, lo := 150000, hi := 1000000, dflt := 500000 },
  { base := 0x0305, path := ["plumb", "#", "lead", "primed"], typ := .sint 20, cls := .cal, stride := 0x10,
    count := 8, unit := some .tick, lo := -8000, hi := 8000, dflt := -1000 },
  { base := 0x0306, path := ["plumb", "#", "lead", "cold"], typ := .sint 20, cls := .cal, stride := 0x10,
    count := 8, unit := some .tick, lo := -8000, hi := 8000, dflt := -2600 },
  { base := 0x0307, path := ["plumb", "#", "t", "@"], typ := .uint 20, acc := .ro, stride := 0x10, count := 8,
    elems := 64, lo := 0, hi := 1048575 },
  { base := 0x0308, path := ["plumb", "#", "s", "@"], typ := .uint 20, acc := .ro, stride := 0x10, count := 8,
    elems := 64, lo := 0, hi := 1048575 },
  { base := 0x0309, path := ["plumb", "#", "r", "@"], typ := .fix false 20 16, acc := .ro, stride := 0x10,
    count := 8, elems := 64, stepN := 1, stepD := 65536, lo := 0, hi := 1048575 },
  { base := 0x030A, path := ["plumb", "#", "corr", "@"], typ := .sint 20, cls := .cal, stride := 0x10, count := 8,
    elems := 64, unit := some .tick, lo := -524288, hi := 524287 },
  { base := 0x030B, path := ["plumb", "#", "clamped"], typ := .uint 32, acc := .ro, stride := 0x10, count := 8,
    lo := 0, hi := 4294967295 },
  { base := 0x030C, path := ["plumb", "#", "sat"], typ := .uint 32, acc := .ro, stride := 0x10, count := 8,
    lo := 0, hi := 4294967295 },
  { base := 0x030D, path := ["plumb", "#", "learn"], typ := .enum ["IDLE", "LEARNING"], acc := .ro, stride := 0x10,
    count := 8, lo := 0, hi := 1 },
  { base := 0x0380, path := ["plumb", "line_pitch"], typ := .uint 20, cls := .kept, unit := some .um, lo := 10,
    hi := 5000, dflt := 150, bond := some .sync },
  { base := 0x0381, path := ["plumb", "gravity"], typ := .fix false 20 16, cls := .kept, unit := some .mps2,
    stepN := 1, stepD := 65536, lo := 635700, hi := 648806, dflt := 642689 },
  { base := 0x0382, path := ["plumb", "moist"], typ := .uint 16, acc := .ro, unit := some .pct, stepN := 1,
    stepD := 100, lo := 0, hi := 65535 },
  { base := 0x0383, path := ["plumb", "band"], typ := .uint 8, acc := .ro, lo := 0, hi := 255 },
  { base := 0x0384, path := ["plumb", "band", "hyst"], typ := .uint 16, cls := .kept, unit := some .pct,
    stepN := 1, stepD := 100, lo := 5, hi := 200, dflt := 20 },
  { base := 0x0385, path := ["plumb", "band", "default"], typ := .uint 8, cls := .kept, lo := 0, hi := 7, dflt := 3 },
  { base := 0x0386, path := ["plumb", "band", "edge", "1"], typ := .uint 16, cls := .kept, unit := some .pct,
    stepN := 1, stepD := 100, lo := 0, hi := 10000, dflt := 1000 },
  { base := 0x0387, path := ["plumb", "band", "edge", "2"], typ := .uint 16, cls := .kept, unit := some .pct,
    stepN := 1, stepD := 100, lo := 0, hi := 10000, dflt := 1100 },
  { base := 0x0388, path := ["plumb", "band", "edge", "3"], typ := .uint 16, cls := .kept, unit := some .pct,
    stepN := 1, stepD := 100, lo := 0, hi := 10000, dflt := 1200 },
  { base := 0x0389, path := ["plumb", "band", "edge", "4"], typ := .uint 16, cls := .kept, unit := some .pct,
    stepN := 1, stepD := 100, lo := 0, hi := 10000, dflt := 1300 }]

/-- Parameters of the area `plumb`, part 2 (Table 3.1). -/
def paramsPlumb2 : List PDesc := [
  { base := 0x038A, path := ["plumb", "band", "edge", "5"], typ := .uint 16, cls := .kept, unit := some .pct,
    stepN := 1, stepD := 100, lo := 0, hi := 10000, dflt := 1400 },
  { base := 0x038B, path := ["plumb", "band", "edge", "6"], typ := .uint 16, cls := .kept, unit := some .pct,
    stepN := 1, stepD := 100, lo := 0, hi := 10000, dflt := 1500 },
  { base := 0x038C, path := ["plumb", "band", "edge", "7"], typ := .uint 16, cls := .kept, unit := some .pct,
    stepN := 1, stepD := 100, lo := 0, hi := 10000, dflt := 1600 },
  { base := 0x0390, path := ["plumb", "group", "map", "@"], typ := .uint 8, cls := .kept, elems := 256, lo := 0,
    hi := 15 },
  { base := 0x0391, path := ["plumb", "drag", "@"], typ := .fix false 20 20, cls := .cal, elems := 128, stepN := 1,
    stepD := 1048576, lo := 0, hi := 1048575, dflt := 83886 },
  { base := 0x0392, path := ["plumb", "learn", "class"], typ := .uint 8, cls := .kept, lo := 0, hi := 255,
    dflt := 255 },
  { base := 0x0393, path := ["plumb", "learn", "span"], typ := .uint 16, cls := .kept, unit := some .tick,
    lo := 50, hi := 4000, dflt := 400 },
  { base := 0x0394, path := ["plumb", "learn", "step"], typ := .uint 16, cls := .kept, unit := some .tick,
    lo := 10, hi := 1000, dflt := 50 },
  { base := 0x0395, path := ["plumb", "learn", "reps"], typ := .uint 8, cls := .kept, lo := 1, hi := 16, dflt := 4 },
  { base := 0x0396, path := ["plumb", "learn", "min"], typ := .uint 16, cls := .kept, lo := 1, hi := 4096,
    dflt := 34 },
  { base := 0x0397, path := ["plumb", "learn", "air"], typ := .uint 16, cls := .kept, unit := some .us, lo := 200,
    hi := 20000, dflt := 500 },
  { base := 0x0398, path := ["plumb", "learn", "limit"], typ := .uint 16, cls := .kept, unit := some .s, lo := 10,
    hi := 3600, dflt := 600 }]

/-- Parameters of the area `course`, part 1 (Table 3.1). -/
def paramsCourse1 : List PDesc := [
  { base := 0x0400, path := ["course", "#", "channels"], typ := .uint 8, cls := .kept, stride := 0x20, count := 8,
    lo := 1, hi := 64, dflt := 64, bond := some .geometry },
  { base := 0x0401, path := ["course", "#", "pitch"], typ := .uint 20, cls := .kept, stride := 0x20, count := 8,
    unit := some .um, lo := 5000, hi := 25000, dflt := 12500, bond := some .geometry },
  { base := 0x0402, path := ["course", "#", "state"], typ := .enum ["OFF", "ENABLING", "ON", "DRAINING"],
    acc := .ro, stride := 0x20, count := 8, lo := 0, hi := 3 },
  { base := 0x0403, path := ["course", "#", "boost", "set"], typ := .uint 16, cls := .kept, stride := 0x20,
    count := 8, unit := some .V, stepN := 1, stepD := 10, lo := 480, hi := 720, dflt := 600 },
  { base := 0x0404, path := ["course", "#", "boost", "v"], typ := .uint 16, acc := .ro, stride := 0x20, count := 8,
    unit := some .V, stepN := 1, stepD := 10, lo := 0, hi := 65535 },
  { base := 0x0405, path := ["course", "#", "boost", "ready"], typ := .enum ["NO", "YES"], acc := .ro,
    stride := 0x20, count := 8, lo := 0, hi := 1 },
  { base := 0x0406, path := ["course", "#", "boost", "phases"], typ := .uint 8, acc := .ro, stride := 0x20,
    count := 8, lo := 0, hi := 255 },
  { base := 0x0407, path := ["course", "#", "boost", "phase"], typ := .uint 32, acc := .ro, stride := 0x20,
    count := 8, lo := 0, hi := 4294967295 },
  { base := 0x0408, path := ["course", "#", "sim_limit"], typ := .uint 8, cls := .kept, stride := 0x20, count := 8,
    lo := 1, hi := 64, dflt := 16 },
  { base := 0x0409, path := ["course", "#", "sim_eff"], typ := .uint 8, acc := .ro, stride := 0x20, count := 8,
    lo := 0, hi := 255 },
  { base := 0x040A, path := ["course", "#", "prof", "peak", "@"], typ := .uint 16, cls := .kept, stride := 0x20,
    count := 8, elems := 8, unit := some .mA, lo := 500, hi := 2500, dflt := 1500 },
  { base := 0x040B, path := ["course", "#", "prof", "tpeak", "@"], typ := .uint 16, cls := .kept, stride := 0x20,
    count := 8, elems := 8, unit := some .us, lo := 100, hi := 1000, dflt := 400 },
  { base := 0x040C, path := ["course", "#", "prof", "hold", "@"], typ := .uint 16, cls := .kept, stride := 0x20,
    count := 8, elems := 8, unit := some .mA, lo := 100, hi := 800, dflt := 300 },
  { base := 0x040D, path := ["course", "#", "prof", "points", "@"], typ := .uint 8, cls := .kept, stride := 0x20,
    count := 8, elems := 8, lo := 0, hi := 16 },
  { base := 0x040E, path := ["course", "#", "prof", "ramp_t", "@"], typ := .uint 16, cls := .kept, stride := 0x20,
    count := 8, elems := 128, unit := some .us, lo := 0, hi := 2000 },
  { base := 0x040F, path := ["course", "#", "prof", "ramp_i", "@"], typ := .uint 16, cls := .kept, stride := 0x20,
    count := 8, elems := 128, unit := some .mA, lo := 100, hi := 2500, dflt := 300 },
  { base := 0x0410, path := ["course", "#", "ch", "@", "mode"], typ := .enum ["EXTEND", "SEPARATE"], cls := .kept,
    stride := 0x20, count := 8, elems := 64, lo := 0, hi := 1 },
  { base := 0x0411, path := ["course", "#", "ch", "@", "t_off"], typ := .uint 16, cls := .kept, stride := 0x20,
    count := 8, elems := 64, unit := some .us, lo := 300, hi := 5000, dflt := 800 },
  { base := 0x0412, path := ["course", "#", "ch", "@", "profile"], typ := .uint 8, cls := .kept, stride := 0x20,
    count := 8, elems := 64, lo := 0, hi := 7 },
  { base := 0x0413, path := ["course", "#", "ch", "@", "prime_lead"], typ := .uint 16, cls := .kept,
    stride := 0x20, count := 8, elems := 64, unit := some .us, lo := 0, hi := 1200, dflt := 600 },
  { base := 0x0414, path := ["course", "#", "ch", "@", "prime_ceil"], typ := .uint 8, cls := .kept, stride := 0x20,
    count := 8, elems := 64, unit := some .pct, lo := 10, hi := 45, dflt := 30 },
  { base := 0x0415, path := ["course", "#", "ch", "@", "air"], typ := .uint 16, cls := .kept, stride := 0x20,
    count := 8, elems := 64, unit := some .us, lo := 200, hi := 20000, dflt := 2000 },
  { base := 0x0416, path := ["course", "#", "ch", "@", "duty"], typ := .uint 16, acc := .ro, stride := 0x20,
    count := 8, elems := 64, unit := some .pct, stepN := 1, stepD := 10, lo := 0, hi := 65535 },
  { base := 0x0417, path := ["course", "#", "duty_warn"], typ := .uint 16, cls := .kept, stride := 0x20,
    count := 8, unit := some .pct, stepN := 1, stepD := 10, lo := 10, hi := 1000, dflt := 250 }]

/-- Parameters of the area `course`, part 2 (Table 3.1). -/
def paramsCourse2 : List PDesc := [
  { base := 0x0418, path := ["course", "#", "link"], typ := .enum ["DOWN", "UP"], acc := .ro, stride := 0x20,
    count := 8, lo := 0, hi := 1 },
  { base := 0x0419, path := ["course", "#", "field", "v"], typ := .uint 16, acc := .ro, stride := 0x20, count := 8,
    unit := some .V, stepN := 1, stepD := 100, lo := 0, hi := 65535 },
  { base := 0x041A, path := ["course", "#", "fires"], typ := .uint 32, acc := .ro, stride := 0x20, count := 8,
    lo := 0, hi := 4294967295 },
  { base := 0x041B, path := ["course", "#", "denied_boost"], typ := .uint 32, acc := .ro, stride := 0x20,
    count := 8, lo := 0, hi := 4294967295 },
  { base := 0x041C, path := ["course", "#", "stale"], typ := .uint 32, acc := .ro, stride := 0x20, count := 8,
    lo := 0, hi := 4294967295 },
  { base := 0x041D, path := ["course", "#", "ident"], typ := .str 32, acc := .ro, stride := 0x20, count := 8 }]

/-- Parameters of the area `air` (Table 3.1). -/
def paramsAir : List PDesc := [
  { base := 0x0500, path := ["air", "#", "size"], typ := .uint 32, cls := .kept, stride := 0x10, count := 8,
    stepN := 1, stepD := 1000, lo := 1000, hi := 50000000, dflt := 200000 },
  { base := 0x0501, path := ["air", "#", "floor"], typ := .uint 32, cls := .kept, stride := 0x10, count := 8,
    stepN := 1, stepD := 1000, lo := 0, hi := 50000000, dflt := 20000 },
  { base := 0x0502, path := ["air", "#", "input"], typ := .uint 8, cls := .kept, stride := 0x10, count := 8,
    lo := 0, hi := 8 },
  { base := 0x0503, path := ["air", "#", "learn"], typ := .enum ["FIXED", "LEARN"], cls := .kept, stride := 0x10,
    count := 8, lo := 0, hi := 1 },
  { base := 0x0504, path := ["air", "#", "rho_set"], typ := .uint 32, cls := .kept, stride := 0x10, count := 8,
    stepN := 1, stepD := 1000, lo := 1, hi := 100000000, dflt := 2000000 },
  { base := 0x0505, path := ["air", "#", "rho"], typ := .uint 32, acc := .ro, stride := 0x10, count := 8,
    stepN := 1, stepD := 1000, lo := 0, hi := 4294967295 },
  { base := 0x0506, path := ["air", "#", "kpa_unit"], typ := .uint 16, cls := .cal, stride := 0x10, count := 8,
    unit := some .kPa, stepN := 1, stepD := 1000, lo := 1, hi := 60000, dflt := 200 },
  { base := 0x0507, path := ["air", "#", "p_nominal"], typ := .uint 16, cls := .kept, stride := 0x10, count := 8,
    unit := some .kPa, stepN := 1, stepD := 10, lo := 1000, hi := 10000, dflt := 6000 },
  { base := 0x0508, path := ["air", "#", "p_low"], typ := .uint 16, cls := .kept, stride := 0x10, count := 8,
    unit := some .kPa, stepN := 1, stepD := 10, lo := 500, hi := 10000, dflt := 4500 },
  { base := 0x0509, path := ["air", "#", "pressure"], typ := .uint 16, acc := .ro, stride := 0x10, count := 8,
    unit := some .kPa, stepN := 1, stepD := 10, lo := 0, hi := 65535 },
  { base := 0x050A, path := ["air", "#", "level"], typ := .uint 32, acc := .ro, stride := 0x10, count := 8,
    stepN := 1, stepD := 1000, lo := 0, hi := 4294967295 },
  { base := 0x050B, path := ["air", "#", "hard"], typ := .uint 32, acc := .ro, stride := 0x10, count := 8,
    stepN := 1, stepD := 1000, lo := 0, hi := 4294967295 },
  { base := 0x050C, path := ["air", "#", "soft"], typ := .uint 32, acc := .ro, stride := 0x10, count := 8,
    stepN := 1, stepD := 1000, lo := 0, hi := 4294967295 },
  { base := 0x050D, path := ["air", "#", "refill"], typ := .enum ["ON", "HELD"], acc := .ro, stride := 0x10,
    count := 8, lo := 0, hi := 1 },
  { base := 0x050E, path := ["air", "#", "denied"], typ := .uint 32, acc := .ro, stride := 0x10, count := 8,
    lo := 0, hi := 4294967295 },
  { base := 0x0580, path := ["air", "quiet"], typ := .uint 16, cls := .kept, unit := some .ms, lo := 20,
    hi := 1000, dflt := 50 },
  { base := 0x0581, path := ["air", "tau"], typ := .uint 16, cls := .kept, unit := some .s, lo := 1, hi := 600,
    dflt := 60 }]

/-- Parameters of the area `ticket` (Table 3.1). -/
def paramsTicket : List PDesc := [
  { base := 0x0600, path := ["ticket", "spec"], typ := .enum ["OFF", "ON"], cls := .kept, lo := 0, hi := 1,
    dflt := 1 },
  { base := 0x0601, path := ["ticket", "primed"], typ := .uint 16, acc := .ro, lo := 0, hi := 65535 },
  { base := 0x0602, path := ["ticket", "denied_spec"], typ := .uint 32, acc := .ro, lo := 0, hi := 4294967295 },
  { base := 0x0603, path := ["ticket", "taken"], typ := .uint 32, acc := .ro, lo := 0, hi := 4294967295 },
  { base := 0x0604, path := ["ticket", "late"], typ := .uint 32, acc := .ro, lo := 0, hi := 4294967295 },
  { base := 0x0605, path := ["ticket", "stalls"], typ := .uint 32, acc := .ro, lo := 0, hi := 4294967295 },
  { base := 0x0620, path := ["ticket", "src", "#", "state"], typ := .enum ["NONE", "OPEN", "STALLED"], acc := .ro,
    stride := 0x8, count := 16, lo := 0, hi := 2 },
  { base := 0x0621, path := ["ticket", "src", "#", "seq"], typ := .uint 32, acc := .ro, stride := 0x8, count := 16,
    lo := 0, hi := 4294967295 },
  { base := 0x0622, path := ["ticket", "src", "#", "live"], typ := .uint 16, acc := .ro, stride := 0x8,
    count := 16, lo := 0, hi := 65535 },
  { base := 0x0623, path := ["ticket", "src", "#", "gaps"], typ := .uint 32, acc := .ro, stride := 0x8,
    count := 16, lo := 0, hi := 4294967295 },
  { base := 0x0624, path := ["ticket", "src", "#", "refused"], typ := .uint 32, acc := .ro, stride := 0x8,
    count := 16, lo := 0, hi := 4294967295 },
  { base := 0x0625, path := ["ticket", "src", "#", "overruns"], typ := .uint 32, acc := .ro, stride := 0x8,
    count := 16, lo := 0, hi := 4294967295 },
  { base := 0x0626, path := ["ticket", "src", "#", "port"], typ := .enum ["CLS-A", "CLS-B", "CLS-C", "CLS-D"],
    acc := .ro, stride := 0x8, count := 16, lo := 0, hi := 3 }]

/-- Parameters of the area `dry`, part 1 (Table 3.1). -/
def paramsDry1 : List PDesc := [
  { base := 0x0700, path := ["dry", "zone", "#", "setpoint"], typ := .sint 20, cls := .kept, stride := 0x20,
    count := 5, unit := some .C, stepN := 1, stepD := 100, lo := -2000, hi := 15000, dflt := 4000,
    bond := some .limits },
  { base := 0x0701, path := ["dry", "zone", "#", "high"], typ := .sint 20, cls := .kept, stride := 0x20,
    count := 5, unit := some .C, stepN := 1, stepD := 100, lo := -2000, hi := 15000, dflt := 6000,
    bond := some .limits },
  { base := 0x0702, path := ["dry", "zone", "#", "low"], typ := .sint 20, cls := .kept, stride := 0x20, count := 5,
    unit := some .C, stepN := 1, stepD := 100, lo := -2000, hi := 15000, bond := some .limits },
  { base := 0x0703, path := ["dry", "zone", "#", "air_set"], typ := .uint 16, cls := .kept, stride := 0x20,
    count := 5, unit := some .pct, stepN := 1, stepD := 100, lo := 0, hi := 10000, dflt := 5000 },
  { base := 0x0704, path := ["dry", "zone", "#", "heat_in"], typ := .uint 8, cls := .kept, stride := 0x20,
    count := 5, lo := 0, hi := 24 },
  { base := 0x0705, path := ["dry", "zone", "#", "heat"], typ := .enum ["NO", "YES"], acc := .ro, stride := 0x20,
    count := 5, lo := 0, hi := 1 },
  { base := 0x0706, path := ["dry", "zone", "#", "inhibit"], typ := .uint 8, acc := .ro, stride := 0x20,
    count := 5, lo := 0, hi := 255 },
  { base := 0x0707, path := ["dry", "zone", "#", "purge"], typ := .uint 16, cls := .kept, stride := 0x20,
    count := 5, unit := some .s, lo := 0, hi := 7200, dflt := 300 },
  { base := 0x0708, path := ["dry", "zone", "#", "plenum"], typ := .sint 20, acc := .ro, stride := 0x20,
    count := 5, unit := some .C, stepN := 1, stepD := 100, lo := -524288, hi := 524287 },
  { base := 0x0709, path := ["dry", "zone", "#", "drain"], typ := .enum ["NONE", "DRAINING", "COMPLETE"],
    acc := .ro, stride := 0x20, count := 5, lo := 0, hi := 2 },
  { base := 0x07A0, path := ["dry", "loop", "@", "mode"], typ := .enum ["OFF", "MANUAL", "AUTO"], cls := .kept,
    elems := 16, lo := 0, hi := 2 },
  { base := 0x07A1, path := ["dry", "loop", "@", "active"], typ := .enum ["OFF", "STOPPING", "MANUAL", "AUTO",
    "FROZEN", "TRACKING"], acc := .ro, elems := 16, lo := 0, hi := 5 },
  { base := 0x07A2, path := ["dry", "loop", "@", "period"], typ := .uint 16, cls := .kept, elems := 16,
    unit := some .ms, lo := 1, hi := 10000, dflt := 1000 },
  { base := 0x07A3, path := ["dry", "loop", "@", "in"], typ := .enum ["NONE", "AI1", "AI2", "AI3", "AI4", "AI5",
    "AI6", "AI7", "AI8", "FAN1", "FAN2", "FAN3", "FAN4", "FAN5", "FAN6", "FAN7", "FAN8", "OUTLET_MOIST",
    "OUTLET_TEMP", "INLET_MOIST"], cls := .kept, elems := 16, lo := 0, hi := 19 },
  { base := 0x07A4, path := ["dry", "loop", "@", "in_lo"], typ := .sint 20, cls := .kept, elems := 16,
    lo := -524288, hi := 524287 },
  { base := 0x07A5, path := ["dry", "loop", "@", "in_hi"], typ := .sint 20, cls := .kept, elems := 16,
    lo := -524288, hi := 524287, dflt := 10000 },
  { base := 0x07A6, path := ["dry", "loop", "@", "out"], typ := .enum ["NONE", "AO1", "AO2", "AO3", "AO4", "AO5",
    "AO6", "AO7", "AO8", "FAN1", "FAN2", "FAN3", "FAN4", "FAN5", "FAN6", "FAN7", "FAN8"], cls := .kept,
    elems := 16, lo := 0, hi := 16 },
  { base := 0x07A7, path := ["dry", "loop", "@", "out_lo"], typ := .uint 16, cls := .kept, elems := 16,
    unit := some .pct, stepN := 1, stepD := 100, lo := 0, hi := 10000 },
  { base := 0x07A8, path := ["dry", "loop", "@", "out_hi"], typ := .uint 16, cls := .kept, elems := 16,
    unit := some .pct, stepN := 1, stepD := 100, lo := 0, hi := 10000, dflt := 10000 },
  { base := 0x07A9, path := ["dry", "loop", "@", "manual"], typ := .uint 16, cls := .kept, elems := 16,
    unit := some .pct, stepN := 1, stepD := 100, lo := 0, hi := 10000 },
  { base := 0x07AA, path := ["dry", "loop", "@", "b"], typ := .fix false 20 19, cls := .kept, elems := 16,
    stepN := 1, stepD := 524288, lo := 0, hi := 524288, dflt := 524288 },
  { base := 0x07AB, path := ["dry", "loop", "@", "c"], typ := .fix false 20 19, cls := .kept, elems := 16,
    stepN := 1, stepD := 524288, lo := 0, hi := 524288 },
  { base := 0x07AC, path := ["dry", "loop", "@", "nd"], typ := .uint 8, cls := .kept, elems := 16, lo := 2,
    hi := 100, dflt := 10 },
  { base := 0x07AD, path := ["dry", "loop", "@", "sv1"], typ := .enum ["NONE", "OUTLET_MOIST", "OUTLET_TEMP",
    "INLET_MOIST", "PLENUM_T", "CRACK"], cls := .kept, elems := 16, lo := 0, hi := 5 }]

/-- Parameters of the area `dry`, part 2 (Table 3.1). -/
def paramsDry2 : List PDesc := [
  { base := 0x07AE, path := ["dry", "loop", "@", "sv2"], typ := .enum ["NONE", "OUTLET_MOIST", "OUTLET_TEMP",
    "INLET_MOIST", "PLENUM_T", "CRACK"], cls := .kept, elems := 16, lo := 0, hi := 5 },
  { base := 0x07AF, path := ["dry", "loop", "@", "sv1_e1"], typ := .sint 20, cls := .kept, elems := 16,
    lo := -524288, hi := 524287 },
  { base := 0x07B0, path := ["dry", "loop", "@", "sv1_e2"], typ := .sint 20, cls := .kept, elems := 16,
    lo := -524288, hi := 524287 },
  { base := 0x07B1, path := ["dry", "loop", "@", "sv1_e3"], typ := .sint 20, cls := .kept, elems := 16,
    lo := -524288, hi := 524287 },
  { base := 0x07B2, path := ["dry", "loop", "@", "sv2_e1"], typ := .sint 20, cls := .kept, elems := 16,
    lo := -524288, hi := 524287 },
  { base := 0x07B3, path := ["dry", "loop", "@", "sv2_e2"], typ := .sint 20, cls := .kept, elems := 16,
    lo := -524288, hi := 524287 },
  { base := 0x07B4, path := ["dry", "loop", "@", "sv2_e3"], typ := .sint 20, cls := .kept, elems := 16,
    lo := -524288, hi := 524287 },
  { base := 0x07B5, path := ["dry", "loop", "@", "sv1_hyst"], typ := .uint 20, cls := .kept, elems := 16, lo := 0,
    hi := 1048575 },
  { base := 0x07B6, path := ["dry", "loop", "@", "sv2_hyst"], typ := .uint 20, cls := .kept, elems := 16, lo := 0,
    hi := 1048575 },
  { base := 0x07B7, path := ["dry", "loop", "@", "ff_src"], typ := .enum ["NONE", "AI1", "AI2", "AI3", "AI4",
    "AI5", "AI6", "AI7", "AI8"], cls := .kept, elems := 16, lo := 0, hi := 8 },
  { base := 0x07B8, path := ["dry", "loop", "@", "ff_gain"], typ := .fix true 20 15, cls := .kept, elems := 16,
    stepN := 1, stepD := 32768, lo := -524288, hi := 524287 },
  { base := 0x07B9, path := ["dry", "loop", "@", "est_src"], typ := .enum ["NONE", "AI1", "AI2", "AI3", "AI4",
    "AI5", "AI6", "AI7", "AI8"], cls := .kept, elems := 16, lo := 0, hi := 8 },
  { base := 0x07BA, path := ["dry", "loop", "@", "est_gain"], typ := .fix false 20 18, cls := .cal, elems := 16,
    stepN := 1, stepD := 262144, lo := 0, hi := 1048575, dflt := 262144 },
  { base := 0x07BB, path := ["dry", "loop", "@", "off_slew"], typ := .uint 16, cls := .kept, elems := 16,
    unit := some .pctps, stepN := 1, stepD := 10, lo := 0, hi := 10000 },
  { base := 0x07BC, path := ["dry", "loop", "@", "bad_time"], typ := .uint 16, cls := .kept, elems := 16,
    unit := some .s, lo := 1, hi := 600, dflt := 10 },
  { base := 0x07BD, path := ["dry", "loop", "@", "flags"], typ := .uint 8, acc := .ro, elems := 16, lo := 0,
    hi := 255 },
  { base := 0x07BE, path := ["dry", "loop", "@", "y"], typ := .uint 16, acc := .ro, elems := 16, unit := some .pct,
    stepN := 1, stepD := 100, lo := 0, hi := 65535 },
  { base := 0x07BF, path := ["dry", "loop", "@", "u"], typ := .uint 16, acc := .ro, elems := 16, unit := some .pct,
    stepN := 1, stepD := 100, lo := 0, hi := 65535 },
  { base := 0x07C0, path := ["dry", "loop", "@", "region"], typ := .uint 8, acc := .ro, elems := 16, lo := 0,
    hi := 255 },
  { base := 0x07C1, path := ["dry", "loop", "@", "ff"], typ := .sint 20, acc := .ro, elems := 16,
    unit := some .pct, stepN := 1, stepD := 100, lo := -524288, hi := 524287 },
  { base := 0x07C2, path := ["dry", "loop", "15", "sp"], typ := .uint 16, cls := .kept, unit := some .pct,
    stepN := 1, stepD := 100, lo := 0, hi := 10000 },
  { base := 0x07C8, path := ["dry", "gain", "kp", "@"], typ := .fix true 20 15, cls := .kept, elems := 256,
    stepN := 1, stepD := 32768, lo := -524288, hi := 524287, dflt := 32768 },
  { base := 0x07C9, path := ["dry", "gain", "ti", "@"], typ := .uint 20, cls := .kept, elems := 256,
    unit := some .s, stepN := 1, stepD := 100, lo := 0, hi := 1048575, dflt := 6000 },
  { base := 0x07CA, path := ["dry", "gain", "td", "@"], typ := .uint 20, cls := .kept, elems := 256,
    unit := some .s, stepN := 1, stepD := 1000, lo := 0, hi := 1048575 }]

/-- Parameters of the area `dry`, part 3 (Table 3.1). -/
def paramsDry3 : List PDesc := [
  { base := 0x07CB, path := ["dry", "gain", "kff", "@"], typ := .fix false 20 20, cls := .kept, elems := 256,
    stepN := 1, stepD := 1048576, lo := 0, hi := 1048575 },
  { base := 0x07E0, path := ["dry", "mode"], typ := .enum ["CONTINUOUS", "BATCH"], cls := .kept, lo := 0, hi := 1 },
  { base := 0x07E1, path := ["dry", "outlet", "target"], typ := .uint 16, cls := .kept, unit := some .pct,
    stepN := 1, stepD := 100, lo := 0, hi := 10000, dflt := 1400 },
  { base := 0x07E2, path := ["dry", "crack", "classes", "@"], typ := .uint 32, cls := .kept, elems := 8, lo := 0,
    hi := 4294967295 },
  { base := 0x07E3, path := ["dry", "crack", "chutes"], typ := .uint 8, cls := .kept, lo := 0, hi := 255,
    dflt := 255 },
  { base := 0x07E4, path := ["dry", "crack", "zones"], typ := .uint 8, cls := .kept, lo := 0, hi := 15, dflt := 15 },
  { base := 0x07E5, path := ["dry", "crack", "base"], typ := .uint 32, cls := .kept, stepN := 1, stepD := 100,
    lo := 0, hi := 10000000 },
  { base := 0x07E6, path := ["dry", "crack", "limit"], typ := .uint 16, cls := .kept, unit := some .pct,
    stepN := 1, stepD := 100, lo := 0, hi := 5000, dflt := 2000 },
  { base := 0x07E7, path := ["dry", "crack", "index"], typ := .uint 32, acc := .ro, stepN := 1, stepD := 100,
    lo := 0, hi := 4294967295 },
  { base := 0x07E8, path := ["dry", "crack", "count"], typ := .uint 32, acc := .ro, lo := 0, hi := 4294967295 },
  { base := 0x07E9, path := ["dry", "drain", "temp"], typ := .sint 20, cls := .kept, unit := some .C, stepN := 1,
    stepD := 100, lo := -2000, hi := 15000, dflt := 4500 },
  { base := 0x07EA, path := ["dry", "batch", "state"], typ := .enum ["IDLE", "RUNNING", "HELD"], acc := .ro,
    lo := 0, hi := 2 },
  { base := 0x07EB, path := ["dry", "batch", "step"], typ := .enum ["FILL", "HEAT", "DRY", "TEMPER", "COOL",
    "EMPTY"], acc := .ro, lo := 0, hi := 5 },
  { base := 0x07EC, path := ["dry", "batch", "full_in"], typ := .uint 8, cls := .kept, lo := 1, hi := 24, dflt := 1 },
  { base := 0x07ED, path := ["dry", "batch", "empty_in"], typ := .uint 8, cls := .kept, lo := 1, hi := 24, dflt := 2 },
  { base := 0x07EE, path := ["dry", "batch", "heat_band"], typ := .uint 16, cls := .kept, unit := some .C,
    stepN := 1, stepD := 100, lo := 50, hi := 2000, dflt := 200 },
  { base := 0x07EF, path := ["dry", "batch", "target"], typ := .uint 16, cls := .kept, unit := some .pct,
    stepN := 1, stepD := 100, lo := 0, hi := 10000, dflt := 1400 },
  { base := 0x07F0, path := ["dry", "batch", "temper"], typ := .uint 16, cls := .kept, unit := some .min, lo := 0,
    hi := 1440, dflt := 60 },
  { base := 0x07F1, path := ["dry", "batch", "cool_temp"], typ := .sint 20, cls := .kept, unit := some .C,
    stepN := 1, stepD := 100, lo := -2000, hi := 8000, dflt := 3000 },
  { base := 0x07F2, path := ["dry", "batch", "empty_speed"], typ := .uint 16, cls := .kept, unit := some .pct,
    stepN := 1, stepD := 100, lo := 0, hi := 10000, dflt := 10000 },
  { base := 0x07F3, path := ["dry", "batch", "limit", "@"], typ := .uint 16, cls := .kept, elems := 6,
    unit := some .min, lo := 1, hi := 1440, dflt := 120 },
  { base := 0x07F4, path := ["dry", "batch", "drain"], typ := .enum ["FINISH", "COOL"], cls := .kept, lo := 0,
    hi := 1, dflt := 1 }]

/-- Parameters of the area `fan` (Table 3.1). -/
def paramsFan : List PDesc := [
  { base := 0x0800, path := ["fan", "#", "ppr"], typ := .uint 8, cls := .kept, stride := 0x10, count := 8, lo := 1,
    hi := 4, dflt := 1, bond := some .tach },
  { base := 0x0801, path := ["fan", "#", "rpm_max"], typ := .uint 32, cls := .kept, stride := 0x10, count := 8,
    unit := some .rpm, lo := 60, hi := 60000, dflt := 3000, bond := some .tach },
  { base := 0x0802, path := ["fan", "#", "zone"], typ := .uint 8, cls := .kept, stride := 0x10, count := 8,
    lo := 0, hi := 5 },
  { base := 0x0803, path := ["fan", "#", "interlock"], typ := .enum ["NO", "YES"], cls := .kept, stride := 0x10,
    count := 8, lo := 0, hi := 1, dflt := 1 },
  { base := 0x0804, path := ["fan", "#", "start_speed"], typ := .uint 16, cls := .kept, stride := 0x10, count := 8,
    unit := some .pct, stepN := 1, stepD := 100, lo := 2000, hi := 10000, dflt := 5000 },
  { base := 0x0805, path := ["fan", "#", "start_window"], typ := .uint 16, cls := .kept, stride := 0x10,
    count := 8, unit := some .s, stepN := 1, stepD := 10, lo := 10, hi := 600, dflt := 50 },
  { base := 0x0806, path := ["fan", "#", "speed"], typ := .uint 16, stride := 0x10, count := 8, unit := some .pct,
    stepN := 1, stepD := 100, lo := 0, hi := 10000 },
  { base := 0x0807, path := ["fan", "#", "state"], typ := .enum ["STOPPED", "STARTING", "RETRY-WAIT", "RUNNING",
    "TACH-LOST", "COASTING", "FAN-STALL", "DRIVE-FAULT"], acc := .ro, stride := 0x10, count := 8, lo := 0, hi := 7 },
  { base := 0x0808, path := ["fan", "#", "rpm"], typ := .uint 32, acc := .ro, stride := 0x10, count := 8,
    unit := some .rpm, lo := 0, hi := 4294967295 },
  { base := 0x0809, path := ["fan", "#", "ct"], typ := .enum ["NONE", "CT"], cls := .kept, stride := 0x10,
    count := 8, lo := 0, hi := 1 },
  { base := 0x080A, path := ["fan", "#", "i_min"], typ := .uint 16, cls := .kept, stride := 0x10, count := 8,
    unit := some .pct, stepN := 1, stepD := 100, lo := 0, hi := 10000, dflt := 1000 },
  { base := 0x080B, path := ["fan", "#", "current"], typ := .uint 16, acc := .ro, stride := 0x10, count := 8,
    unit := some .pct, stepN := 1, stepD := 100, lo := 0, hi := 65535 },
  { base := 0x080C, path := ["fan", "#", "coast"], typ := .uint 16, cls := .kept, stride := 0x10, count := 8,
    unit := some .s, lo := 5, hi := 600, dflt := 120 },
  { base := 0x080D, path := ["fan", "#", "attempts"], typ := .uint 8, acc := .ro, stride := 0x10, count := 8,
    lo := 0, hi := 255 }]

/-- Parameters of the area `io` (Table 3.1). -/
def paramsIo : List PDesc := [
  { base := 0x0900, path := ["io", "fault"], typ := .enum ["CLEAR", "SET"], acc := .ro, lo := 0, hi := 1 },
  { base := 0x0901, path := ["io", "load", "v"], typ := .uint 16, acc := .ro, unit := some .V, stepN := 1,
    stepD := 100, lo := 0, hi := 65535 },
  { base := 0x0902, path := ["io", "rb_time"], typ := .uint 16, cls := .kept, unit := some .ms, lo := 2,
    hi := 1000, dflt := 20 },
  { base := 0x0910, path := ["io", "di", "filter", "@"], typ := .uint 8, cls := .kept, elems := 24, lo := 1,
    hi := 255, dflt := 20 },
  { base := 0x0911, path := ["io", "di", "state"], typ := .uint 32, acc := .ro, lo := 0, hi := 4294967295 },
  { base := 0x0912, path := ["io", "do"], typ := .uint 16, lo := 0, hi := 65535 },
  { base := 0x0913, path := ["io", "do", "rb"], typ := .uint 16, acc := .ro, lo := 0, hi := 65535 },
  { base := 0x0914, path := ["io", "do", "mismatch"], typ := .uint 16, acc := .ro, lo := 0, hi := 65535 },
  { base := 0x0920, path := ["io", "ai", "mode", "@"], typ := .enum ["MA", "V"], cls := .kept, elems := 8, lo := 0,
    hi := 1 },
  { base := 0x0921, path := ["io", "ai", "unit", "@"], typ := .enum ["NONE", "PCT", "KPA", "C"], cls := .kept,
    elems := 8, lo := 0, hi := 3 },
  { base := 0x0922, path := ["io", "ai", "lo", "@"], typ := .sint 20, cls := .cal, elems := 8, stepN := 1,
    stepD := 100, lo := -524288, hi := 524287 },
  { base := 0x0923, path := ["io", "ai", "hi", "@"], typ := .sint 20, cls := .cal, elems := 8, stepN := 1,
    stepD := 100, lo := -524288, hi := 524287, dflt := 10000 },
  { base := 0x0924, path := ["io", "ai", "value", "@"], typ := .sint 20, acc := .ro, elems := 8, stepN := 1,
    stepD := 100, lo := -524288, hi := 524287 },
  { base := 0x0925, path := ["io", "ai", "valid"], typ := .uint 8, acc := .ro, lo := 0, hi := 255 },
  { base := 0x0930, path := ["io", "ao", "mode", "@"], typ := .enum ["MA", "V"], cls := .kept, elems := 8, lo := 0,
    hi := 1 },
  { base := 0x0931, path := ["io", "ao", "value", "@"], typ := .uint 16, elems := 8, unit := some .pct, stepN := 1,
    stepD := 100, lo := 0, hi := 10000 },
  { base := 0x0932, path := ["io", "ao", "rb", "@"], typ := .uint 16, acc := .ro, elems := 8, unit := some .pct,
    stepN := 1, stepD := 100, lo := 0, hi := 65535 },
  { base := 0x0933, path := ["io", "ao", "mismatch"], typ := .uint 8, acc := .ro, lo := 0, hi := 255 }]

/-- Parameters of the area `probe` (Table 3.1). -/
def paramsProbe : List PDesc := [
  { base := 0x0A00, path := ["probe", "#", "period"], typ := .uint 8, cls := .kept, stride := 0x40, count := 2,
    unit := some .s, lo := 1, hi := 60, dflt := 10 },
  { base := 0x0A01, path := ["probe", "#", "count"], typ := .uint 8, cls := .kept, stride := 0x40, count := 2,
    lo := 0, hi := 48 },
  { base := 0x0A02, path := ["probe", "#", "run"], typ := .enum ["RUN", "STOP"], stride := 0x40, count := 2,
    lo := 0, hi := 1 },
  { base := 0x0A03, path := ["probe", "#", "state"], typ := .enum ["IDLE", "SWEEPING", "STOPPED"], acc := .ro,
    stride := 0x40, count := 2, lo := 0, hi := 2 },
  { base := 0x0A04, path := ["probe", "#", "break"], typ := .uint 8, acc := .ro, stride := 0x40, count := 2,
    lo := 0, hi := 255 },
  { base := 0x0A05, path := ["probe", "#", "closed"], typ := .enum ["NO", "YES"], acc := .ro, stride := 0x40,
    count := 2, lo := 0, hi := 1 },
  { base := 0x0A06, path := ["probe", "#", "last"], typ := .enum ["NONE", "COMPLETE", "ABORTED"], acc := .ro,
    stride := 0x40, count := 2, lo := 0, hi := 2 },
  { base := 0x0A07, path := ["probe", "#", "time"], typ := .uint 16, acc := .ro, stride := 0x40, count := 2,
    unit := some .ms, lo := 0, hi := 65535 },
  { base := 0x0A08, path := ["probe", "#", "overruns"], typ := .uint 32, acc := .ro, stride := 0x40, count := 2,
    lo := 0, hi := 4294967295 },
  { base := 0x0A09, path := ["probe", "#", "serial", "@"], typ := .uint 32, cls := .kept, stride := 0x40,
    count := 2, elems := 48, lo := 0, hi := 4294967295 },
  { base := 0x0A0A, path := ["probe", "#", "role", "@"], typ := .enum ["NONE", "OUTLET", "INLET", "OTHER"],
    cls := .kept, stride := 0x40, count := 2, elems := 48, lo := 0, hi := 3 },
  { base := 0x0A0B, path := ["probe", "#", "moist", "@"], typ := .uint 20, acc := .ro, stride := 0x40, count := 2,
    elems := 48, unit := some .pct, stepN := 1, stepD := 10000, lo := 0, hi := 1048575 },
  { base := 0x0A0C, path := ["probe", "#", "temp", "@"], typ := .sint 20, acc := .ro, stride := 0x40, count := 2,
    elems := 48, unit := some .C, stepN := 1, stepD := 100, lo := -524288, hi := 524287 },
  { base := 0x0A0D, path := ["probe", "#", "status", "@"], typ := .enum ["OK", "FAR-END", "LOST", "INVALID",
    "MISMATCH"], acc := .ro, stride := 0x40, count := 2, elems := 48, lo := 0, hi := 4 },
  { base := 0x0A0E, path := ["probe", "#", "gain", "@"], typ := .fix false 20 18, cls := .cal, stride := 0x40,
    count := 2, elems := 48, stepN := 1, stepD := 262144, lo := 0, hi := 1048575, dflt := 262144 },
  { base := 0x0A0F, path := ["probe", "#", "offset", "@"], typ := .sint 20, cls := .cal, stride := 0x40,
    count := 2, elems := 48, unit := some .pct, stepN := 1, stepD := 10000, lo := -524287, hi := 524287 },
  { base := 0x0A80, path := ["probe", "outlet", "moist"], typ := .uint 20, acc := .ro, unit := some .pct,
    stepN := 1, stepD := 10000, lo := 0, hi := 1048575 },
  { base := 0x0A81, path := ["probe", "outlet", "temp"], typ := .sint 20, acc := .ro, unit := some .C, stepN := 1,
    stepD := 100, lo := -524288, hi := 524287 },
  { base := 0x0A82, path := ["probe", "inlet", "moist"], typ := .uint 20, acc := .ro, unit := some .pct,
    stepN := 1, stepD := 10000, lo := 0, hi := 1048575 },
  { base := 0x0A83, path := ["probe", "avg", "valid"], typ := .uint 8, acc := .ro, lo := 0, hi := 255 }]

/-- Parameters of the area `ledger`, part 1 (Table 3.1). -/
def paramsLedger1 : List PDesc := [
  { base := 0x0B00, path := ["ledger", "unit"], typ := .uint 16, cls := .fact, acc := .ro, lo := 0, hi := 65535 },
  { base := 0x0B01, path := ["ledger", "instance", "next"], typ := .uint 32, acc := .ro, lo := 0, hi := 4294967295 },
  { base := 0x0B02, path := ["ledger", "run"], typ := .uint 16, acc := .ro, lo := 0, hi := 65535 },
  { base := 0x0B03, path := ["ledger", "serial", "hi"], typ := .uint 32, acc := .ro, lo := 0, hi := 4294967295 },
  { base := 0x0B04, path := ["ledger", "serial", "lo"], typ := .uint 32, acc := .ro, lo := 0, hi := 4294967295 },
  { base := 0x0B05, path := ["ledger", "keyid", "hi"], typ := .uint 32, acc := .ro, lo := 0, hi := 4294967295 },
  { base := 0x0B06, path := ["ledger", "keyid", "lo"], typ := .uint 32, acc := .ro, lo := 0, hi := 4294967295 },
  { base := 0x0B07, path := ["ledger", "deflate"], typ := .enum ["OFF", "ON"], cls := .kept, lo := 0, hi := 1,
    dflt := 1 },
  { base := 0x0B10, path := ["ledger", "state"], typ := .enum ["EMPTY", "LOADING", "WRITABLE", "CLOSED", "FULL",
    "FOREIGN", "UNLOADING", "FAULT"], acc := .ro, lo := 0, hi := 7 },
  { base := 0x0B11, path := ["ledger", "op"], typ := .enum ["NONE", "LOAD", "SEEK", "VERIFY", "REPLAY", "UNLOAD"],
    acc := .ro, lo := 0, hi := 5 },
  { base := 0x0B12, path := ["ledger", "fill"], typ := .uint 16, acc := .ro, unit := some .pct, stepN := 1,
    stepD := 10, lo := 0, hi := 65535 },
  { base := 0x0B13, path := ["ledger", "journal", "used"], typ := .uint 32, acc := .ro, unit := some .KiB, lo := 0,
    hi := 4294967295 },
  { base := 0x0B14, path := ["ledger", "staging", "used"], typ := .uint 32, acc := .ro, unit := some .KiB, lo := 0,
    hi := 4294967295 },
  { base := 0x0B15, path := ["ledger", "speed"], typ := .uint 8, acc := .ro, lo := 0, hi := 255 },
  { base := 0x0B16, path := ["ledger", "flush"], typ := .uint 16, cls := .kept, unit := some .s, lo := 1,
    hi := 3600, dflt := 60 },
  { base := 0x0B17, path := ["ledger", "warn"], typ := .uint 16, cls := .kept, unit := some .pct, stepN := 1,
    stepD := 10, lo := 100, hi := 950, dflt := 500 },
  { base := 0x0B18, path := ["ledger", "autoload"], typ := .enum ["NO", "YES"], cls := .kept, lo := 0, hi := 1,
    dflt := 1 },
  { base := 0x0B19, path := ["ledger", "full_unload"], typ := .enum ["NO", "YES"], cls := .kept, lo := 0, hi := 1,
    dflt := 1 },
  { base := 0x0B1A, path := ["ledger", "rewrites"], typ := .uint 32, acc := .ro, lo := 0, hi := 4294967295 },
  { base := 0x0B1B, path := ["ledger", "abandoned"], typ := .uint 32, acc := .ro, lo := 0, hi := 4294967295 },
  { base := 0x0B1C, path := ["ledger", "redo"], typ := .uint 32, acc := .ro, lo := 0, hi := 4294967295 },
  { base := 0x0B1D, path := ["ledger", "lost"], typ := .uint 32, acc := .ro, lo := 0, hi := 4294967295 },
  { base := 0x0B1E, path := ["ledger", "seq", "hi"], typ := .uint 16, acc := .ro, lo := 0, hi := 65535 },
  { base := 0x0B1F, path := ["ledger", "seq", "lo"], typ := .uint 32, acc := .ro, lo := 0, hi := 4294967295 }]

/-- Parameters of the area `ledger`, part 2 (Table 3.1). -/
def paramsLedger2 : List PDesc := [
  { base := 0x0B20, path := ["ledger", "released", "hi"], typ := .uint 32, acc := .ro, lo := 0, hi := 4294967295 },
  { base := 0x0B21, path := ["ledger", "released", "lo"], typ := .uint 32, acc := .ro, lo := 0, hi := 4294967295 },
  { base := 0x0B28, path := ["ledger", "lot", "id"], typ := .uint 32, lo := 0, hi := 4294967295, bond := some .lot },
  { base := 0x0B29, path := ["ledger", "lot", "line"], typ := .uint 32, lo := 0, hi := 4294967295, bond := some .lot },
  { base := 0x0B2A, path := ["ledger", "lot", "name"], typ := .str 64 },
  { base := 0x0B2B, path := ["ledger", "lot", "current"], typ := .uint 32, acc := .ro, lo := 0, hi := 4294967295 },
  { base := 0x0B2C, path := ["ledger", "lot", "pending"], typ := .enum ["NO", "YES"], acc := .ro, lo := 0, hi := 1 }]

/-- Parameters of the area `seal` (Table 3.1). -/
def paramsSeal : List PDesc := [
  { base := 0x0C00, path := ["seal", "slot", "@", "region"], typ := .enum ["NONE", "STAGING", "SHARE", "EXPORT",
    "MIRROR", "RINGS", "TIMELINES"], acc := .ro, elems := 16, lo := 0, hi := 6 },
  { base := 0x0C01, path := ["seal", "slot", "@", "mode"], typ := .enum ["PLAIN", "SEAL", "GROUT"], acc := .ro,
    elems := 16, lo := 0, hi := 2 },
  { base := 0x0C02, path := ["seal", "slot", "@", "state"], typ := .enum ["ACTIVE", "REPOINTING", "SPLIT",
    "QUARANTINED"], acc := .ro, elems := 16, lo := 0, hi := 3 },
  { base := 0x0C03, path := ["seal", "slot", "@", "action"], typ := .enum ["LOG", "FAULT", "QUARANTINE"],
    cls := .kept, elems := 16, lo := 0, hi := 2 },
  { base := 0x0C04, path := ["seal", "slot", "@", "alarms"], typ := .uint 32, acc := .ro, elems := 16, lo := 0,
    hi := 4294967295 },
  { base := 0x0C05, path := ["seal", "slot", "@", "poison"], typ := .uint 32, acc := .ro, elems := 16, lo := 0,
    hi := 4294967295 },
  { base := 0x0C06, path := ["seal", "slot", "@", "epoch"], typ := .uint 32, acc := .ro, elems := 16, lo := 0,
    hi := 4294967295 },
  { base := 0x0C07, path := ["seal", "slot", "@", "boundary"], typ := .uint 32, acc := .ro, elems := 16, lo := 0,
    hi := 4294967295 },
  { base := 0x0C08, path := ["seal", "slot", "@", "ctr_max"], typ := .uint 32, acc := .ro, elems := 16, lo := 0,
    hi := 4294967295 },
  { base := 0x0C09, path := ["seal", "slot", "@", "period"], typ := .uint 16, cls := .kept, elems := 16,
    unit := some .h, lo := 0, hi := 720 },
  { base := 0x0C20, path := ["seal", "repoint", "share"], typ := .uint 8, cls := .kept, unit := some .pct, lo := 1,
    hi := 10, dflt := 4 },
  { base := 0x0C21, path := ["seal", "repoint", "rate"], typ := .uint 16, acc := .ro, unit := some .MBps, lo := 0,
    hi := 65535 },
  { base := 0x0C22, path := ["seal", "repoint", "queue"], typ := .uint 8, acc := .ro, lo := 0, hi := 255 },
  { base := 0x0C23, path := ["seal", "cache", "hits"], typ := .uint 32, acc := .ro, lo := 0, hi := 4294967295 },
  { base := 0x0C24, path := ["seal", "cache", "misses"], typ := .uint 32, acc := .ro, lo := 0, hi := 4294967295 },
  { base := 0x0C25, path := ["seal", "partial"], typ := .uint 32, acc := .ro, lo := 0, hi := 4294967295 },
  { base := 0x0C30, path := ["seal", "lid"], typ := .enum ["CLOSED", "OPEN"], acc := .ro, lo := 0, hi := 1 },
  { base := 0x0C31, path := ["seal", "lid", "count"], typ := .uint 32, cls := .fact, acc := .ro, lo := 0,
    hi := 4294967295 },
  { base := 0x0C32, path := ["seal", "jtag"], typ := .enum ["LOCKED", "OPEN"], lo := 0, hi := 1,
    level := some .factory },
  { base := 0x0C40, path := ["seal", "reader", "key"], typ := .str 64, cls := .kept, acc := .wo },
  { base := 0x0C41, path := ["seal", "keystore"], typ := .enum ["VALID", "ONE-COPY"], acc := .ro, lo := 0, hi := 1 }]

/-- Parameters of the area `crown` (Table 3.1). -/
def paramsCrown : List PDesc := [
  { base := 0x0D00, path := ["crown", "role"], typ := .enum ["SINGLE", "ACTIVE", "STANDBY"], acc := .ro, lo := 0,
    hi := 2 },
  { base := 0x0D01, path := ["crown", "gen"], typ := .uint 32, acc := .ro, lo := 0, hi := 4294967295 },
  { base := 0x0D02, path := ["crown", "rank"], typ := .uint 8, cls := .kept, lo := 1, hi := 2, dflt := 1 },
  { base := 0x0D03, path := ["crown", "auto"], typ := .enum ["NO", "YES"], cls := .kept, lo := 0, hi := 1, dflt := 1 },
  { base := 0x0D04, path := ["crown", "peer"], typ := .enum ["NONE", "SILENT", "PATH1", "PATH2", "LIVE"],
    acc := .ro, lo := 0, hi := 4 },
  { base := 0x0D05, path := ["crown", "synced"], typ := .enum ["NO", "BASE", "YES"], acc := .ro, lo := 0, hi := 2 },
  { base := 0x0D06, path := ["crown", "epoch"], typ := .uint 32, acc := .ro, lo := 0, hi := 4294967295 },
  { base := 0x0D07, path := ["crown", "lag"], typ := .uint 16, acc := .ro, unit := some .us, lo := 0, hi := 65535 },
  { base := 0x0D08, path := ["crown", "clock", "err"], typ := .sint 20, acc := .ro, unit := some .tick,
    lo := -524288, hi := 524287 },
  { base := 0x0D09, path := ["crown", "takes"], typ := .uint 32, acc := .ro, lo := 0, hi := 4294967295 },
  { base := 0x0D0A, path := ["crown", "dropped"], typ := .uint 32, acc := .ro, lo := 0, hi := 4294967295 }]

/-- Parameters of the area `ev` (Table 3.1). -/
def paramsEv : List PDesc := [
  { base := 0x0E00, path := ["ev", "seq", "next"], typ := .uint 32, acc := .ro, lo := 0, hi := 4294967295 },
  { base := 0x0E01, path := ["ev", "held"], typ := .uint 32, acc := .ro, lo := 0, hi := 4294967295 },
  { base := 0x0E02, path := ["ev", "ring"], typ := .uint 16, acc := .ro, lo := 0, hi := 65535 },
  { base := 0x0E03, path := ["ev", "dropped"], typ := .uint 32, acc := .ro, lo := 0, hi := 4294967295 },
  { base := 0x0E04, path := ["ev", "overwritten"], typ := .uint 32, acc := .ro, lo := 0, hi := 4294967295 },
  { base := 0x0E05, path := ["ev", "frozen"], typ := .enum ["NO", "YES"], acc := .ro, lo := 0, hi := 1 },
  { base := 0x0E06, path := ["ev", "login"], typ := .uint 32, acc := .ro, lo := 0, hi := 4294967295 }]

/-- Parameters of the area `cal` (Table 3.1). -/
def paramsCal : List PDesc := [
  { base := 0x0F00, path := ["cal", "source"], typ := .enum ["USER", "FACTORY", "DEFAULT"], acc := .ro, lo := 0,
    hi := 2 },
  { base := 0x0F01, path := ["cal", "generation"], typ := .uint 32, acc := .ro, lo := 0, hi := 4294967295 },
  { base := 0x0F02, path := ["cal", "factory"], typ := .enum ["VALID", "INVALID"], acc := .ro, lo := 0, hi := 1 }]

/-- Every row of the parameter tables. -/
def paramTable : List PDesc :=
  paramsSys1 ++
  paramsSys2 ++
  paramsPort1 ++
  paramsPort2 ++
  paramsTick ++
  paramsPlumb1 ++
  paramsPlumb2 ++
  paramsCourse1 ++
  paramsCourse2 ++
  paramsAir ++
  paramsTicket ++
  paramsDry1 ++
  paramsDry2 ++
  paramsDry3 ++
  paramsFan ++
  paramsIo ++
  paramsProbe ++
  paramsLedger1 ++
  paramsLedger2 ++
  paramsSeal ++
  paramsCrown ++
  paramsEv ++
  paramsCal

end Sys2Proof.Machine
end

