-- ==== Sys2Proof/Machine/Codes.lean ====
section
/-! DEFINITION. The checks and ciphers the manual names: CRC-8, CRC-16/CCITT-FALSE, CRC-32, SHA-256, HMAC, HKDF, AES and
the AES key wrap, computed on bytes as their published standards define them (R8). -/
namespace Sys2Proof.Machine

/-! ### Cyclic checks -/

/-- One bit step of CRC-16/CCITT-FALSE, most significant bit first. -/
def crc16Step (c : BitVec 16) (_ : Nat) : BitVec 16 := if c.msb then (c <<< 1) ^^^ 0x1021#16 else c <<< 1
/-- CRC-16/CCITT-FALSE over bytes: polynomial 0x1021, initial 0xFFFF, no reflection, no final XOR (R60 text). -/
def crc16 (l : List Byte) : BitVec 16 :=
  l.foldl (fun c b => (List.range 8).foldl crc16Step (c ^^^ (BitVec.zeroExtend 16 b <<< (8 : Nat)))) 0xFFFF#16

/-- One bit step of the CRC-8 of the wedge words, most significant bit first. -/
def crc8Step (c : Byte) (_ : Nat) : Byte := if c.msb then (c <<< 1) ^^^ 0x07#8 else c <<< 1
/-- The CRC-8 of R397 over bytes: polynomial 0x07, initial 0, no reflection, no final XOR. -/
def crc8 (l : List Byte) : Byte := l.foldl (fun c b => (List.range 8).foldl crc8Step (c ^^^ b)) 0#8

/-- One bit step of the reflected CRC-32. -/
def crc32Step (c : BitVec 32) (_ : Nat) : BitVec 32 :=
  if c.getLsbD 0 then (c >>> 1) ^^^ 0xEDB88320#32 else c >>> 1
/-- CRC-32 of R116 over bytes: reflected, initial and final XOR 0xFFFFFFFF. -/
def crc32 (l : List Byte) : BitVec 32 :=
  l.foldl (fun c b => (List.range 8).foldl crc32Step (c ^^^ b.zeroExtend 32)) 0xFFFFFFFF#32 ^^^ 0xFFFFFFFF#32

/-! ### SHA-256 (FIPS 180-4), HMAC (FIPS 198-1) and HKDF (RFC 5869) -/

/-- The round constants of SHA-256. -/
def shaK : List (BitVec 32) :=
  [0x428A2F98, 0x71374491, 0xB5C0FBCF, 0xE9B5DBA5, 0x3956C25B, 0x59F111F1, 0x923F82A4, 0xAB1C5ED5] ++
  [0xD807AA98, 0x12835B01, 0x243185BE, 0x550C7DC3, 0x72BE5D74, 0x80DEB1FE, 0x9BDC06A7, 0xC19BF174] ++
  [0xE49B69C1, 0xEFBE4786, 0x0FC19DC6, 0x240CA1CC, 0x2DE92C6F, 0x4A7484AA, 0x5CB0A9DC, 0x76F988DA] ++
  [0x983E5152, 0xA831C66D, 0xB00327C8, 0xBF597FC7, 0xC6E00BF3, 0xD5A79147, 0x06CA6351, 0x14292967] ++
  [0x27B70A85, 0x2E1B2138, 0x4D2C6DFC, 0x53380D13, 0x650A7354, 0x766A0ABB, 0x81C2C92E, 0x92722C85] ++
  [0xA2BFE8A1, 0xA81A664B, 0xC24B8B70, 0xC76C51A3, 0xD192E819, 0xD6990624, 0xF40E3585, 0x106AA070] ++
  [0x19A4C116, 0x1E376C08, 0x2748774C, 0x34B0BCB5, 0x391C0CB3, 0x4ED8AA4A, 0x5B9CCA4F, 0x682E6FF3] ++
  [0x748F82EE, 0x78A5636F, 0x84C87814, 0x8CC70208, 0x90BEFFFA, 0xA4506CEB, 0xBEF9A3F7, 0xC67178F2]
/-- The initial hash value of SHA-256. -/
def shaH0 : List (BitVec 32) := [0x6A09E667, 0xBB67AE85, 0x3C6EF372, 0xA54FF53A, 0x510E527F, 0x9B05688C, 0x1F83D9AB, 0x5BE0CD19]

/-- The sixteen big-endian words of a 64-byte block. -/
def shaWords : Nat → List Byte → List (BitVec 32)
  | 0, _ => []
  | n + 1, l => BitVec.ofNat 32 (beNat (l.take 4)) :: shaWords n (l.drop 4)
/-- The next message word from the sixteen before it. -/
def shaNextWord (w : List (BitVec 32)) : BitVec 32 :=
  let a := w.getD 1 0; let b := w.getD 14 0
  let s0 := a.rotateRight 7 ^^^ a.rotateRight 18 ^^^ (a >>> 3)
  let s1 := b.rotateRight 17 ^^^ b.rotateRight 19 ^^^ (b >>> 10)
  w.getD 0 0 + s0 + w.getD 9 0 + s1
/-- One round: the eight working variables and the window of sixteen message words. -/
def shaRound (st : List (BitVec 32) × List (BitVec 32)) (k : BitVec 32) : List (BitVec 32) × List (BitVec 32) :=
  match st.1 with
  | [a, b, c, d, e, f, g, h] =>
    let s1 := e.rotateRight 6 ^^^ e.rotateRight 11 ^^^ e.rotateRight 25
    let t1 := h + s1 + ((e &&& f) ^^^ (~~~e &&& g)) + k + st.2.getD 0 0
    let s0 := a.rotateRight 2 ^^^ a.rotateRight 13 ^^^ a.rotateRight 22
    let t2 := s0 + ((a &&& b) ^^^ (a &&& c) ^^^ (b &&& c))
    ([t1 + t2, a, b, c, d + t1, e, f, g], st.2.drop 1 ++ [shaNextWord st.2])
  | _ => st
/-- The compression of one block. -/
def shaBlock (h : List (BitVec 32)) (blk : List Byte) : List (BitVec 32) :=
  List.zipWith (· + ·) h (shaK.foldl shaRound (h, shaWords 16 blk)).1
/-- The blocks of a padded message, `n` of them. -/
def shaBlocks : Nat → List (BitVec 32) → List Byte → List (BitVec 32)
  | 0, h, _ => h
  | n + 1, h, l => shaBlocks n (shaBlock h (l.take 64)) (l.drop 64)
/-- SHA-256. -/
def sha256 (m : List Byte) : List Byte :=
  let pad := (119 - m.length % 64) % 64
  let p := m ++ [0x80#8] ++ List.replicate pad 0#8 ++ beBytes 8 (8 * m.length)
  (shaBlocks (p.length / 64) shaH0 p).flatMap fun w => beBytes 4 w.toNat
/-- HMAC-SHA-256. -/
def hmac (key msg : List Byte) : List Byte :=
  let k := padTo 64 (if key.length > 64 then sha256 key else key)
  sha256 (k.map (· ^^^ 0x5C#8) ++ sha256 (k.map (· ^^^ 0x36#8) ++ msg))
/-- HKDF-Expand for at most 32 bytes. -/
def hkdfExpand (prk info : List Byte) (n : Nat) : List Byte := (hmac prk (info ++ [1#8])).take n

/-! ### AES (FIPS 197) and the key wrap (RFC 3394) -/

/-- The S-box. -/
def aesSbox : List Nat :=
  [0x63, 0x7C, 0x77, 0x7B, 0xF2, 0x6B, 0x6F, 0xC5, 0x30, 0x01, 0x67, 0x2B, 0xFE, 0xD7, 0xAB, 0x76] ++
  [0xCA, 0x82, 0xC9, 0x7D, 0xFA, 0x59, 0x47, 0xF0, 0xAD, 0xD4, 0xA2, 0xAF, 0x9C, 0xA4, 0x72, 0xC0] ++
  [0xB7, 0xFD, 0x93, 0x26, 0x36, 0x3F, 0xF7, 0xCC, 0x34, 0xA5, 0xE5, 0xF1, 0x71, 0xD8, 0x31, 0x15] ++
  [0x04, 0xC7, 0x23, 0xC3, 0x18, 0x96, 0x05, 0x9A, 0x07, 0x12, 0x80, 0xE2, 0xEB, 0x27, 0xB2, 0x75] ++
  [0x09, 0x83, 0x2C, 0x1A, 0x1B, 0x6E, 0x5A, 0xA0, 0x52, 0x3B, 0xD6, 0xB3, 0x29, 0xE3, 0x2F, 0x84] ++
  [0x53, 0xD1, 0x00, 0xED, 0x20, 0xFC, 0xB1, 0x5B, 0x6A, 0xCB, 0xBE, 0x39, 0x4A, 0x4C, 0x58, 0xCF] ++
  [0xD0, 0xEF, 0xAA, 0xFB, 0x43, 0x4D, 0x33, 0x85, 0x45, 0xF9, 0x02, 0x7F, 0x50, 0x3C, 0x9F, 0xA8] ++
  [0x51, 0xA3, 0x40, 0x8F, 0x92, 0x9D, 0x38, 0xF5, 0xBC, 0xB6, 0xDA, 0x21, 0x10, 0xFF, 0xF3, 0xD2] ++
  [0xCD, 0x0C, 0x13, 0xEC, 0x5F, 0x97, 0x44, 0x17, 0xC4, 0xA7, 0x7E, 0x3D, 0x64, 0x5D, 0x19, 0x73] ++
  [0x60, 0x81, 0x4F, 0xDC, 0x22, 0x2A, 0x90, 0x88, 0x46, 0xEE, 0xB8, 0x14, 0xDE, 0x5E, 0x0B, 0xDB] ++
  [0xE0, 0x32, 0x3A, 0x0A, 0x49, 0x06, 0x24, 0x5C, 0xC2, 0xD3, 0xAC, 0x62, 0x91, 0x95, 0xE4, 0x79] ++
  [0xE7, 0xC8, 0x37, 0x6D, 0x8D, 0xD5, 0x4E, 0xA9, 0x6C, 0x56, 0xF4, 0xEA, 0x65, 0x7A, 0xAE, 0x08] ++
  [0xBA, 0x78, 0x25, 0x2E, 0x1C, 0xA6, 0xB4, 0xC6, 0xE8, 0xDD, 0x74, 0x1F, 0x4B, 0xBD, 0x8B, 0x8A] ++
  [0x70, 0x3E, 0xB5, 0x66, 0x48, 0x03, 0xF6, 0x0E, 0x61, 0x35, 0x57, 0xB9, 0x86, 0xC1, 0x1D, 0x9E] ++
  [0xE1, 0xF8, 0x98, 0x11, 0x69, 0xD9, 0x8E, 0x94, 0x9B, 0x1E, 0x87, 0xE9, 0xCE, 0x55, 0x28, 0xDF] ++
  [0x8C, 0xA1, 0x89, 0x0D, 0xBF, 0xE6, 0x42, 0x68, 0x41, 0x99, 0x2D, 0x0F, 0xB0, 0x54, 0xBB, 0x16]
/-- A byte through the S-box. -/
def subByte (b : Byte) : Byte := BitVec.ofNat 8 (aesSbox.getD b.toNat 0)
/-- A byte back through the S-box. -/
def invSubByte (b : Byte) : Byte := BitVec.ofNat 8 (aesSbox.findIdx (· == b.toNat))
/-- Multiplication by x in GF(2^8). -/
def xtime (b : Byte) : Byte := if b.msb then (b <<< 1) ^^^ 0x1B#8 else b <<< 1
/-- Multiplication in GF(2^8), by the bits of `k`. -/
def gmul : Nat → Nat → Byte → Byte
  | 0, _, _ => 0
  | n + 1, k, b => (if k % 2 = 1 then b else 0) ^^^ gmul n (k / 2) (xtime b)
/-- One column through a circulant matrix with first row `r`. -/
def mixCol (r : List Nat) (c : List Byte) : List Byte :=
  (List.range 4).map fun i => (List.range 4).foldl (fun a j => a ^^^ gmul 4 (r.getD ((j + 4 - i) % 4) 0) (c.getD j 0)) 0
/-- The four columns of a state, each through `f`. -/
def onCols (f : List Byte → List Byte) (x : List Byte) : List Byte :=
  (List.range 4).flatMap fun i => f (sliceB x (4 * i) 4)
/-- ShiftRows by `k` columns a row: 1 to encrypt, 3 to decrypt. -/
def shiftRows (k : Nat) (x : List Byte) : List Byte :=
  (List.range 16).map fun i => x.getD ((i + 4 * k * (i % 4)) % 16) 0
/-- XOR of two byte strings. -/
def xorB (a b : List Byte) : List Byte := List.zipWith (· ^^^ ·) a b
/-- The key schedule: words still to make, the words made newest first, words in the key, and the round constant. -/
def aesExpand (nk : Nat) : Nat → Nat → Byte → List (List Byte) → List (List Byte)
  | 0, _, _, w => w.reverse
  | n + 1, i, rc, w =>
    let prev := w.headD []
    let t := if i % nk = 0 then xorB ((prev.drop 1 ++ prev.take 1).map subByte) [rc, 0, 0, 0]
             else if nk > 6 ∧ i % nk = 4 then prev.map subByte else prev
    aesExpand nk n (i + 1) (if i % nk = 0 then xtime rc else rc) (xorB (w.getD (nk - 1) []) t :: w)
/-- The round keys of a 16- or 32-byte key. -/
def aesKeys (key : List Byte) : List (List Byte) :=
  let nk := key.length / 4
  let words := aesExpand nk (4 * (nk + 7) - nk) nk 1#8 (((List.range nk).map fun i => sliceB key (4 * i) 4).reverse)
  (List.range (nk + 7)).map fun r => (List.range 4).flatMap fun j => words.getD (4 * r + j) []
/-- AES encryption of one block. -/
def aesEnc (key blk : List Byte) : List Byte :=
  let ks := aesKeys key
  let mid := (ks.drop 1).dropLast.foldl
    (fun x k => xorB (onCols (mixCol [2, 3, 1, 1]) (shiftRows 1 (x.map subByte))) k) (xorB blk (ks.headD []))
  xorB (shiftRows 1 (mid.map subByte)) (ks.getLastD [])
/-- AES decryption of one block. -/
def aesDec (key blk : List Byte) : List Byte :=
  let ks := (aesKeys key).reverse
  let mid := (ks.drop 1).dropLast.foldl
    (fun x k => onCols (mixCol [14, 11, 13, 9]) (xorB ((shiftRows 3 x).map invSubByte) k)) (xorB blk (ks.headD []))
  xorB ((shiftRows 3 mid).map invSubByte) (ks.getLastD [])

/-- One step of the key wrap: register A and the semiblocks, with the step's number. -/
def wrapStep (kek : List Byte) (st : List Byte × List (List Byte)) (t : Nat) : List Byte × List (List Byte) :=
  let n := st.2.length
  let i := (t - 1) % n
  let b := aesEnc kek (st.1 ++ st.2.getD i [])
  (xorB (b.take 8) (beBytes 8 t), st.2.set i (b.drop 8))
/-- One step of the unwrap. -/
def unwrapStep (kek : List Byte) (st : List Byte × List (List Byte)) (t : Nat) : List Byte × List (List Byte) :=
  let n := st.2.length
  let i := (t - 1) % n
  let b := aesDec kek (xorB st.1 (beBytes 8 t) ++ st.2.getD i [])
  (b.take 8, st.2.set i (b.drop 8))
/-- The 8-byte pieces of a byte string. -/
def semis (l : List Byte) : List (List Byte) := (List.range (l.length / 8)).map fun i => sliceB l (8 * i) 8
/-- AES key wrap of `key` under `kek`. -/
def keyWrap (kek key : List Byte) : List Byte :=
  let r := semis key
  let (a, r) := ((List.range (6 * r.length)).map (· + 1)).foldl (wrapStep kek) (List.replicate 8 0xA6#8, r)
  a ++ r.flatten
/-- AES key unwrap; none when the integrity value does not hold. -/
def keyUnwrap (kek wrapped : List Byte) : Option (List Byte) :=
  let r := semis (wrapped.drop 8)
  let (a, r) := (((List.range (6 * r.length)).map (· + 1)).reverse).foldl (unwrapStep kek) (wrapped.take 8, r)
  if a == List.replicate 8 0xA6#8 then some r.flatten else none

/-! ### Parameter families and bonds (R94, Table 3.8) -/

/-- IDs of indexed families (R94). -/
def portP (off n : Nat) : Nat := 0x100 + off + 0x10 * (n - 1)
def plumbP (off n : Nat) : Nat := 0x300 + off + 0x10 * (n - 1)
def courseP (off n : Nat) : Nat := 0x400 + off + 0x20 * (n - 1)
def airP (off n : Nat) : Nat := 0x500 + off + 0x10 * (n - 1)
def zoneP (off n : Nat) : Nat := 0x700 + off + 0x20 * (n - 1)
def fanP (off n : Nat) : Nat := 0x800 + off + 0x10 * (n - 1)
def ringP (off r : Nat) : Nat := 0xA00 + off + 0x40 * (r - 1)

/-- Table 3.8 and R435: the members of a bond. -/
def bondMembers : Bond → List Nat
  | .sync => [0x200, 0x380]
  | .lot => [0xB28, 0xB29]
  | .geometry n => [0x002, courseP 0 n, courseP 1 n, plumbP 0 n, plumbP 1 n]
  | .limits n => [zoneP 0 n, zoneP 1 n, zoneP 2 n]
  | .tach n => [fanP 0 n, fanP 1 n]
/-- The members of geometry.N other than sys.courses. -/
def ownMembers (b : Bond) : List Nat := (bondMembers b).filter (· != 0x002)
/-- Every bond of the unit. -/
def allBonds : List Bond :=
  [.sync, .lot] ++ (List.range 8).map (fun i => .geometry (i + 1)) ++ (List.range 5).map (fun i => .limits (i + 1)) ++
    (List.range 8).map (fun i => .tach (i + 1))
/-- The bond an ID belongs to; sys.courses belongs to every geometry.N and is not listed here (R105). -/
def bondOf (id : Nat) : Option Bond := allBonds.find? fun b => (ownMembers b).contains id

/-- The name of a bond. -/
def bondName : Bond → String
  | .sync => "sync" | .lot => "lot" | .geometry n => "geometry." ++ natText n
  | .limits n => "zone." ++ natText n ++ ".limits" | .tach n => "fan." ++ natText n ++ ".tach"

end Sys2Proof.Machine
end

