-- ==== Sys2Proof/Machine/Reply.lean ====
section
/-! DEFINITION. What a session is answered (chapter 2): the text of every line the Keystone sends, the reply buffer, pending operations and
their final replies. -/
namespace Sys2Proof.Machine

/-! ### The text of a line (R46, R61–R64, R67, R69) -/

/-- The text of Table 2.5 for an error code. -/
def errText : Nat → String
  | 101 => "unknown verb" | 102 => "malformed" | 103 => "line too long" | 104 => "check mismatch"
  | 105 => "tag out of order" | 201 => "not logged in" | 202 => "insufficient privilege" | 301 => "wrong state"
  | 302 => "busy or pending" | 303 => "bond open" | 401 => "out of range" | 402 => "wrong type" | 403 => "bond conflict"
  | 501 => "no resource" | 601 => "hardware fault" | _ => "too late"

/-- A prefix, and after a space the content where there is any (Table 2.4). -/
def withContent (pre content : String) : String := if content == "" then pre else pre ++ " " ++ content
/-- R62, R63, R69, Table 2.4: the prefix and content of a line; a multi-line reply, an echo and a prompt have none of their own. -/
def outText : Out → String
  | .ok t => withContent "=" t
  | .err c d => "?" ++ natText c ++ " " ++ errText c ++ (if d == "" then "" else ", " ++ d)
  | .pending t => withContent "~" t
  | .event v c q t => withContent ("! " ++ sevName v ++ " 0x" ++ hexText 4 c ++ " " ++ natText q.toNat) t
  | .suppressed v n => "! " ++ sevName v ++ " suppressed " ++ natText n
  | .multi _ => ""
  | .echo _ => ""
  | .prompt => ""
/-- R62, R67: what stands before the prefix: in GEN mode the tag, in TYPED mode the label of a pending operation. -/
def lineRef (o : OutLine) : String :=
  match o.tag with
  | some t => "@" ++ digitsText 4 t ++ " "
  | none => if o.label = 0 then "" else "p" ++ natText o.label ++ " "
/-- R46: the characters a line may have before its check suffix. -/
def lineRoom (check : Bool) : Nat := if check then 195 else 200
/-- R46: a body line too long for one line goes on in further lines, each beginning with two spaces; `n` lines at most. -/
def continued (room : Nat) : Nat → List Char → List String
  | 0, _ => []
  | n + 1, l =>
    if l.length ≤ room then [String.ofList l]
    else String.ofList (l.take room) :: continued room n (' ' :: ' ' :: l.drop room)
/-- R46, R64: the lines that one body line makes; one that begins with `.` gets one more in front. -/
def bodyLines (check : Bool) (t : String) : List String :=
  let l := t.toList
  let l := if l.head? == some '.' then '.' :: l else l
  continued (lineRoom check) (l.length + 1) l
/-- R61: the line with its check suffix, in GEN CHECK mode. -/
def withCheck (check : Bool) (t : String) : String :=
  if check then t ++ "|" ++ hexText 4 (crc16 (bytesOf t)).toNat else t
/-- R46, R61–R64, R67: the lines that an answer makes, without their terminators. An error is cut within its detail; a multi-line answer
has its header in GEN mode, the line `pN =` before the body of a pending operation in TYPED mode, and ends with `.` alone. -/
def lineTexts (o : OutLine) : List String :=
  match o.out with
  | .multi body =>
    let ls := body.flatMap (bodyLines o.check)
    let head := match o.tag with
      | some _ => [lineRef o ++ "= " ++ natText ls.length]
      | none => if o.label = 0 then [] else [lineRef o ++ "="]
    (head ++ ls).map (withCheck o.check) ++ ["."]
  | .err .. => [withCheck o.check (String.ofList ((lineRef o ++ outText o.out).toList.take (lineRoom o.check)))]
  | _ => [withCheck o.check (lineRef o ++ outText o.out)]
/-- The bytes that an answer makes, line by line: each line with its terminator; an echo and the prompt have none (R46, R54). -/
def lineBytes (eol : List Byte) (o : OutLine) : List (List Byte) :=
  match o.out with
  | .echo b => [b]
  | .prompt => [bytesOf "ky> "]
  | _ => (lineTexts o).map fun t => bytesOf t ++ eol
/-- R46: CRLF on CONSOLE, LF on a text queue. -/
def Session.eol (x : Session) : List Byte := if x.idx = 0 then [13, 10] else [10]

/-! ### What a session is sent -/

/-- A session with one more line sent: its bytes enter the reply buffer (R91). -/
def Session.say (x : Session) (o : OutLine) : Session :=
  let o := { o with check := x.mode == .genCheck }
  { x with sent := o :: x.sent, out := x.out ++ (lineBytes x.eol o).map fun b => { bytes := b, baud := x.baud } }
/-- A reply to an executed line. The reply to the line that consumed the last tag is kept for a repeat (R58): a pending reply gives way
to the final reply. -/
def Session.reply (x : Session) (o : OutLine) : Session :=
  ({ x with lastReply := if o.tag.isSome && o.tag == x.lastTag then [o] else x.lastReply } : Session).say o

/-- A pending label 1–8 that is free (R66). DESIGN CHOICE: R66 does not say which free label is assigned; the model assigns the lowest
(assumption 58). -/
def freeLabel (l : List Pending) : Nat := ((List.range 8).map (· + 1)).find? (fun k => !l.any (·.label == k)) |>.getD 0

/-- A line sent to session `i`. -/
def State.say (s : State) (i : Nat) (o : OutLine) : State := s.updSession i (·.say o)

/-- The answer to the executed line `ln`. -/
def State.answer (s : State) (ln : Ln) (o : Out) : State := s.updSession ln.ses (·.reply { tag := ln.tag, out := o })

/-- A verb answers `~`: the operation is pending under the line's tag, in TYPED mode under a label (R66). -/
def State.pend (s : State) (ln : Ln) (op : PendOp) (text : String) : State :=
  s.updSession ln.ses fun x =>
    let lab := if x.mode == .typed then freeLabel x.pend else 0
    ({ x with pend := x.pend ++ [{ op := op, tag := ln.tag, label := lab }] } : Session).reply
      { tag := ln.tag, label := lab, out := .pending text }

/-- The Fjart code of a final reply: 0 for success. -/
def outCode : Out → Nat
  | .err c _ => c
  | _ => 0

/-- The final reply of one pending operation of a session; it frees its label and restarts the idle time (R66, R87). -/
def Session.finish (x : Session) (now : Tick) (p : PendOp → Bool) (o : Out) : Session :=
  (x.pend.filter fun q => p q.op).foldl
    (fun x q => ({ x with idleSince := now } : Session).reply { tag := q.tag, label := q.label, out := o })
    { x with pend := x.pend.filter fun q => !p q.op }

/-- Every pending operation that `p` names gets its final reply `o`. One whose session has ended is recorded as
NOTE 0xA005 instead (R90). -/
def State.finish (s : State) (p : PendOp → Bool) (o : Out) : State :=
  let gone := s.orphans.filter fun q => p q.2.op
  gone.foldl (fun s q => s.event 0xA005 0x0E q.1 (outCode o))
    { s with
      sessions := s.sessions.map fun x => x.finish s.now p o
      orphans := s.orphans.filter fun q => !p q.2.op }
/-- Some session, or one that has ended, has the operation pending. -/
def State.isPending (s : State) (p : PendOp → Bool) : Bool :=
  s.sessions.any (fun x => x.pend.any fun q => p q.op) || s.orphans.any fun q => p q.2.op

/-- What a verb does: the state after it, and its answer; `none` for a verb that has put its operation pending. -/
abbrev VerbRes := State × Option Out
/-- The verb is refused. -/
def refuse (s : State) (code : Nat) (detail : String := "") : VerbRes := (s, some (.err code detail))
/-- The verb is done. -/
def done (s : State) (text : String := "") : VerbRes := (s, some (.ok text))

/-- R66: a session with 8 operations pending starts no ninth. -/
def State.pendFull (s : State) (ln : Ln) : Bool := ((s.session? ln.ses).elim 0 (·.pend.length)) ≥ 8
/-- A pending start, refused with 302 when 8 operations are pending (R66). -/
def State.startOp (s : State) (ln : Ln) (op : PendOp) (text : String) (f : State → State) : VerbRes :=
  if s.pendFull ln then refuse s 302 else (f (s.pend ln op text), none)

/-- The level of the line's session. -/
def State.levelOf (s : State) (ln : Ln) : Level := (s.session? ln.ses).elim .none (·.level)
/-- The login id of the line's session (R524). -/
def State.loginOf (s : State) (ln : Ln) : Nat := (s.session? ln.ses).elim 0 (·.loginId.toNat)

/-- R84: a completed ENGINEER or FACTORY login of the last 60 s that no verb has spent. -/
def State.fresh (s : State) (ln : Ln) : Bool :=
  ((s.session? ln.ses).bind (·.freshAt)).elim false fun t => ticksFrom t s.now ≤ secT 60
/-- The fresh authentication is spent. -/
def State.spendFresh (s : State) (ln : Ln) : State := s.updSession ln.ses fun x => { x with freshAt := none }

/-- R91: bytes of replies that have not left: those in the session's reply buffer, and those of SENDs not yet framed on a text queue's
connection. -/
def State.backlog (s : State) (x : Session) : Nat :=
  sumOf (fun o : OutBytes => o.bytes.length) x.out +
    x.conn.elim 0 fun c => sumOf (fun (w : WorkEntry) => if w.op == .send && !w.framed then w.data.length else 0) (s.conn c).sq
/-- R91: the session's reply buffer is full, and it takes no further line. -/
def State.bufferFull (s : State) (x : Session) : Bool := s.backlog x ≥ 16384

end Sys2Proof.Machine
end

