-- ==== Sys2Proof/Machine/Operands.lean ====
section
/-! DEFINITION. The operand forms of a Fjart line: paths and IDs (R52, R53, R95, R217), literals with their units and
rounding (R48–R51, R563, R564), and the line form itself (R45, R54–R61, R68). -/
namespace Sys2Proof.Machine

/-! ### Paths -/

/-- A parameter, or one element of an array, that a path or ID names. -/
structure PKey where
  desc : PDesc
  id   : Nat
  fam  : Nat := 1
  elem : Nat := 0
deriving DecidableEq, Repr

/-- What a path's index segments say against a row's path: the family member and the element. -/
def matchPath : List String → List Seg → Option (Option Nat × Option Nat)
  | [], [] => some (none, none)
  | p :: ps, g :: gs =>
    match matchPath ps gs with
    | none => none
    | some (f, e) =>
      match g with
      | .name t => if p == t then some (f, e) else none
      | .idx k =>
        if p == "#" then some (some k, e) else if p == "@" then some (f, some k)
        else if p == natText k then some (f, e) else none
  | _, _ => none

/-- The key of member `fam` and element `elem` of a row, when both exist. -/
def PDesc.key? (d : PDesc) (fam elem : Option Nat) : Option PKey :=
  let f := fam.getD 1
  let okF := if d.count = 1 then fam.isNone || f == 1 else 1 ≤ f && f ≤ d.count
  let okE := if d.elems = 0 then elem.isNone else elem.isSome && elem.getD 0 < d.elems
  if okF && okE then some { desc := d, id := d.base + d.stride * (f - 1), fam := f, elem := elem.getD 0 } else none

/-- The row an ID belongs to, with its member (R94). -/
def descOfId (id : Nat) : Option (PDesc × Nat) :=
  paramTable.findSome? fun d =>
    if d.count = 1 then if id = d.base then some (d, 1) else none
    else if d.base ≤ id && (id - d.base) % d.stride = 0 && (id - d.base) / d.stride < d.count then
      some (d, (id - d.base) / d.stride + 1)
    else none

/-- R52, R53: the parameter a reference names; none when it names no parameter (401). -/
def resolve : PRef → Option PKey
  | .path segs => paramTable.findSome? fun d => (matchPath d.path segs).bind fun p => d.key? p.1 p.2
  | .id id elem =>
    (descOfId id).bind fun p => (p.1.key? (if p.1.count = 1 then none else some p.2) elem)

/-- The raw default of a parameter, with the members whose table names another: 4 connections for PEER (Table 8.16), 24 h
for key slots 5 and 6 (Table 14.8). -/
def PKey.dflt (k : PKey) : Int :=
  if k.id = 0x166 then 4 else if k.id = 0xC09 then (if k.elem = 5 || k.elem = 6 then 24 else 0) else k.desc.dflt

/-- The raw default of an ID and element; 0 for an ID that no parameter holds. -/
def defaultRaw (id elem : Nat) : Int := (descOfId id).elim 0 fun p => PKey.dflt { desc := p.1, id := id, fam := p.2, elem := elem }

/-- The running raw value of element `e` of parameter `id`: its default unless another value is held. -/
def parGet (l : List ParamVal) (id e : Nat) : Int :=
  ((l.find? fun p => p.id == id && p.elem == e).map (·.raw)).getD (defaultRaw id e)
/-- The running raw value of a parameter (R97). -/
def State.raw (s : State) (id : Nat) (e : Nat := 0) : Int := parGet s.par.vals id e
/-- A running value that is not negative. -/
def State.num (s : State) (id : Nat) (e : Nat := 0) : Nat := (s.raw id e).toNat

/-! ### Units and literals -/

/-- The quantities of Table 2.2. -/
inductive Quantity where
  | time | freq | rot | volt | amp | temp | ratio | rate | len | speed | accel | press | power | mem | data
deriving DecidableEq, Repr

/-- Table 2.2: a suffix's quantity and its value in the base unit, as a fraction. -/
def suffixValue : Suffix → Quantity × Nat × Nat
  | .tick => (.time, 1, 4) | .us => (.time, 1, 1) | .ms => (.time, 1000, 1) | .s => (.time, 1000000, 1)
  | .min => (.time, 60000000, 1) | .h => (.time, 3600000000, 1)
  | .Hz => (.freq, 1, 1) | .kHz => (.freq, 1000, 1) | .rpm => (.rot, 1, 1)
  | .V => (.volt, 1, 1) | .A => (.amp, 1, 1) | .mA => (.amp, 1, 1000) | .C => (.temp, 1, 1)
  | .pct => (.ratio, 1, 1) | .pctps => (.rate, 1, 1)
  | .um => (.len, 1, 1) | .mm => (.len, 1000, 1) | .m => (.len, 1000000, 1)
  | .mps => (.speed, 1, 1) | .mps2 => (.accel, 1, 1) | .kPa => (.press, 1, 1) | .dBm => (.power, 1, 1)
  | .KiB => (.mem, 1, 1) | .MBps => (.data, 1, 1)
/-- How a suffix is written. -/
def suffixText : Suffix → String
  | .tick => "tick" | .us => "us" | .ms => "ms" | .s => "s" | .min => "min" | .h => "h" | .Hz => "Hz" | .kHz => "kHz"
  | .rpm => "rpm" | .V => "V" | .A => "A" | .mA => "mA" | .C => "C" | .pct => "pct" | .pctps => "pctps" | .um => "um"
  | .mm => "mm" | .m => "m" | .mps => "mps" | .mps2 => "mps2" | .kPa => "kPa" | .dBm => "dBm" | .KiB => "KiB"
  | .MBps => "MBps"

/-- The unit and step in which one parameter's value stands. -/
structure UnitStep where
  unit  : Option Suffix := none
  stepN : Nat := 1
  stepD : Nat := 1
deriving DecidableEq, Repr

/-- R49, R50: a decimal literal in raw steps, rounded ties away from zero; an error code for a wrong suffix. -/
def decRaw (u : UnitStep) (neg : Bool) (mant frac : Nat) (sfx : Option Suffix) : Except Nat Int :=
  let signed (n : Nat) : Int := if neg then -(n : Int) else n
  let conv (n d : Nat) : Int := roundDiv (signed (mant * n * u.stepD)) (10 ^ frac * d * u.stepN)
  match sfx, u.unit with
  | none, _ => .ok (conv 1 1)
  | some _, none => .error 402
  | some f, some t =>
    let a := suffixValue f
    let b := suffixValue t
    if a.1 = b.1 then .ok (conv (a.2.1 * b.2.2) (a.2.2 * b.2.1)) else .error 402

/-- The character in upper case. -/
def upperChar (c : Char) : Char := if 97 ≤ c.toNat && c.toNat ≤ 122 then Char.ofNat (c.toNat - 32) else c
/-- A keyword in upper case (R47). -/
def upper (t : String) : String := String.ofList (t.toList.map upperChar)
/-- A byte that is a hex digit. -/
def isHexByte (b : Byte) : Bool :=
  let n := b.toNat; (48 ≤ n && n ≤ 57) || (65 ≤ n && n ≤ 70) || (97 ≤ n && n ≤ 102)
/-- The value of a hex digit. -/
def hexVal (b : Byte) : Nat :=
  let n := b.toNat; if n ≤ 57 then n - 48 else if n ≤ 70 then n - 55 else n - 87
/-- The bytes that pairs of hex digits spell. -/
def hexBytes : List Byte → List Byte
  | a :: b :: rest => BitVec.ofNat 8 (16 * hexVal a + hexVal b) :: hexBytes rest
  | _ => []

/-- A value as a line gives it, for one parameter: a raw number or a string. -/
inductive PVal where
  | raw (v : Int) | text (b : List Byte)
deriving DecidableEq, Repr

/-- A key parameter takes 64 hex characters (R85). -/
def isKeyParam (d : PDesc) : Bool := d.acc == .wo

/-- R46, R48–R50: a literal as a value of a parameter with unit `u`; an error code 402 or 401. -/
def litValue (d : PDesc) (u : UnitStep) (l : Lit) : Except Nat PVal :=
  let ranged (v : Int) : Except Nat PVal := if d.lo ≤ v && v ≤ d.hi then .ok (.raw v) else .error 401
  match d.typ, l with
  | .str n, .str b =>
    if isKeyParam d then if b.length = 64 && b.all isHexByte then .ok (.text b) else .error 401
    else if b.length ≤ n then .ok (.text b) else .error 401
  | .str _, _ => .error 402
  | .enum names, .word w =>
    let i := names.findIdx (· == upper w)
    if i < names.length then .ok (.raw i) else .error 401
  | .enum _, _ => .error 402
  | _, .dec neg m f x =>
    match decRaw u neg m f x with
    | .ok v => ranged v
    | .error c => .error c
  | _, .hex v => (match decRaw u false v 0 none with | .ok v => ranged v | .error c => .error c)
  | _, .bin v => (match decRaw u false v 0 none with | .ok v => ranged v | .error c => .error c)
  | _, _ => .error 402

/-- R48–R50 for a verb's own numeric argument: raw steps of a unit within bounds. -/
def litArg (u : UnitStep) (lo hi : Int) (l : Lit) : Except Nat Int :=
  let ranged (r : Except Nat Int) : Except Nat Int :=
    match r with
    | .ok v => if lo ≤ v && v ≤ hi then .ok v else .error 401
    | .error c => .error c
  match l with
  | .dec neg m f x => ranged (decRaw u neg m f x)
  | .hex v => ranged (decRaw u false v 0 none)
  | .bin v => ranged (decRaw u false v 0 none)
  | _ => .error 402

/-- Digits without trailing zeros, `n` places at most. -/
def trimZeros : Nat → Nat → Nat × Nat
  | 0, v => (0, v)
  | n + 1, v => if v % 10 = 0 then trimZeros n (v / 10) else (n + 1, v)
/-- R51: a raw number in its native unit, at most 6 fraction digits, ties away from zero, trailing zeros dropped. -/
def numText (u : UnitStep) (raw : Int) : String :=
  let micro := (roundDiv (raw * u.stepN * 1000000) u.stepD)
  let a := micro.natAbs
  let (n, f) := trimZeros 6 (a % 1000000)
  (if micro < 0 then "-" else "") ++ natText (a / 1000000) ++
    (if n = 0 then "" else "." ++ digitsText n f) ++ u.unit.elim "" suffixText

/-- A string in quotes, with `\` before a quote or backslash (R46). -/
def quoted (b : List Byte) : String :=
  "\"" ++ textOf (b.flatMap fun c => if c = 34 || c = 92 then [92, c] else [c]) ++ "\""

/-- A path as text. -/
def pathText (k : PKey) : String :=
  ".".intercalate (k.desc.path.map fun p => if p == "#" then natText k.fam else if p == "@" then natText k.elem else p)

/-! ### Lines -/

/-- A byte of a line that is a decimal digit. -/
def isDigit (b : Byte) : Bool := 48 ≤ b.toNat && b.toNat ≤ 57
/-- The number that four digits spell. -/
def digits4 (l : List Byte) : Nat := l.foldl (fun a b => 10 * a + (b.toNat - 48)) 0
/-- A space, or a tab, which counts as one (R45). -/
def blank (b : Byte) : Bool := b = 32 || b = 9
/-- R56: the tag that opens a GEN line, when the line begins with `@`, four digits and a space (R45) or its end. -/
def tagOf (l : List Byte) : Option Nat :=
  match l with
  | a :: b :: c :: d :: e :: rest =>
    if a = 64 && [b, c, d, e].all isDigit && (rest == [] || blank (rest.headD 0)) then some (digits4 [b, c, d, e]) else none
  | _ => none
/-- The line after its tag. -/
def afterTag (l : List Byte) : List Byte := l.drop 6
/-- R60: the check suffix in the last five bytes: the four hex digits. -/
def checkOf (l : List Byte) : Option Nat :=
  let t := l.drop (l.length - 5)
  match t with
  | b :: h => if l.length ≥ 5 && b = 124 && h.length = 4 && h.all isHexByte then some (h.foldl (fun a x => 16 * a + hexVal x) 0) else none
  | [] => none
/-- The line without its check suffix. -/
def withoutCheck (l : List Byte) : List Byte := if (checkOf l).isSome then l.take (l.length - 5) else l
/-- R60: the line without the check suffix that a GEN line may carry; in TYPED mode a bar is an ordinary character. -/
def bareLine (mode : SesMode) (l : List Byte) : List Byte := if mode == .typed then l else withoutCheck l
/-- R60, R61: the check of a line is wrong, or missing where the mode wants one. -/
def checkFails (mode : SesMode) (l : List Byte) : Bool :=
  match checkOf l with
  | some c => (crc16 (l.take (l.length - 5))).toNat != c
  | none => mode == .genCheck
/-- R45: a byte that a line may hold: 0x20–0x7E, or a tab. -/
def lineByte (b : Byte) : Bool := (32 ≤ b.toNat && b.toNat ≤ 126) || b = 9

/-- The pieces of a line (R46): words separated by spaces, with quoted strings kept whole; none for an open string or a
backslash before a character other than a quote or a backslash. -/
structure Lexer where
  words : List (List Byte) := []
  cur   : List Byte := []
  inStr : Bool := false
  esc   : Bool := false
  bad   : Bool := false
deriving DecidableEq, Repr
/-- One byte through the lexer. -/
def Lexer.step (x : Lexer) (b : Byte) : Lexer :=
  if x.bad then x
  else if x.esc then if b = 34 || b = 92 then { x with cur := x.cur ++ [b], esc := false } else { x with bad := true }
  else if x.inStr then
    if b = 92 then { x with esc := true, cur := x.cur ++ [b] }
    else if b = 34 then { x with inStr := false, cur := x.cur ++ [b] }
    else { x with cur := x.cur ++ [b] }
  else if blank b then
    if x.cur.isEmpty then x else { x with words := x.words ++ [x.cur], cur := [] }
  else if b = 34 then { x with inStr := true, cur := x.cur ++ [b], bad := !x.cur.isEmpty }
  else if b = 124 then { x with bad := true }
  else { x with cur := x.cur ++ [b] }
/-- The words of a line; none when it is malformed. -/
def wordsOf (l : List Byte) : Option (List (List Byte)) :=
  let x := l.foldl Lexer.step {}
  if x.bad || x.inStr || x.esc then none else some (if x.cur.isEmpty then x.words else x.words ++ [x.cur])

/-- A byte that is a letter. -/
def isLetter (b : Byte) : Bool := (65 ≤ b.toNat && b.toNat ≤ 90) || (97 ≤ b.toNat && b.toNat ≤ 122)
/-- A lower-case letter. -/
def isLower (b : Byte) : Bool := 97 ≤ b.toNat && b.toNat ≤ 122
/-- Split at the dots. -/
def splitDots : List Byte → List (List Byte)
  | [] => [[]]
  | b :: bs => if b = 46 then [] :: splitDots bs else
      match splitDots bs with
      | w :: ws => (b :: w) :: ws
      | [] => [[b]]
/-- R52: a segment of a path. -/
def segOk (w : List Byte) : Bool :=
  match w with
  | [] => false
  | b :: rest =>
    if isLower b then rest.all fun c => isLower c || isDigit c || c = 95
    else isDigit b && rest.all isDigit && (b != 48 || rest.isEmpty)
/-- R52: a well-formed path token. -/
def pathOk (w : List Byte) : Bool := 1 ≤ w.length && w.length ≤ 64 && (splitDots w).all segOk
/-- A keyword or verb word (R46). -/
def wordOk (w : List Byte) : Bool :=
  match w with
  | [] => false
  | b :: rest => isLetter b && rest.all fun c => isLetter c || isDigit c || c = 45 || c = 95
/-- A string token. -/
def stringOk (w : List Byte) : Bool := w.length ≥ 2 && w.headD 0 = 34 && w.getLastD 0 = 34
/-- The digits of a decimal literal before and after the point, and what follows. -/
def numParts (w : List Byte) : List Byte × List Byte × List Byte :=
  let i := w.takeWhile isDigit
  let r := w.dropWhile isDigit
  match r with
  | b :: rest => if b = 46 then (i, rest.takeWhile isDigit, rest.dropWhile isDigit) else (i, [], r)
  | [] => (i, [], [])
/-- R48: a numeric literal. -/
def numOk (w : List Byte) : Bool :=
  match w with
  | 48 :: 120 :: h => 1 ≤ h.length && h.length ≤ 16 && h.all isHexByte
  | 48 :: 98 :: h => 1 ≤ h.length && h.length ≤ 32 && h.all fun c => c = 48 || c = 49
  | _ =>
    let v := match w with
      | b :: r => if b = 43 || b = 45 then r else w
      | [] => w
    let (i, f, sfx) := numParts v
    let frac := (v.drop i.length).headD 0 = 46
    !i.isEmpty && (!frac || (1 ≤ f.length && f.length ≤ 6)) &&
      (sfx.isEmpty || ([.tick, .us, .ms, .s, .min, .h, .Hz, .kHz, .rpm, .V, .A, .mA, .C, .pct, .pctps, .um, .mm, .m, .mps,
        .mps2, .kPa, .dBm, .KiB, .MBps] : List Suffix).any fun x => bytesOf (suffixText x) == sfx)
/-- R53: `#` and a hex literal, with an optional dot and element. -/
def idOk (w : List Byte) : Bool :=
  match w with
  | 35 :: 48 :: 120 :: r =>
    match splitDots r with
    | [h] => !h.isEmpty && h.length ≤ 16 && h.all isHexByte
    | [h, e] => !h.isEmpty && h.length ≤ 16 && h.all isHexByte && !e.isEmpty && e.all isDigit
    | _ => false
  | _ => false
/-- R46: a token of any kind. -/
def tokenOk (w : List Byte) : Bool := pathOk w || wordOk w || stringOk w || numOk w || idOk w

end Sys2Proof.Machine
end

