-- ==== Sys2Proof/Machine/Parse.lean ====
section
/-! DEFINITION. From the tokens of a Fjart line to the command they spell (R46–R53 and the tables "Verbs and parameters"): the verbs with
their syntax and levels (Table 2.7), and the form of each verb's arguments. -/
namespace Sys2Proof.Machine

/-! ### Tokens as operands -/

/-- R52, R53: a path, or `#` with an ID and an element. -/
def refOf (w : List Byte) : Option PRef :=
  if pathOk w then
    some (.path ((splitDots w).map fun g => if g.all isDigit then .idx (digits4 g) else .name (textOf g)))
  else if idOk w then
    match splitDots (w.drop 3) with
    | [h] => some (.id (h.foldl (fun a x => 16 * a + hexVal x) 0) none)
    | [h, e] => some (.id (h.foldl (fun a x => 16 * a + hexVal x) 0) (some (digits4 e)))
    | _ => none
  else none
/-- The suffix that the bytes spell. -/
def suffixOf (w : List Byte) : Option Suffix :=
  ([.tick, .us, .ms, .s, .min, .h, .Hz, .kHz, .rpm, .V, .A, .mA, .C, .pct, .pctps, .um, .mm, .m, .mps, .mps2, .kPa, .dBm, .KiB,
    .MBps] : List Suffix).find? fun x => bytesOf (suffixText x) == w
/-- R46: the content of a string token. -/
def unescape : List Byte → List Byte
  | [] => []
  | [b] => [b]
  | b :: c :: rest => if b = 92 then c :: unescape rest else b :: unescape (c :: rest)
/-- R46, R48: a literal. A keyword is taken in upper case (R47). -/
def litOf (w : List Byte) : Option Lit :=
  if numOk w then
    match w with
    | 48 :: 120 :: h => some (.hex (h.foldl (fun a x => 16 * a + hexVal x) 0))
    | 48 :: 98 :: h => some (.bin (h.foldl (fun a x => 2 * a + (x.toNat - 48)) 0))
    | _ =>
      let v := if w.headD 0 = 43 || w.headD 0 = 45 then w.tail else w
      let (i, f, sfx) := numParts v
      some (.dec (w.headD 0 = 45) (digits4 (i ++ f)) f.length (suffixOf sfx))
  else if stringOk w then some (.str (unescape w.tail.dropLast))
  else if wordOk w then some (.word (upper (textOf w)))
  else none
/-- The number that an argument without a unit spells. DESIGN CHOICE: the manual does not say how such an argument is refused when it carries
a suffix or is no number; it is malformed (102). A number below 0 is carried as one above every range (assumption 58). -/
def natOf (w : List Byte) : Option Nat :=
  match litOf w with
  | some (.dec neg m f none) =>
    (match decRaw {} neg m f none with | .ok v => some (if v < 0 then 2 ^ 64 else v.toNat) | .error _ => none)
  | some (.hex v) => some v
  | some (.bin v) => some v
  | _ => none
/-- A numeric literal with or without a suffix. -/
def quantityOf (w : List Byte) : Option Lit := if numOk w then litOf w else none
/-- A bare token or a string, as the text of a name. -/
def nameOf (w : List Byte) : List Byte := if stringOk w then unescape w.tail.dropLast else w
/-- Every token by the same form. -/
def allOf {α : Type} (f : List Byte → Option α) : List (List Byte) → Option (List α)
  | [] => some []
  | w :: ws => (f w).bind fun a => (allOf f ws).map (a :: ·)
/-- Pairs of a path and a literal, at least one (R74). -/
def pairsOf : List (List Byte) → Option (List (PRef × Lit))
  | [] => none
  | [_] => none
  | [p, v] => (refOf p).bind fun r => (litOf v).map fun l => [(r, l)]
  | p :: v :: ws => (refOf p).bind fun r => (litOf v).bind fun l => (pairsOf ws).map ((r, l) :: ·)
/-- A bond by its name; a path that names no bond stands for one that does not exist. -/
def bondNamed (w : List Byte) : Option BondRef :=
  if upper (textOf w) == "ALL" then some .all
  else if !pathOk w then none
  else if textOf w == "geometry" then some .geometry
  else some (.one ((allBonds.find? fun b => bondName b == textOf w).getD (.limits 0)))
/-- A configuration source by its keyword. -/
def sourceNamed : String → Option CfgSource
  | "A" => some .a | "B" => some .b | "FACTORY" => some .factory | "WINDOW" => some .window | _ => none
/-- A level by its keyword. -/
def levelNamed : String → Option Level
  | "VIEW" => some .view | "OPERATE" => some .operate | "ENGINEER" => some .engineer | "FACTORY" => some .factory | _ => none
/-- An event level by its keyword. -/
def evLevelNamed : String → Option EvLevel
  | "NONE" => some .none | "INFO" => some .info | "NOTE" => some .note | "FAULT" => some .fault | "ALARM" => some .alarm | _ => none
/-- A severity by its keyword. -/
def severityNamed : String → Option Severity
  | "INFO" => some .info | "NOTE" => some .note | "FAULT" => some .fault | "ALARM" => some .alarm | _ => none
/-- A token in upper case, for comparison with the keywords. -/
def key (w : List Byte) : String := upper (textOf w)
/-- Pairs of hex digits, as bytes. -/
def hexOf? (w : List Byte) : Option (List Byte) := if !w.isEmpty && w.length % 2 = 0 && w.all isHexByte then some (hexBytes w) else none

/-! ### The arguments of each verb -/

/-- A command as the words of a line spell it: the verbs with their operands. -/
inductive Words where
  | get (ps : List PRef)
  | set (ps : List (PRef × Lit))
  | showCmd (subj : ShowSubj)
  | help (topic : HelpTopic)
  | mode (m : SesMode)
  | modeEvents (l : EvLevel)
  | login (lv : Level) (who : List Byte)
  | loginResponse (resp : U32)
  | logout
  | bondCommit (b : BondRef)
  | bondDiscard (b : BondRef)
  | bondShow (b : Option Bond)
  | configSave
  | configSaveAbort
  | configLoad (src : CfgSource)
  | configAccept
  | configDiff (src : Option CfgSource)
  | calShow (p : Option PRef)
  | calSet (ps : List (PRef × Lit))
  | calSave
  | calRestoreFactory
  | calRestoreConfirm (word : List Byte)
  | stateReady
  | stateRun
  | stateDrain
  | stateHold
  | courseLearn (n : Nat) (src : Nat)
  | courseLearnStop (n : Nat)
  | courseEnable (n : Nat)
  | courseDisable (n : Nat)
  | courseDisableAbort (n : Nat)
  | courseTest (n : Nat) (ch : Nat) (dur : Option Lit) (count : Option Nat) (period : Option Lit)
  | windowOpen (conn : Nat) (off : Nat) (len : Nat) (perm : Perm) (ticket : Bool)
  | windowOpenFull (conn : Nat)
  | windowRevoke (conn : Nat) (index : Nat)
  | windowRevokeFull (conn : Nat)
  | groupMode (g : Nat) (m : GroupMode)
  | groupAdd (g : Nat) (m : Member)
  | groupRemove (g : Nat) (m : Member)
  | groupPostPorts (g : Nat) (ports : List Nat)
  | groupTimeoutSet (g : Nat) (ms : Lit)
  | groupClass (g : Nat) (ticket : Bool)
  | groupSend (g : Nat) (msg : List Byte)
  | linkShow (port : Option Nat)
  | linkReset (port : Nat)
  | linkResetOff (port : Nat)
  | loopMode (n : Nat) (auto : Bool) (value : Option Lit)
  | loopOff (n : Nat)
  | loopFlags (n : Nat)
  | loopBatchStart
  | loopBatchNext
  | loopBatchHold
  | loopBatchResume
  | loopBatchAbort
  | fanStart (n : Nat) (speed : Option Lit)
  | fanStop (n : Nat)
  | fanReset (n : Nat)
  | ledgerLoad
  | ledgerUnload (close : Bool)
  | ledgerSeek (t : SeekTarget)
  | ledgerVerify (first : Option Nat) (last : Option Nat)
  | ledgerReplay (serial : Nat) (count : Nat) (off : Nat) (len : Nat)
  | ledgerAbort
  | sealShow (slot : Option Nat)
  | sealShowLedger
  | sealRekey (slot : Nat)
  | sealRekeyAbort (slot : Nat)
  | sealRekeyClear (slot : Nat)
  | sealRekeyLedger
  | sealRekeyLedgerImport (wrapped : List Byte)
  | crownShow
  | crownYield
  | crownTake
  | evRead (start : Option Nat) (count : Option Nat) (min : Option Severity)
  | evFreeze
  | evThaw
  | evClear (range : Option (Nat × Nat))
deriving DecidableEq, Repr


/-- What SHOW names (R76 and the chapters' tables): a subject by its keyword, or a path. -/
def subjectOf (w : List (List Byte)) : Option ShowSubj :=
  let one (s : ShowSubj) (rest : List (List Byte)) : Option ShowSubj := if rest.isEmpty then some s else none
  let num (f : Nat → ShowSubj) (rest : List (List Byte)) : Option ShowSubj :=
    match rest with | [n] => (natOf n).map f | _ => none
  match w with
  | [] => none
  | k :: rest =>
    let path := if rest.isEmpty then (refOf k).map ShowSubj.subtree else none
    match key k with
    | "TIME" => one .time rest | "PARTNERS" => one .partners rest | "STATE" => one .state rest
    | "TICKETS" => one .tickets rest | "CONNS" => one .conns rest | "DRYER" => one .dryer rest | "IO" => one .io rest
    | "CARTRIDGE" => one .cartridge rest | "LEDGER" => one .ledger rest | "HARDWARE" => one .hardware rest
    | "RING" => num .ring rest | "CONN" => num .conn rest | "GROUP" => num .group rest
    | "PLUMB" => (num .plumb rest).or path | "COURSE" => (num .course rest).or path | "AIR" => (num .air rest).or path
    | "LOOP" => num .loop rest | "FAN" => (num .fan rest).or path
    | "WINDOWS" => if rest.isEmpty then some (.windows none) else num (fun n => .windows (some n)) rest
    | _ => path
/-- BOND, CONFIG and CAL (chapter 3). -/
def bankVerb (v : String) (w : List (List Byte)) : Option Words :=
  match v, w with
  | "BOND COMMIT", [b] => (bondNamed b).map .bondCommit
  | "BOND DISCARD", [b] => (bondNamed b).map .bondDiscard
  | "BOND SHOW", [] => some (.bondShow none)
  | "BOND SHOW", [b] =>
    (bondNamed b).map fun r => .bondShow (some (match r with | .one b => b | _ => .limits 0))
  | "CONFIG SAVE", [] => some .configSave
  | "CONFIG SAVE", [a] => if key a == "ABORT" then some (.configSaveAbort) else none
  | "CONFIG LOAD", [a] => (sourceNamed (key a)).map .configLoad
  | "CONFIG ACCEPT", [] => some .configAccept
  | "CONFIG DIFF", [] => some (.configDiff none)
  | "CONFIG DIFF", [a] => if key a == "WINDOW" then none else (sourceNamed (key a)).map fun s => .configDiff (some s)
  | "CAL SHOW", [] => some (.calShow none)
  | "CAL SHOW", [p] => (refOf p).map fun r => .calShow (some r)
  | "CAL SET", _ => (pairsOf w).map .calSet
  | "CAL SAVE", [] => some .calSave
  | "CAL RESTORE", [f] => if key f == "FACTORY" then some .calRestoreFactory else none
  | "CAL RESTORE", [f, t] => if key f == "FACTORY" then some (.calRestoreConfirm t) else none
  | _, _ => none
/-- STATE, COURSE, FAN and LOOP (chapters 4, 6, 7, 10, 11). -/
def lineVerb (v : String) (w : List (List Byte)) : Option Words :=
  match v, w with
  | "STATE HOLD", [] => some .stateHold
  | "STATE READY", [] => some .stateReady
  | "STATE RUN", [] => some .stateRun
  | "STATE DRAIN", [] => some .stateDrain
  | "COURSE ENABLE", [n] => (natOf n).map .courseEnable
  | "COURSE DISABLE", [n] => (natOf n).map .courseDisable
  | "COURSE DISABLE", [n, a] => if key a == "ABORT" then (natOf n).map .courseDisableAbort else none
  | "COURSE LEARN", [n, a] => if key a == "STOP" then (natOf n).map .courseLearnStop else none
  | "COURSE LEARN", [n, a, s] =>
    if key a == "SOURCE" then (natOf n).bind fun n => (natOf s).map fun s => .courseLearn n s else none
  | "COURSE TEST", n :: ch :: rest =>
    (natOf n).bind fun n => (natOf ch).bind fun ch =>
      let (dur, rest) := match rest with
        | d :: r => if numOk d then (quantityOf d, r) else (none, rest)
        | [] => (none, [])
      match rest with
      | [] => some (.courseTest n ch dur none none)
      | [a, k] =>
        if key a == "COUNT" then (natOf k).map fun k => .courseTest n ch dur (some k) none
        else if key a == "PERIOD" then (quantityOf k).map fun p => .courseTest n ch dur none (some p)
        else none
      | [a, k, b, p] =>
        if key a == "COUNT" && key b == "PERIOD" then
          (natOf k).bind fun k => (quantityOf p).map fun p => .courseTest n ch dur (some k) (some p)
        else none
      | _ => none
  | "FAN", [n, a] =>
    (natOf n).bind fun n => match key a with
      | "START" => some (.fanStart n none) | "STOP" => some (.fanStop n) | "RESET" => some (.fanReset n) | _ => none
  | "FAN", [n, a, v] => if key a == "START" then (natOf n).bind fun n => (quantityOf v).map fun l => .fanStart n (some l) else none
  | "LOOP", [n, a] =>
    if key n == "BATCH" then
      match key a with
      | "START" => some .loopBatchStart | "NEXT" => some .loopBatchNext | "HOLD" => some .loopBatchHold
      | "RESUME" => some .loopBatchResume | "ABORT" => some .loopBatchAbort | _ => none
    else (natOf n).bind fun n => match key a with
      | "OFF" => some (.loopOff n) | "MANUAL" => some (.loopMode n false none) | "AUTO" => some (.loopMode n true none)
      | "FLAGS" => some (.loopFlags n) | _ => none
  | "LOOP", [n, a, v] =>
    if key a == "MANUAL" then (natOf n).bind fun n => (quantityOf v).map fun l => .loopMode n false (some l) else none
  | _, _ => none
/-- The name of a port (Table 8.16). -/
def portName (p : Nat) : String := (["NONE", "CLS-A", "CLS-B", "CLS-C", "CLS-D", "SUP", "SUP-T", "PEER"] : List String).getD p ""
/-- A port by its name (R331, Worked case 9.1) or its number. -/
def portOf (w : List Byte) : Option Nat :=
  match ([1, 2, 3, 4, 5, 6, 7] : List Nat).find? fun p => key w == portName p with
  | some p => some p
  | none => natOf w
/-- WINDOW, GROUP and LINK (chapter 9). -/
def linkVerb (v : String) (w : List (List Byte)) : Option Words :=
  let perm (w : List Byte) : Option Perm := match key w with | "RO" => some .ro | "WO" => some .wo | "RW" => some .rw | _ => none
  let cls (w : List Byte) : Option Bool := match key w with | "TICKET" => some true | "BULK" => some false | _ => none
  let open_ (c o l p : List Byte) (ticket : Bool) : Option Words :=
    (natOf c).bind fun c => (natOf o).bind fun o => (natOf l).bind fun l => (perm p).map fun p => .windowOpen c o l p ticket
  let member (k n : List Byte) : Option Member :=
    match key k with | "PORT" => (portOf n).map .port | "CONN" => (natOf n).map .conn | _ => none
  match v, w with
  | "WINDOW OPEN", [c, f] => if key f == "FULL" then (natOf c).map .windowOpenFull else none
  | "WINDOW OPEN", [c, s, o, l, p] => if key s == "SHARE" then open_ c o l p false else none
  | "WINDOW OPEN", [c, s, o, l, p, t] => if key s == "SHARE" then (cls t).bind (open_ c o l p) else none
  | "WINDOW REVOKE", [c, i] =>
    (natOf c).bind fun c => if key i == "FULL" then some (.windowRevokeFull c) else (natOf i).map fun i => .windowRevoke c i
  | "GROUP", g :: a :: rest =>
    (natOf g).bind fun g => match key a, rest with
      | "MODE", [m] => (match key m with
        | "RELIABLE" => some (.groupMode g .reliable) | "UNRELIABLE" => some (.groupMode g .unreliable)
        | "FREE" => some (.groupMode g .free) | _ => none)
      | "ADD", [k, n] => (member k n).map (.groupAdd g)
      | "REMOVE", [k, n] => (member k n).map (.groupRemove g)
      | "POST", p :: ps => if key p == "NONE" && ps.isEmpty then some (.groupPostPorts g [])
        else (allOf portOf (p :: ps)).map (.groupPostPorts g)
      | "TIMEOUT", [t] => (quantityOf t).map (.groupTimeoutSet g)
      | "CLASS", [c] => (cls c).map (.groupClass g)
      | "SEND", [t] => if stringOk t then some (.groupSend g (unescape t.tail.dropLast)) else none
      | _, _ => none
  | "LINK SHOW", [] => some (.linkShow none)
  | "LINK SHOW", [p] => (portOf p).map fun p => .linkShow (some p)
  | "LINK RESET", [p] => (portOf p).map .linkReset
  | "LINK RESET", [p, o] => if key o == "OFF" then (portOf p).map .linkResetOff else none
  | _, _ => none
/-- LEDGER and SEAL (chapters 13, 14). -/
def sealVerb (v : String) (w : List (List Byte)) : Option Words :=
  match v, w with
  | "LEDGER LOAD", [] => some .ledgerLoad
  | "LEDGER UNLOAD", [] => some (.ledgerUnload false)
  | "LEDGER UNLOAD", [c] => if key c == "CLOSE" then some (.ledgerUnload true) else none
  | "LEDGER SEEK", [t] => if key t == "END" then some (.ledgerSeek .end_) else (natOf t).map fun n => .ledgerSeek (.seq n)
  | "LEDGER SEEK", [k, t] => if key k == "SERIAL" then (natOf t).map fun n => .ledgerSeek (.serial n) else none
  | "LEDGER VERIFY", [] => some (.ledgerVerify none none)
  | "LEDGER VERIFY", [a] => (natOf a).map fun a => .ledgerVerify (some a) none
  | "LEDGER VERIFY", [a, b] => (natOf a).bind fun a => (natOf b).map fun b => .ledgerVerify (some a) (some b)
  | "LEDGER REPLAY", [s, c, k, o, l] =>
    if key k == "SHARE" then
      (natOf s).bind fun s => (natOf c).bind fun c => (natOf o).bind fun o => (natOf l).map fun l => .ledgerReplay s c o l
    else none
  | "LEDGER ABORT", [] => some (.ledgerAbort)
  | "SEAL SHOW", [] => some (.sealShow none)
  | "SEAL SHOW", [r] => if key r == "LEDGER" then some .sealShowLedger else (natOf r).map fun r => .sealShow (some r)
  | "SEAL REKEY", [r] => if key r == "LEDGER" then some .sealRekeyLedger else (natOf r).map .sealRekey
  | "SEAL REKEY", [r, a] =>
    (natOf r).bind fun r => match key a with
      | "ABORT" => some (.sealRekeyAbort r) | "CLEAR" => some (.sealRekeyClear r) | _ => none
  | "SEAL REKEY", [r, i, h] =>
    if key r == "LEDGER" && key i == "IMPORT" then (hexOf? h).map .sealRekeyLedgerImport else none
  | _, _ => none
/-- CROWN and EV (chapters 15, 16). -/
def crownVerb (v : String) (w : List (List Byte)) : Option Words :=
  let read (from_ : Option Nat) (count : Option Nat) (w : List (List Byte)) : Option Words :=
    match w with
    | [] => some (.evRead from_ count none)
    | [m, s] => if key m == "MIN" then (severityNamed (key s)).map fun v => .evRead from_ count (some v) else none
    | _ => none
  let count (from_ : Option Nat) (w : List (List Byte)) : Option Words :=
    match w with
    | c :: n :: rest => if key c == "COUNT" then (natOf n).bind fun n => read from_ (some n) rest else read from_ none w
    | _ => read from_ none w
  match v, w with
  | "CROWN SHOW", [] => some .crownShow
  | "CROWN YIELD", [] => some .crownYield
  | "CROWN TAKE", [] => some (.crownTake)
  | "EV READ", f :: n :: rest => if key f == "FROM" then (natOf n).bind fun n => count (some n) rest else count none w
  | "EV READ", _ => count none w
  | "EV FREEZE", [] => some .evFreeze
  | "EV THAW", [] => some .evThaw
  | "EV CLEAR", [] => some (.evClear none)
  | "EV CLEAR", [a, b] => (natOf a).bind fun a => (natOf b).map fun b => .evClear (some (a, b))
  | _, _ => none

/-! ### The verbs -/

/-- Table 2.7: each verb with the syntax that its chapter gives it and its lowest level. -/
def verbForms : List (String × String × Level) :=
  [("GET", "<path> [<path> ...]", .view), ("SET", "<path> <value> [<path> <value> ...]", .view),
   ("SHOW", "<subject> | <path>", .view), ("HELP", "[<verb> | <path>]", .none),
   ("MODE", "TYPED | GEN [CHECK] | EVENTS NONE|INFO|NOTE|FAULT|ALARM", .none),
   ("LOGIN", "VIEW|OPERATE|ENGINEER|FACTORY [<name>] | RESPONSE <hhhhhhhh>", .none), ("LOGOUT", "", .none),
   ("BOND COMMIT", "<bond> | geometry", .engineer), ("BOND DISCARD", "<bond> | geometry | ALL", .engineer),
   ("BOND SHOW", "[<bond>]", .view), ("CONFIG SAVE", "[ABORT]", .engineer), ("CONFIG LOAD", "A|B|FACTORY|WINDOW", .engineer),
   ("CONFIG ACCEPT", "", .engineer), ("CONFIG DIFF", "[A|B|FACTORY]", .view), ("CAL SHOW", "[<path>]", .view),
   ("CAL SET", "<path> <value> [...]", .engineer), ("CAL SAVE", "", .engineer), ("CAL RESTORE", "FACTORY [<word>]", .engineer),
   ("STATE HOLD", "", .operate), ("STATE READY", "", .operate), ("STATE RUN", "", .operate), ("STATE DRAIN", "", .operate)] ++
  [("COURSE ENABLE", "<N>", .operate), ("COURSE DISABLE", "<N> [ABORT]", .operate),
   ("COURSE TEST", "<N> <ch> [<duration>] [COUNT <n>] [PERIOD <p>]", .engineer),
   ("COURSE LEARN", "<N> SOURCE <s> | <N> STOP", .engineer), ("FAN", "<N> START [<speed>] | <N> STOP | <N> RESET", .operate),
   ("LOOP", "<n> OFF | MANUAL [<value>] | AUTO | FLAGS; BATCH START|NEXT|HOLD|RESUME|ABORT", .operate),
   ("LINK SHOW", "[<port>]", .view), ("LINK RESET", "<port> [OFF]", .engineer),
   ("WINDOW OPEN", "<conn> SHARE <offset> <length> RO|WO|RW [TICKET|BULK] | <conn> FULL", .engineer),
   ("WINDOW REVOKE", "<conn> <index> | <conn> FULL", .engineer),
   ("GROUP", "<g> MODE <mode> | ADD|REMOVE PORT|CONN <n> | POST <port> ...|NONE | TIMEOUT <t> | CLASS TICKET|BULK | SEND <text>",
     .engineer)] ++
  [("LEDGER LOAD", "", .operate), ("LEDGER UNLOAD", "[CLOSE]", .operate),
   ("LEDGER SEEK", "<seq> | SERIAL <serial> | END", .operate), ("LEDGER VERIFY", "[<first> [<last>]]", .operate),
   ("LEDGER REPLAY", "<serial> <count> SHARE <offset> <length>", .operate), ("LEDGER ABORT", "", .operate),
   ("SEAL SHOW", "[<region>] | LEDGER", .view), ("SEAL REKEY", "<region> [ABORT|CLEAR] | LEDGER [IMPORT <80 hex>]", .engineer),
   ("CROWN SHOW", "", .view), ("CROWN YIELD", "", .engineer), ("CROWN TAKE", "", .engineer),
   ("EV READ", "[FROM <seq>] [COUNT <n>] [MIN <severity>]", .view), ("EV FREEZE", "", .operate), ("EV THAW", "", .operate),
   ("EV CLEAR", "[<first> <last>]", .engineer)]
/-- The verb that the first words of a line spell, with the tokens that follow. -/
def verbOf (ws : List (List Byte)) : Option (String × List (List Byte)) :=
  match ws with
  | [] => none
  | [v] => (verbForms.find? fun f => f.1 == key v).map fun f => (f.1, [])
  | v :: w :: rest =>
    match verbForms.find? fun f => f.1 == key v with
    | some f => some (f.1, w :: rest)
    | none => (verbForms.find? fun f => f.1 == key v ++ " " ++ key w).map fun f => (f.1, rest)
/-- What HELP names (R77): a verb by its words, or a parameter. -/
def topicOf (w : List (List Byte)) : Option HelpTopic :=
  match w with
  | [] => some .all
  | [v] => if verbForms.any fun f => f.1 == key v || (key v ++ " ").isPrefixOf f.1 then some (.verb (key v)) else (refOf v).map .param
  | [v, x] => if verbForms.any fun f => f.1 == key v ++ " " ++ key x then some (.verb (key v ++ " " ++ key x)) else none
  | _ => none
/-- The general verbs (chapter 2). -/
def generalVerb (v : String) (w : List (List Byte)) : Option Words :=
  match v, w with
  | "GET", p :: ps => (allOf refOf (p :: ps)).map .get
  | "SET", _ => (pairsOf w).map .set
  | "SHOW", _ => (subjectOf w).map .showCmd
  | "HELP", _ => (topicOf w).map .help
  | "MODE", [m] => (match key m with | "TYPED" => some (.mode .typed) | "GEN" => some (.mode .gen) | _ => none)
  | "MODE", [m, x] =>
    if key m == "GEN" && key x == "CHECK" then some (.mode .genCheck)
    else if key m == "EVENTS" then (evLevelNamed (key x)).map .modeEvents else none
  | "LOGIN", [l] => (levelNamed (key l)).map fun l => .login l []
  | "LOGIN", [l, n] =>
    if key l == "RESPONSE" then
      if n.length = 8 && n.all isHexByte then some (.loginResponse (BitVec.ofNat 32 (beNat (hexBytes n)))) else none
    else (levelNamed (key l)).map fun l => .login l (nameOf n)
  | "LOGOUT", [] => some .logout
  | _, _ => none
/-- The command that the tokens of a line spell: 101 when they begin with no verb of Table 2.7, 102 when its arguments are malformed (R68). -/
def spelled (ws : List (List Byte)) : Except Nat Words :=
  match verbOf ws with
  | none => .error (if (ws.headD []).isEmpty || !wordOk (ws.headD []) then 102 else 101)
  | some (v, w) =>
    match ((((generalVerb v w).or (bankVerb v w)).or (lineVerb v w)).or (linkVerb v w)).or
        ((sealVerb v w).or (crownVerb v w)) with
    | some i => .ok i
    | none => .error 102
/-- The header and the words of a command that is an executed line; what only its environment gives it, how far the operation it aborts had
come (R159) and what the check of MRAM found (R514), is no part of the words. `SET probe.r.run STOP` is a SET line. -/
def lineOf : Instr → Option (Ln × Words)
  | .get ln ps => some (ln, .get ps)
  | .set ln ps => some (ln, .set ps)
  | .showCmd ln subj => some (ln, .showCmd subj)
  | .help ln topic => some (ln, .help topic)
  | .mode ln m => some (ln, .mode m)
  | .modeEvents ln l => some (ln, .modeEvents l)
  | .login ln lv who => some (ln, .login lv who)
  | .loginResponse ln resp => some (ln, .loginResponse resp)
  | .logout ln => some (ln, .logout)
  | .bondCommit ln b => some (ln, .bondCommit b)
  | .bondDiscard ln b => some (ln, .bondDiscard b)
  | .bondShow ln b => some (ln, .bondShow b)
  | .configSave ln => some (ln, .configSave)
  | .configSaveAbort ln _ => some (ln, .configSaveAbort)
  | .configLoad ln src => some (ln, .configLoad src)
  | .configAccept ln => some (ln, .configAccept)
  | .configDiff ln src => some (ln, .configDiff src)
  | .calShow ln p => some (ln, .calShow p)
  | .calSet ln ps => some (ln, .calSet ps)
  | .calSave ln => some (ln, .calSave)
  | .calRestoreFactory ln => some (ln, .calRestoreFactory)
  | .calRestoreConfirm ln word => some (ln, .calRestoreConfirm word)
  | .stateReady ln => some (ln, .stateReady)
  | .stateRun ln => some (ln, .stateRun)
  | .stateDrain ln => some (ln, .stateDrain)
  | .stateHold ln => some (ln, .stateHold)
  | .courseLearn ln n src => some (ln, .courseLearn n src)
  | .courseLearnStop ln n => some (ln, .courseLearnStop n)
  | .courseEnable ln n => some (ln, .courseEnable n)
  | .courseDisable ln n => some (ln, .courseDisable n)
  | .courseDisableAbort ln n => some (ln, .courseDisableAbort n)
  | .courseTest ln n ch dur count period => some (ln, .courseTest n ch dur count period)
  | .windowOpen ln conn off len perm ticket => some (ln, .windowOpen conn off len perm ticket)
  | .windowOpenFull ln conn => some (ln, .windowOpenFull conn)
  | .windowRevoke ln conn index => some (ln, .windowRevoke conn index)
  | .windowRevokeFull ln conn => some (ln, .windowRevokeFull conn)
  | .groupMode ln g m => some (ln, .groupMode g m)
  | .groupAdd ln g m => some (ln, .groupAdd g m)
  | .groupRemove ln g m => some (ln, .groupRemove g m)
  | .groupPostPorts ln g ports => some (ln, .groupPostPorts g ports)
  | .groupTimeoutSet ln g ms => some (ln, .groupTimeoutSet g ms)
  | .groupClass ln g ticket => some (ln, .groupClass g ticket)
  | .groupSend ln g msg => some (ln, .groupSend g msg)
  | .linkShow ln port => some (ln, .linkShow port)
  | .linkReset ln port => some (ln, .linkReset port)
  | .linkResetOff ln port => some (ln, .linkResetOff port)
  | .loopMode ln n auto value => some (ln, .loopMode n auto value)
  | .loopOff ln n => some (ln, .loopOff n)
  | .loopFlags ln n => some (ln, .loopFlags n)
  | .loopBatchStart ln => some (ln, .loopBatchStart)
  | .loopBatchNext ln => some (ln, .loopBatchNext)
  | .loopBatchHold ln => some (ln, .loopBatchHold)
  | .loopBatchResume ln => some (ln, .loopBatchResume)
  | .loopBatchAbort ln => some (ln, .loopBatchAbort)
  | .fanStart ln n speed => some (ln, .fanStart n speed)
  | .fanStop ln n => some (ln, .fanStop n)
  | .fanReset ln n => some (ln, .fanReset n)
  | .probeRunStop ln r => some (ln, .set [(.path [.name "probe", .idx r, .name "run"], .word "STOP")])
  | .ledgerLoad ln => some (ln, .ledgerLoad)
  | .ledgerUnload ln close => some (ln, .ledgerUnload close)
  | .ledgerSeek ln t => some (ln, .ledgerSeek t)
  | .ledgerVerify ln first last => some (ln, .ledgerVerify first last)
  | .ledgerReplay ln serial count off len => some (ln, .ledgerReplay serial count off len)
  | .ledgerAbort ln _ => some (ln, .ledgerAbort)
  | .sealShow ln slot => some (ln, .sealShow slot)
  | .sealShowLedger ln => some (ln, .sealShowLedger)
  | .sealRekey ln slot => some (ln, .sealRekey slot)
  | .sealRekeyAbort ln slot => some (ln, .sealRekeyAbort slot)
  | .sealRekeyClear ln slot => some (ln, .sealRekeyClear slot)
  | .sealRekeyLedger ln => some (ln, .sealRekeyLedger)
  | .sealRekeyLedgerImport ln wrapped => some (ln, .sealRekeyLedgerImport wrapped)
  | .crownShow ln => some (ln, .crownShow)
  | .crownYield ln => some (ln, .crownYield)
  | .crownTake ln _ => some (ln, .crownTake)
  | .evRead ln start count min => some (ln, .evRead start count min)
  | .evFreeze ln => some (ln, .evFreeze)
  | .evThaw ln => some (ln, .evThaw)
  | .evClear ln range => some (ln, .evClear range)
  | _ => none
/-- The text of an executed line, in a session's mode, spells the command (R46, R56, R60). -/
def spells (mode : SesMode) (i : Instr) : Bool :=
  match lineOf i with
  | none => true
  | some (ln, v) =>
    match wordsOf (if mode == .typed then ln.text else afterTag (bareLine mode ln.text)) with
    | none => false
    | some ws => match spelled ws with
      | .ok u => u == v
      | .error _ => false

end Sys2Proof.Machine
end

