-- ==== Sys2Proof/Machine/Line.lean ====
section
/-! DEFINITION. The line at the head of a session's input (chapter 2): whose turn it is, the faults it is refused for before any verb
runs, and the verb's run as one unit. -/
namespace Sys2Proof.Machine

/-! ### The prompt -/

/-- R310: the session awaits the `=` reply of a WINDOW REVOKE. -/
def State.awaits (s : State) (i : Nat) : Bool := s.net.revoking.any fun r => r.ln.ses = i
/-- In TYPED mode a prompt goes out before every line. A changed sys.console.baud holds from the first byte after the `=` reply. -/
def State.prompt (s : State) (i : Nat) : State :=
  s.updSession i fun x =>
    let y : Session := { x with baud := if x.idx = 0 then s.num 0x020 else x.baud }
    if y.mode == .typed && !s.awaits i then y.say { out := .prompt } else y

/-- The reply of an executed line, if it is not pending, and the prompt for the next. -/
def State.replied (s : State) (ln : Ln) (o : Out) : State := (s.answer ln o).prompt ln.ses

/-! ### Faults before any verb (R45, R46, R54–R61, R68) -/

/-- What a received line deserves before any verb runs (R68): nothing (it is empty), an error code, or execution. -/
inductive LineFault where
  | ignore | error (code : Nat) | none
deriving DecidableEq, Repr

/-- R45, R46, R54–R61, R68: the faults of a line in their order: 103, 104, 105, 102 for bytes and tokens, 101, 102 for the arguments of a
known verb. `expects` is the tag due next. DESIGN CHOICE: a line without a token is ignored (R46) whatever its length, so one of more than
200 spaces is not answered 103 (assumption 58). -/
def lineFault (mode : SesMode) (expects : Option Nat) (spoiled : Bool) (l : List Byte) : LineFault :=
  let core := bareLine mode l
  let body := if mode == .typed then l else afterTag core
  if core.all blank && !spoiled then .ignore
  else if l.length > 200 then .error 103
  else if mode != .typed && checkFails mode l then .error 104
  else if mode != .typed && ((tagOf core).isNone || (expects.isSome && tagOf core != expects)) then .error 105
  else if spoiled || !l.all lineByte then .error 102
  else
    match wordsOf body with
    | none => .error 102
    | some ws => match spelled ws with
      | .error c => .error c
      | .ok _ => .none

/-- The tag that session `x` expects next; none when any tag sets the sequence (R56). -/
def Session.expects (x : Session) : Option Nat := if x.anyTag then none else x.lastTag.map fun t => (t + 1) % 10000
/-- R57: the detail of a 105. DESIGN CHOICE: where any tag is allowed there is no expected tag to name, and the model leaves the detail out
(assumption 58). -/
def Session.tagDetail (x : Session) : String := x.expects.elim "" fun t => "expected @" ++ digitsText 4 t
/-- The tag a reply to a received line carries: in GEN mode the line's, when one is readable (R57, R62). -/
def Session.replyTag (x : Session) (text : List Byte) : Option Nat :=
  if x.mode == .typed then none else tagOf (withoutCheck text)
/-- R58: the line repeats the tag consumed last, byte for byte. -/
def Session.repeats (x : Session) (text : List Byte) : Bool :=
  x.mode != .typed && x.lastTag.isSome && tagOf (withoutCheck text) == x.lastTag && text == x.lastLine

/-! ### Whose turn it is (R42, R91) -/

/-- R42: whether the head line of `x` goes before the head line of `y`, which arrived with it or later: of lines that arrived in one tick
the session served longer ago goes first, and of two never served the lower index (assumption 58). -/
def Session.goesBefore (x y : Session) (a b : InLine) : Bool :=
  tickBefore a.at_ b.at_ || (a.at_ == b.at_ && (x.served < y.served || (x.served == y.served && x.idx < y.idx)))
/-- R91, R310: the session takes no line now: its reply buffer is full, or it awaits the reply of a revoke. -/
def State.stuck (s : State) (x : Session) : Bool := s.bufferFull x || s.awaits x.idx
/-- R42, R91: it is the session's turn: it can take a line, and its oldest line goes before that of every other session that can. -/
def State.turn (s : State) (x : Session) : Bool :=
  match x.input with
  | [] => false
  | a :: _ => !s.stuck x && s.sessions.all fun y =>
      match y.input with
      | [] => true
      | b :: _ => y.idx == x.idx || s.stuck y || x.goesBefore y a b
/-- The number of the next line served. -/
def State.nextServed (s : State) : Nat := s.sessions.foldl (fun a x => max a x.served) 0 + 1

/-- What becomes of a line (R42, R46, R57–R61, R68): it waits, is ignored, gets its earlier reply again, is refused, or its verb runs. -/
inductive LineFate where
  | wait | ignore | again | refuse (code : Nat) | run
deriving DecidableEq, Repr
/-- The fate of a line that stands at the head of its session's input; a line that does not stand there waits. A line without terminator is
no repeat (R39). -/
def State.fate (s : State) (ses : Nat) (text : List Byte) : LineFate :=
  match s.session? ses with
  | none => .wait
  | some x =>
    match x.input with
    | [] => .wait
    | l :: _ =>
      if l.text != text || !s.turn x then .wait
      else if x.repeats text && !l.bad then .again
      else match lineFault x.mode x.expects l.bad text with
        | .ignore => .ignore
        | .error c => .refuse c
        | .none => .run

/-! ### What becomes of it -/

/-- A line leaves the input without consuming its tag (R59); the idle time starts again (R87). -/
def Session.dropLine (x : Session) (now : Tick) (turn : Nat) : Session :=
  { x with input := x.input.tail, served := turn, idleSince := now }
/-- The line is taken from the session's input and, in GEN mode, consumes its tag (R56, R59). -/
def Session.takeLine (x : Session) (ln : Ln) (now : Tick) (turn : Nat) : Session :=
  { x with
    input := x.input.tail
    served := turn
    lastTag := if x.mode == .typed then x.lastTag else ln.tag
    anyTag := x.anyTag && x.mode == .typed
    lastLine := if x.mode == .typed then x.lastLine else ln.text
    lastReply := if x.mode == .typed then x.lastReply else []
    idleSince := now }
/-- The state in which a verb runs: the session has consumed the line and its tag, and its idle time starts again (R56, R87). -/
def State.lineTaken (s : State) (ln : Ln) : State := s.updSession ln.ses (·.takeLine ln s.now s.nextServed)
/-- The line has left the input and consumed no tag (R59). -/
def State.lineDropped (s : State) (ses : Nat) : State := s.updSession ses (·.dropLine s.now s.nextServed)

/-- The header of a received line: its session, the tag of its text in GEN mode, its text. -/
def State.header (s : State) (ses : Nat) (text : List Byte) : Ln :=
  { ses := ses, tag := (s.session? ses).bind (·.replyTag text), text := text }
/-- R57, R59, R68: the line is refused. 103, 104 and 105 do not consume the tag, and their reply is none that a repeat gets (R58). -/
def State.lineRefused (s : State) (ses : Nat) (text : List Byte) (c : Nat) : State :=
  let ln := s.header ses text
  if c = 103 || c = 104 || c = 105 then
    let d := if c = 105 then (s.session? ses).elim "" (·.tagDetail) else ""
    ((s.lineDropped ses).say ses { tag := ln.tag, out := .err c d }).prompt ses
  else (s.lineTaken ln).replied ln (.err c "")
/-- R58: the earlier reply goes out again, and nothing is executed. -/
def State.lineAgain (s : State) (ses : Nat) : State :=
  (s.lineDropped ses).updSession ses fun x => x.lastReply.foldl Session.say x

/-- The level of a session reaches the verb's (R79): otherwise 201 or 202. -/
def levelFault (have_ need : Level) : Option Nat :=
  if need == .none then none
  else if have_ == .none then some 201
  else if levelRank have_ < levelRank need then some 202
  else none
/-- An executed Fjart line (R42): it must stand at the head of its session's input, with the session's turn and room for the reply (R91);
its header is that of its text. A line that R57–R61 or R68 stop is refused, repeated or ignored; then the session's level must reach the
verb's (R79), and the verb runs as one unit. -/
def State.verb (s : State) (ln : Ln) (need : Level) (body : State → VerbRes) : State :=
  match s.fate ln.ses ln.text with
  | .wait => s
  | .ignore => (s.lineDropped ln.ses).prompt ln.ses
  | .again => s.lineAgain ln.ses
  | .refuse c => s.lineRefused ln.ses ln.text c
  | .run =>
    if ln != s.header ln.ses ln.text then s
    else
      let r := match levelFault (s.levelOf ln) need with
        | some c => refuse (s.lineTaken ln) c
        | none => body (s.lineTaken ln)
      (match r.2 with
      | none => r.1
      | some o => r.1.answer ln o).prompt ln.ses

end Sys2Proof.Machine
end

