-- ==== Sys2Proof/Machine/Params.lean ====
section
/-! DEFINITION. The parameter values, the bonds and the banks of chapter 3: reading and writing running values, staged sets
and their checks, the bank format, its validity and its cross-check. -/
namespace Sys2Proof.Machine

/-! ### Running values -/

/-- Order of stored values: by ID, then element. -/
def parBefore (a b : ParamVal) : Bool := a.id < b.id || (a.id == b.id && a.elem < b.elem)
/-- Values with element `e` of parameter `id` set: a value equal to the default is not held. -/
def parPut (l : List ParamVal) (id e : Nat) (v : Int) : List ParamVal :=
  let rest := l.filter fun p => !(p.id == id && p.elem == e)
  if v = defaultRaw id e then rest else insertBy parBefore { id := id, elem := e, raw := v } rest

/-- An enumeration or switch that does not stand at its first keyword. -/
def State.on (s : State) (id : Nat) (e : Nat := 0) : Bool := s.raw id e != 0
/-- A string parameter's bytes; empty when unset. -/
def State.text (s : State) (id : Nat) : List Byte := ((s.par.strs.find? fun p => p.id == id).map (·.text)).getD []
/-- A write-only parameter holds a value. -/
def State.isSet (s : State) (id : Nat) : Bool := s.par.strs.any fun p => p.id == id
/-- The 32 bytes that a key parameter's 64 hex characters spell. -/
def State.key (s : State) (id : Nat) : List Byte := hexBytes (s.text id)

/-- sys.courses. -/
def State.courseCount (s : State) : Nat := s.num 0x002

/-- R496: a parameter that each Keystone of a pair keeps as its own. -/
def isLocal (id : Nat) : Bool :=
  id / 256 = 1 || id / 256 = 0xC || id / 256 = 0xD || (0x20 ≤ id && id ≤ 0x4F)

/-- The parameter is an array. -/
def isArray (id : Nat) : Bool := (descOfId id).elim false fun p => p.1.elems != 0

/-- R100: the change count of a scalar rises by 1. -/
def bumpCount (id : Nat) (l : List (Nat × Nat)) : List (Nat × Nat) :=
  if isArray id then l else assocSet id ((lookupD id 0 l + 1) % 65536) l

/-- A running value changes (R98, R100); a change is noted for the next epoch (R495). -/
def State.setRaw (s : State) (id e : Nat) (v : Int) : State :=
  if s.raw id e = v then s
  else { s with
    par.vals := parPut s.par.vals id e v
    par.before := if s.par.before.any fun p => p.id == id && p.elem == e then s.par.before
      else { id := id, elem := e, raw := s.raw id e } :: s.par.before
    par.counts := bumpCount id s.par.counts
    crown.changedParams := if isLocal id then s.crown.changedParams
      else s.crown.changedParams ++ [{ id := id, elem := e, raw := v }] }
/-- The raw value in force at the start of the present tick (R210, R239). -/
def State.rawStart (s : State) (id : Nat) (e : Nat := 0) : Int :=
  ((s.par.before.find? fun p => p.id == id && p.elem == e).map (·.raw)).getD (s.raw id e)
/-- The same as a natural number. -/
def State.numStart (s : State) (id : Nat) (e : Nat := 0) : Nat := (s.rawStart id e).toNat
/-- A string parameter is written, and counts a change of its value (R100). -/
def State.setText (s : State) (id : Nat) (t : List Byte) : State :=
  let same := s.isSet id && s.text id == t
  { s with
    par.strs := s.par.strs.filter (fun p => p.id != id) ++ [{ id := id, text := t }]
    par.counts := if same then s.par.counts else bumpCount id s.par.counts }
/-- Several running values change, in order. -/
def State.setRaws (s : State) (l : List ParamVal) : State := l.foldl (fun s p => s.setRaw p.id p.elem p.raw) s

/-- The unit and step a parameter's value is given in; those of loop scaling follow the source or variable (R565), those of
the analogue inputs their unit (R371). -/
def aiUnit (s : State) (n : Nat) : UnitStep :=
  let u := s.num 0x921 (n - 1)
  { unit := if u = 1 then some .pct else if u = 2 then some .kPa else if u = 3 then some .C else none, stepD := 100 }
/-- Table 10.7, for a source by its ordinal in the source enumeration. -/
def sourceUnit (s : State) (src : Nat) : UnitStep :=
  if src = 0 then {} else if src ≤ 8 then aiUnit s src else if src ≤ 16 then { unit := some .rpm }
  else if src = 18 then { unit := some .C, stepD := 100 } else { unit := some .pct, stepD := 10000 }
/-- Table 10.7, for a scheduling variable by its ordinal. -/
def varUnit (v : Nat) : UnitStep :=
  match v with
  | 1 | 3 => { unit := some .pct, stepD := 10000 }
  | 2 | 4 => { unit := some .C, stepD := 100 }
  | 5 => { stepD := 100 }
  | _ => {}
/-- The unit and step of one parameter or element. -/
def State.unitOf (s : State) (k : PKey) : UnitStep :=
  let b := k.desc.base
  if 0x922 ≤ b && b ≤ 0x924 then aiUnit s (k.elem + 1)
  else if b = 0x7A4 || b = 0x7A5 then sourceUnit s (s.num 0x7A3 k.elem)
  else if (0x7AF ≤ b && b ≤ 0x7B1) || b = 0x7B5 then varUnit (s.num 0x7AD k.elem)
  else if (0x7B2 ≤ b && b ≤ 0x7B4) || b = 0x7B6 then varUnit (s.num 0x7AE k.elem)
  else { unit := k.desc.unit, stepN := k.desc.stepN, stepD := k.desc.stepD }

/-- The baud rates of Table 2.8. -/
def baudRates : List Int := [9600, 19200, 38400, 57600, 115200, 230400, 460800, 921600]
/-- A range that is not one interval: the baud rates, v0 (0 or 1.00–10.00 m/s), the EtherTypes of R272. -/
def rangeHoles (base : Nat) (v : Int) : Bool :=
  if base = 0x020 then baudRates.contains v
  else if base = 0x302 then v = 0 || 100000 ≤ v
  else if base = 0x101 then !([0x0800, 0x0806, 0x86DD, 0x8100, 0x88A8, 0x9100] : List Int).contains v
  else true
/-- The value lies in the parameter's range. -/
def inRange (d : PDesc) (v : Int) : Bool := d.lo ≤ v && v ≤ d.hi && rangeHoles d.base v

/-! ### Bonds -/

/-- Table 3.8 and R435: the consistency check of a bond on a set of values, given the current line. -/
def bondCheck (b : Bond) (v : Nat → Int) (line : Line) : Bool :=
  match b with
  | .sync => let x := v 0x200 * v 0x380; 500000 ≤ x && x ≤ 10000000
  | .lot => u32Before line (BitVec.ofInt 32 (v 0xB29))
  | .geometry n =>
    let w := v (courseP 0 n) * v (courseP 1 n)
    w ≤ 1600000 && 20 * (v (plumbP 1 n)).natAbs ≤ w && 1 ≤ v 0x002 && v 0x002 ≤ 8
  | .limits n => v (zoneP 2 n) + 100 ≤ v (zoneP 0 n) && v (zoneP 0 n) ≤ v (zoneP 1 n) - 100
  | .tach n => v (fanP 0 n) * v (fanP 1 n) ≤ 600000

/-- R110: the check of a bond that its values fail, as the detail of the 403 names it (Worked case 3.1). -/
def bondFails (b : Bond) (v : Nat → Int) : String :=
  match b with
  | .sync => if v 0x200 * v 0x380 < 500000 then "rate x line_pitch below 0.5mps" else "rate x line_pitch above 10mps"
  | .lot => "lot line not after the current line"
  | .geometry n =>
    let w := v (courseP 0 n) * v (courseP 1 n)
    if w > 1600000 then "channels x pitch above 1600mm"
    else if 20 * (v (plumbP 1 n)).natAbs > w then "row_offset above half of channels x pitch"
    else "sys.courses outside 1 to 8"
  | .limits n => if v (zoneP 0 n) > v (zoneP 1 n) - 100 then "setpoint above high less 1C" else "setpoint below low plus 1C"
  | .tach _ => "ppr x rpm_max above 600000"

/-- The staged value of a parameter (R107). -/
def State.stagedOf (s : State) (id : Nat) : Option Int := (s.par.staged.find? fun p => p.id == id).map (·.raw)
/-- A staged write replaces the member's earlier one (R109). -/
def State.stage (s : State) (id : Nat) (v : Int) (ses : Nat) : State :=
  { s with par.staged := s.par.staged.filter (fun p => p.id != id) ++ [{ id := id, raw := v, byWhom := ses }] }
/-- R107, R113: a bond is open while one of its members holds a staged value. -/
def State.bondOpen (s : State) (b : Bond) : Bool := (bondMembers b).any fun m => (s.stagedOf m).isSome
/-- The open bonds. -/
def State.openBonds (s : State) : List Bond := allBonds.filter s.bondOpen
/-- R110: the staged set completed with running values. -/
def State.completed (s : State) (id : Nat) : Int := (s.stagedOf id).getD (s.raw id)
/-- Staged values of the listed members are dropped. -/
def State.unstage (s : State) (ids : List Nat) : State :=
  { s with par.staged := s.par.staged.filter fun p => !ids.contains p.id }

/-- Table 3.8, R435: a commit of the bond is allowed now. With `courses` a change of sys.courses is committed too. -/
def State.commitAllowed (s : State) (b : Bond) (coursesChange : Bool) : Bool :=
  match b with
  | .geometry n => (s.course n).state == .off && (!coursesChange || s.courses.all (·.state == .off))
  | .tach n => (s.fan n).state == .stopped
  | .lot => s.sync.running
  | _ => true

/-- A committed set waits for its effect point (R112). A later commit of the same bond before that point stands in its
place. -/
def State.commitSet (s : State) (b : Bond) (l : List ParamVal) : State :=
  { s with par.committed := s.par.committed.filter (fun c => c.bond != b) ++
      [{ bond := b, vals := l, at_ := s.now, name := if b == .lot then s.text 0xB2A else [] }] }

/-- The value a committed set gives a member. -/
def Committed.val (c : Committed) (id : Nat) : Option Int := (c.vals.find? fun p => p.id == id).map (·.raw)
/-- The committed set of a bond that waits for its effect point. -/
def State.committedOf (s : State) (b : Bond) : Option Committed := s.par.committed.find? fun c => c.bond == b
/-- The waiting set of a bond is gone. -/
def State.dropCommitted (s : State) (b : Bond) : State :=
  { s with par.committed := s.par.committed.filter fun c => c.bond != b }
/-- The waiting set of a bond becomes the running one, in one step (R112). -/
def State.takeCommitted (s : State) (b : Bond) : State :=
  match s.committedOf b with
  | none => s
  | some c => (s.setRaws c.vals).dropCommitted b

/-- R119, R122: every bond check holds on the running values, and the quantities of Table 0.1 hold. -/
def State.checksHold (s : State) : Bool :=
  allBonds.all fun b => b == .lot || bondCheck b (fun id => s.raw id) s.sync.line

/-! ### Banks -/

/-- The parameters of a class, by rising ID and element, as keys (not strings). -/
def classKeys (c : PClass) : List PKey :=
  (List.range 0x1000).flatMap fun id =>
    match descOfId id with
    | some (d, f) =>
      if d.cls == c && d.acc != .ro then
        match d.typ with
        | .str _ => []
        | _ => (List.range (max d.elems 1)).map fun e => { desc := d, id := id, fam := f, elem := e }
      else []
    | none => []
/-- The write-only parameters of the KEPT class (R85). -/
def keyParams : List Nat := [0x040, 0x041] ++ (List.range 7).map (fun i => portP 5 (i + 1)) ++ [0xC40]

/-- A record holding a value. -/
def valueRec (k : PKey) (v : Int) : BankRec :=
  { id := BitVec.ofNat 16 k.id, index := BitVec.ofNat 8 k.elem, kind := 0, value := BitVec.ofInt 32 v }
/-- R470: the string chunks of a write-only parameter: its 32 bytes wrapped under DK, four bytes a chunk. -/
def keyRecs (id : Nat) (key : List Byte) : List BankRec :=
  let w := keyWrap Config.dk key
  (List.range (w.length / 4)).map fun i =>
    { id := BitVec.ofNat 16 id, index := BitVec.ofNat 8 i, kind := 2, value := BitVec.ofNat 32 (leNat (sliceB w (4 * i) 4)) }
/-- Table 3.10: the bytes of a record of kind `kind`, with a value in the encoding of Table 3.2. -/
def bankRecord (id elem kind : Nat) (raw : Int) : List Byte := leBytes 2 id ++ leBytes 1 elem ++ leBytes 1 kind ++ leInt 4 raw
/-- Records by rising ID, then index (Table 3.10). -/
def recBefore (a b : BankRec) : Bool := a.id.toNat < b.id.toNat || (a.id == b.id && a.index.toNat < b.index.toNat)
/-- The records that hold every running value of a class, and the write-only values with the KEPT class. -/
def State.bankRecs (s : State) (c : PClass) : List BankRec :=
  let vals := (classKeys c).map fun k => valueRec k (s.raw k.id k.elem)
  if c == .kept then
    (keyParams.filter s.isSet).foldl (fun l id => (keyRecs id (s.key id)).foldl (fun l r => insertBy recBefore r l) l) vals
  else vals

/-- Table 3.9: bytes 0–27 of the header, then the record area. -/
def Bank.bytes (b : Bank) : List Byte :=
  leBytes 4 b.magic.toNat ++ leBytes 2 b.version.toNat ++ leBytes 2 0 ++ leBytes 4 b.generation.toNat ++
    leBytes 4 b.length.toNat ++ leBytes 4 b.recs.length ++ leBytes 4 b.build.toNat ++ leBytes 4 0 ++
    b.recs.flatMap fun r => leBytes 2 r.id.toNat ++ [r.index, r.kind] ++ leBytes 4 r.value.toNat
/-- `KYCF` and `KYCL`. -/
def magicOf (c : PClass) : U32 := if c == .cal then 0x4C43594B else 0x4643594B
/-- R116: a bank is valid. -/
def Bank.valid (b : Bank) (c : PClass) : Bool :=
  b.magic == magicOf c && b.version == 1 && b.length.toNat % 8 == 0 && b.length.toNat ≤ 131040 &&
    b.length.toNat == 8 * b.recs.length && b.crc == crc32 b.bytes
/-- A bank image of a class with a generation number, its crc included. -/
def State.bankImage (s : State) (c : PClass) (gen : U32) : Bank :=
  let recs := s.bankRecs c
  let b : Bank := { magic := magicOf c, version := 1, generation := gen, length := BitVec.ofNat 32 (8 * recs.length),
                    build := Config.build, recs := recs }
  { b with crc := crc32 b.bytes }

/-- A bank of NOR flash. -/
def State.bank (s : State) : BankId → Bank
  | .a => s.par.bankA | .b => s.par.bankB | .u1 => s.par.user1 | .u2 => s.par.user2 | .factory => s.par.factory
/-- The class of the values that a bank holds. -/
def classOf : BankId → PClass
  | .a | .b => .kept
  | .u1 | .u2 | .factory => .cal
/-- The content of a bank of NOR flash. -/
def State.setBank (s : State) (i : BankId) (b : Bank) : State :=
  match i with
  | .a => { s with par.bankA := b } | .b => { s with par.bankB := b } | .u1 => { s with par.user1 := b }
  | .u2 => { s with par.user2 := b } | .factory => { s with par.factory := b }
/-- The last check found the bank valid, or a save has made it so since (R134). -/
def State.bankValid (s : State) (i : BankId) : Bool := s.par.validBanks.contains i
/-- A bank of NOR flash erased or written by a save, and valid or not from here on (R117). The FACTORY bank is written only by Olondand
(R126): no save reaches it. -/
def State.putBank (s : State) (i : BankId) (b : Bank) (ok : Bool) : State :=
  if i == .factory then s
  else { s.setBank i b with par.validBanks := (s.par.validBanks.filter (· != i)) ++ if ok then [i] else [] }
/-- R134: the banks are checked, at WAKING, at CONFIG LOAD and before each save. -/
def State.checkBanks (s : State) : State :=
  { s with par.validBanks := ([.a, .b, .u1, .u2, .factory] : List BankId).filter fun i => (s.bank i).valid (classOf i) }
/-- R134: the banks in which NOR has lost bits hold what their crc does not match. -/
def State.spoilBanks (s : State) (l : List BankId) : State :=
  l.foldl (fun s i => s.setBank i { s.bank i with crc := ~~~crc32 (s.bank i).bytes }) s
/-- R116: the newer valid one of two banks; the first when the generations are equal. -/
def State.newer (s : State) (x y : BankId) : Option BankId :=
  if s.bankValid x then
    if s.bankValid y && u32Before (s.bank x).generation (s.bank y).generation then some y else some x
  else if s.bankValid y then some y else none
/-- The newer valid configuration bank. -/
def State.newerBank (s : State) : Option BankId := s.newer .a .b
/-- The newer valid USER copy. -/
def State.newerUser (s : State) : Option BankId := s.newer .u1 .u2

/-- The value of a record for a parameter, in raw steps (Table 3.2): sign-extended for the signed types. -/
def recRaw (d : PDesc) (v : U32) : Int :=
  match d.typ with
  | .sint _ => v.toInt
  | .fix sg _ _ => if sg then v.toInt else v.toNat
  | _ => v.toNat
/-- The raw value a bank gives an element; none when it holds no such record. -/
def recsGet (recs : List BankRec) (id e : Nat) : Option U32 :=
  (recs.find? fun r => r.kind == 0 && r.id.toNat == id && r.index.toNat == e).map (·.value)
/-- The values a bank's records give, completed with defaults. -/
def recsVal (recs : List BankRec) (id : Nat) (e : Nat := 0) : Int :=
  match recsGet recs id e, descOfId id with
  | some v, some (d, _) => recRaw d v
  | _, _ => defaultRaw id e

/-- R119: one record of a bank against the parameters of a class: none, or the code of its failure. -/
def recFault (c : PClass) (r : BankRec) : Option Nat :=
  if r.kind == 1 then some 303
  else match descOfId r.id.toNat with
    | none => some 401
    | some (d, _) =>
      if d.cls != c || d.acc == .ro then some 401
      else if r.kind == 2 then if d.acc == .wo then none else some 401
      else if r.kind != 0 then some 401
      else if d.acc == .wo then some 401
      else if r.index.toNat ≥ max d.elems 1 then some 401
      else if inRange d (recRaw d r.value) then none else some 401
/-- R119: a bond is present in part. -/
def bondPartial (recs : List BankRec) (b : Bond) : Bool :=
  let ms := ownMembers b
  let n := (ms.filter fun m => (recsGet recs m 0).isSome).length
  0 < n && n < ms.length
/-- R119, R127: the cross-check: none when the bank passes, or the code and the ID of the first failure. -/
def crossCheck (c : PClass) (recs : List BankRec) : Option (Nat × Nat) :=
  match recs.findSome? fun r => (recFault c r).map fun k => (k, r.id.toNat) with
  | some f => some f
  | none =>
    if c == .kept then
      allBonds.findSome? fun b =>
        if b == .lot then none
        else if bondPartial recs b || !bondCheck b (fun id => recsVal recs id) 0 then some (403, (ownMembers b).headD 0)
        else none
    else
      (List.range 8).findSome? fun i =>
        if recsVal recs (plumbP 4 (i + 1)) - recsVal recs (plumbP 3 (i + 1)) < 50000 then some (401, plumbP 4 (i + 1)) else none

/-- The running values of a class are replaced by those of a bank's records, defaults where a record is absent (R119). -/
def State.loadRecs (s : State) (c : PClass) (recs : List BankRec) : State :=
  let others := s.par.vals.filter fun p => (descOfId p.id).elim true fun q => q.1.cls != c
  let mine := recs.filterMap fun (r : BankRec) =>
    if r.kind != 0#8 then none
    else match descOfId r.id.toNat with
      | some (d, _) =>
        let v := recRaw d r.value
        if v = defaultRaw r.id.toNat r.index.toNat then none
        else some { id := r.id.toNat, elem := r.index.toNat, raw := v : ParamVal }
      | none => none
  let new := mine.foldl (fun l p => insertBy parBefore p l) others
  let ids := (s.par.vals ++ new).foldl (fun l p => if l.contains (p.id, p.elem) then l else l ++ [(p.id, p.elem)])
    ([] : List (Nat × Nat))
  let moved := ids.filter fun k => parGet s.par.vals k.1 k.2 != parGet new k.1 k.2
  { s with
    par.vals := new
    par.counts := moved.foldl (fun l k => bumpCount k.1 l) s.par.counts
    crown.changedParams := s.crown.changedParams ++ (moved.filter fun k => !isLocal k.1).map fun k =>
      { id := k.1, elem := k.2, raw := parGet new k.1 k.2 } }
/-- The 64 hex characters of a key. -/
def hexChars (key : List Byte) : List Byte := key.flatMap fun b => bytesOf (hexText 2 b.toNat)
/-- R470: the write-only parameters of a bank are unwrapped; one that fails stays unset and is recorded. One that is absent
is unset (R119). -/
def State.loadKeys (s : State) (recs : List BankRec) : State :=
  keyParams.foldl (fun s id =>
    let w := (recs.filter fun r => r.kind == 2 && r.id.toNat == id).flatMap fun r => leBytes 4 r.value.toNat
    let s := { s with par.strs := s.par.strs.filter fun p => p.id != id }
    if w.isEmpty then s
    else match keyUnwrap Config.dk w with
      | some k => s.setText id (hexChars k)
      | none => s.event 0x8042 0 0 id) s
/-- R119: KEPT parameters absent from the bank are recorded. -/
def State.noteAbsent (s : State) (recs : List BankRec) : State :=
  (classKeys .kept).foldl (fun s k =>
    if k.elem = 0 && (List.range (max k.desc.elems 1)).any (fun e => (recsGet recs k.id e).isNone) then
      s.event 0x1041 0 0 k.id
    else s) s

end Sys2Proof.Machine
end

