-- ==== Sys2Proof/Machine/SealCore.lean ====
section
/-! DEFINITION. The protected regions and the line counters of the seal engine (R459, R463, R472, R474), which every write to
EXPORT advances. -/
namespace Sys2Proof.Machine

/-- Table 14.1: base and size of the region of a slot, in bytes. -/
def regionOf (slot : Nat) : Option (Nat × Nat) :=
  match slot with
  | 1 => some (0x100000000, 512 * 2 ^ 20)
  | 2 => some (0x120000000, 64 * 2 ^ 20)
  | 3 => some (0x124000000, 16 * 2 ^ 20)
  | 4 => some (0x125000000, 128 * 2 ^ 20)
  | 5 => some (0x12D000000, 4 * 2 ^ 20)
  | 6 => some (0x12D400000, 12 * 2 ^ 20)
  | _ => none
/-- The lines of a region. -/
def linesOf (slot : Nat) : Nat := (regionOf slot).elim 0 fun r => r.2 / 64
/-- Slots 1 to 4 are SEAL, 5 and 6 GROUT (Table 14.1). -/
def isSeal (slot : Nat) : Bool := 1 ≤ slot && slot ≤ 4
def isGrout (slot : Nat) : Bool := slot = 5 || slot = 6
/-- The slot whose region holds an address. -/
def slotAt (addr : Nat) : Option Nat :=
  ([1, 2, 3, 4, 5, 6] : List Nat).find? fun i => (regionOf i).elim false fun r => r.1 ≤ addr && addr < r.1 + r.2
/-- The names of the regions (Table 14.1). -/
def regionName (slot : Nat) : String :=
  match slot with
  | 1 => "STAGING" | 2 => "SHARE" | 3 => "EXPORT" | 4 => "MIRROR" | 5 => "RINGS" | 6 => "TIMELINES" | _ => "NONE"

/-- The metadata of a line (R463); counter 0 and not poisoned when none is listed. -/
def State.lineMeta (s : State) (slot line : Nat) : LineMeta :=
  (s.mp.lines.find? fun m => m.slot = slot && m.line = line).getD { slot := slot, line := line }
/-- Order of the metadata. -/
def metaBefore (a b : LineMeta) : Bool := a.slot < b.slot || (a.slot == b.slot && a.line < b.line)
/-- The metadata of a line is written. -/
def State.putMeta (s : State) (slot line : Nat) (ctr : BitVec 28) (poison : Bool) : State :=
  let rest := s.mp.lines.filter fun m => !(m.slot == slot && m.line == line)
  { s with mp.lines :=
      if ctr = 0 && !poison then rest
      else insertBy metaBefore { slot := slot, line := line, ctr := ctr, poison := poison } rest }

/-- A rekey of the slot is queued or running. -/
def State.rekeyDue (s : State) (slot : Nat) : Bool := s.mp.running == some slot || s.mp.queue.any (·.slot == slot)
/-- R473: an abort is stopping the rekey of the slot. -/
def State.rekeyStops (s : State) (slot : Nat) : Bool := s.mp.running == some slot && s.mp.stopping.isSome
/-- A rekey of the slot waits in the queue. -/
def State.rekeyWaits (s : State) (slot : Nat) : Bool := s.mp.queue.any (·.slot == slot)
/-- The queued rekeys of a slot leave the queue. -/
def State.unqueueRekey (s : State) (slot : Nat) : State := { s with mp.queue := s.mp.queue.filter (·.slot != slot) }
/-- R156, R157: the SEAL REKEY that waits for the repointer to stop is cancelled. -/
def State.cancelRekey (s : State) (slot : Nat) : State :=
  if s.rekeyStops slot && s.rekeyWaits slot then
    (s.unqueueRekey slot).finish (fun o => o == .sealRekey slot || o == .sealClear slot) (.err 301 "cancelled")
  else s
/-- R472: a rekey is queued; one of the counter rule goes ahead of every queued one that is not. -/
def State.queueRekey (s : State) (r : RekeyReq) : State :=
  if r.counter then
    { s with mp.queue := s.mp.queue.takeWhile (·.counter) ++ r :: s.mp.queue.dropWhile (·.counter) }
  else { s with mp.queue := s.mp.queue ++ [r] }
/-- R474: the counter of a line that has no room for another write. -/
def ctrMax : BitVec 28 := 0x0FFFFFFF
/-- R474: from this counter on a rekey is due. -/
def ctrDue : BitVec 28 := 0x0FF00000
/-- R474: a rekey is queued on account of a counter, unless one is queued or running. -/
def State.counterRekey (s : State) (slot line : Nat) : State :=
  if s.rekeyDue slot then s
  else (s.queueRekey { slot := slot, counter := true }).event 0x8002 0x0C slot line
/-- R462, R474: the counter of a line advances for a write that its room allows. -/
def State.advance (s : State) (slot line : Nat) (poison : Bool) : State :=
  let c := (s.lineMeta slot line).ctr + 1
  let s := s.putMeta slot line c poison
  if ctrDue ≤ c then s.counterRekey slot line else s
/-- R474: a write is held; the first of each rekey is recorded. -/
def State.noteHeld (s : State) (slot line : Nat) : State :=
  let s := s.counterRekey slot line
  if (s.slot slot).heldNoted then s
  else (s.updSlot slot fun k => { k with heldNoted := true }).event 0x8004 0x0C slot line

end Sys2Proof.Machine
end

