-- ==== Sys2Proof/Machine/WakeCore.lean ====
section
/-! DEFINITION. What the end of WAKING does whatever state follows it: the CONSOLE session opens (R38), the duration is kept
(Table 4.10), and the crown is taken where R501 says so. Sending on the course-protocol links (R259, R269) stands here too. -/
namespace Sys2Proof.Machine

/-! ### Sessions open (R38, R41) -/

/-- The event level that a stored ordinal of sys.console.events or sys.text.events names (Table 2.8). -/
def evLevelOf (console : Bool) (v : Nat) : EvLevel :=
  match if console then v + 1 else v with
  | 0 => .none | 1 => .info | 2 => .note | 3 => .fault | _ => .alarm
/-- R41: a new session is logged out; CONSOLE starts in TYPED mode, a text queue in GEN mode without check. -/
def State.newSession (s : State) (i : Nat) (conn : Option Nat) : Session :=
  if i = 0 then { idx := 0, evLevel := evLevelOf true (s.num 0x023), idleSince := s.now, baud := s.num 0x020 }
  else { idx := i, conn := conn, mode := .gen, evLevel := evLevelOf false (s.num 0x024), idleSince := s.now }
/-- A session opens; sessions stand by rising index. -/
def State.openSession (s : State) (i : Nat) (conn : Option Nat) : State :=
  ({ s with sessions := insertBy (fun a b => decide (a.idx < b.idx)) (s.newSession i conn) s.sessions } : State).prompt i

/-! ### Sending (R259, R269, R489) -/

/-- The frame is IDLE, which takes no seq (Table 7.5). -/
def isIdle : DownKind → Bool
  | .idle => true
  | _ => false
/-- A frame sent on a link with the next seq; nothing is sent on a link that is neither up nor training. -/
def LinkCtl.send (x : LinkCtl) (now : Tick) (k : DownKind) : LinkCtl :=
  if !(x.up || x.training) || isIdle k then x
  else { x with txSeq := x.txSeq + 1, sent := x.sent ++ [{ seq := x.txSeq, kind := k, sentAt := now }] }
/-- A frame sent on link `l`. A Keystone without the crown sends none (R489). -/
def State.send (s : State) (l : LinkId) (k : DownKind) : State :=
  if s.ctl.state == .standby then s else s.updLink l (·.send s.now k)
/-- Frames sent in order. -/
def State.sends (s : State) (l : LinkId) (ks : List DownKind) : State := ks.foldl (fun s k => s.send l k) s
/-- The courses in use. -/
def State.coursesUsed (s : State) : List Nat := (List.range s.courseCount).map (· + 1)

/-! ### The crown (R491, R501, R502, R519) -/

/-- R491: the two Keystones are a pair. -/
def State.paired (s : State) : Bool := s.on 0x003
/-- R501: `new` is later than `old`; generation 0 means none. -/
def laterGen (old new : U32) : Bool := new != 0 && (old == 0 || u32Before old new)
/-- The later of two generations; 0 means none (R501). -/
def laterOf (a b : U32) : U32 := if laterGen a b then b else a
/-- R501: the generation of a new crown: the last held or known, or the peer's, plus 1; never 0. -/
def State.nextCrown (s : State) : U32 :=
  let g := laterOf (laterOf s.crown.nvGen s.crown.gen) (s.crown.peerBeat.elim 0 (·.gen)) + 1
  if g = 0 then 1 else g
/-- A CROWN frame on one link. -/
def State.crownOn (s : State) (gen : U32) (h : Tick) (handover : Bool) (l : LinkId) : State := s.send l (.crown gen h handover)
/-- The links of the courses in use. -/
def State.courseLinks (s : State) : List LinkId := s.coursesUsed.map LinkId.course
/-- R507 step 2: CROWN on every course, FIELD and LEDGER link; each course gets it again until it reports the generation
(R519). -/
def State.offerCrown (s : State) : State :=
  let s := (s.courseLinks ++ [LinkId.field, LinkId.ledger]).foldl (fun s l => s.crownOn s.crown.gen s.crown.horizon false l) s
  { s with crown.resendAt := s.coursesUsed, crown.crownSent := List.replicate 8 s.now }
/-- R501, R507 step 1: the crown is held, under a new generation that stands in MRAM. -/
def State.holdCrown (s : State) (g : U32) : State :=
  { s with
    crown.holds := true
    crown.gen := g
    crown.nvGen := g
    crown.takes := s.crown.takes + 1
    crown.horizon := tickPlus s.now (800 : Nat)
    crown.ring := []
    crown.notices := []
    crown.synced := .no
    crown.rebase := false
    crown.baseEnd := false
    crown.baseDue := true
    crown.baseFrom := none
    crown.baseOff := 0
    crown.cutSeq := []
    crown.changedParams := []
    sync.ownGenSince := s.now
    sync.shadow := false
    par.staged := [] }
/-- R501: whether the crown is taken at the end of WAKING: with sys.standby = NONE; in a pair when no peer is heard, or one
that does not hold and has the higher crown.rank or, at equal ranks, the higher PEER MAC address. -/
def State.takesCrown (s : State) : Bool :=
  !s.paired || s.crown.peerBeat.elim true fun b =>
    !b.holds && (s.num 0xD02 < b.rank || (s.num 0xD02 = b.rank && beNat (Config.portMac 7) < beNat Config.peerMac))
/-- The crown is taken, and offered on every link. -/
def State.crownAtWaking (s : State) : State :=
  if s.crown.holds || !s.takesCrown then s else (s.holdCrown s.nextCrown).offerCrown
/-- WAKING ends. -/
def State.wakingEnds (s : State) (u : UnitState) : State :=
  let s : State := { s with ctl.wakingMs := s.clk.tick.toNat / 4000 }
  let s := if (s.session? 0).isSome then s else s.openSession 0 none
  if u == .standby then s else s.crownAtWaking

end Sys2Proof.Machine
end

