-- ==== Sys2Proof/Machine/Clock.lean ====
section
/-! DEFINITION. The tick, LINE SYNC with its line record, the time page and the lots by line (chapter 1; R419, R435–R437). -/
namespace Sys2Proof.Machine

/-- The time page as it stands for the present values (R25, Table 1.3). -/
def State.pageNow (s : State) : TimePage :=
  { tick := s.now
    line := s.sync.line
    edge := s.sync.edge
    period := if s.sync.running || s.sync.shadow then s.sync.period else 0
    crown := s.crown.gen
    state := BitVec.ofNat 8 (stateCode s.ctl.state) }
/-- The time page is line 0 of EXPORT; its line has room for another write (R474). -/
def State.pageRoom (s : State) : Bool := (s.lineMeta 3 0).ctr != ctrMax
/-- R25: the time page is updated as one unit, a full-line write of the first line of EXPORT. A write for which the line's
counter has no room is held (R474); the page then stands until the next update. -/
def State.updatePage (s : State) : State :=
  if s.pageRoom then State.advance { s with page := s.pageNow } 3 0 false else s.noteHeld 3 0

/-- WAKING ends in a state in which the unit serves (R38, R501). -/
def State.leaveWaking (s : State) (u : UnitState) : State :=
  if s.ctl.state == .waking && !(u == .dark || u == .collapse) then s.wakingEnds u else s
/-- A change of unit state (R135): INFO 0x1001, and the time page in the tick of the change (R25). -/
def State.enter (s : State) (u : UnitState) : State :=
  let old := s.ctl.state
  let s := s.leaveWaking u
  let t : State := { s with ctl.state := u, ctl.prev := old, ctl.since := s.now }
  (t.event 0x1001 0 0 (stateCode old) (stateCode u)).updatePage

/-- The line period in 5 ns clocks, UQ24.8, at the rate in force (Table 1.3). -/
def State.linePeriod (s : State) : U32 := BitVec.ofInt 32 (roundDiv (200000000 * 256) (s.num 0x200))

/-- A LOT record: kind 1 BEGIN or 2 END, with the lot's own id and name (Tables 12.11–12.13). -/
def State.lotRecord (s : State) (kind : Nat) (line : Line) (lot : U32) (name : List Byte) : State :=
  if lot = 0 then s
  else
    let body := [BitVec.ofNat 8 kind, 0] ++ leBytes 2 name.length ++ List.replicate 8 0#8 ++ name
    { s with made := s.made ++ [{ typ := 4, run := s.led.run, line := line, lot := lot, body := body }] }

/-- R436: at its line the lot change takes effect: LOT END for the old lot, LOT BEGIN for the new. -/
def State.lotEffect (s : State) : State :=
  match s.committedOf .lot with
  | none => s
  | some c =>
    let id := BitVec.ofInt 32 ((c.val 0xB28).getD (s.raw 0xB28))
    let line := BitVec.ofInt 32 ((c.val 0xB29).getD (s.raw 0xB29))
    let s := s.lotRecord 2 line s.led.journal.lot s.led.journal.lotName
    let s := (s.lotRecord 1 line id c.name).takeCommitted .lot
    { s with
      led.journal.lot := id
      led.journal.lotName := c.name
      led.lots := { run := s.led.run, line := line, lot := id } :: s.led.lots }

/-- LINE SYNC starts (R20, R21): the record is cleared, the next edge is line 0, ledger.run rises (R419), the lot in force
begins at line 0 (R437). The first edge follows as LINE_SYNC_EDGE. -/
def State.startLineSync (s : State) : State :=
  let s : State := { s with
    sync.running := true
    sync.driving := true
    sync.started := false
    sync.edgeDue := true
    sync.phase := 0
    sync.line := 0
    sync.record := []
    sync.driveAt := none
    sync.firstDriven := none
    sync.ownGenSince := s.now
    sync.period := s.linePeriod
    led.run := s.led.run + 1 }
  let s : State := { s with led.lots := { run := s.led.run, line := 0, lot := s.led.journal.lot } :: s.led.lots }
  s.lotRecord 1 0 s.led.journal.lot s.led.journal.lotName

/-- A committed sync set takes effect: the rate and the line pitch change together (Table 3.8). -/
def State.syncEffect (s : State) : State :=
  let t := s.takeCommitted .sync
  { t with sync.period := if t.sync.running then t.linePeriod else t.sync.period }

/-- LINE SYNC stops (R140): NOTE 0x1003, LOT END after the last line issued, a pending lot change discarded (R437), and a
waiting sync set taken (Table 3.8). -/
def State.stopLineSync (s : State) : State :=
  if !s.sync.running then s
  else
    let s := s.event 0x1003 0 0 s.sync.line.toNat
    let s := s.lotRecord 2 (if s.sync.started then s.sync.line + 1 else 0) s.led.journal.lot s.led.journal.lotName
    let s := match s.committedOf .lot with
      | none => s
      | some c => (s.event 0x7051 0x0B 0 ((c.val 0xB28).getD 0).toNat ((c.val 0xB29).getD 0).toNat).dropCommitted .lot
    let s : State := { s with
      sync.running := false
      sync.driving := false
      sync.driveAt := none
      sync.edgeDue := false
      sync.started := false
      sync.outs := [0, 0, 0, 0] }
    s.syncEffect.updatePage

/-- R22, Table 1.7: at the edge of a line every output that is enabled goes high, for 16 ticks on a marker line and for 4 on any other; the
rest stay low. -/
def State.pulseOuts (s : State) (line : Line) : List Nat :=
  ([1, 2, 3, 4] : List Nat).map fun n => if s.on (0x200 + n) then (if line.toNat % 1024 = 0 then 16 else 4) else 0
/-- R22, R489: the level of LINE SYNC output `n`; none while its driver is at high impedance. -/
def State.syncOut (s : State) (n : Nat) : Option Bool := if s.sync.driving then some (0 < s.sync.outs.getD (n - 1) 0) else none
/-- R22: a tick of the pulses passes. -/
def State.outsFall (s : State) : State := { s with sync.outs := s.sync.outs.map (· - 1) }
/-- R20–R22: the edge that is due is issued: the line number advances, or is 0 at the first edge of a run; the tick and the
period in force enter the record of the last 65,536 lines. After a taking of the crown the drivers are enabled with the first
edge at least 40 ticks later (R494). -/
def State.issueEdge (s : State) : State :=
  let first := !s.sync.started
  let line := if first then s.sync.line else s.sync.line + 1
  let s := if first && s.sync.running then s.event 0x1002 0 0 (tickLo s.now) (tickHi s.now) s.led.run.toNat else s
  let drive := s.sync.running && s.sync.driveAt.elim false fun t => tickLe t s.now
  let s : State := { s with
    sync.driving := s.sync.driving || drive
    sync.driveAt := if drive then none else s.sync.driveAt
    sync.firstDriven := if drive then some line else s.sync.firstDriven
    sync.line := line
    sync.edge := s.now
    sync.started := true
    sync.edgeDue := false
    sync.outs := s.pulseOuts line
    sync.record := ({ line := line, edge := s.now, period := s.sync.period } :: s.sync.record).take 65536 }
  s.updatePage

/-- The current edge is that of the pending lot change's line (R435). -/
def State.lotDue (s : State) : Bool :=
  s.sync.running && s.sync.started &&
    ((s.committedOf .lot).bind (·.val 0xB29)).elim false fun v => BitVec.ofInt 32 v == s.sync.line

/-- LINE_SYNC_EDGE (R20–R22, R25): when line sync, or the standby's shadow (R494), has an edge due. A sync set committed in
an earlier tick takes effect with this edge (Table 3.8); the lot change of this line takes effect at it (R435). -/
def lineSyncEdge (s : State) : State :=
  if !((s.sync.running || s.sync.shadow) && s.sync.edgeDue) then s
  else
    let due := (s.committedOf .sync).elim false fun c => c.at_ != s.now
    let s := if due then s.syncEffect else s
    let s := s.issueEdge
    if s.lotDue then s.lotEffect else s

def execLineSyncEdge (s : State) : Res := go (lineSyncEdge s)

/-- TIME_PAGE_UPDATE (R25). No page is served in DARK. -/
def timePageUpdate (s : State) : State := if s.awake then s.updatePage else s
def execTimePageUpdate (s : State) : Res := go (timePageUpdate s)

/-- LOT_CHANGE_EFFECT (R436): the lot change whose line the current edge is takes effect. -/
def lotChangeEffect (s : State) : State := if s.lotDue then s.lotEffect else s
def execLotChangeEffect (s : State) : Res := go (lotChangeEffect s)

/-- The line of a tick's record entry (R21): none when the record does not reach it. -/
def State.lineRec (s : State) (line : Line) : Option LineRec := s.sync.record.find? fun r => r.line == line

end Sys2Proof.Machine
end

