-- ==== Sys2Proof/Machine/Double.lean ====
section
/-! DEFINITION. Double-precision arithmetic (R215, R249, R346): sums, products, quotients and square roots, each rounded to the nearest
double, ties to even. The quantities of the manual stay far inside the range of exponents, which is left out. -/
namespace Sys2Proof.Machine

/-- `n / d` rounded to the nearest integer, ties to even. -/
def roundEven (n d : Nat) : Nat :=
  let q := n / d
  let r := 2 * (n % d)
  if r < d then q else if d < r then q + 1 else q + q % 2
/-- The significand, over 2^120, of the double-precision number nearest `n / d`. -/
def dbl (n d : Nat) : Nat :=
  let w := n * 2 ^ 120
  let b := Nat.log2 (w / d)
  if b ≤ 52 then roundEven w d else roundEven w (d * 2 ^ (b - 52)) * 2 ^ (b - 52)
/-- The integer square root of `n`, below 2 to the number of bits given, from the bits found so far. -/
def isqrtBits (n : Nat) : Nat → Nat → Nat
  | 0, r => r
  | k + 1, r => isqrtBits n k (if (r + 2 ^ k) * (r + 2 ^ k) ≤ n then r + 2 ^ k else r)
/-- The integer square root of a number below 2^200. -/
def isqrt (n : Nat) : Nat := isqrtBits n 100 0

/-- A double-precision number: `m` times 2 to the power `e`, with at most 53 bits in `m`. -/
structure Dbl where
  m : Int
  e : Int
deriving DecidableEq, Repr

/-- The double nearest `n / d` times 2 to the power `e`. -/
def Dbl.near (n : Int) (d : Nat) (e : Int) : Dbl :=
  let a := n.natAbs
  if a = 0 then { m := 0, e := 0 }
  else
    let k : Int := 54 + (Nat.log2 d : Int) - Nat.log2 a
    let w := if 0 ≤ k then a * 2 ^ k.toNat else a
    let d := if 0 ≤ k then d else d * 2 ^ (-k).toNat
    let j := Nat.log2 (w / d) - 52
    let q : Int := roundEven w (d * 2 ^ j)
    { m := if n < 0 then -q else q, e := e - k + j }
/-- The double nearest a whole number over another: a parameter in its unit. -/
def Dbl.of (n : Int) (d : Nat) : Dbl := Dbl.near n d 0
def Dbl.add (x y : Dbl) : Dbl :=
  let e := min x.e y.e
  Dbl.near (x.m * 2 ^ (x.e - e).toNat + y.m * 2 ^ (y.e - e).toNat) 1 e
def Dbl.neg (x : Dbl) : Dbl := { x with m := -x.m }
def Dbl.sub (x y : Dbl) : Dbl := x.add y.neg
def Dbl.mul (x y : Dbl) : Dbl := Dbl.near (x.m * y.m) 1 (x.e + y.e)
def Dbl.div (x y : Dbl) : Dbl := Dbl.near (if y.m < 0 then -x.m else x.m) y.m.natAbs (x.e - y.e)
/-- The square root of a number that is not negative: 55 bits or more of the root, with a last bit that says whether it is exact. -/
def Dbl.sqrt (x : Dbl) : Dbl :=
  let k : Int := if x.e % 2 = 0 then 112 else 113
  let w := x.m.toNat * 2 ^ k.toNat
  let r := isqrt w
  Dbl.near (if r * r = w then 2 * (r : Int) else 2 * r + 1) 1 ((x.e - k) / 2 - 1)
/-- The number times 2 to the power `k`, rounded to a whole one, ties away from zero (R214). -/
def Dbl.rounded (x : Dbl) (k : Nat) : Int :=
  let e := x.e + k
  if 0 ≤ e then x.m * 2 ^ e.toNat else roundDiv x.m (2 ^ (-e).toNat)

end Sys2Proof.Machine
end

