-- ==== Sys2Proof/Machine/Plumb.lean ====
section
/-! DEFINITION. The plumb model (chapter 6): the flight table, the fire start, and moisture with its bands. -/
namespace Sys2Proof.Machine

/-! ### The flight table -/

/-- R215: the velocity of entry `i`, for a range of velocities in 10 µm/s: v_lo + (v_hi − v_lo) × i ÷ 63, in m/s. The operations of the
formulas are taken in the order in which they are written (assumption 61). -/
def entryV (vlo vhi : Int) (i : Nat) : Dbl :=
  (Dbl.of vlo 100000).add ((((Dbl.of vhi 100000).sub (Dbl.of vlo 100000)).mul (Dbl.of i 1)).div (Dbl.of 63 1))
/-- The ticks of a second, as a double. -/
def ticksSec : Dbl := Dbl.of 4000000 1
/-- R215: t_i unrounded, for a drop in µm and gravity as a raw UQ4.16: 4 × 10^6 × (√(v² + 2gh) − v) ÷ g. -/
def fallT (v : Dbl) (drop g : Int) : Dbl :=
  let root := ((v.mul v).add (((Dbl.of 2 1).mul (Dbl.of g 65536)).mul (Dbl.of drop 1000000))).sqrt
  (ticksSec.mul (root.sub v)).div (Dbl.of g 65536)
/-- R215: v_e, the velocity at the ejector plane: v + g × t ÷ (4 × 10^6). -/
def exitV (v : Dbl) (drop g : Int) : Dbl := v.add (((Dbl.of g 65536).mul (fallT v drop g)).div ticksSec)
/-- R215: columns t, s and r of entry `i` before saturation. -/
def tEntry (vlo vhi drop g : Int) (i : Nat) : Int := (fallT (entryV vlo vhi i) drop g).rounded 0
def sEntry (vlo vhi drop g : Int) (i : Nat) : Int :=
  let v := entryV vlo vhi i
  let e := exitV v drop g
  let g' := Dbl.of g 65536
  let sq (x : Dbl) : Dbl := x.mul x
  let a := ((sq (sq e)).sub (sq (sq v))).div ((Dbl.of 12 1).mul (sq g'))
  let b := (((sq v).mul v).mul (fallT v drop g)).div (((Dbl.of 3 1).mul g').mul ticksSec)
  ((ticksSec.mul (a.sub b)).div e).rounded 0
def rEntry (vlo vhi drop g : Int) (i : Nat) : Int := ((Dbl.of 262144 1).div (exitV (entryV vlo vhi i) drop g)).rounded 0

/-- The 20-bit unsigned range of a column. -/
def col20 (v : Int) : Nat := (clampI 0 1048575 v).toNat

/-- R230: FAULT 0x2032 for every element that saturates, column by column. -/
def State.noteSaturated (s : State) (n col : Nat) (l : List Int) : State :=
  l.zipIdx.foldl (fun s x => if x.1 < 0 || 1048575 < x.1 then s.event 0x2032 1 n x.2 col else s) s

/-- A column of 64 entries. -/
def column (f : Nat → Int) : List Int := (List.range 64).map f
/-- R215: t, s and r of chute `n` are built from the running drop, v range and gravity. -/
def State.buildTable (s : State) (n : Nat) : State :=
  let vlo := s.raw (plumbP 3 n)
  let vhi := s.raw (plumbP 4 n)
  let drop := s.raw (plumbP 0 n)
  let g := s.raw 0x381
  let t := column (tEntry vlo vhi drop g)
  let u := column (sEntry vlo vhi drop g)
  let r := column (rEntry vlo vhi drop g)
  let s := s.updChute n fun c => { c with t := t.map col20, s := u.map col20, r := r.map col20 }
  ((s.noteSaturated n 0 t).noteSaturated n 1 u).noteSaturated n 2 r
/-- Every chute's table is built (R215). -/
def State.buildTables (s : State) : State := (List.range 8).foldl (fun s i => s.buildTable (i + 1)) s

/-- R216: every element of plumb.N.corr becomes 0 and NOTE 0x2033 is recorded. -/
def State.resetCorr (s : State) (n : Nat) : State :=
  ((List.range 64).foldl (fun s i => s.setRaw (plumbP 0xA n) i 0) s).event 0x2033 1 n

/-! ### The fire start -/

/-- R208: interpolation between two entries of a column. -/
def lerp (a : Nat → Int) (i f : Nat) : Int :=
  if i = 63 then a 63 else a i + roundDiv ((a (i + 1) - a i) * f) 16384

/-- R210: the velocity before the clamp, in 10 µm/s: the default from the values in force at the start of the tick. -/
def State.velocityOf (s : State) (n vel : Nat) : Int :=
  if vel != 0 then vel
  else if s.rawStart (plumbP 2 n) != 0 then s.rawStart (plumbP 2 n)
  else roundDiv (s.rawStart 0x200 * s.rawStart 0x380) 10
/-- R210: the velocity held in the chute's range. -/
def State.velocityIn (s : State) (n vel : Nat) : Int :=
  clampI (s.raw (plumbP 3 n)) (s.raw (plumbP 4 n)) (s.velocityOf n vel)
/-- The velocity's place in the table, UQ6.14. -/
def State.tablePos (s : State) (n vel : Nat) : Nat :=
  let vlo := s.raw (plumbP 3 n)
  ((s.velocityIn n vel - vlo) * 1032192 / (s.raw (plumbP 4 n) - vlo)).toNat

/-- R211: the moisture band in force at the start of the present tick. -/
def State.bandNow (s : State) : Nat := if s.plumb.bandAt == s.now then s.plumb.bandPrev else s.plumb.band

/-- R212: the tilt term's height difference, in µm. -/
def State.tiltDh (s : State) (n first width : Nat) : Int :=
  let nch := s.raw (courseP 0 n)
  let x : Int := 2 * first + (width + 1) - nch
  if nch = 1 then 0 else roundDiv (s.raw (plumbP 1 n) * 10 * x) (2 * (nch - 1).toNat)

/-- The flight time before saturation (R208, R211, R214): T + k·S + R·Δh. -/
def State.flightRaw (s : State) (n : Nat) (k : TicketSlot) (band : Nat) : Int :=
  let u := s.tablePos n k.velocity
  let i := u / 16384
  let f := u % 16384
  let c := s.chute n
  let big := lerp (fun j => (c.t.getD j 0 : Nat)) i f + lerp (fun j => s.raw (plumbP 0xA n) j) i f
  let drag := s.raw 0x391 (s.num 0x390 k.cls * 8 + band)
  big + roundDiv (drag * lerp (fun j => (c.s.getD j 0 : Nat)) i f) (2 ^ 20) +
    roundDiv (lerp (fun j => (c.r.getD j 0 : Nat)) i f * s.tiltDh n k.first k.width) (2 ^ 16)
/-- R214: F, saturated. -/
def State.flight (s : State) (n : Nat) (k : TicketSlot) (band : Nat) : Int := clampI 0 1048575 (s.flightRaw n k band)
/-- R209: O. -/
def subLine (offset : Nat) (period : U32) : Int := roundDiv ((offset : Int) * period.toNat) 52428800
/-- R208: s with the valve lead `lead`, from the record of the detection line. -/
def State.fireStart (s : State) (n : Nat) (k : TicketSlot) (band : Nat) (e : LineRec) (lead : Int) : Tick :=
  tickPlus e.edge (subLine k.offset e.period + s.flight n k band + lead)
/-- R210, R214: plumb.N.clamped and plumb.N.sat rise for a ticket whose velocity or flight time is held at a limit. -/
def State.countPlumb (s : State) (n : Nat) (k : TicketSlot) (band : Nat) : State :=
  let cl := s.velocityIn n k.velocity != s.velocityOf n k.velocity
  let sa := s.flight n k band != s.flightRaw n k band
  s.updChute n fun c =>
    { c with clamped := if cl then c.clamped + 1 else c.clamped, sat := if sa then c.sat + 1 else c.sat }

/-! ### Moisture and bands (R218–R220, R229) -/

/-- An edge of the moisture bands, `e_1` to `e_7`, in 0.01 %. -/
def State.bandEdge (s : State) (i : Nat) : Int := s.raw (0x385 + i)
/-- R219: one step of the band up or down, for a filtered moisture with 20 fraction bits. -/
def State.bandUp (s : State) (m b : Nat) : Nat :=
  if b < 7 && (s.bandEdge (b + 1) + s.raw 0x384) * 2 ^ 20 ≤ m then b + 1 else b
def State.bandDown (s : State) (m b : Nat) : Nat :=
  if 0 < b && (m : Int) < (s.bandEdge b - s.raw 0x384) * 2 ^ 20 then b - 1 else b
/-- R219: the band after an update. -/
def State.newBand (s : State) (m b : Nat) : Nat :=
  let up := (List.range 7).foldl (fun b _ => s.bandUp m b) b
  (List.range 7).foldl (fun b _ => s.bandDown m b) up

/-- R218: m moves towards x; the first valid average sets it. x has a step of 0.0001 %, m of 0.01 % with 20 fraction bits. -/
def State.filterMoist (s : State) : Nat :=
  let x : Int := roundDiv (s.plumb.x * 2 ^ 20) 100
  if s.plumb.moistSet then ((s.plumb.moist : Int) + roundDiv ((x - s.plumb.moist) * 34376) (2 ^ 20)).toNat else x.toNat
/-- plumb.moist, in 0.01 %. -/
def State.moistNow (s : State) : Nat := (roundDiv s.plumb.moist (2 ^ 20)).toNat

/-- MOISTURE_UPDATE (R218, R219): once a second, at a tick that is a multiple of 4,000,000, once an outlet average has come. -/
def moistureUpdate (s : State) : State :=
  if !s.awake || s.now.toNat % 4000000 != 0 || !s.plumb.xSet then s
  else
    let m := s.filterMoist
    let b := s.plumb.band
    let b' := s.newBand m b
    let s : State := { s with plumb.moist := m, plumb.moistSet := true }
    if b' = b then s
    else
      ({ s with plumb.band := b', plumb.bandPrev := b, plumb.bandAt := s.now } : State).event 0x2030 0 0 b b' s.moistNow
def execMoistureUpdate (s : State) : Res := go (moistureUpdate s)

/-- R229: the sweep period that counts: the longest among the rings that hold a node of role OUTLET, else ring 1's, in s. A ring holds
nodes at its positions 1 to probe.r.count. -/
def State.outletPeriod (s : State) : Nat :=
  let has (r : Nat) : Bool := (List.range (s.num (ringP 1 r))).any fun p => s.num (ringP 10 r) p = 1
  let p (r : Nat) := s.num (ringP 0 r)
  if has 1 && has 2 then max (p 1) (p 2) else if has 2 then p 2 else p 1
/-- OUTLET_AVG_MISSING (R229). -/
def outletAvgMissing (s : State) : State :=
  if s.awake && !s.plumb.missNoted && secT (3 * s.outletPeriod) ≤ ticksFrom s.plumb.lastAvg s.now then
    ({ s with plumb.missNoted := true } : State).event 0x2031 0 0
  else s
def execOutletAvgMissing (s : State) : Res := go (outletAvgMissing s)

end Sys2Proof.Machine
end

