-- ==== Sys2Proof/Machine/Air.lean ====
section
/-! DEFINITION. Air credit (chapter 7): the buckets, their refill, and admission against them. Quantities are in steps of
2^-32 air unit. -/
namespace Sys2Proof.Machine

/-- Raw steps of 0.001 unit as steps of 2^-32 unit, rounded. -/
def milliUnits (raw : Int) : Nat := (roundDiv (raw * 2 ^ 32) 1000).toNat
/-- Steps of 2^-32 unit as raw steps of 0.001 unit, rounded. -/
def unitsMilli (v : Nat) : Int := roundDiv ((v : Int) * 1000) (2 ^ 32)
/-- An air demand of `t` ticks of valve time (R180). -/
def demandOf (t : Nat) : Nat := (roundDiv ((t : Int) * 2 ^ 32) 4000).toNat

/-- air.N.size and air.N.floor. -/
def State.airSize (s : State) (m : Nat) : Nat := milliUnits (s.raw (airP 0 m))
def State.airFloor (s : State) (m : Nat) : Nat := milliUnits (s.raw (airP 1 m))
/-- R252: the manifold learns its refill: it has an input and air.N.learn is LEARN. -/
def State.airLearns (s : State) (m : Nat) : Bool := s.on (airP 2 m) && s.on (airP 3 m)

/-- R249: the increment per tick formed from ρ. -/
def Manifold.rhoTick (m : Manifold) : Nat := (roundDiv ((m.rhoNum : Int) * 2 ^ 32) (m.rhoDen * 4000000)).toNat
/-- ρ set to `n / d` units per second, held in double precision. -/
def Manifold.setRho (m : Manifold) (n d : Nat) : Manifold := { m with rhoNum := dbl n d, rhoDen := 2 ^ 120 }
/-- ρ is air.N.rho_set while it is fixed, and at WAKING (R252). -/
def State.fixRho (s : State) (m : Nat) : State := s.updManifold m fun b => b.setRho (s.num (airP 4 m)) 1000
/-- R249: L after one tick. -/
def State.refillStep (s : State) (m : Nat) (b : Manifold) : Manifold :=
  if b.held then b else { b with level := min (s.airSize m) (b.level + b.rhoTick) }

/-- R249, R252: the buckets at WAKING. -/
def State.airAtWaking (s : State) : State :=
  (List.range 8).foldl (fun s i =>
    (s.updManifold (i + 1) fun _ => { level := s.airSize (i + 1), quietSince := s.now }).fixRho (i + 1)) s
/-- R249: a SET of air.N.size below the present level cuts it. -/
def State.cutLevel (s : State) (m : Nat) : State :=
  s.updManifold m fun b => { b with level := min b.level (s.airSize m) }
/-- R253: a hold in force ends, with NOTE 0x3041. -/
def State.releaseHold (s : State) (m : Nat) : State :=
  if (s.manifold m).held then
    (s.updManifold m fun b => { b with held := false, okSince := none }).event 0x3041 5 m (s.manifold m).pressure.toNat
  else s
/-- R252, R253: after a SET that fixes the refill, ρ is air.N.rho_set and no hold stands. -/
def State.airFixed (s : State) (m : Nat) : State := if s.airLearns m then s else (s.releaseHold m).fixRho m

/-! ### Admission (R250) -/

/-- R250, project: the credit for a fire starting at `start`. -/
def State.project (s : State) (m : Nat) (start : Tick) : Int :=
  let b := s.manifold m
  let span := tickDist s.now (start - 40)
  let refill := if b.held || span < 0 then 0 else b.rhoTick * span.toNat
  min (s.airSize m : Int) (b.level + refill) - s.airFloor m
/-- A hard debit enters or leaves H. -/
def State.addHard (s : State) (m d : Nat) : State := s.updManifold m fun b => { b with hard := b.hard + d }
def State.subHard (s : State) (m d : Nat) : State := s.updManifold m fun b => { b with hard := b.hard - d }
/-- A soft reservation enters or leaves S. -/
def State.addSoft (s : State) (m d : Nat) : State := s.updManifold m fun b => { b with soft := b.soft + d }
def State.subSoft (s : State) (m d : Nat) : State := s.updManifold m fun b => { b with soft := b.soft - d }

/-- R197: `a` is taken before `b`: the later fire start, then the later stamp, then the one placed last. -/
def takenFirst (a b : Ticket) : Bool :=
  tickBefore b.start a.start || (a.start == b.start && (tickBefore b.stamp a.stamp || (a.stamp == b.stamp && b.order < a.order)))
/-- R197: reservations are taken until `short` is covered. -/
def State.preempt (s : State) (m : Nat) : List Ticket → Int → State
  | [], _ => s
  | r :: rest, short =>
    if short ≤ 0 then s
    else
      let s := (s.subSoft m r.demand).updTicket r.tid fun t =>
        { t with reserved := false, detail := t.detail ||| 0x80#16 }
      s.preempt m rest (short - r.demand)
/-- The reservations on manifold `m`, in the order in which they are taken. -/
def State.reservations (s : State) (m : Nat) : List Ticket :=
  sortBy takenFirst (s.tk.tickets.filter fun t => t.reserved && t.slot.chute + 1 == m)
/-- R250, claim_hard: none when the demand is denied. -/
def State.claimHard (s : State) (m d : Nat) (start : Tick) : Option State :=
  let p := s.project m start
  let b := s.manifold m
  if p - b.hard < d then none
  else some ((s.preempt m (s.reservations m) (d - (p - b.hard - b.soft))).addHard m d)
/-- R250, commit_air: the level falls by the demand, or the fire is denied. -/
def State.commitAir (s : State) (m d : Nat) : Option State :=
  let b := s.manifold m
  if (b.level : Int) - s.airFloor m < d then none
  else some (s.updManifold m fun b => { b with level := b.level - d })

/-! ### Pressure and quiet windows (R252, R253) -/

/-- AIR_PRESSURE_SAMPLE (R252, R253): every 2 ms the header pressure is read from the manifold's input; a sample below p_low
holds the refill. No sample is taken from an invalid input. -/
def airPressureSample (m : Nat) (s : State) : State :=
  let a := s.fld.ais.getD (s.num (airP 2 m) - 1) {}
  if !s.awake || !s.airLearns m || !a.valid then s
  else
    let p := a.value
    let low := p < 10 * s.raw (airP 8 m)
    let ok := 10 * s.raw (airP 8 m) + 2000 ≤ p
    let was := (s.manifold m).held
    let tenths := roundDiv p 10
    let s := s.updManifold m fun b =>
      { b with
        pressure := tenths
        samples := b.samples ++ [(s.now, p)]
        held := b.held || low
        okSince := if ok then some (b.okSince.getD s.now) else none
        okAt := s.now }
    if low && !was then s.event 0x3040 5 m tenths.toNat else s
def execAirPressureSample (m : Nat) (s : State) : Res := go (airPressureSample m s)

/-- A fire of course `n` is in PEAK or HOLD, as the Keystone's committed plans tell. -/
def State.fireUnderWay (s : State) (n : Nat) : Bool :=
  (s.course n).plans.any fun p => p.committed && tickLe p.start s.now
/-- R252: the least-squares slope through the samples, in 0.01 kPa per tick, as a fraction with a positive denominator. -/
def slope (l : List (Tick × Int)) : Int × Nat :=
  let t0 := (l.head?).elim 0 (·.1)
  let n : Int := l.length
  let st : Int := l.foldl (fun a x => a + ticksFrom t0 x.1) 0
  let sp : Int := l.foldl (fun a x => a + x.2) 0
  let stp : Int := l.foldl (fun a x => a + ticksFrom t0 x.1 * x.2) 0
  let stt : Int := l.foldl (fun a x => a + (ticksFrom t0 x.1 : Int) * ticksFrom t0 x.1) 0
  (n * stp - st * sp, (n * stt - st * st).toNat)
/-- R252: ρ moves towards the slope's ρ_raw, clamped to 0.001–100,000 units/s, by the fraction air.quiet / air.tau. -/
def State.learnRho (s : State) (m : Nat) (b : Manifold) : Manifold :=
  let (num, den) := slope b.samples
  let k := s.num (airP 6 m)
  let q := s.num 0x580
  let tau := 1000 * s.num 0x581
  if den = 0 || k = 0 then b
  else
    let raw : Int := num * 40000000
    let d := den * k
    let n := if raw * 1000 < d then d else if 100000 * (d : Int) < raw then 100000000 * d else raw.toNat * 1000
    b.setRho (b.rhoNum * (1000 * d) * (tau - q) + n * b.rhoDen * q) (b.rhoDen * (1000 * d) * tau)

/-- AIR_QUIET_WINDOW (R252): at the end of a span of air.quiet without a fire of the manifold. -/
def airQuietWindow (m : Nat) (s : State) : State :=
  let b := s.manifold m
  if !s.awake || !s.airLearns m || s.fireUnderWay m || ticksFrom b.quietSince s.now < msT (s.num 0x580) then s
  else
    let nominal := 10 * s.raw (airP 7 m)
    let few := b.samples.length < 2
    let below := b.samples.all fun x => x.2 < nominal
    let above := b.samples.all fun x => nominal ≤ x.2
    s.updManifold m fun b =>
      let b := if few then b else if below then s.learnRho m b else if above then { b with level := s.airSize m } else b
      { b with samples := [], quietSince := s.now }
def execAirQuietWindow (m : Nat) (s : State) : Res := go (airQuietWindow m s)

/-- AIR_HOLD_RELEASE (R252, R253): every sample has stayed at or above p_low + 20 kPa over 100 ms, from the first of them to the last: while
the input is invalid no sample is taken, so that time alone releases nothing. -/
def airHoldRelease (m : Nat) (s : State) : State :=
  match (s.manifold m).okSince with
  | some t => if s.awake && msT 100 ≤ ticksFrom t (s.manifold m).okAt then s.releaseHold m else s
  | none => s
def execAirHoldRelease (m : Nat) (s : State) : Res := go (airHoldRelease m s)

end Sys2Proof.Machine
end

