-- ==== Sys2Proof/Machine/Links.lean ====
section
/-! DEFINITION. The course-protocol frame layer at the Keystone (R259–R269): sending, acknowledging and resending frames, and
training a link. -/
namespace Sys2Proof.Machine

/-- The frame is a COMMIT (R264). -/
def isCommit : DownKind → Bool
  | .commit _ _ => true
  | _ => false

/-- The mask of the slots of one bank (Table 7.6). -/
def slotMask (bank : Nat) (slots : List Nat) : BitVec 128 :=
  slots.foldl (fun m i => if i / 128 = bank then m ||| (1#128 <<< (i % 128)) else m) 0
/-- The frames that carry a set of slots, bank by bank. -/
def maskFrames (mk : Nat → BitVec 128 → DownKind) (slots : List Nat) : List DownKind :=
  ((List.range 4).filter fun b => slotMask b slots != 0).map fun b => mk b (slotMask b slots)

/-- R261 step 2: the 16 ECHO frames of a measurement, 64 ticks apart. -/
def echoFrames (now : Tick) : List DownKind := (List.range 16).map fun (i : Nat) => .echo (tickPlus now (64 * (i : Int))) 0 i
/-- R261 step 2: a round of ECHO frames begins. -/
def State.startEchoes (s : State) (l : LinkId) : State :=
  (s.updLink l fun x => { x with echoes := [], echoAt := s.now }).sends l (echoFrames s.now)
/-- R261 step 1: the direction is up. A crown holder offers its generation first, since a device executes no other frame before it has
adopted (R265, R503), and measures. A standby sends no frame: idle symbols keep the link trained (R489). -/
def State.directionUp (s : State) (l : LinkId) : State :=
  if s.ctl.state == .standby then s.updLink l fun x => { x with up := true, training := false }
  else (s.sends l (if s.crown.holds then [.crown s.crown.gen s.crown.horizon false] else [])).startEchoes l
/-- A valid frame came up a link. The sixteenth in a row of a training link brings its direction up (R261 step 1). -/
def State.heard (s : State) (l : LinkId) : State :=
  let x := s.linkOf l
  let s := s.updLink l fun x => { x with lastRx := s.now, good := if x.training && x.good < 16 then x.good + 1 else x.good }
  if x.training && x.good = 15 then s.directionUp l else s

/-- The place of a frame with seq `q` among the frames sent: everything up to it is acknowledged. -/
def ackUpTo (q : BitVec 16) (l : List DownFrame) : List DownFrame :=
  if l.any (fun f => f.seq == q) then (l.dropWhile fun f => f.seq != q).drop 1 else l
/-- COURSE_ACK (R264, R269): the frames up to the seq named are acknowledged. -/
def courseAck (l : LinkId) (seq : BitVec 16) (s : State) : State :=
  if !s.awake then s
  else (s.heard l).updLink l fun x => { x with sent := ackUpTo seq x.sent }
def execCourseAck (l : LinkId) (seq : BitVec 16) (s : State) : Res := go (courseAck l seq s)

/-- COMMIT_RESEND (R264): a COMMIT not acknowledged within 16 ticks is sent once more. -/
def commitResend (n : Nat) (s : State) : State :=
  if !s.awake then s
  else s.updLink (.course n) fun x =>
    { x with sent := x.sent.map fun f =>
        if isCommit f.kind && !f.resent && 16 ≤ ticksFrom f.sentAt s.now then { f with resent := true, sentAt := s.now } else f }
def execCommitResend (n : Nat) (s : State) : Res := go (commitResend n s)

/-- COURSE_DOWNLINK_RESEND (R269): after 64 ticks without an ACK, everything but COMMIT is sent again from the last
acknowledged frame. -/
def courseDownlinkResend (l : LinkId) (s : State) : State :=
  let due := (s.linkOf l).sent.any fun f => !isCommit f.kind && 64 ≤ ticksFrom f.sentAt s.now
  if !s.awake || !due then s
  else s.updLink l fun x =>
    { x with sent := x.sent.map fun f => if isCommit f.kind then f else { f with sentAt := s.now } }
def execCourseDownlinkResend (l : LinkId) (s : State) : Res := go (courseDownlinkResend l s)

/-! ### Training (R261) -/

/-- The frames that must still come before a link that starts to train is up in this direction: 16 from a course. The table has no command
that brings a STATUS of the field bank or the transport, so those measure at once (assumption 61). -/
def trainGood : LinkId → Nat
  | .course _ => 0
  | .field | .ledger => 16
/-- R261 step 1: training starts: a direction is up only once 16 valid frames have come in a row. -/
def State.train (s : State) (l : LinkId) : State :=
  let s := s.updLink l fun x => { x with up := false, training := true, good := trainGood l, echoes := [], sent := [] }
  if trainGood l = 16 then s.directionUp l else s
/-- R261 step 4: when a reply is missing, step 2 is repeated: 64 ticks after the last ECHO of the round (assumption 61). -/
def State.echoAgain (s : State) (l : LinkId) : State :=
  let x := s.linkOf l
  if x.training && x.good = 16 && x.echoes.length < 16 && 1024 ≤ ticksFrom x.echoAt s.now then s.startEchoes l else s
/-- The links of the unit, judged at every tick. -/
def State.echoesAgain (s : State) : State :=
  ((List.range 8).foldl (fun s i => s.echoAgain (.course (i + 1))) s |>.echoAgain .field).echoAgain .ledger
/-- The link of a part the unit has: a course up to sys.courses, FIELD, LEDGER. -/
def State.hasLink (s : State) : LinkId → Bool
  | .course n => 1 ≤ n && n ≤ s.courseCount
  | .field | .ledger => true

/-- LINK_TRAIN (R261). A link that is up is not trained again. -/
def linkTrain (l : LinkId) (s : State) : State :=
  if s.awake && s.hasLink l && !(s.linkOf l).up then s.train l else s
def execLinkTrain (l : LinkId) (s : State) : Res := go (linkTrain l s)

/-- R261 step 4: the 16 round trips in ascending order. -/
def sortedTrips (e : List (Nat × Nat)) : List Nat := sortBy (fun a b => decide (a < b)) (e.map (·.2))
/-- R261 step 4: the round trips differ by no more than 2 clocks. -/
def tripsAgree (e : List (Nat × Nat)) : Bool :=
  let t := sortedTrips e
  t.length = 16 && t.getD 15 0 ≤ t.getD 0 0 + 2
/-- R261 step 4: half the lower middle round trip, rounded. -/
def cableDelay (e : List (Nat × Nat)) : Nat := (roundDiv ((sortedTrips e).getD 7 0) 2).toNat

/-- The first four setting words of a device: the delay, and on a course the boost setpoint and the channels in use. -/
def State.firstWords (s : State) (l : LinkId) (delay : Nat) : List U32 :=
  match l with
  | .course n => [BitVec.ofNat 32 delay, BitVec.ofNat 32 (s.num (courseP 3 n)), BitVec.ofNat 32 (s.num (courseP 0 n)), 0]
  | _ => [BitVec.ofNat 32 delay, 0, 0, 0]

/-- COURSE_ECHO_REPLY (R261 steps 3 and 4): a round trip, in 5 ns clocks. With the sixteenth the delay is written, or the
measurement starts again. -/
def courseEchoReply (l : LinkId) (num clocks : Nat) (s : State) : State :=
  if !s.awake || !(s.linkOf l).training || (s.linkOf l).good < 16 || 16 ≤ num then s
  else
    let s := (s.heard l).updLink l fun x => { x with echoes := assocSet num clocks x.echoes }
    let e := (s.linkOf l).echoes
    if e.length < 16 then s
    else if tripsAgree e then
      let d := cableDelay e
      (s.updLink l fun x => { x with delay := d }).send l (.config 8 (s.firstWords l d))
    else s.startEchoes l
def execCourseEchoReply (l : LinkId) (num clocks : Nat) (s : State) : Res := go (courseEchoReply l num clocks s)

/-- A load of the cartridge in the transport begins (R438). -/
def State.beginLoad (s : State) : State := { s with led.state := .loading, led.op := .load, led.opAt := s.now }
/-- R456: when the LEDGER link returns, the load runs on the cartridge in the transport. -/
def State.linkReturned (s : State) (l : LinkId) : State :=
  if l == .ledger && s.led.linkFault then
    let s : State := { s with led.linkFault := false }
    if s.led.cart.isSome then s.beginLoad else { s with led.state := .empty }
  else s
/-- COURSE_SYNC_SEND (R260, R261 step 5): at every multiple of 4,096 ticks a SYNC carries the tick; the first one after the
delay has been written ends the training, and the device's identity is asked for (R263). -/
def courseSyncSend (l : LinkId) (s : State) : State :=
  let x := s.linkOf l
  if !s.awake || s.ctl.state == .standby || !(x.up || x.training) || s.now.toNat % 4096 != 0 then s
  else
    let s := s.send l (.sync s.now)
    if x.training && tripsAgree x.echoes then
      ((s.updLink l fun x => { x with up := true, training := false, lastRx := s.now }).linkReturned l).send l (.query 0 2)
    else s
def execCourseSyncSend (l : LinkId) (s : State) : Res := go (courseSyncSend l s)

end Sys2Proof.Machine
end

