-- ==== Sys2Proof/Machine/Timeline.lean ====
section
/-! DEFINITION. One channel, many requests (R188–R190, Table 5.9): the fires that requests form, where a new request may start,
what valve time it adds, and the plans the course is sent for it. Times are ticks relative to the present one. -/
namespace Sys2Proof.Machine

/-- A request on a channel: [a, e). -/
structure Req where
  a : Int
  e : Int
  committed : Bool
  tid : Nat
  order : Nat
deriving DecidableEq, Repr

/-- A fire on a channel: [a, b), with the tickets that form it, the one that starts it first. -/
structure Fire where
  a : Int
  b : Int
  committed : Bool
  tids : List Nat
deriving DecidableEq, Repr

/-- R189: no fire exceeds 20 ms. -/
def fireMax : Int := 80000
/-- The fire of one request. -/
def Req.fire (r : Req) : Fire := { a := r.a, b := min r.e (r.a + fireMax), committed := r.committed, tids := [r.tid] }
/-- Order by start, then by placement. -/
def reqBefore (x y : Req) : Bool := x.a < y.a || (x.a == y.a && x.order < y.order)
/-- A request joins the newest fire when it starts no later than that fire's end (Table 5.9). -/
def joinReq (fs : List Fire) (r : Req) : List Fire :=
  match fs with
  | f :: rest =>
    if r.a ≤ f.b then
      { f with b := min (max f.b r.e) (f.a + fireMax), committed := f.committed || r.committed, tids := f.tids ++ [r.tid] } :: rest
    else r.fire :: fs
  | [] => [r.fire]
/-- The fires that requests form, by rising start. -/
def unionOf (l : List Req) : List Fire := ((sortBy reqBefore l).foldl joinReq []).reverse
/-- The valve time of fires. -/
def fireTicks (l : List Fire) : Int := l.foldl (fun a f => a + (f.b - f.a)) 0
/-- The valve time that `q` adds to the requests `l` (R180). -/
def addedTicks (l : List Req) (q : Req) : Nat := (fireTicks (unionOf (l ++ [q])) - fireTicks (unionOf l)).toNat

/-! ### Requests of the tickets -/

/-- The chute of a slot, 1–8 (Table 5.3). -/
def chuteOf (k : TicketSlot) : Nat := k.chute + 1
/-- The channels a slot names. -/
def channelsOf (k : TicketSlot) : List Nat := (List.range (k.width + 1)).map (k.first + ·)
/-- The ticket stands on channel `ch` of course `n`. -/
def Ticket.standsOn (t : Ticket) (n ch : Nat) : Bool :=
  t.placed && chuteOf t.slot == n && (t.slot.first ≤ ch && ch ≤ t.slot.first + t.slot.width)
/-- The request of a ticket, from the present tick. -/
def Ticket.req (t : Ticket) (now : Tick) : Req :=
  let a := tickDist now t.start
  { a := a, e := a + t.dur, committed := t.committed, tid := t.tid, order := t.order }
/-- R188: the tickets a placement sees: confirmed and FIRM ones, and for a PROV every one. -/
def sees (confirmed : Bool) (u : Ticket) : Bool := !confirmed || u.confirmed
/-- The requests on a channel in a view. -/
def State.reqs (s : State) (n ch : Nat) (view : Ticket → Bool) : List Req :=
  (s.tk.tickets.filter fun u => u.standsOn n ch && view u).map (·.req s.now)

/-- What one channel of a placement holds: its mode, its minimum off time in ticks, and its fires. -/
structure Lane where
  separate : Bool
  off : Int
  fires : List Fire
  /-- the start of the last RELEASE of the channel (R241). -/
  last : Option Int := none
deriving DecidableEq, Repr

/-- R239: the settings that a ticket stamped in the present tick takes, channel by channel. -/
def State.chSets (s : State) (k : TicketSlot) : List ChSet :=
  (channelsOf k).map fun ch =>
    { separate := s.numStart (courseP 0x10 (chuteOf k)) ch != 0
      off := 4 * s.numStart (courseP 0x11 (chuteOf k)) ch
      ceil := s.numStart (courseP 0x14 (chuteOf k)) ch }
/-- The settings a ticket took of one of its channels. -/
def Ticket.setOn (t : Ticket) (ch : Nat) : ChSet := t.sets.getD (ch - t.slot.first) {}
/-- One channel as a ticket's placement sees it. -/
def State.lane (s : State) (t : Ticket) (view : Ticket → Bool) (ch : Nat) : Lane :=
  { separate := (t.setOn ch).separate
    off := (t.setOn ch).off
    fires := unionOf (s.reqs (chuteOf t.slot) ch view)
    last := ((s.course (chuteOf t.slot)).relAt.find? fun p => p.1 == ch).map fun p => tickDist s.now p.2 }
/-- The lanes of the channels of a ticket, in a view. -/
def State.lanes (s : State) (t : Ticket) (view : Ticket → Bool) : List Lane := (channelsOf t.slot).map (s.lane t view)
/-- Table 5.9, R241: the request [x, x + d) is not refused at x on a lane. -/
def Lane.fits (l : Lane) (x d : Int) : Bool :=
  if l.separate then
    (l.fires.any fun f => f.a ≤ x && x + d ≤ f.b) ||
      ((l.fires.all fun f => x + d + l.off ≤ f.a || f.b + l.off ≤ x) && l.last.elim true fun r => r + l.off ≤ x)
  else l.fires.all fun f => !(f.committed && x < f.a && f.a ≤ x + d)
/-- The starts at which a lane may first allow a request. -/
def Lane.openings (l : Lane) : List Int := (l.fires.flatMap fun f => [f.a, f.b + l.off]) ++ (l.last.map (· + l.off)).toList
/-- R178, R180: the earliest start in [lo, hi] that every lane allows. -/
def lanesStart (ls : List Lane) (lo hi d : Int) : Option Int :=
  let cands := lo :: (ls.flatMap Lane.openings).filter fun x => lo < x
  (sortBy (fun a b => decide (a < b)) (cands.filter fun x => x ≤ hi)).find? fun x => ls.all fun l => l.fits x d

/-! ### Demand (R180, R251) -/

/-- The valve time a placed ticket adds, against the requests of its view that came before it. -/
def State.addedOf (s : State) (t : Ticket) : Nat :=
  let before (u : Ticket) : Bool :=
    u.tid != t.tid && if t.confirmed then u.confirmed && u.confOrder < t.confOrder else u.order < t.order
  sumOf (fun ch => addedTicks (s.reqs (chuteOf t.slot) ch before) (t.req s.now)) (channelsOf t.slot)
/-- The valve time a request at `start` would add on all its channels, in a view. -/
def State.addedAt (s : State) (k : TicketSlot) (start : Int) (dur : Nat) (view : Ticket → Bool) : Nat :=
  sumOf (fun ch => addedTicks (s.reqs (chuteOf k) ch view)
    { a := start, e := start + dur, committed := false, tid := 0, order := 2 ^ 64 }) (channelsOf k)

/-- R251: a ticket's demand is computed again, and its debit or reservation follows. -/
def State.recostOne (s : State) (tid : Nat) : State :=
  match s.ticket? tid with
  | none => s
  | some t =>
    let v := s.addedOf t
    let d := demandOf v
    let m := chuteOf t.slot
    let s :=
      if t.hard then (s.subHard m t.demand).addHard m d
      else if t.reserved then (s.subSoft m t.demand).addSoft m d
      else s
    s.updTicket tid fun t => { t with demand := d, valveTicks := v }
/-- R190, R251: the demand of every uncommitted ticket of a course is computed again. -/
def State.recost (s : State) (n : Nat) : State :=
  ((s.tk.tickets.filter fun t => t.placed && !t.committed && chuteOf t.slot == n).map (·.tid)).foldl State.recostOne s

/-! ### Plans (R259, R566) -/

/-- The ticket starts the fire it stands on, on a channel, in its own view. -/
def State.startsOn (s : State) (t : Ticket) (ch : Nat) : Bool :=
  (unionOf (s.reqs (chuteOf t.slot) ch (sees t.confirmed))).any fun f => f.tids.head? == some t.tid
/-- The fires the course is to be sent: channel and starting ticket. -/
def State.wanted (s : State) (n : Nat) : List (Nat × Ticket) :=
  (s.tk.tickets.filter fun t => t.placed && !t.committed && chuteOf t.slot == n).flatMap fun t =>
    ((channelsOf t.slot).filter fun ch => s.startsOn t ch).map fun ch => (ch, t)
/-- A plan that waits for its slot. -/
def State.newPlan (s : State) (n ch : Nat) (t : Ticket) : Plan :=
  { ch := ch, start := t.start, dur := t.dur, primed := t.primedPlan, prov := !t.confirmed, lead := t.lead
    ceil := (t.setOn ch).ceil, profile := s.num (courseP 0x12 n) ch, tids := [t.tid] }
/-- The plan serves the wanted fire. -/
def servesPlan (p : Plan) (w : Nat × Ticket) : Bool := !p.committed && p.ch == w.1 && p.start == w.2.start
/-- A plan follows the ticket it serves; one not sent yet takes that ticket's duration and priming. -/
def Plan.follow (p : Plan) (t : Ticket) : Plan :=
  let p := { p with prov := !t.confirmed, tids := [t.tid] }
  if p.slot.isNone then { p with dur := t.dur, primed := t.primedPlan, lead := t.lead } else p
/-- The plans of course `n` follow its requests: CONFIRM for a plan whose ticket is now confirmed, DROP for one that no fire
needs, and a waiting plan for each new fire. -/
def State.replan (s : State) (n : Nat) : State :=
  let ws := s.wanted n
  let ps := (s.course n).plans
  let kept := ps.filterMap fun p =>
    if p.committed then some p else (ws.find? (servesPlan p)).map fun w => p.follow w.2
  let drops := (ps.filter fun p => !p.committed && !ws.any (servesPlan p)).filterMap (·.slot)
  let conf := (ps.filter fun p => !p.committed && p.prov && ws.any fun w => servesPlan p w && w.2.confirmed).filterMap (·.slot)
  let fresh := (ws.filter fun w => !ps.any fun p => servesPlan p w).map fun w => s.newPlan n w.1 w.2
  let s := s.updCourse n fun c => { c with plans := kept ++ fresh }
  s.sends (.course n) (maskFrames .drop drops ++ maskFrames .confirm conf)
/-- R190: after a request has gone, the union is formed again from the rest. -/
def State.rebuild (s : State) (n : Nat) : State := (s.recost n).replan n

/-- The lowest plan slot that no plan holds. -/
def freeSlot (ps : List Plan) : Option Nat := (List.range 512).find? fun i => !ps.any fun p => p.slot == some i
/-- The PLAN frame of a plan (Table 7.6). -/
def planFrame (slot : Nat) (p : Plan) : DownKind :=
  .plan { slot := slot, ch := p.ch, prov := p.prov, primed := p.primed, ceil := p.ceil, profile := p.profile
          start := p.start, durUs := p.dur / 4, leadUs := p.lead / 4 }
/-- One plan of course `n` changed by `f`. -/
def State.updPlan (s : State) (n : Nat) (p : Plan) (f : Plan → Plan) : State :=
  s.updCourse n fun c => { c with plans := updFirst (fun q => q == p) f c.plans }
/-- R566: one waiting plan gets a slot and is sent. -/
def State.sendPlan (s : State) (n : Nat) (p : Plan) : State :=
  match freeSlot (s.course n).plans with
  | none => s
  | some i =>
    (s.updPlan n p fun q => { q with slot := some i }).send (.course n) (planFrame i p)
/-- PLAN_SEND (R566): at max(placement, s − 5,000) each waiting plan is sent while a slot is free, in order of fire start. -/
def planSend (n : Nat) (s : State) : State :=
  if !s.awake || s.ctl.state == .standby || !(s.course n).link.up then s
  else
    let due := (s.course n).plans.filter fun p => p.slot.isNone && !p.committed && tickDist s.now p.start ≤ 5000
    (sortBy (fun a b => tickBefore a.start b.start) due).foldl (fun s p => s.sendPlan n p) s
def execPlanSend (n : Nat) (s : State) : Res := go (planSend n s)

end Sys2Proof.Machine
end

