-- ==== Sys2Proof/Machine/Tickets.lean ====
section
/-! DEFINITION. Tickets (chapter 5): rings, taking and checking slots, placing, outcomes, the commit point, tallies and
recipes. -/
namespace Sys2Proof.Machine

/-! ### Slots and entries -/

/-- Table 5.4. -/
def kindOf (n : Nat) : TicketKind := if n = 0 then .prov else if n = 1 then .conf else if n = 2 then .firm else .cancel
/-- Table 5.3: a ticket slot from its 32 bytes. -/
def slotOf (b : List Byte) : TicketSlot :=
  let w := leNat (sliceB b 12 4)
  let o := leNat (sliceB b 16 2)
  let c := leNat (sliceB b 18 1)
  let f := leNat (sliceB b 19 1)
  { seq := BitVec.ofNat 32 (leNat (sliceB b 0 4)), line := BitVec.ofNat 32 (leNat (sliceB b 4 4))
    object := BitVec.ofNat 32 (leNat (sliceB b 8 4)), velocity := w % 2 ^ 20, cls := w / 2 ^ 20 % 256
    priority := w / 2 ^ 28 % 4, kind := kindOf (w / 2 ^ 30), offset := o % 4096, chute := c % 8, width := c / 8 % 8
    first := f % 64, lateness := leNat (sliceB b 20 2), air := leNat (sliceB b 22 2)
    tag := BitVec.ofNat 32 (leNat (sliceB b 24 4))
    reserved := o / 4096 != 0 || c / 64 != 0 || f / 64 != 0 || leNat (sliceB b 28 2) != 0
    crcOk := (crc16 (sliceB b 0 30)).toNat == leNat (sliceB b 30 2) }
/-- The code of a ticket's kind (Table 5.3). -/
def kindNum : TicketKind → Nat
  | .prov => 0 | .conf => 1 | .firm => 2 | .cancel => 3
/-- Table 5.3: the bytes of a slot whose reserved bits are 0 and whose crc is good. -/
def slotBytes (k : TicketSlot) : List Byte :=
  let b := leBytes 4 k.seq.toNat ++ leBytes 4 k.line.toNat ++ leBytes 4 k.object.toNat ++
    leBytes 4 (k.velocity + k.cls * 2 ^ 20 + k.priority * 2 ^ 28 + kindNum k.kind * 2 ^ 30) ++ leBytes 2 k.offset ++
    leBytes 1 (k.chute + 8 * k.width) ++ leBytes 1 k.first ++ leBytes 2 k.lateness ++ leBytes 2 k.air ++ leBytes 4 k.tag.toNat ++ [0, 0]
  b ++ leBytes 2 (crc16 b).toNat
/-- The slot at the consumer index of a source. -/
def State.slotAt (s : State) (src : Nat) : TicketSlot :=
  slotOf (readCells (s.source src).slots ((s.source src).cons.toNat % 4096 * 32) 32)

/-- Table 5.6: outcome codes. -/
def outcomeCode : Outcome → Nat
  | .fired => 0x01 | .merged => 0x02 | .extended => 0x03 | .shifted => 0x04 | .deniedAir => 0x10 | .deniedLate => 0x11
  | .deniedBoost => 0x12 | .lapsed => 0x20 | .cancelled => 0x21 | .cancelTooLate => 0x22 | .droppedFailover => 0x30
/-- The outcomes of a fire that went ahead. -/
def isFire : Outcome → Bool
  | .fired | .merged | .extended | .shifted | .cancelTooLate => true
  | _ => false

/-- R171: completion entries neither written nor reserved. -/
def Source.free (q : Source) : Nat := 8192 - (q.cprod - q.ccons).toNat - q.reserved
/-- R172: an entry of 32 bytes is written before cprod passes it; its reservation is spent. -/
def State.putEntry (s : State) (src : Nat) (bytes : List Byte) : State :=
  s.updSource src fun q =>
    { q with
      entries := writeCells q.entries (q.cprod.toNat % 8192 * 32) bytes
      cprod := q.cprod + 1
      reserved := q.reserved - 1 }
/-- Table 5.5: an entry's bytes. -/
def entryBytes (k : TicketSlot) (code reason : Nat) (detail : BitVec 16) (fire : Tick) (shift : Nat) (stamp : Tick)
    (valve src : Nat) : List Byte :=
  leBytes 4 k.seq.toNat ++ leBytes 4 k.object.toNat ++ leBytes 4 k.tag.toNat ++ leBytes 1 code ++ leBytes 1 reason ++
    leBytes 2 detail.toNat ++ leBytes 6 fire.toNat ++ leBytes 2 shift ++ leBytes 4 stamp.toNat ++ leBytes 2 valve ++
    leBytes 1 src ++ [0]
/-- R182: a refused slot gets a refusal entry with a reason of Table 5.7. -/
def State.refuseSlot (s : State) (src : Nat) (k : TicketSlot) (idx : Nat) (stamp : Tick) (reason : Nat) : State :=
  (s.putEntry src (entryBytes k 0 reason 0 0 idx stamp 0 src)).updSource src fun q => { q with refused := q.refused + 1 }
/-- R171: an accepted CONF or CANCEL returns its reservation. -/
def State.returnEntry (s : State) (src : Nat) : State := s.updSource src fun q => { q with reserved := q.reserved - 1 }

/-! ### Ending a ticket -/

/-- A ticket's valve time in µs (Table 5.5). -/
def Ticket.valveUs (t : Ticket) : Nat := (roundDiv (t.valveTicks : Int) 4).toNat
/-- The fire field of a completion entry (Table 5.5). -/
def Ticket.fireField (t : Ticket) (o : Outcome) : Tick := if isFire o then t.start else if t.computed then t.reqStart else 0
/-- Table 5.5: the outcome entry of a ticket. -/
def Ticket.entry (t : Ticket) (o : Outcome) : List Byte :=
  entryBytes t.slot (outcomeCode o) 0 t.detail (t.fireField o) t.shift t.stamp (if isFire o then t.valveUs else 0) t.src
/-- Table 12.13: the KERNEL body of a ticket. -/
def Ticket.kernel (t : Ticket) (o : Outcome) : List Byte :=
  leBytes 4 t.slot.object.toNat ++ leBytes 4 t.slot.seq.toNat ++ leBytes 6 (t.fireField o).toNat ++
    leBytes 1 (outcomeCode o) ++ leBytes 1 t.slot.cls ++ leBytes 1 (t.slot.chute + 8 * t.slot.width + 64 * t.slot.priority) ++
    leBytes 1 t.slot.first ++ leBytes 2 (if isFire o then t.valveUs else 0) ++ leBytes 1 t.src ++ leBytes 1 t.band ++
    leBytes 2 t.detail.toNat
/-- R15, Table 5.6: the KERNEL record of a confirmed outcome, at the detection line. -/
def State.kernelRecord (s : State) (t : Ticket) (o : Outcome) : State :=
  if !t.confirmed || t.test || o == .lapsed then s
  else
    let s := s.makeRecord 1 (if s.sync.running then some t.slot.line else none) (t.kernel o)
    { s with tk.confirmedSec := updAt t.slot.chute (· + 1) s.tk.confirmedSec }
/-- Counters of the outcomes (Tables 5.16 and 7.9). -/
def State.countOutcome (s : State) (t : Ticket) (o : Outcome) : State :=
  let m := chuteOf t.slot
  match o with
  | .deniedLate => { s with tk.late := s.tk.late + 1 }
  | .deniedAir => s.updManifold m fun b => { b with denied := b.denied + 1 }
  | .deniedBoost => s.updCourse m fun c => { c with deniedBoost := c.deniedBoost + 1 }
  | _ => s
/-- The debit or reservation of a ticket leaves H or S (R251). -/
def State.freeAir (s : State) (t : Ticket) : State :=
  if t.hard then s.subHard (chuteOf t.slot) t.demand else if t.reserved then s.subSoft (chuteOf t.slot) t.demand else s
/-- R258: a test pulse is counted in its test. -/
def State.countPulse (s : State) (t : Ticket) (o : Outcome) : State :=
  if !t.test then s
  else s.updCourse (chuteOf t.slot) fun c =>
    { c with test := c.test.map fun x =>
        if isFire o then { x with fired := x.fired + 1 } else { x with denials := x.denials ++ [(t.slot.seq.toNat, o)] } }
/-- R184, Table 5.8: CANCELs that came too late are refused LATE when the fire did not go ahead; when it did, the ticket's own entry
answers them, and each returns its reservation (R171). -/
def State.settleLate (s : State) (t : Ticket) (o : Outcome) : State :=
  if t.detached then s
  else t.lateCancels.foldl (fun s c => if isFire o then s.returnEntry t.src else s.refuseSlot t.src c.1 c.2.2 c.2.1 7) s

/-- R182: a ticket ends with outcome `o`, once; its entry is written (but see R205), its record made and its air freed. The
ticket leaves the timelines. -/
def State.endTicket (s : State) (tid : Nat) (o : Outcome) (extra : BitVec 16 := 0) : State :=
  match s.ticket? tid with
  | none => s
  | some t =>
    if t.final_.isSome then s
    else
      let t : Ticket := { t with detail := t.detail ||| extra }
      let s := s.freeAir t
      let s := s.updTicket tid fun _ =>
        { t with final_ := some o, entryAt := some s.now, placed := false, hard := false, reserved := false, lateCancels := [] }
      let s := s.countOutcome t o
      let s := if t.test || t.detached then s else s.putEntry t.src (t.entry o)
      let s := s.kernelRecord t o
      (s.settleLate t o).countPulse t o

/-- DENIED-SPEC (R196, R198): detail bit [5], counted in ticket.denied_spec. -/
def State.denySpec (s : State) (tid : Nat) : State :=
  let s := s.updTicket tid fun t => { t with detail := t.detail ||| 0x20#16 }
  { s with tk.deniedSpec := s.tk.deniedSpec + 1 }

/-- R139: an uncommitted ticket ended by a state or a drain: LAPSED when unconfirmed, DENIED-LATE otherwise. -/
def State.endUncommittedOne (s : State) (t : Ticket) : State :=
  s.endTicket t.tid (if t.confirmed then .deniedLate else .lapsed)
/-- R139, R256: every uncommitted ticket of course `n` ends, and its uncommitted plans are dropped. -/
def State.endUncommitted (s : State) (n : Nat) : State :=
  let l := s.tk.tickets.filter fun t => t.placed && !t.committed && chuteOf t.slot == n
  (l.foldl State.endUncommittedOne s).replan n
/-- R139: on every course. -/
def State.endAllUncommitted (s : State) : State := (List.range 8).foldl (fun s i => s.endUncommitted (i + 1)) s

/-! ### Placing (R178–R181, R196–R198) -/

/-- The first and last start that a ticket's lateness allows, from the present tick: the floor is 48 ticks after `since`. -/
def State.window (s : State) (reqStart since : Tick) (lateness : Nat) : Int × Int :=
  let r := tickDist s.now reqStart
  (max r (tickDist s.now since + 48), r + lateness)
/-- R178: the start at which a ticket can be placed, in a view. -/
def State.findStart (s : State) (t : Ticket) (since : Tick) (view : Ticket → Bool) : Option Int :=
  let (lo, hi) := s.window t.reqStart since t.slot.lateness
  lanesStart (s.lanes t view) lo hi t.dur

/-- The ticket stands at a start, with its shift. -/
def State.standAt (s : State) (tid : Nat) (x : Int) : State :=
  let at_ := tickPlus s.now x
  s.updTicket tid fun t =>
    let shift := ticksFrom t.reqStart at_
    { t with
      placed := true
      start := at_
      shift := shift
      detail := if shift = 0 then t.detail &&& 0xFFFB#16 else t.detail ||| 4#16 }

/-- A PROV that no start serves: DENIED-LATE; DENIED-SPEC when confirmed requests alone would have allowed one (R198). -/
def State.denyLate (s : State) (t : Ticket) (since : Tick) (extra : BitVec 16) : State :=
  let s := if !t.confirmed && (s.findStart t since (sees true)).isSome then s.denySpec t.tid else s
  s.endTicket t.tid .deniedLate extra

/-- R198: an unconfirmed PROV request that conflicts with the request of `q`, just placed or confirmed: on a channel that is SEPARATE
for both, the fire of `q` does not allow it where it stands. -/
def State.displaced (s : State) (q t : Ticket) : Bool :=
  t.placed && !t.confirmed && chuteOf t.slot == chuteOf q.slot &&
    (channelsOf t.slot).any fun ch =>
      let l := s.lane t (sees true) ch
      q.standsOn (chuteOf t.slot) ch && l.separate && (q.setOn ch).separate &&
        !{ l with fires := l.fires.filter fun f => f.tids.contains q.tid, last := none }.fits (tickDist s.now t.start) t.dur
/-- R198: one displaced PROV is placed again, with its shift measured from its own requested start. -/
def State.placeAgain (s : State) (old : Ticket) : State :=
  let since := if tickBefore old.stamp s.now then s.now else old.stamp
  match s.findStart old since (sees false) with
  | none => s.denyLate old since 0x80#16
  | some x =>
    let s := s.standAt old.tid x
    if tickPlus s.now x == old.start then s
    else s.updTicket old.tid fun t => { t with detail := t.detail ||| 0x80#16 }
/-- R198: every conflicting PROV is taken off, then placed again in order of requested start and first placement. -/
def State.displace (s : State) (tid : Nat) : State :=
  let l := (s.ticket? tid).elim [] fun q => s.tk.tickets.filter fun t => s.displaced q t
  let ordered := sortBy (fun a b => tickBefore a.reqStart b.reqStart || (a.reqStart == b.reqStart && a.order < b.order)) l
  let s := ordered.foldl (fun s t => s.updTicket t.tid fun t => { t with placed := false }) s
  ordered.foldl State.placeAgain s

/-- The next placement number. -/
def State.nextOrderOf (s : State) : Nat := s.tk.nextOrder + 1
/-- A placed ticket counts as confirmed from now on, in the order of confirmation. -/
def State.confirmOrder (s : State) (tid : Nat) : State :=
  let s : State := { s with tk.nextOrder := s.tk.nextOrder + 1 }
  s.updTicket tid fun t => { t with confirmed := true, confOrder := s.tk.nextOrder }

/-- R196, R250 (place): air for a request about to stand at `x`: the state with the debit or reservation, or none. -/
def State.placeAir (s : State) (t : Ticket) (x : Int) (d : Nat) : Option State :=
  let m := chuteOf t.slot
  let at_ := tickPlus s.now x
  if t.confirmed then
    (s.claimHard m d at_).map fun s => s.updTicket t.tid fun t => { t with hard := true, demand := d }
  else if (s.manifold m).hard + (s.manifold m).soft + d ≤ s.project m at_ then
    some ((s.addSoft m d).updTicket t.tid fun t => { t with reserved := true, demand := d })
  else none

/-- R178, R196, R197: a ticket with its requested start computed is placed, or ends. -/
def State.placeTicket (s : State) (tid : Nat) : State :=
  match s.ticket? tid with
  | none => s
  | some t =>
    let n := chuteOf t.slot
    match s.findStart t t.stamp (sees t.confirmed) with
    | none => s.denyLate t t.stamp 0
    | some x =>
      let v := s.addedAt t.slot x t.dur (sees t.confirmed)
      let d := demandOf v
      match s.placeAir t x d with
      | none =>
        let s := if !t.confirmed && (s.manifold n).hard + d ≤ s.project n (tickPlus s.now x) then s.denySpec tid else s
        s.endTicket tid .deniedAir
      | some s =>
        let s : State := { s with tk.nextOrder := s.tk.nextOrder + 1 }
        let s := (s.standAt tid x).updTicket tid fun t =>
          { t with order := s.tk.nextOrder, confOrder := if t.confirmed then s.tk.nextOrder else 0, valveTicks := v }
        (if t.confirmed then s.displace tid else s).replan n

/-! ### Taking a PROV or FIRM slot -/

/-- R236, R239: the air duration in ticks. -/
def State.airTicks (s : State) (k : TicketSlot) : Nat :=
  4 * (if k.air != 0 then k.air else s.numStart (courseP 0x15 (chuteOf k)) k.first)
/-- R242, R239: the priming lead in ticks, and whether priming is enabled on every channel. -/
def State.leadTicks (s : State) (k : TicketSlot) : Nat :=
  4 * ((channelsOf k).map fun ch => s.numStart (courseP 0x13 (chuteOf k)) ch).foldl max 0
def State.canPrime (s : State) (k : TicketSlot) : Bool :=
  (channelsOf k).all fun ch => s.numStart (courseP 0x13 (chuteOf k)) ch != 0

/-- R222: steps of a sweep, and how many counted results fill a bin. -/
def Learn.steps (x : Learn) : Nat := 2 * x.span / x.step + 1
/-- R223: the sweep that a FIRM ticket of a source serves: its chute's. -/
def State.learnFor (s : State) (src : Nat) (k : TicketSlot) : Option Learn :=
  (s.chute (chuteOf k)).learn.bind fun x => if k.kind == .firm && x.src == src && x.cls == k.cls then some x else none
/-- R223: the bin of a ticket and the step it is assigned: none when its bin is full. -/
def State.learnStep (s : State) (k : TicketSlot) (x : Learn) : Nat × Option Nat :=
  let b := s.tablePos (chuteOf k) k.velocity / 16384 / 8
  let bin := x.bins.getD b {}
  (b, if bin.counted.length ≥ x.steps * s.num 0x395 then none else some (bin.issued % x.steps))
/-- δ of a step (R223). -/
def Learn.delta (x : Learn) (i : Nat) : Int := (i : Int) * x.step - x.span

/-- R223: the learn window byte of a learn ticket is set to 0. -/
def State.learnClear (s : State) (src : Nat) (k : TicketSlot) : State :=
  s.updSource src fun q => { q with learnWin := cellPut (k.seq.toNat % 4096) 0 q.learnWin }
/-- R223: its bin counts one more. -/
def State.learnIssue (s : State) (k : TicketSlot) (bin : Nat) : State :=
  s.updChute (chuteOf k) fun c =>
    { c with learn := c.learn.map fun x => { x with bins := updAt bin (fun b => { b with issued := b.issued + 1 }) x.bins } }

/-- R223: the learn part of a FIRM ticket: the state after its assignment, δ, and its bin and step when it is counted. -/
def State.assignLearn (s : State) (src : Nat) (k : TicketSlot) : State × Int × Option (Nat × Nat) :=
  match s.learnFor src k with
  | none => (s, 0, none)
  | some x =>
    match s.learnStep k x with
    | (_, none) => (s.learnClear src k, 0, none)
    | (b, some i) => ((s.learnClear src k).learnIssue k b, x.delta i, some (b, i))

/-- R208, R213: the requested start and whether the ticket is planned as primed. -/
def State.requested (s : State) (k : TicketSlot) (band : Nat) (e : LineRec) (delta : Int) : Tick × Bool :=
  let n := chuteOf k
  let p := tickPlus (s.fireStart n k band e (s.raw (plumbP 5 n))) delta
  if s.canPrime k && tickLe s.now (tickPlus p (-(s.leadTicks k : Int))) then (p, true)
  else (tickPlus (s.fireStart n k band e (s.raw (plumbP 6 n))) delta, false)

/-- The port and partner number of a source (R490). -/
def State.srcPort (s : State) (src : Nat) : Nat := ((s.source src).conn).elim 0 fun c => (s.conn c).port
/-- A ticket taken from a source, not yet computed. -/
def State.takenTicket (s : State) (src : Nat) (k : TicketSlot) (gap : Bool) : Ticket :=
  { tid := s.tk.nextTid, src := src, port := s.srcPort src, pconn := (s.source src).pconn, slot := k, stamp := s.now
    band := s.bandNow, confirmed := k.kind == .firm, detail := if gap then 0x100#16 else 0
    dur := s.airTicks k, lead := s.leadTicks k, sets := s.chSets k }
/-- A ticket is kept. -/
def State.keep (s : State) (t : Ticket) : State :=
  { s with tk.tickets := s.tk.tickets ++ [t], tk.nextTid := s.tk.nextTid + 1 }

/-- R179, R235: a chute that is not ON, or a channel the course does not have: DENIED-LATE. -/
def State.canPlace (s : State) (k : TicketSlot) : Bool :=
  (s.course (chuteOf k)).state == .on && k.first + k.width < s.num (courseP 0 (chuteOf k))

/-- R508: the detection line is earlier than the first line driven since the crown was taken. -/
def State.replayedLine (s : State) (line : Line) : Bool :=
  s.sync.driveAt.isSome || s.sync.firstDriven.elim false fun l => u32Before line l
/-- TICKET_PROV and TICKET_FIRM after the checks of the slot: R137–R139 in the states that place nothing, R179, then the fire
start and the placement. -/
def State.openRequest (src : Nat) (k : TicketSlot) (idx : Nat) (gap : Bool) (s : State) : State :=
  let t := s.takenTicket src k gap
  let t : Ticket := if s.replayedLine k.line then { t with detail := t.detail ||| 0x200#16 } else t
  if s.ctl.state != .run then (s.keep t).endTicket t.tid .deniedLate
  else if u32Before s.sync.line k.line then s.refuseSlot src k idx s.now 8
  else
    match s.lineRec k.line with
    | none => (s.keep t).endTicket t.tid .deniedLate
    | some e =>
      if !s.canPlace k then (s.keep t).endTicket t.tid .deniedLate
      else
        let (s, delta, learn) := s.assignLearn src k
        let (r, primed) := s.requested k t.band e delta
        let dur := if (s.learnFor src k).isSome then 4 * s.num 0x397 else t.dur
        let s := (s.countPlumb (chuteOf k) k t.band).keep
          { t with reqStart := r, computed := true, primedPlan := primed, learn := learn, dur := dur }
        s.placeTicket t.tid

/-! ### CONF and CANCEL -/

/-- The commit tick of a ticket: 40 ticks before its start. -/
def Ticket.commitTick (t : Ticket) : Tick := t.start - 40
/-- R175: the target of a CONF or CANCEL. -/
def State.target? (s : State) (src : Nat) (k : TicketSlot) : Option Ticket :=
  s.tk.tickets.reverse.find? fun t =>
    t.src == src && !t.detached && !t.test && t.slot.seq == k.line && t.slot.object == k.object &&
      t.entryAt.elim true fun e => ticksFrom e s.now < secT 1
/-- The target ended before its commit tick (Table 5.8). -/
def Ticket.endedEarly (t : Ticket) : Bool :=
  t.final_.isSome && (t.order = 0 || t.entryAt.elim false fun e => tickBefore e t.commitTick)

/-- Table 5.8: what a CONF or CANCEL stamped now meets. -/
def Ticket.inTime (t : Ticket) (now : Tick) : Bool := tickBefore now t.commitTick

/-- R199, R250 (confirm): an unconfirmed PROV becomes confirmed; its reservation becomes a hard debit at its new demand, or it
claims air. -/
def State.confirmTicket (s : State) (t : Ticket) : State :=
  let n := chuteOf t.slot
  let s := (s.confirmOrder t.tid).updTicket t.tid fun t => { t with detail := t.detail ||| 0x40#16 }
  let v := s.addedOf ((s.ticket? t.tid).getD t)
  let d := demandOf v
  let debit (s : State) : State :=
    s.updTicket t.tid fun t => { t with reserved := false, hard := true, demand := d, valveTicks := v }
  if t.reserved then ((debit ((s.subSoft n t.demand).addHard n d)).displace t.tid).replan n
  else
    match s.claimHard n d t.start with
    | some s => ((debit s).displace t.tid).replan n
    | none => (s.endTicket t.tid .deniedAir).rebuild n

/-- TICKET_CONF after the checks of the slot (R175, R185, Table 5.8). -/
def State.applyConf (src : Nat) (k : TicketSlot) (idx : Nat) (_ : Bool) (s : State) : State :=
  match s.target? src k with
  | none => s.refuseSlot src k idx s.now 4
  | some t =>
    if t.endedEarly then s.refuseSlot src k idx s.now 5
    else if t.confirmed then s.refuseSlot src k idx s.now 6
    else if t.final_.isSome then s.refuseSlot src k idx s.now 7
    else if t.inTime s.now then (s.returnEntry src).confirmTicket t
    else ((s.endTicket t.tid .lapsed).rebuild (chuteOf t.slot)).refuseSlot src k idx s.now 7

/-- TICKET_CANCEL after the checks of the slot (R175, R185, Table 5.8). -/
def State.applyCancel (src : Nat) (k : TicketSlot) (idx : Nat) (_ : Bool) (s : State) : State :=
  match s.target? src k with
  | none => s.refuseSlot src k idx s.now 4
  | some t =>
    if t.endedEarly then s.refuseSlot src k idx s.now 5
    else if t.final_.isSome then s.refuseSlot src k idx s.now 7
    else if t.inTime s.now then ((s.returnEntry src).endTicket t.tid .cancelled).rebuild (chuteOf t.slot)
    else if t.confirmed then
      s.updTicket t.tid fun t => { t with lateCancels := t.lateCancels ++ [(k, s.now, idx)] }
    else ((s.endTicket t.tid .lapsed).rebuild (chuteOf t.slot)).refuseSlot src k idx s.now 7

/-! ### Taking a slot (R170, R171, R174, R176) -/

/-- Table 4.1: the states in which the Keystone takes tickets. -/
def State.takes (s : State) : Bool := s.inAny [.held, .ready, .run, .drain, .fault]
/-- R29: the place of a source in the rotation of this tick. -/
def State.rotRank (s : State) (src : Nat) : Nat := if src = 0 then 16 else (src + 15 + 16 - s.rotation % 16) % 16
/-- R170, R171: a source offers a slot that can be taken. -/
def Source.offers (q : Source) : Bool := q.open_ && q.prod != q.cons && q.free != 0
/-- R29: the rank of what a source offers in this tick. A PROV waits for the confirms, cancels and FIRMs of other sources, since a FIRM
claims air before it whatever the rotation ("When things coincide" of chapter 5; assumption 14). -/
def State.turnRank (s : State) (src : Nat) : Nat := s.rotRank src + if (s.slotAt src).kind == .prov then 16 else 0
/-- R29: no other source that offers a slot in this tick comes before this one. -/
def State.hasTurn (s : State) (src : Nat) : Bool :=
  (List.range 16).all fun i => i + 1 == src || !(s.source (i + 1)).offers || s.turnRank src < s.turnRank (i + 1)
/-- R171: taking is held back while no entry is free. -/
def State.stall (s : State) (src : Nat) : State :=
  if (s.source src).stalled then s
  else
    let s := s.updSource src fun q => { q with stalled := true }
    { s with tk.stalls := s.tk.stalls + 1 }
/-- R174 but for crc and ticket.spec. -/
def State.badFormat (s : State) (k : TicketSlot) : Bool :=
  let plain := k.kind == .prov || k.kind == .firm
  k.reserved || s.courseCount < chuteOf k || 64 < k.first + k.width + 1 ||
    !(k.air = 0 || (200 ≤ k.air && k.air ≤ 20000)) ||
    (!plain && !(k.velocity = 0 && k.cls = 0 && k.priority = 0 && k.offset = 0 && k.chute = 0 && k.width = 0 &&
      k.first = 0 && k.lateness = 0 && k.air = 0))
/-- R176: seq against next: whether the slot is old, and the gap it leaves. -/
def Source.judge (q : Source) (seq : U32) : Bool × U32 :=
  if q.fresh || seq == q.next then (false, 0)
  else if u32Before q.next seq then (false, seq - q.next)
  else (true, 0)
/-- R176: next follows an accepted seq; a gap is counted and recorded. -/
def State.noteSeq (s : State) (src : Nat) (seq gap : U32) (old : Bool) : State :=
  if old then s
  else
    let next := (s.source src).next
    let s := s.updSource src fun q => { q with next := seq + 1, fresh := false, gaps := q.gaps + gap }
    if gap = 0 then s else s.event 0x2001 4 src gap.toNat next.toNat

/-- R170, R171, R29: the next slot of a source is taken when it is of the kind named and the source has the turn among those that offer
a slot in this tick; a slot that fails a check of R174 or R176 is
refused, any other goes to `act` with its index and whether a gap preceded it. -/
def State.take (s : State) (src : Nat) (kind : TicketKind) (act : TicketSlot → Nat → Bool → State → State) : State :=
  let q := s.source src
  let k := s.slotAt src
  if !s.takes || !q.open_ || q.prod == q.cons || k.kind != kind then s
  else if q.free = 0 then s.stall src
  else if !s.hasTurn src then s
  else
    let idx := q.cons.toNat % 4096
    let s := s.updSource src fun q => { q with cons := q.cons + 1, reserved := q.reserved + 1, stalled := false }
    let s : State := { s with tk.taken := s.tk.taken + 1 }
    if !k.crcOk then s.refuseSlot src k idx s.now 1
    else
      let (old, gap) := q.judge k.seq
      let s := s.noteSeq src k.seq gap old
      if s.badFormat k then s.refuseSlot src k idx s.now 2
      else if k.kind == .prov && !s.on 0x600 then s.refuseSlot src k idx s.now 9
      else if old then s.refuseSlot src k idx s.now 3
      else act k idx (gap != 0) s

/-- TICKET_PROV (R178, R196). -/
def ticketProv (src : Nat) (s : State) : State := s.take src .prov (State.openRequest src)
def execTicketProv (src : Nat) (s : State) : Res := go (ticketProv src s)
/-- TICKET_FIRM (R178, R197). -/
def ticketFirm (src : Nat) (s : State) : State := s.take src .firm (State.openRequest src)
def execTicketFirm (src : Nat) (s : State) : Res := go (ticketFirm src s)
/-- TICKET_CONF (R199). -/
def ticketConf (src : Nat) (s : State) : State := s.take src .conf (State.applyConf src)
def execTicketConf (src : Nat) (s : State) : Res := go (ticketConf src s)
/-- TICKET_CANCEL (R185). -/
def ticketCancel (src : Nat) (s : State) : State := s.take src .cancel (State.applyCancel src)
def execTicketCancel (src : Nat) (s : State) : Res := go (ticketCancel src s)

/-- TICKET_PROD_WRITE (R168, R170, R203): the classifier writes prod. The window stands as long as the connection is ready, whether or not
the ring is OPEN (R509). -/
def ticketProdWrite (src : Nat) (prod : U32) (s : State) : State :=
  let q := s.source src
  let ahead := (prod - q.cons).toNat
  if q.conn.isNone then s
  else if 2 ^ 31 < ahead then s.event 0x2011 4 src 0
  else if 4096 < ahead then
    (s.updSource src fun q =>
      { q with prod := prod, cons := prod - 4096, overrun := true, overruns := q.overruns + BitVec.ofNat 32 (ahead - 4096) }).event
      0x2010 4 src (ahead - 4096)
  else s.updSource src fun q => { q with prod := prod }
def execTicketProdWrite (src : Nat) (prod : U32) (s : State) : Res := go (ticketProdWrite src prod s)

/-- COMPLETION_CCONS_WRITE (R168, R172, R204): the classifier writes ccons, as long as the connection is ready. -/
def completionCconsWrite (src : Nat) (ccons : U32) (s : State) : State :=
  let q := s.source src
  if q.conn.isNone then s
  else if (q.cprod - q.ccons).toNat < (ccons - q.ccons).toNat then s.event 0x2011 4 src 1
  else s.updSource src fun q => { q with ccons := ccons, stalled := q.stalled && q.ccons == ccons }
def execCompletionCconsWrite (src : Nat) (ccons : U32) (s : State) : Res := go (completionCconsWrite src ccons s)

/-- TICKET_FORGET (R175): 1 s after its completion entry a ticket is forgotten; one whose learn result is due stays until it
is read (R224). -/
def ticketForget (s : State) : State :=
  { s with tk.tickets := s.tk.tickets.filter fun t =>
      t.learn.isSome || !(t.entryAt.elim false fun e => secT 1 ≤ ticksFrom e s.now) }
def execTicketForget (s : State) : Res := go (ticketForget s)

/-! ### The commit tick (R185–R187, R246–R248, R566) -/

/-- R186: admission order: priority from 3 down to 0, then the rotation, then slot order. -/
def State.admitBefore (s : State) (a b : Ticket) : Bool :=
  b.slot.priority < a.slot.priority || (a.slot.priority == b.slot.priority &&
    (s.rotRank a.src < s.rotRank b.src || (s.rotRank a.src == s.rotRank b.src && a.tid < b.tid)))
/-- R247: the latest STATUS received before this tick. -/
def Course.statusBefore (c : Course) (now : Tick) : Status := if c.last.at_ == now then c.prior else c.last
/-- The committed fires of a channel. -/
def State.committedFires (s : State) (n ch : Nat) : List Fire := unionOf (s.reqs n ch fun u => u.committed)
/-- The committed fire that a request starting at `x` meets (R183). -/
def meets (x : Int) (f : Fire) : Bool := f.a ≤ x && x ≤ f.b
/-- The channels whose fire the ticket starts, among committed requests. -/
def State.startChannels (s : State) (t : Ticket) : List Nat :=
  (channelsOf t.slot).filter fun ch =>
    !(s.committedFires (chuteOf t.slot) ch).any (meets (tickDist s.now t.start))
/-- The plan of a fire the ticket starts, with its slot. -/
def State.planFor (s : State) (t : Ticket) (ch : Nat) : Option Plan :=
  (s.course (chuteOf t.slot)).plans.find? fun p => !p.committed && p.slot.isSome && p.ch == ch && p.start == t.start

/-- R246: the PEAK interval of a fire: from its start, t_peak_max of its profile. -/
def State.peakTicks (s : State) (n ch : Nat) : Nat := 4 * s.num (courseP 0xB n) (s.num (courseP 0x12 n) ch)
/-- R246: the PEAK interval of the fire of a plan. -/
def State.peakOf (s : State) (n : Nat) (p : Plan) : Tick × Tick := (p.start, tickPlus p.start (s.peakTicks n p.ch))
/-- R246: the PEAK intervals of the committed fires of a course, those that have ended among them while their interval lasts. -/
def State.peaks (s : State) (n : Nat) : List (Int × Int) :=
  (((s.course n).plans.filter (·.committed)).map (s.peakOf n) ++ (s.course n).peaksLeft).map fun p =>
    (tickDist s.now p.1, tickDist s.now p.2)
/-- R246: sim_eff for n working phases. -/
def State.simEffOf (s : State) (n working : Nat) : Nat := s.num (courseP 8 n) * working / 6
/-- R246: with the new fires, no tick of theirs lies in more than `lim` PEAK intervals. -/
def simOk (old new : List (Int × Int)) (lim : Nat) : Bool :=
  let all := old ++ new
  let inside (x : Int) (p : Int × Int) : Bool := p.1 ≤ x && x < p.2
  (all.map (·.1) ++ new.map (·.1)).all fun x => !new.any (inside x) || (all.filter (inside x)).length ≤ lim

/-- R247: the outcome of the first check that fails, or none. Readiness and n are those of the latest STATUS before this tick. -/
def State.admission (s : State) (t : Ticket) : Option Outcome :=
  let n := chuteOf t.slot
  let st := s.startChannels t
  if st.any fun ch => (s.planFor t ch).isNone then some .deniedLate
  else if !((s.course n).statusBefore s.now).ready then some .deniedBoost
  else
    let a := tickDist s.now t.start
    let new := st.map fun ch => (a, a + (s.peakTicks n ch : Int))
    if !st.isEmpty && !simOk (s.peaks n) new (s.simEffOf n ((s.course n).statusBefore s.now).n) then some .deniedBoost
    else none

/-- The detail bits and outcome that commitment fixes (R183, R189): per channel against the committed fires. -/
def State.fixOutcome (s : State) (t : Ticket) : Outcome × BitVec 16 :=
  let n := chuteOf t.slot
  let a := tickDist s.now t.start
  let e := a + t.dur
  let on (ch : Nat) := (s.committedFires n ch).find? (meets a)
  let merged := (channelsOf t.slot).filter fun ch => (on ch).elim false fun f => e ≤ f.b
  let extended := (channelsOf t.slot).filter fun ch => (on ch).elim false fun f => f.b < e
  let cut := (channelsOf t.slot).any fun ch => (on ch).elim (a + fireMax < e) fun f => f.a + fireMax < e && f.b < e
  let bits := (if merged.isEmpty then 0 else 1#16) ||| (if extended.isEmpty then 0 else 2#16) ||| (if cut then 8#16 else 0)
  let o : Outcome :=
    if t.shift != 0 then .shifted
    else if !extended.isEmpty then .extended
    else if merged.length = t.slot.width + 1 then .merged
    else .fired
  (o, bits)

/-- Frames that a commitment needs: slots to commit, and new durations of fires in slots. -/
structure Commits where
  slots : List Nat := []
  exts  : List (Nat × Nat) := []
deriving DecidableEq, Repr

/-- A committed ticket starts the fire of its plan on channel `ch`. -/
def State.commitStart (s : State) (t : Ticket) (x : Commits) (ch : Nat) : State × Commits :=
  let n := chuteOf t.slot
  match s.planFor t ch with
  | none => (s, x)
  | some p =>
    let slot := p.slot.getD 0
    let dur := min t.dur fireMax.toNat
    let s := s.updPlan n p fun q =>
      { q with committed := true, prov := false, dur := dur, tids := [t.tid] }
    (s, { slots := x.slots ++ [slot], exts := if p.dur = dur then x.exts else x.exts ++ [(slot, dur)] })
/-- A committed ticket rides on the committed fire of channel `ch`, lengthening it when its own end lies later (R240). -/
def State.commitRide (s : State) (t : Ticket) (x : Commits) (ch : Nat) : State × Commits :=
  let n := chuteOf t.slot
  let a := tickDist s.now t.start
  match (s.course n).plans.find? fun p =>
      p.committed && p.ch == ch && meets a { a := tickDist s.now p.start, b := tickDist s.now p.start + p.dur, committed := true, tids := [] } with
  | none => (s, x)
  | some p =>
    let dur := min (max (p.dur : Int) (a + t.dur - tickDist s.now p.start)) fireMax
    let s := s.updPlan n p fun q => { q with dur := dur.toNat, tids := q.tids ++ [t.tid] }
    (s, if dur.toNat = p.dur then x else { x with exts := x.exts ++ [(p.slot.getD 0, dur.toNat)] })

/-- R186, R187: an admitted ticket is committed. -/
def State.commitTicket (s : State) (t : Ticket) (x : Commits) : State × Commits :=
  let starts := s.startChannels t
  let (o, bits) := s.fixOutcome t
  let (s, x) := (channelsOf t.slot).foldl (fun (a : State × Commits) ch =>
    if starts.contains ch then a.1.commitStart t a.2 ch else a.1.commitRide t a.2 ch) (s, x)
  (s.updTicket t.tid fun t =>
    { t with
      committed := true
      hard := false
      fireKind := some o
      detail := t.detail ||| bits
      starts_ := starts
      endsDue := channelsOf t.slot }, x)

/-- R247: one ticket of a commit tick. Its debit leaves H whether the air check passes or not (R251). -/
def State.commitOne (a : State × Commits) (tid : Nat) : State × Commits :=
  match a.1.ticket? tid with
  | none => a
  | some t =>
    if t.final_.isSome || t.committed then a
    else
      let n := chuteOf t.slot
      match a.1.admission t with
      | some o => ((a.1.endTicket tid o).recost n, a.2)
      | none =>
        let s := (a.1.freeAir t).updTicket tid fun t => { t with hard := false }
        match s.commitAir n t.demand with
        | some s => s.commitTicket t a.2
        | none => ((s.endTicket tid .deniedAir).recost n, a.2)

/-- The tickets of course `n` whose commit tick is at or before `by_` are judged now (R185, R186, R247). Unconfirmed PROV
tickets lapse; the others are admitted in order; COMMIT frames go out first (R264). -/
def State.commitDue (s : State) (n : Nat) (by_ : Tick) : State :=
  let due := s.tk.tickets.filter fun t => t.placed && !t.committed && chuteOf t.slot == n && tickLe t.commitTick by_
  let s := (due.filter fun t => !t.confirmed).foldl (fun s t => s.endTicket t.tid .lapsed) s
  let s := if due.all (·.confirmed) then s else s.recost n
  let order := (sortBy s.admitBefore (due.filter (·.confirmed))).map (·.tid)
  let (s, x) := order.foldl State.commitOne (s, ({} : Commits))
  let s := s.sends (.course n) (maskFrames .commit x.slots ++ x.exts.map fun e => .extend e.1 (roundDiv (e.2 : Int) 4).toNat)
  s.replan n
/-- COMMIT_TICK (R185, R186, R247): the tickets of course `n` whose commit tick has come. A Keystone that has handed over
commits no more (R512). -/
def commitTick (n : Nat) (s : State) : State :=
  if !s.awake || s.ctl.state == .standby || s.crown.yieldAt.isSome then s else s.commitDue n s.now
def execCommitTick (n : Nat) (s : State) : Res := go (commitTick n s)

/-! ### The end of a fire (R14, R184, R248, R264) -/

/-- R184: the outcome of a fire that went ahead. -/
def Ticket.fireOutcome (t : Ticket) : Outcome := if t.lateCancels.isEmpty then t.fireKind.getD .fired else .cancelTooLate
/-- Table 5.5: a ticket that went ahead ends; PRIMED stands when every fire it started reported it. -/
def State.endFire (s : State) (tid : Nat) : State :=
  match s.ticket? tid with
  | none => s
  | some t => s.endTicket tid t.fireOutcome (if t.primedAll && !t.starts_.isEmpty then 0x10#16 else 0)
/-- The course reported the end of the fire on channel `ch` that ticket `tid` rides on. -/
def State.endChannel (s : State) (ch : Nat) (primed : Bool) (tid : Nat) : State :=
  let s := s.updTicket tid fun t =>
    { t with
      endsDue := t.endsDue.filter (· != ch)
      primedAll := t.primedAll && (primed || !t.starts_.contains ch) }
  if (s.ticket? tid).elim false fun t => t.endsDue.isEmpty then s.endFire tid else s

/-! ### Opening and closing a source (R167, R168, R200, R205) -/

/-- R167, R168, R176, R200: a source opens on a connection with fresh rings and counters. -/
def State.openSource (s : State) (src c : Nat) : State :=
  s.updSource src fun q =>
    { open_ := true, conn := some c, pconn := (s.conn c).pconn, ringGen := nextGen q.ringGen
      compGen := nextGen q.compGen }
/-- R205: the source's connection has left its ready state: its rings close, its tickets stay without entries. -/
def State.closeSource (s : State) (src : Nat) : State :=
  let s := s.updSource src fun q => { q with open_ := false, conn := none }
  { s with tk.tickets := s.tk.tickets.map fun t => if t.src == src then { t with detached := true } else t }

/-! ### Tallies and recipes (R200–R202) -/

/-- The counter of a chute and class in the tally area, by index 256 (k − 1) + c (R200). -/
def Source.tallyAt (q : Source) (i : Nat) : U32 := BitVec.ofNat 32 (leNat (readCells q.tally (4 * i) 4))
/-- The increase of a counter since the previous reading; above 1,000,000 it counts as none (R201). -/
def Source.tallyRise (q : Source) (i : Nat) : Nat := (q.tallyAt i - lookupD i 0 q.tallyLast).toNat
/-- The counters of a source that are not zero, or were not. -/
def Source.tallyTouched (q : Source) : List Nat :=
  ((q.tally.map fun (c : Host.Cell) => c.1 / 4) ++ q.tallyLast.map (fun (p : Nat × U32) => p.1)).foldl (fun l i => if l.contains i then l else l ++ [i]) []
/-- R201: one source's reading: the objects it adds, by counter. -/
def State.readTally (s : State) (src : Nat) (seen : List Nat) : State × List Nat :=
  let q := s.source src
  if !q.open_ then (s, seen)
  else
    let idxs := q.tallyTouched.filter fun i => i / 256 < s.courseCount
    let jump := if q.tallySeen then idxs.find? fun i => 1000000 < q.tallyRise i else none
    let seen := if q.tallySeen then
        idxs.foldl (fun l i => if 1000000 < q.tallyRise i then l else updAt i (· + q.tallyRise i) l) seen
      else seen
    let s := s.updSource src fun q =>
      { q with tallySeen := true, tallyLast := (idxs.map fun i => (i, q.tallyAt i)).filter fun p => p.2 != 0 }
    match jump with
    | none => (s, seen)
    | some i =>
      if q.tallyNoted.elim true fun t => secT 1 ≤ ticksFrom t s.now then
        ((s.event 0x2012 4 src (i / 256 + 1) (i % 256)).updSource src fun q => { q with tallyNoted := some s.now }, seen)
      else (s, seen)
/-- Table 12.13: the TALLY body of chute `n`. -/
def State.tallyBody (s : State) (n : Nat) : List Byte :=
  let row := (s.tk.seen.drop (256 * (n - 1))).take 256
  let some_ := (List.range 256).filter fun c => row.getD c 0 != 0
  [BitVec.ofNat 8 (n - 1), 0] ++ leBytes 2 some_.length ++ leBytes 4 (sumOf id row) ++
    leBytes 4 (s.tk.confirmedSec.getD (n - 1) 0) ++
    some_.flatMap fun c => leBytes 4 (c + 256 * row.getD c 0)
/-- R201: the tallies of every source are read, and what they saw becomes the last second's. -/
def State.tallySweep (s : State) : State :=
  let (s, seen) := (List.range 16).foldl (fun (a : State × List Nat) i => a.1.readTally (i + 1) a.2)
    (s, List.replicate 2048 0)
  { s with tk.seen := seen }
/-- R201: each course's TALLY record. -/
def State.tallyRecords (s : State) : State :=
  (List.range s.courseCount).foldl (fun s i => s.makeRecord 2 s.lineNow (s.tallyBody (i + 1))) s
/-- TALLY_READ (R201): at every multiple of 4,000,000 ticks the tally areas of the open sources are read, and each chute 1 to
sys.courses gets its TALLY record. -/
def tallyRead (s : State) : State :=
  if !s.inAny [.held, .ready, .run, .drain, .fault] || s.now.toNat % 4000000 != 0 then s
  else
    let s := s.tallySweep.tallyRecords
    { s with tk.confirmedSec := List.replicate 8 0 }
def execTallyRead (s : State) : Res := go (tallyRead s)

/-- RECIPE_REPORT (R202, Table 5.17): the recipe block is copied and makes a RECIPE record, or NOTE 0x2013. -/
def recipeReport (src : Nat) (s : State) : State :=
  let q := s.source src
  if !q.open_ then s
  else
    let b := readCells q.recipe 0 80
    let mask := leNat (sliceB b 4 1)
    let ok := leNat (sliceB b 5 11) = 0 && mask != 0 && mask < 2 ^ s.courseCount
    if ok then
      let line := BitVec.ofNat 32 (leNat (sliceB b 0 4))
      s.makeRecord 5 (if s.sync.running then some line else none)
        (leBytes 1 src ++ leBytes 1 mask ++ List.replicate 6 0#8 ++ sliceB b 16 64)
    else s.event 0x2013 4 src
def execRecipeReport (src : Nat) (s : State) : Res := go (recipeReport src s)

end Sys2Proof.Machine
end

