-- ==== Sys2Proof/Machine/Loops.lean ====
section
/-! DEFINITION. Conditioning (chapter 10): the control law down to the bit, the gain schedule, heat inhibits, the zones' part of
DRAIN, the batch, and the LOOP verb. -/
namespace Sys2Proof.Machine

/-! ### Loops and their zones (R335) -/

/-- The zone of a loop, 0 for loop 15. -/
def loopZone (n : Nat) : Nat := if n < 15 then n / 3 + 1 else 0
/-- A plenum, airflow or discharge loop (R335). -/
def isPlenum (n : Nat) : Bool := n < 15 && n % 3 = 0
def isAirflow (n : Nat) : Bool := n < 15 && n % 3 = 1
def isDischarge (n : Nat) : Bool := n < 15 && n % 3 = 2
/-- The plenum loop of a drying zone, to which the heat rules apply. -/
def isDrying (n : Nat) : Bool := n < 12 && n % 3 = 0
/-- R336: a loop with both an input and an output. -/
def State.wired (s : State) (n : Nat) : Bool := s.on 0x7A3 n && s.on 0x7A6 n

/-- Flags of R348. -/
def satIn : BitVec 8 := 1
def satOut : BitVec 8 := 2
def satInt : BitVec 8 := 4
def ovf : BitVec 8 := 8
/-- The flag where a condition holds. -/
def flagIf (c : Bool) (f : BitVec 8) : BitVec 8 := if c then f else 0

/-! ### Heat inhibit (R339) -/

/-- Causes of R339 by bit: HIGH, FAN, INPUT, DRAIN, BATCH. -/
def causeHigh : Nat := 0
def causeFan : Nat := 1
def causeInput : Nat := 2
def causeDrain : Nat := 3
def causeBatch : Nat := 4
/-- One cause of a zone's inhibit set or released. -/
def State.setInhibit (s : State) (z bit : Nat) (on : Bool) : State :=
  s.updZone z fun x => { x with inhibit := if on then x.inhibit ||| (1#8 <<< bit) else x.inhibit &&& ~~~(1#8 <<< bit) }
/-- A cause set or released on every drying zone. -/
def State.setInhibits (s : State) (bit : Nat) (on : Bool) : State :=
  (List.range 4).foldl (fun s i => s.setInhibit (i + 1) bit on) s

/-! ### Sources (R344, R362) -/

/-- The filtered state of digital input `n`, counted from 1, as the latest field cycle brought it (R366, R367). -/
def State.diOn (s : State) (n : Nat) : Bool := s.fld.diSet.getLsbD (ix n)
/-- Analogue input `n`, counted from 1. -/
def State.aiOf (s : State) (n : Nat) : Ai := s.fld.ais.getD (ix n) {}
/-- The value of a valid source, by its ordinal in the source enumeration, in the step the source delivers. -/
def State.sourceVal (s : State) (src : Nat) : Option Int :=
  if src = 0 then none
  else if src ≤ 8 then if (s.aiOf src).valid then some (s.aiOf src).value else none
  else if src ≤ 16 then if (s.fan (src - 8)).state == .running then some (s.fan (src - 8)).rpm else none
  else if src = 17 then if s.fld.avgValid.getLsbD 0 then some s.fld.avgOutMoist else none
  else if src = 18 then if s.fld.avgValid.getLsbD 1 then some s.fld.avgOutTemp else none
  else if s.fld.avgValid.getLsbD 2 then some s.fld.avgInMoist else none
/-- R342: the plenum temperature of zone `z`: the latest value delivered; while the source is invalid, the last one taken. -/
def State.plenumNow (s : State) (z : Nat) : Int := (s.sourceVal (s.num 0x7A3 (3 * (z - 1)))).getD (s.zone z).plenum
/-- `n / d` in Q1.19, clipped to [0, 1 − 2^−19]; true when the clip changed it. -/
def norm19 (n : Int) (d : Nat) : Int × Bool :=
  let q := roundDiv (n * 2 ^ 19) d
  let c := clampI 0 (2 ^ 19 - 1) q
  (c, c != q)
/-- R344: a source value scaled by in_lo and in_hi. -/
def State.scaleIn (s : State) (n : Nat) (x : Int) : Int × Bool :=
  norm19 (x - s.raw 0x7A4 n) (s.raw 0x7A5 n - s.raw 0x7A4 n).toNat
/-- R344: a value in 0.01 % as Q1.19. -/
def pct19 (v : Int) : Int := min (roundDiv (v * 2 ^ 19) 10000) (2 ^ 19 - 1)
/-- An analogue input normalised over its range lo to hi. -/
def State.normAi (s : State) (k : Nat) : Int :=
  let lo := s.raw 0x922 (k - 1)
  let hi := s.raw 0x923 (k - 1)
  if (s.aiOf k).valid && hi != lo then
    (norm19 (if lo < hi then (s.aiOf k).value - lo else lo - (s.aiOf k).value) (hi - lo).natAbs).1
  else 0
/-- A value in 0.01 % in the step of a source that measures in %. -/
def State.pctAs (s : State) (src : Nat) (v : Int) : Option Int :=
  if src = 17 || src = 19 then some (v * 100)
  else if 1 ≤ src && src ≤ 8 && s.num 0x921 (src - 1) = 1 then some v
  else none
/-- R344: the setpoint r of a loop: in the unit of its source, else in % of its range. -/
def State.setpoint (s : State) (n : Nat) : Int :=
  let z := loopZone n
  if isPlenum n then (s.scaleIn n ((s.loop n).limits.getD 0 0)).1
  else
    let v := if n = 15 then s.raw 0x7C2 else if isAirflow n then s.raw (zoneP 3 z) else s.raw 0x7E1
    match s.pctAs (s.num 0x7A3 n) v with
    | some x => (s.scaleIn n x).1
    | none => pct19 v
/-- R363: est_gain × √p for an estimate source, in Q1.19 before the clip. -/
def State.estimate (s : State) (n : Nat) : Int :=
  let k := s.num 0x7B9 n
  let lo := s.raw 0x922 (k - 1)
  let hi := s.raw 0x923 (k - 1)
  let g := s.num 0x7BA n
  let p := if lo < hi then (s.aiOf k).value - lo else lo - (s.aiOf k).value
  ((isqrt (16 * g * g * p.toNat / (hi - lo).natAbs) + 1) / 2 : Nat)
/-- R363: the loop may use its estimate: an airflow loop whose fan reports TACH-LOST, with a valid estimate source. -/
def State.estimates (s : State) (n : Nat) : Bool :=
  let src := s.num 0x7A3 n
  let k := s.num 0x7B9 n
  isAirflow n && 9 ≤ src && src ≤ 16 && (s.fan (src - 8)).state == .tachLost && k != 0 && (s.aiOf k).valid &&
    s.raw 0x922 (k - 1) != s.raw 0x923 (k - 1)

/-- What a loop measures: none while its source is invalid (R362); y, whether it was clipped, and whether it is the
estimate. A range with in_hi not above in_lo counts as an invalid source. -/
def State.measure (s : State) (n : Nat) : Option (Int × Bool × Bool) :=
  if s.raw 0x7A5 n ≤ s.raw 0x7A4 n then none
  else if s.estimates n then
    let e := s.estimate n
    let c := clampI 0 (2 ^ 19 - 1) e
    some (c, c != e, true)
  else (s.sourceVal (s.num 0x7A3 n)).map fun x => ((s.scaleIn n x).1, (s.scaleIn n x).2, false)

/-! ### Coefficients and regions (R346, R349) -/

/-- Element 16 n + region of a gain array. -/
def State.gain (s : State) (id n region : Nat) : Int := s.raw id (16 * n + region)
/-- A value saturated into a range, and whether it had to be. -/
def satI (lo hi x : Int) : Int × Bool := (clampI lo hi x, x < lo || hi < x)
/-- R346: the coefficients of a region, derived in double precision, and whether one saturated. -/
def State.coefOf (s : State) (n region : Nat) : Coef × Bool :=
  let kp := s.gain 0x7C8 n region
  let ti := s.gain 0x7C9 n region
  let td := s.gain 0x7CA n region
  let k := Dbl.of kp (2 ^ 15)
  let ts := Dbl.of (s.num 0x7A2 n) 1000
  let tf := (Dbl.of td 1000).div (Dbl.of (s.num 0x7AC n) 1)
  let ki := satI (-2 ^ 19) (2 ^ 19 - 1) (if ti = 0 then 0 else ((k.mul ts).div (Dbl.of ti 100)).rounded 19)
  let ad := satI 0 (2 ^ 20 - 1) (if td = 0 then 0 else (tf.div (tf.add ts)).rounded 20)
  let bd := satI (-2 ^ 19) (2 ^ 19 - 1) (if td = 0 then 0 else ((k.mul (Dbl.of td 1000)).div (tf.add ts)).rounded 12)
  ({ kp := kp, ki := ki.1, ad := ad.1, bd := bd.1 }, ki.2 || ad.2 || bd.2)
/-- The crack index in force at the start of this tick (R353), /s with 20 fraction bits. -/
def State.crackNow (s : State) : Nat := if s.dry.crackAt == s.now then s.dry.crackPrev else s.dry.crack
/-- A scheduling variable by its ordinal, in its step; none when it has no valid value (R342). -/
def State.schedVar (s : State) (n v : Nat) : Option Int :=
  match v with
  | 1 => s.sourceVal 17
  | 2 => s.sourceVal 18
  | 3 => s.sourceVal 19
  | 4 =>
    if loopZone n = 0 then none else some (s.plenumNow (loopZone n))
  | 5 => some (roundDiv (s.crackNow * 100) (2 ^ 20))
  | _ => none
/-- R349: one index moved by edges `e` with hysteresis `h`. -/
def moveIndex (e : List Int) (h x : Int) (i : Nat) : Nat :=
  let up := (List.range 3).foldl (fun i _ => if i < 3 && e.getD i 0 + h ≤ x then i + 1 else i) i
  (List.range 3).foldl (fun i _ => if 0 < i && x < e.getD (i - 1) 0 - h then i - 1 else i) up
/-- R349: the index of a scheduling variable, moved, or set directly with no hysteresis at an entry. -/
def State.newIndex (s : State) (n svId eId hId : Nat) (direct : Bool) (i : Nat) : Nat :=
  let v := s.num svId n
  if v = 0 then 0
  else match s.schedVar n v with
    | none => i
    | some x =>
      let e := [s.raw eId n, s.raw (eId + 1) n, s.raw (eId + 2) n]
      moveIndex e (if direct then 0 else s.raw hId n) x (if direct then 0 else i)
/-- R349: both indices of a loop. -/
def State.newIndices (s : State) (n : Nat) (direct : Bool) : Nat × Nat :=
  (s.newIndex n 0x7AD 0x7AF 0x7B5 direct (s.loop n).i1, s.newIndex n 0x7AE 0x7B2 0x7B6 direct (s.loop n).i2)

/-! ### One sample (Table 10.2) -/

/-- Saturation of Q10.38 to [−2, +2). -/
def sat38 (x : Int) : Int × Bool := satI (-2 ^ 39) (2 ^ 39 - 1) x
/-- R353: FF_crack in Q10.38. -/
def State.crackTerm (s : State) (n region : Nat) : Int :=
  let exc : Int := (s.crackNow : Int) * 100 - s.raw 0x7E5 * 2 ^ 20
  if !isDrying n || !(s.num 0x7E4).testBit (loopZone n - 1) || exc ≤ 0 then 0
  else -(min (roundDiv (s.gain 0x7CB n region * exc) 400) (roundDiv (s.raw 0x7E6 * 2 ^ 38) 10000))

/-- What one sample works on: coefficients, weights, measurement, setpoint and their previous values, feedforward, limits. -/
structure LoopIn where
  b    : Int
  c    : Int
  y    : Int
  r    : Int
  y1   : Int
  r1   : Int
  d1   : Int
  i1   : Int
  ff   : Int
  uLo  : Int
  uHi  : Int
  hold : Bool
deriving DecidableEq, Repr

/-- Steps 4 and 5: P and D, and the flags they raise. -/
def LoopIn.pd (x : LoopIn) (k : Coef) : Int × Int × BitVec 8 :=
  let p := sat38 (roundDiv (k.kp * (x.b * x.r - x.y * 2 ^ 19)) (2 ^ 15))
  let e := (x.c * x.r - x.y * 2 ^ 19) - (x.c * x.r1 - x.y1 * 2 ^ 19)
  let d := sat38 (roundDiv (k.ad * x.d1) (2 ^ 20) + roundDiv (k.bd * e) (2 ^ 12))
  (p.1, d.1, flagIf (p.2 || d.2) ovf)
/-- Steps 6 and 7: I, and the flags raised. -/
def LoopIn.integrate (x : LoopIn) (k : Coef) (p d : Int) : Int × BitVec 8 :=
  let inc := k.ki * (x.r - x.y)
  let i := sat38 (x.i1 + inc)
  let v := (sat38 (p + i.1 + d + x.ff)).1
  if (x.uHi < v && 0 < inc) || (v < x.uLo * 2 ^ 19 && inc < 0) then (x.i1, satInt)
  else if x.hold then (x.i1, 0)
  else (i.1, flagIf i.2 satInt)
/-- R340, R354, R355: the integrator that makes the sum of the terms equal `u`, saturated. -/
def LoopIn.track (x : LoopIn) (u p d : Int) : Int := (sat38 (u * 2 ^ 19 - p - d - x.ff)).1
/-- u_hi_eff in Q1.19. -/
def LoopIn.uHi19 (x : LoopIn) : Int := roundDiv x.uHi (2 ^ 19)
/-- Step 8 (R350): I after a switch from coefficients `old`, given the new P and D. -/
def LoopIn.switch (x : LoopIn) (old : Coef) (p d : Int) : Int × BitVec 8 :=
  let (po, dO, f) := x.pd old
  let (io, g) := x.integrate old po dO
  let v := (sat38 (po + io + dO + x.ff)).1
  let i := sat38 (v - p - d - x.ff)
  (i.1, f ||| g ||| flagIf i.2 satInt)
/-- Step 9: u and the flags of v and of the clamp. -/
def LoopIn.output (x : LoopIn) (p i d : Int) : Int × BitVec 8 :=
  let v := sat38 (p + i + d + x.ff)
  let u := roundDiv v.1 (2 ^ 19)
  let c := clampI x.uLo x.uHi19 u
  (c, flagIf v.2 ovf ||| flagIf (c != u) satOut)

/-- u_lo and u_hi of a loop in Q1.19. -/
def State.uLo (s : State) (n : Nat) : Int := pct19 (s.raw 0x7A7 n)
def State.uHi (s : State) (n : Nat) : Int := pct19 (s.raw 0x7A8 n)
/-- Ticks since entry to DRAIN. -/
def State.drainTicks (s : State) : Nat := ticksFrom s.ctl.drainAt s.now
/-- The purge time of zone `z` has passed in DRAIN. -/
def State.purged (s : State) (z : Nat) : Bool := secT (s.num (zoneP 7 z)) ≤ s.drainTicks
/-- dry.mode is BATCH. -/
def State.batchMode (s : State) : Bool := s.on 0x7E0
/-- The output that DRAIN (R358, R153) or a batch step (Table 10.4) fixes for a loop; none when its mode decides. -/
def State.fixedOut (s : State) (n : Nat) : Option Int :=
  let z := s.zone (loopZone n)
  let b := s.dry.batch
  let lo := s.uLo n
  if n = 15 then none
  else if z.limited && isDrying n && (s.ctl.state == .ready || z.drain == .complete) then some 0
  else if s.ctl.state == .drain && z.drain == .complete then some lo
  else if s.batchMode then
    if b.state == .idle || !s.inAny [.run, .drain] then none
    else if isAirflow n then if b.step == .temper then some lo else none
    else if isDischarge n then
      some (if b.step == .empty then clampI lo (max lo (s.uHi n)) (pct19 (s.raw 0x7F2)) else lo)
    else none
  else if s.ctl.state == .drain && isDischarge n then
    some (if s.purged (loopZone n) then lo else (s.loop n).u)
  else none

/-! ### Modes (Table 10.3, R354, R355) -/

/-- Table 10.3 and R336: the active mode that the unit state and the requested mode ask for. -/
def State.loopTarget (s : State) (n : Nat) : LoopActive :=
  let m := s.num 0x7A0 n
  if s.ctl.state == .standby then .tracking
  else if !s.wired n || m = 0 || s.ctl.shutdown.isSome then .off
  else match s.ctl.state with
    | .ready => .manual
    | .run => if m = 1 then .manual else .auto
    | .drain =>
      if n < 15 && (s.zone (loopZone n)).drain == .complete then .manual else if m = 1 then .manual else .auto
    | _ => .off
/-- R341: the 600 s run without interruption; they begin again when the plenum loop changes its mode. -/
def State.lowAnew (s : State) (n : Nat) : State :=
  if isDrying n then s.updZone (loopZone n) fun k => { k with lowSince := none } else s
/-- A loop enters a mode: from OFF it starts at u_lo with D and I at 0; its next sample is the first of the entry. -/
def State.enterLoop (s : State) (n : Nat) (m : LoopActive) : State :=
  let lo := s.uLo n
  (s.updLoop n fun l =>
    let l : Loop := if l.active == .off then { l with u := lo, d := 0, i := 0 } else l
    { l with active := m, first := true, frozen := false, badSince := none, ramping := false }).lowAnew n
/-- A loop is OFF. -/
def State.loopOffNow (s : State) (n : Nat) : State :=
  (s.updLoop n fun l => { l with active := .off, frozen := false, badSince := none, ramping := false, est := false }).lowAnew n
/-- The active mode of a loop that is not stopping follows Table 10.3. -/
def State.retargetLoop (s : State) (n : Nat) : State :=
  let l := s.loop n
  let t := s.loopTarget n
  if l.active == .stopping || t == l.active then s
  else if t == .off then s.loopOffNow n
  else if t == .tracking then s.updLoop n fun l => { l with active := .tracking, frozen := false }
  else s.enterLoop n t
/-- A word for the active mode (Table 10.6). -/
def activeText (l : Loop) : String :=
  if l.frozen then "FROZEN"
  else match l.active with
    | .off => "OFF" | .stopping => "STOPPING" | .manual => "MANUAL" | .auto => "AUTO" | .frozen => "FROZEN"
    | .tracking => "TRACKING"
/-- R360: the reply of LOOP MANUAL or AUTO. -/
def State.loopReply (s : State) (n : Nat) (auto : Bool) : String :=
  if auto && s.ctl.state == .ready then "MANUAL, AUTO at RUN" else activeText (s.loop n)
/-- LOOP n MANUAL or AUTO takes effect: the requested mode, and the manual value when one is given. It ends what a drain limit left of the
zone (R153, assumption 59). -/
def State.enableLoop (s : State) (n : Nat) (auto : Bool) (v : Option Int) : State :=
  let s := (s.updZone (loopZone n) fun k => { k with limited := false }).setRaw 0x7A0 n (if auto then 2 else 1)
  (v.elim s fun v => s.setRaw 0x7A9 n v).retargetLoop n
/-- R361: the off ramp of a loop has ended; a queued MANUAL or AUTO runs its full entry, or is cancelled (R156). -/
def State.loopStopped (s : State) (n : Nat) : State :=
  let q := (s.loop n).queued
  let s := ((s.loopOffNow n).updLoop n fun l => { l with queued := none }).finish (· == .loopOff n) (.ok "OFF")
  match q with
  | none => s
  | some (auto, v) =>
    if s.inAny [.ready, .run, .drain] && s.wired n then
      let s := s.enableLoop n auto v
      s.finish (· == .loopMode n) (.ok (s.loopReply n auto))
    else s.finish (· == .loopMode n) (.err 301 "cancelled")
/-- The loops after a change of unit state: a stopping loop outside RUN and DRAIN is OFF; every loop follows Table 10.3. -/
def State.retargetLoops (s : State) : State :=
  (List.range 16).foldl (fun s n =>
    let s := if (s.loop n).active == .stopping && !s.inAny [.run, .drain] then s.loopStopped n else s
    s.retargetLoop n) s

/-! ### Heat, limits and alarms (R338–R341) -/

/-- R338: heat of a drying zone is available. -/
def State.heatOf (s : State) (z : Nat) : Bool := s.num (zoneP 4 z) = 0 || s.diOn (s.num (zoneP 4 z))
/-- R338: NOTE 0x5050 at a change of availability. -/
def State.noteHeat (s : State) (z : Nat) : State :=
  let h := s.heatOf z
  if h == (s.zone z).heat then s
  else (s.updZone z fun x => { x with heat := h }).event 0x5050 7 z (if h then 1 else 0)
/-- R338 for every drying zone. -/
def State.noteHeats (s : State) : State := (List.range 4).foldl (fun s i => s.noteHeat (i + 1)) s
/-- R339 HIGH at a sample: set at or above high, released after 10 s at or below high − 2 °C. -/
def State.judgeHigh (s : State) (n : Nat) (x : Int) : State :=
  let z := loopZone n
  let high := (s.loop n).limits.getD 1 0
  let set := (s.zone z).inhibit.getLsbD causeHigh
  if high ≤ x then
    let s := (s.setInhibit z causeHigh true).updZone z fun k => { k with highOkSince := none }
    if set then s else s.event 0x5020 7 z (BitVec.ofInt 32 x).toNat
  else if !set then s
  else if high - 200 < x then s.updZone z fun k => { k with highOkSince := none }
  else
    let since := (s.zone z).highOkSince.getD s.now
    if secT 10 ≤ ticksFrom since s.now then
      (s.setInhibit z causeHigh false).updZone z fun k => { k with highOkSince := none }
    else s.updZone z fun k => { k with highOkSince := some since }
/-- R341: a plenum below low for 600 s in AUTO with heat, noted once until it has risen above low. -/
def State.judgeLow (s : State) (n : Nat) (x : Int) (auto : Bool) : State :=
  let z := loopZone n
  let low := (s.loop n).limits.getD 2 0
  let k := s.zone z
  let since := if auto && k.heat && x < low then some (k.lowSince.getD s.now) else none
  let due := !k.lowNoted && since.elim false fun t => secT 600 ≤ ticksFrom t s.now
  let s := s.updZone z fun k => { k with lowSince := since, lowNoted := (k.lowNoted || due) && !(low < x) }
  if due then s.event 0x5021 7 z else s
/-- Table 3.8: a committed zone.N.limits set is taken at the next sample of a loop of the zone, each loop at its own. -/
def State.takeLimits (s : State) (n : Nat) : State :=
  let z := loopZone n
  if z = 0 then s
  else
    let s := s.takeCommitted (.limits z)
    let l := [s.raw (zoneP 0 z), s.raw (zoneP 1 z), s.raw (zoneP 2 z)]
    s.updLoop n fun x => { x with limits := l }

/-! ### The zones in DRAIN (R358, R359) -/

/-- A zone reports its drain complete; its loops go to MANUAL at u_lo. -/
def State.zoneComplete (s : State) (z : Nat) : State :=
  let s := (s.updZone z fun k => { k with drain := .complete }).setInhibit z causeDrain false
  (List.range 3).foldl (fun s k => s.retargetLoop (3 * (z - 1) + k)) s
/-- R358: a draining zone whose purge has elapsed, and whose plenum is cool or has no input. -/
def State.zoneDrained (s : State) (z : Nat) : Bool :=
  let src := s.num 0x7A3 (3 * (z - 1))
  s.ctl.state == .drain && !s.batchMode && (s.zone z).drain == .draining && s.purged z &&
    (src = 0 || (s.sourceVal src).elim false fun x => x ≤ s.raw 0x7E9)
/-- ZONE_PURGE_END (R358): judged at the end of purge and from then on. -/
def zonePurgeEnd (z : Nat) (s : State) : State := if s.zoneDrained z then s.zoneComplete z else s
def execZonePurgeEnd (z : Nat) (s : State) : Res := go (zonePurgeEnd z s)
/-- Every zone reports its drain complete (R152). -/
def State.zonesDone (s : State) : Bool := s.dry.zones.all (·.drain == .complete)

/-! ### The batch (R356, R357) -/

/-- The ordinal of a step (Table 10.4). -/
def stepNum : BatchStep → Nat
  | .fill => 0 | .heat => 1 | .dry => 2 | .temper => 3 | .cool => 4 | .empty => 5
def stepText : BatchStep → String
  | .fill => "FILL" | .heat => "HEAT" | .dry => "DRY" | .temper => "TEMPER" | .cool => "COOL" | .empty => "EMPTY"
def batchText : BatchState → String
  | .idle => "IDLE" | .running => "RUNNING" | .held => "HELD"
/-- The step has heat (Table 10.4). -/
def stepHeats (x : BatchStep) : Bool := x == .heat || x == .dry
/-- A step begins: its timer from zero, its heat, INFO 0x5040. -/
def State.batchEnter (s : State) (x : BatchStep) : State :=
  let s : State := { s with
    dry.batch.step := x
    dry.batch.since := s.now
    dry.batch.condSince := none
    dry.batch.dryHits := 0
    dry.batch.next_ := false }
  (s.setInhibits causeBatch (!stepHeats x || s.dry.batch.state == .held)).event 0x5040 0 0 (stepNum x)
/-- R356: the batch enters HELD: every drying zone inhibited, FAULT 0x5041. -/
def State.batchHold (s : State) : State :=
  if s.dry.batch.state != .running then s
  else
    let s : State := { s with dry.batch.state := .held }
    (s.setInhibits causeBatch true).event 0x5041 0 0 (stepNum s.dry.batch.step)
/-- R359: in DRAIN, an IDLE batch completes every zone. -/
def State.batchDrained (s : State) : State :=
  if s.ctl.state == .drain && s.batchMode && s.dry.batch.state == .idle then
    (List.range 5).foldl (fun s i => s.zoneComplete (i + 1)) s
  else s
/-- The batch is IDLE. -/
def State.batchIdle (s : State) : State :=
  State.batchDrained { s with dry.batch.state := .idle, dry.batch.next_ := false, dry.batch.condSince := none }
/-- The condition of the running step's exit, apart from its time (Table 10.4). -/
def State.stepCond (s : State) : Bool :=
  match s.dry.batch.step with
  | .fill => s.diOn (s.num 0x7EC)
  | .heat => (List.range 4).all fun i =>
      let l := s.loop (3 * i)
      l.active == .off || (!l.frozen && (s.plenumNow (i + 1) - l.limits.getD 0 0).natAbs ≤ s.num 0x7EE)
  | .dry => 3 ≤ s.dry.batch.dryHits
  | .temper => true
  | .cool => s.fld.avgValid.getLsbD 1 && s.fld.avgOutTemp ≤ s.raw 0x7F1
  | .empty => s.diOn (s.num 0x7ED)
/-- How long the condition must have held, in s. -/
def stepHold : BatchStep → Nat
  | .fill => 5 | .heat => 60 | .empty => 10 | _ => 0
/-- The exit condition of the running step holds. -/
def State.stepExit (s : State) : Bool :=
  let b := s.dry.batch
  s.stepCond && secT (stepHold b.step) ≤ ticksFrom (b.condSince.getD s.now) s.now &&
    (b.step != .temper || secT (60 * s.num 0x7F0) ≤ ticksFrom b.since s.now)
/-- The step after a step; none after EMPTY. -/
def stepAfter : BatchStep → Option BatchStep
  | .fill => some .heat | .heat => some .dry | .dry => some .temper | .temper => some .cool | .cool => some .empty
  | .empty => none
/-- The step of the batch ends. -/
def State.batchNext (s : State) : State :=
  match stepAfter s.dry.batch.step with
  | some x => s.batchEnter x
  | none => s.batchIdle
/-- R356: the running batch at a sample: the step ends when its exit condition holds, or under LOOP BATCH NEXT. -/
def State.batchSample (s : State) : State :=
  if s.dry.batch.state != .running || !s.inAny [.run, .drain] || !s.batchMode then s
  else
    let s : State := { s with dry.batch.condSince := if s.stepCond then some (s.dry.batch.condSince.getD s.now) else none }
    if s.stepExit || s.dry.batch.next_ then s.batchNext else s
/-- BATCH_STEP_LIMIT (R356). -/
def batchStepLimit (s : State) : State :=
  let b := s.dry.batch
  if b.state == .running && s.inAny [.run, .drain] && !s.stepExit &&
      secT (60 * s.num 0x7F3 (stepNum b.step)) ≤ ticksFrom b.since s.now then s.batchHold
  else s
def execBatchStepLimit (s : State) : Res := go (batchStepLimit s)
/-- An outlet average counts towards the exit of DRY. -/
def State.batchAverage (s : State) : State :=
  let hit := s.fld.avgOutMoist ≤ 100 * s.num 0x7EF
  { s with dry.batch.dryHits := if s.dry.batch.step == .dry && hit then s.dry.batch.dryHits + 1 else 0 }

/-- Entry to DRAIN on the conditioning side (R358, R359). A step whose exit condition holds in this tick ends first. -/
def State.zonesDrain (s : State) : State :=
  let s : State := { s with dry.zones := s.dry.zones.map fun k => { k with drain := .draining, limited := false } }
  if s.batchMode then
    let s := if s.dry.batch.state == .running && s.stepExit then s.batchNext else s
    let s := if s.dry.batch.state != .idle && s.on 0x7F4 && stepNum s.dry.batch.step < 4 then s.batchEnter .cool else s
    s.batchDrained
  else s.setInhibits causeDrain true
/-- The end of DRAIN on the conditioning side. A zone that sys.drain.limit ended keeps its heat demand at 4 mA (R153, assumption 59). -/
def State.zonesRest (s : State) : State :=
  let s : State := { s with dry.zones := s.dry.zones.map fun k => { k with drain := .none } }
  s.setInhibits causeDrain false
/-- R153: zone `z` goes to manual, its heat demand to 4 mA at once. -/
def State.zoneLimit (s : State) (z : Nat) : State :=
  let s := (s.updZone z fun k => { k with limited := true }).zoneComplete z
  let n := 3 * (z - 1)
  if isDrying n then s.updLoop n fun l => if l.active == .off then l else { l with u := 0 } else s
/-- R153: the zones that have not completed go to manual with heat demand at 4 mA. -/
def State.zonesLimit (s : State) : State × List Nat :=
  let late := (numsWhere 5 fun i => (s.zone (i + 1)).drain != .complete).map (· + 1)
  (late.foldl State.zoneLimit s, late)
/-- R153: a new start ends what the drain limit left (assumption 59). -/
def State.unlimit (s : State) : State := { s with dry.zones := s.dry.zones.map fun k => { k with limited := false } }

/-! ### A loop's sample (R342, R347, R354, R362) -/

/-- R362: while its source is invalid a loop keeps its output and integrator; an inhibit still forces u_lo. -/
def State.freezeLoop (s : State) (n : Nat) : State :=
  let l := s.loop n
  let s := if l.frozen then s else s.event 0x5010 6 n
  let inh := isDrying n && (s.zone (loopZone n)).inhibit != 0
  let lo := s.uLo n
  s.updLoop n fun l =>
    { l with
      frozen := true
      flags := l.flags ||| satIn
      badSince := some (l.badSince.getD s.now)
      u := if inh then lo else l.u
      first := l.first || inh }
/-- The inputs of a sample. -/
def State.loopIn (s : State) (n : Nat) (y : Int) (ffc ff : Int) : LoopIn :=
  let l := s.loop n
  let r := s.setpoint n
  let lo := s.uLo n
  { b := s.raw 0x7AA n, c := s.raw 0x7AB n, y := y, r := r
    y1 := if l.first then y else l.y, r1 := if l.first then r else l.r, d1 := l.d, i1 := l.i, ff := ff
    uLo := lo, uHi := max (lo * 2 ^ 19) (s.uHi n * 2 ^ 19 + ffc), hold := isDrying n && !(s.zone (loopZone n)).heat }
/-- Steps 6 to 10: I, u and the flags, for a loop in AUTO or in MANUAL, under an output fixed by DRAIN or a batch, or an
inhibit. -/
def State.loopLaw (s : State) (n : Nat) (x : LoopIn) (k : Coef) (switch : Bool) (p d : Int) : Int × Int × BitVec 8 :=
  let l := s.loop n
  let fixed := s.fixedOut n
  let (i, u, f) : Int × Int × BitVec 8 :=
    if fixed.isNone && l.active == .auto then
      let (i, f) :=
        if l.first then (x.track l.u p d, (0 : BitVec 8))
        else if switch then x.switch l.coef p d
        else x.integrate k p d
      let (u, g) := x.output p i d
      (i, u, f ||| g)
    else
      let u := fixed.getD (clampI x.uLo x.uHi19 (pct19 (s.raw 0x7A9 n)))
      (x.track u p d, u, 0)
  if isDrying n && (s.zone (loopZone n)).inhibit != 0 then (x.track x.uLo p d, x.uLo, f) else (i, u, f)

/-- R346, R349: the region and coefficients of this sample: the state with the indices moved, the coefficients and whether
they call for a switch. -/
def State.loopRegion (s : State) (n : Nat) : State × Coef × Bool :=
  let l := s.loop n
  let (i1, i2) := s.newIndices n l.first
  let moved := i1 != l.i1 || i2 != l.i2
  let (k, sat) := s.coefOf n (4 * i1 + i2)
  let again := l.first || moved || l.switchDue || k != l.coef
  let s := s.updLoop n fun l => { l with i1 := i1, i2 := i2, flags := l.flags ||| flagIf (again && sat) ovf }
  (if again && sat then s.event 0x5030 6 n (4 * i1 + i2) else s, k, again && !l.first)
/-- One sample with a valid source. -/
def State.sampleLoop (s : State) (n : Nat) (y : Int) (clip est : Bool) : State :=
  let (s, k, switch) := s.loopRegion n
  let l := s.loop n
  let region := 4 * l.i1 + l.i2
  let switch := switch || l.frozen || est != l.est
  let ffc := s.crackTerm n region
  let f := if s.on 0x7B7 n then s.normAi (s.num 0x7B7 n) else 0
  let ff := sat38 (s.raw 0x7B8 n * f * 2 ^ 4 + ffc)
  let x := s.loopIn n y ffc ff.1
  let (p, d, fp) := x.pd k
  let (i, u, fl) := s.loopLaw n x k (switch && !l.first) p d
  let s := if est && !l.est then s.event 0x5011 6 n else s
  s.updLoop n fun l =>
    { l with
      y := y
      r := x.r
      d := d
      i := i
      u := u
      ff := ffc
      coef := k
      first := false
      switchDue := false
      frozen := false
      badSince := none
      est := est
      flags := l.flags ||| fp ||| fl ||| flagIf clip satIn ||| flagIf ff.2 ovf }
/-- R361: one sample of an off ramp. -/
def State.rampLoop (s : State) (n : Nat) : State :=
  let step := max 1 (roundDiv (s.num 0x7BB n * s.num 0x7A2 n * 2 ^ 19) 1000000)
  let lo := s.uLo n
  s.updLoop n fun l => { l with u := if l.ramping then max lo (l.u - step) else lo }
/-- The plenum rules at a sample tick, of a loop that is OFF too: the temperature (R342), heat (R338), HIGH and the INPUT cause's release
(R339), LOW (R341), the drain (R358). While the source is invalid the 600 s of R341 do not run. -/
def State.plenumRules (s : State) (n : Nat) : State :=
  let z := loopZone n
  match s.sourceVal (s.num 0x7A3 n) with
  | none => if isDrying n then (s.noteHeat z).updZone z fun k => { k with lowSince := none } else s
  | some x =>
    let s := s.updZone z fun k => { k with plenum := x }
    let s := zonePurgeEnd z s
    if !isDrying n then s
    else
      let s := ((s.noteHeat z).judgeHigh n x).setInhibit z causeInput false
      s.judgeLow n x ((s.loop n).active == .auto && (s.fixedOut n).isNone)
/-- R362: the source of loop `n` has been invalid for bad_time. -/
def State.badLong (s : State) (n : Nat) : Bool :=
  isDrying n && ((s.loop n).badSince).elim false fun t => secT (s.num 0x7BC n) ≤ ticksFrom t s.now
/-- LOOP_INPUT_BAD_TIME (R362): cause INPUT is set on the zone. -/
def loopInputBadTime (n : Nat) (s : State) : State :=
  if s.badLong n then s.setInhibit (loopZone n) causeInput true else s
def execLoopInputBadTime (n : Nat) (s : State) : Res := go (loopInputBadTime n s)

/-- LOOP_SAMPLE (R342): at its sample tick a loop that runs computes its output; the batch judges its step first. -/
def loopSample (n : Nat) (s : State) : State :=
  if !s.awake || 16 ≤ n || s.now.toNat % (4000 * s.num 0x7A2 n) != 250 * n then s
  else
    let s := s.batchSample.takeLimits n
    let s := if isPlenum n && (s.loop n).active != .tracking then s.plenumRules n else s
    match (s.loop n).active with
    | .off | .tracking => s
    | .stopping => s.rampLoop n
    | _ => match s.measure n with
      | none => (loopInputBadTime n s).freezeLoop n
      | some (y, clip, est) => s.sampleLoop n y clip est
def execLoopSample (n : Nat) (s : State) : Res := go (loopSample n s)

/-! ### The crack index (R352) -/

/-- x: the objects of the marked classes and chutes in the last second (R201). -/
def State.crackSeen (s : State) : Nat :=
  sumOf (fun k =>
    if (s.num 0x7E3).testBit k then
      sumOf (fun c => if (s.num 0x7E2 (c / 32)).testBit (c % 32) then s.tk.seen.getD (256 * k + c) 0 else 0) (List.range 256)
    else 0) (List.range s.courseCount)
/-- CRACK_UPDATE (R352): once a second the crack index moves towards x. -/
def crackUpdate (s : State) : State :=
  if !s.inAny [.held, .ready, .run, .drain, .fault] || s.now.toNat % 4000000 != 0 then s
  else
    let x := s.crackSeen
    let c : Int := s.dry.crack
    { s with
      dry.crackPrev := s.dry.crack
      dry.crackAt := s.now
      dry.crackCount := BitVec.ofNat 32 x
      dry.crack := (c + roundDiv (((x : Int) * 2 ^ 20 - c) * 17331) (2 ^ 20)).toNat }
def execCrackUpdate (s : State) : Res := go (crackUpdate s)

/-! ### The LOOP verb (R348, R357, R360, R361) -/

/-- LOOP is accepted in READY, RUN and DRAIN. -/
def State.loopsRun (s : State) : Bool := s.inAny [.ready, .run, .drain]
/-- R336, R360: why LOOP n MANUAL or AUTO is refused. -/
def State.loopRefusal (s : State) (n : Nat) : Option String :=
  if !s.loopsRun then some "" else if !s.on 0x7A3 n then some "no input" else if !s.on 0x7A6 n then some "no output" else none
/-- The value given with MANUAL, in 0.01 %. -/
def manualValue (auto : Bool) (v : Option Lit) : Except Nat (Option Int) :=
  match v with
  | none => .ok none
  | some l => if auto then .error 102 else (litArg { unit := some .pct, stepD := 100 } 0 10000 l).map some

/-- LOOP_MODE (R360, R361): LOOP n MANUAL or AUTO; queued during an off ramp. -/
def loopMode (ln : Ln) (n : Nat) (auto : Bool) (value : Option Lit) (s : State) : State :=
  s.verb ln .operate fun s =>
    match manualValue auto value with
    | .error c => refuse s c
    | .ok v =>
      if 16 ≤ n then refuse s 401
      else match s.loopRefusal n with
        | some d => refuse s 301 d
        | none =>
          if (s.loop n).active == .stopping then
            s.startOp ln (.loopMode n) "queued" fun s =>
              s.updLoop n fun l => { l with queued := some (l.queued.getD (auto, v)) }
          else
            let s := s.enableLoop n auto v
            done s (s.loopReply n auto)
def execLoopMode (ln : Ln) (n : Nat) (auto : Bool) (value : Option Lit) (s : State) : Res := go (loopMode ln n auto value s)

/-- A loop begins to stop: a plenum loop of a drying zone, or one without a slew, steps to u_lo at once. -/
def State.stopLoop (s : State) (n : Nat) : State :=
  let slew := !isDrying n && s.num 0x7BB n != 0
  let lo := s.uLo n
  (s.updLoop n fun l => { l with active := .stopping, frozen := false, ramping := slew, u := if slew then l.u else lo }).lowAnew n
/-- LOOP_OFF (R361): in RUN or DRAIN the loop's DISABLE form (R156–R158). -/
def loopOff (ln : Ln) (n : Nat) (s : State) : State :=
  s.verb ln .operate fun s =>
    if 16 ≤ n then refuse s 401
    else if !s.loopsRun then refuse s 301
    else
      let l := s.loop n
      if l.active == .stopping then
        if l.queued.isSome then
          done ((s.updLoop n fun l => { l with queued := none }).finish (· == .loopMode n) (.err 301 "cancelled")) "enable cancelled"
        else done s "already stopping"
      else if s.inAny [.run, .drain] && l.active != .off then
        s.startOp ln (.loopOff n) ("stopping loop " ++ natText n) fun s => (s.setRaw 0x7A0 n 0).stopLoop n
      else done ((s.setRaw 0x7A0 n 0).retargetLoop n) "OFF"
def execLoopOff (ln : Ln) (n : Nat) (s : State) : Res := go (loopOff ln n s)

/-- LOOP_OFF_RAMP_DONE (R361): the output of a stopping loop has reached u_lo. -/
def loopOffRampDone (n : Nat) (s : State) : State :=
  if (s.loop n).active == .stopping && (s.loop n).u ≤ s.uLo n then s.loopStopped n else s
def execLoopOffRampDone (n : Nat) (s : State) : Res := go (loopOffRampDone n s)

/-- The names of the flags that are set (R348). -/
def flagText (f : BitVec 8) : String :=
  " ".intercalate (([(satIn, "SAT-IN"), (satOut, "SAT-OUT"), (satInt, "SAT-INT"), (ovf, "OVF")].filter
    fun p => f &&& p.1 != 0).map (·.2))
/-- LOOP_FLAGS (R348): the flags are returned and cleared in one snapshot. -/
def loopFlags (ln : Ln) (n : Nat) (s : State) : State :=
  s.verb ln .operate fun s =>
    if 16 ≤ n then refuse s 401
    else if !s.loopsRun then refuse s 301
    else done (s.updLoop n fun l => { l with flags := 0 }) (flagText (s.loop n).flags)
def execLoopFlags (ln : Ln) (n : Nat) (s : State) : Res := go (loopFlags ln n s)

/-- The reply of a batch verb. -/
def batchDone (s : State) : VerbRes := done s (batchText s.dry.batch.state ++ " " ++ stepText s.dry.batch.step)
/-- A batch verb: accepted when `ok` holds (301). -/
def State.batchVerb (s : State) (ln : Ln) (ok : State → Bool) (f : State → State) : State :=
  s.verb ln .operate fun s => if s.loopsRun && ok s then batchDone (f s) else refuse s 301
/-- LOOP_BATCH_START (R357). -/
def loopBatchStart (ln : Ln) (s : State) : State :=
  s.batchVerb ln (fun s => s.ctl.state == .run && s.batchMode && s.dry.batch.state == .idle)
    fun s => State.batchEnter { s with dry.batch.state := .running } .fill
def execLoopBatchStart (ln : Ln) (s : State) : Res := go (loopBatchStart ln s)
/-- LOOP_BATCH_NEXT (R357). -/
def loopBatchNext (ln : Ln) (s : State) : State :=
  s.batchVerb ln (fun s => s.dry.batch.state == .running) fun s => { s with dry.batch.next_ := true }
def execLoopBatchNext (ln : Ln) (s : State) : Res := go (loopBatchNext ln s)
/-- LOOP_BATCH_HOLD (R357). -/
def loopBatchHold (ln : Ln) (s : State) : State :=
  s.batchVerb ln (fun s => s.dry.batch.state == .running) State.batchHold
def execLoopBatchHold (ln : Ln) (s : State) : Res := go (loopBatchHold ln s)
/-- The batch leaves HELD: the step timer from zero, the step's own heat. -/
def State.batchResume (s : State) : State :=
  let s : State := { s with dry.batch.state := .running, dry.batch.since := s.now, dry.batch.condSince := none }
  s.setInhibits causeBatch (!stepHeats s.dry.batch.step)
/-- LOOP_BATCH_RESUME (R357, R359). -/
def loopBatchResume (ln : Ln) (s : State) : State :=
  s.batchVerb ln (fun s => s.inAny [.run, .drain] && s.dry.batch.state == .held) State.batchResume
def execLoopBatchResume (ln : Ln) (s : State) : Res := go (loopBatchResume ln s)
/-- LOOP_BATCH_ABORT (R357). -/
def loopBatchAbort (ln : Ln) (s : State) : State :=
  s.batchVerb ln (fun s => s.dry.batch.state != .idle) fun s => (s.setInhibits causeBatch true).batchIdle
def execLoopBatchAbort (ln : Ln) (s : State) : Res := go (loopBatchAbort ln s)

end Sys2Proof.Machine
end

