-- ==== Sys2Proof/Machine/Field.lean ====
section
/-! DEFINITION. The field bank and the fans (chapter 11): digital and analogue inputs, outputs and readback, the fan start and
stop sequences, and the tachometer classifier. -/
namespace Sys2Proof.Machine

/-! ### Outputs (R136, R337, R370, R375) -/

/-- The loop that drives an output, by its ordinal in the output enumeration, while it is not OFF. -/
def State.driver (s : State) (out : Nat) : Option Loop :=
  ((List.range 16).find? fun n => s.num 0x7A6 n = out && (s.loop n).active != .off && (s.loop n).active != .tracking).map s.loop
/-- A loop output in 0.01 % of its channel's range (R337). -/
def outPct (u : Int) : Nat := (roundDiv (u * 10000) (2 ^ 19)).toNat
/-- Some loop names an output (R370). -/
def State.loopNames (s : State) (out : Nat) : Bool := (List.range 16).any fun n => s.num 0x7A6 n = out
/-- The command of analogue output `n` (R370): an output that a loop names takes its value from the loop alone. -/
def State.aoCommand (s : State) (n : Nat) : Nat :=
  if s.loopNames n then (s.driver n).elim 0 fun l => outPct l.u else s.num 0x931 (n - 1)
/-- The speed command of fan `n` (R375), in 0.01 %. -/
def State.fanCommand (s : State) (n : Nat) : Nat :=
  let f := s.fan n
  match f.state with
  | .starting => s.num (fanP 4 n)
  | .running | .tachLost =>
    match s.driver (n + 8) with
    | some l => if l.active == .manual || l.active == .auto then outPct l.u else s.num (fanP 6 n)
    | none => s.num (fanP 6 n)
  | _ => 0
/-- A digital output takes its command; one commanded off is no longer held off (R369). -/
def Do.command (now : Tick) (d : Do) (v : Bool) : Do :=
  { d with out := v, changedAt := if v == d.out then d.changedAt else now, heldOff := d.heldOff && v }
/-- An analogue output takes its command. -/
def Ao.command (now : Tick) (a : Ao) (v : Nat) : Ao :=
  { a with out := v, changedAt := if v = a.out then a.changedAt else now }
/-- R366: the outputs settled before a cycle reach the terminals; while they are off, the off state stands (R136). -/
def State.settleOutputs (s : State) : State :=
  let drive := s.fld.released && !s.fld.bankOff
  let doCmd := s.num 0x912
  { s with
    fld.dos := s.fld.dos.mapIdx fun i d => d.command s.now (drive && doCmd.testBit i)
    fld.aos := s.fld.aos.mapIdx fun i a => a.command s.now (if drive then s.aoCommand (i + 1) else 0)
    fld.fans := s.fld.fans.mapIdx fun i f =>
      { f with cmd := if drive then s.fanCommand (i + 1) else 0 } }

/-! ### Heat inhibit by fans (R377) -/

/-- The fan holds the heat of its zone off. -/
def State.fanBlocks (s : State) (n z : Nat) : Bool :=
  let f := s.fan n
  s.on (fanP 3 n) && s.num (fanP 2 n) = z &&
    (f.opening.isSome || !(f.state == .running || f.state == .tachLost))
/-- R377: the demand that a cause newly set leaves goes out before the relay opens: the plenum loop stands at u_lo. -/
def State.forceHeat (s : State) (z : Nat) : State :=
  let n := 3 * (z - 1)
  let lo := s.uLo n
  if 4 < z then s else s.updLoop n fun l => if l.active == .off then l else { l with u := lo }
/-- R377 for one zone: the cause follows its interlocked fans. -/
def State.judgeFanZone (s : State) (z : Nat) : State :=
  let b := (List.range 8).any fun i => s.fanBlocks (i + 1) z
  let s := if b && !(s.zone z).inhibit.getLsbD causeFan then s.forceHeat z else s
  s.setInhibit z causeFan b
/-- R377 for every zone. -/
def State.judgeFans (s : State) : State := (List.range 5).foldl (fun s i => s.judgeFanZone (i + 1)) s

/-! ### Fan sequences (R378–R382) -/

/-- Fan attempt: the relay closes with the STARTING command (R378 step 1). -/
def State.fanAttempt (s : State) (n : Nat) : State :=
  s.updFan n fun f =>
    { f with
      state := .starting
      relay := true
      opening := none
      since := s.now
      edges := []
      rpm := 0
      periods := 0
      lowSince := none
      good := 0 }
/-- A fan starts: the first attempt of a start. -/
def State.fanBegin (s : State) (n : Nat) : State := (s.updFan n fun f => { f with tries := 0 }).fanAttempt n
/-- The relay of a fan opens, and the fan is in state `st`. -/
def State.fanOpen (s : State) (n : Nat) (st : FanState) : State :=
  s.updFan n fun f => { f with state := st, relay := false, cmd := 0, opening := none, openSent := false, since := s.now, notRunSince := none }
/-- R377: a fan leaves RUNNING or TACH-LOST, or an attempt ends: cause FAN is set and the heat goes down now; the 4 mA demand goes out in
the next field cycle, and the relay opens in a later one, into state `st`. -/
def State.fanLeave (s : State) (n : Nat) (st : FanState) : State :=
  (s.updFan n fun f => { f with opening := some st, openSent := false }).judgeFans
/-- R156: a queued FAN START is cancelled. -/
def State.cancelFanStart (s : State) (n : Nat) : State :=
  (s.updFan n fun f => { f with startQueued := false }).finish (· == .fanStart n) (.err 301 "cancelled")
/-- R380: a fan is at rest; its STOP is answered, and a queued START runs its first attempt or is cancelled (R156). -/
def State.fanStopped (s : State) (n : Nat) : State :=
  let q := (s.fan n).startQueued
  let s := (s.fanOpen n .stopped).finish (· == .fanStop n) (.ok "STOPPED")
  if !q then s
  else if s.inAny [.ready, .run, .drain] && !(s.fan n).runIn then
    (s.updFan n fun f => { f with startQueued := false }).fanBegin n
  else s.cancelFanStart n
/-- A fan that the stop sequence concerns: FAN-STALL and DRIVE-FAULT wait for FAN RESET. -/
def stoppable (f : Fan) : Bool := !(f.state == .stopped || f.state == .fanStall || f.state == .driveFault)
/-- R380: the stop sequence of a fan begins; a start is cancelled. -/
def State.fanStopSeq (s : State) (n : Nat) : State :=
  let f := s.fan n
  if !stoppable f || f.state == .coasting then s
  else if f.state == .retryWait then (s.cancelFanStart n).fanStopped n
  else
    let s := if f.state == .starting || f.opening.isSome then s.cancelFanStart n else s
    s.fanLeave n .coasting
/-- The stop sequence of every fan begins (Table 4.5, shutdown step 2). -/
def State.stopFans (s : State) : State := (List.range 8).foldl (fun s i => s.fanStopSeq (i + 1)) s
/-- R377: the field cycle just made has sent the 4 mA demand of every fan whose relay is about to open. -/
def State.demandSent (s : State) : State := { s with fld.fans := s.fld.fans.map fun f => { f with openSent := f.opening.isSome } }
/-- R377, R380: outputs go off: every fan under way coasts within 20 ms. The 4 mA demand goes out in a field cycle before the one that opens
a closed relay; a fan that ends in FAN-STALL or DRIVE-FAULT still does. While the FIELD link is down there is no field cycle, and the bank
has its outputs off (R36). -/
def State.coastFan (s : State) (n : Nat) : State :=
  let f := s.fan n
  if !stoppable f || f.state == .coasting then s
  else
    let s := if f.state == .starting || f.state == .retryWait || f.opening.isSome then s.cancelFanStart n else s
    if !f.relay || !s.fld.link.up then s.fanOpen n .coasting
    else match f.opening with
      | none => s.fanLeave n .coasting
      | some .retryWait => s.updFan n fun f => { f with opening := some .coasting }
      | some _ => s
/-- R136: outputs off. -/
def State.outputsOff (s : State) : State :=
  let s := (List.range 8).foldl (fun s i => s.coastFan (i + 1)) s
  (State.settleOutputs { s with fld.released := false }).judgeFans
/-- R378, R382: an attempt fails: the heat goes down, then the relay opens; the fourth ends in FAN-STALL. -/
def State.fanFail (s : State) (n : Nat) : State :=
  let k := (s.fan n).tries + 1
  let s := (s.updFan n fun f => { f with tries := k, attempts := f.attempts + 1 }).event 0x6001 8 n k
  if k < 4 then s.fanLeave n .retryWait
  else ((s.event 0x6002 8 n).fanLeave n .fanStall).finish (· == .fanStart n) (.err 601 "FAN-STALL")
/-- R378 step 2: the drive runs and the speed is at least 20 % of the commanded speed. -/
def State.fanUp (s : State) (n : Nat) : Bool :=
  let f := s.fan n
  f.state == .starting && f.opening.isNone && f.runIn && s.num (fanP 4 n) * s.num (fanP 1 n) ≤ 50000 * f.rpm
/-- R378: the fan is RUNNING. -/
def State.fanRunning (s : State) (n : Nat) : State :=
  let s := s.updFan n fun f =>
    { f with state := .running, attempts := 0, tries := 0, periods := 0, notRunSince := none, lowSince := none }
  (s.judgeFans).finish (· == .fanStart n) (.ok ("RUNNING " ++ natText (s.fan n).rpm ++ "rpm"))

/-! ### Tachometer (R376, R381) -/

/-- The times between consecutive edges, newest first. -/
def periodsOf : List Tick → List Nat
  | a :: b :: rest => ticksFrom b a :: periodsOf (b :: rest)
  | _ => []
/-- R376: the sum of the last periods that the mean is over, and their number. -/
def meanPeriod (ppr : Nat) (e : List Tick) : Nat × Nat :=
  let l := (periodsOf e).take ppr
  (l.foldl (· + ·) 0, l.length)
/-- R376: the rpm of a mean period `sum / k` ticks. -/
def rpmOf (ppr sum k : Nat) : Nat := if sum = 0 then 0 else (roundDiv ((240000000 * k : Nat) : Int) (ppr * sum)).toNat
/-- R381: each of the last four periods is at least 1.05 times the one before it. -/
def decelerates (l : List Nat) : Bool :=
  (List.range 4).all fun i => (l[i + 1]?).elim true fun b => 105 * b ≤ 100 * l.getD i 0
/-- TACH_EDGE (R376): an edge stamped by the bank. -/
def tachEdge (n : Nat) (at_ : Tick) (s : State) : State :=
  let f := s.fan n
  let ppr := s.num (fanP 0 n)
  if !s.awake || !s.fld.link.up || !(1 ≤ n && n ≤ 8) || !tickLe at_ s.now || !(f.edges.head?).elim true (tickBefore · at_) then s
  else
    let e := (at_ :: f.edges).take 6
    let (sum, k) := meanPeriod ppr e
    let p := (periodsOf e).headD 0
    let near := f.tLost ≤ 2 * p * ppr && p * ppr ≤ 2 * f.tLost
    s.updFan n fun f =>
      { f with
        edges := e
        rpm := rpmOf ppr sum k
        periods := if k = 0 then f.periods else f.periods + 1
        good := if k = 0 then f.good else if near then f.good + 1 else 0 }
def execTachEdge (n : Nat) (at_ : Tick) (s : State) : Res := go (tachEdge n at_ s)

/-- R376: no edge for 2 s means standstill. -/
def State.fanQuiet (s : State) (n : Nat) : State :=
  s.updFan n fun f =>
    if (f.edges.head?).elim true fun t => secT 2 ≤ ticksFrom t s.now then { f with rpm := 0, edges := [] } else f
/-- R382, run_stall(): the run ends as a failed attempt of R378: NOTE 0x6001, the heat to 4 mA before the relay opens, and the back-off and
later attempts as after attempt 1. -/
def State.runStall (s : State) (n : Nat) : State := (s.updFan n fun f => { f with tries := 0, attempts := 0 }).fanFail n
/-- R382, drive_fault(): FAULT 0x6005; the heat to 4 mA, then the relay opens into DRIVE-FAULT, without retry. -/
def State.driveFault (s : State) (n : Nat) : State := (s.event 0x6005 8 n).fanLeave n .driveFault
/-- The drive-running input has been false for 500 ms. -/
def Fan.notRunning (f : Fan) (now : Tick) : Bool := f.notRunSince.elim false fun t => msT 500 ≤ ticksFrom t now
/-- R381: current_ok. -/
def State.currentOk (s : State) (n : Nat) : Bool :=
  !s.on (fanP 9 n) || ((s.fan n).currentOk && s.num (fanP 0xA n) ≤ (s.fan n).current)
/-- R381: the fan enters TACH-LOST; `sum / k` is T. -/
def State.tachLost (s : State) (n sum k : Nat) : State :=
  let ppr := s.num (fanP 0 n)
  (s.updFan n fun f =>
    { f with state := .tachLost, tLost := (roundDiv ((sum * ppr : Nat) : Int) (max k 1)).toNat, good := 0 }).event 0x6003 8 n (s.fan n).rpm
/-- R381 for a fan in RUNNING. -/
def State.classifyRunning (s : State) (n : Nat) : State :=
  let f := s.fan n
  let (sum, k) := meanPeriod (s.num (fanP 0 n)) f.edges
  let gap := (f.edges.head?).elim (2 ^ 48) fun t => ticksFrom t s.now
  let low := f.rpm * 50000 < f.cmd * s.num (fanP 1 n)
  let since := if low then some (f.lowSince.getD s.now) else none
  let s := s.updFan n fun f => { f with lowSince := since }
  if f.notRunning s.now then s.driveFault n
  else if max (2 * sum) (msT 1 * max k 1) < gap * max k 1 then
    if f.runIn && 4 ≤ f.periods && !decelerates (periodsOf f.edges) && s.currentOk n then s.tachLost n sum k else s.runStall n
  else if since.elim false fun t => 400000 * s.num (fanP 5 n) ≤ ticksFrom t s.now then s.runStall n
  else s
/-- R381 for a fan in TACH-LOST. -/
def State.classifyLost (s : State) (n : Nat) : State :=
  let f := s.fan n
  if f.notRunning s.now then s.driveFault n
  else if 3 ≤ f.good then
    ((s.updFan n fun f => { f with state := .running, periods := 0, lowSince := none }).judgeFans).event 0x6004 8 n
  else s
/-- R381: the classifier, and step 2 of R378 and step 3 of R380, at a field cycle. -/
def State.classify (s : State) (n : Nat) : State :=
  let f := s.fan n
  if f.opening.isSome then s
  else match f.state with
    | .running => s.classifyRunning n
    | .tachLost => s.classifyLost n
    | .starting => if s.fanUp n then s.fanRunning n else s
    | .coasting => if f.rpm * 20 < s.num (fanP 1 n) then s.fanStopped n else s
    | _ => s
/-- R377: a relay whose heat went down in an earlier field cycle opens. -/
def State.openDue (s : State) (n : Nat) : State :=
  match (s.fan n).opening with
  | some st => if (s.fan n).openSent then s.fanOpen n st else s
  | none => s

/-! ### The field cycle (R366, R368, R371) -/

/-- R371: an input's value in 0.01 of its unit, from x in 0.001 mA or 0.001 V. -/
def aiValue (volts : Bool) (lo hi x : Int) : Int :=
  if volts then lo + roundDiv ((hi - lo) * x) 10000 else lo + roundDiv ((hi - lo) * (x - 4000)) 16000
/-- R371: x lies in the range of a valid input. -/
def aiValid (volts : Bool) (x : Int) : Bool := if volts then -500 ≤ x && x ≤ 10500 else 3600 ≤ x && x ≤ 21000
/-- One analogue input of a field cycle. -/
def State.takeAi (s : State) (i : Nat) (x : Int) : State :=
  let v := s.on 0x920 i
  let ok := aiValid v x
  let was := (s.aiOf (i + 1)).valid
  let s : State := { s with fld.ais := updAt i (fun _ => { x := x, value := aiValue v (s.raw 0x922 i) (s.raw 0x923 i) x, valid := ok }) s.fld.ais }
  if was && !ok then s.event 0x6021 9 0 (i + 1) else s
/-- One fan's inputs of a field cycle. -/
def State.takeFan (s : State) (i : Nat) (inp : FieldIn) : State :=
  let run := inp.fanRun.getLsbD i
  let c := inp.current.getD i (0, false)
  (s.updFan (i + 1) fun f =>
    { f with
      runIn := run
      notRunSince := if run then none else some (f.notRunSince.getD s.now)
      current := c.1
      currentOk := c.2 }).fanQuiet (i + 1)
/-- R368: how long a mismatch, or a match after a mismatch, has stood. -/
def standing (now changed : Tick) (rb : Nat) (differs mis : Bool) (since : Option Tick) : Option Tick :=
  if msT rb ≤ ticksFrom changed now && differs != mis then some (since.getD now) else none
/-- R368: the readbacks of a field cycle against the commands. -/
def State.takeReadbacks (s : State) (inp : FieldIn) : State :=
  let rb := s.num 0x902
  { s with
    fld.dos := s.fld.dos.mapIdx fun i d =>
      let v := inp.doRb.getLsbD i
      { d with rb := v, since := standing s.now d.changedAt rb (v != d.out) d.mis d.since }
    fld.aos := s.fld.aos.mapIdx fun i a =>
      let v := inp.aoRb.getD i 0
      { a with rb := v, since := standing s.now a.changedAt rb (decide (200 < (v - a.out).natAbs)) a.mis a.since } }
/-- R366: the Keystone exchanges sets with the bank: it holds the link and the crown's outputs. -/
def State.exchanges (s : State) : Bool := s.awake && s.ctl.state != .standby && s.fld.link.up
/-- R505: the exchange shows the bank that its crown uplink is alive. -/
def State.bankHeard (s : State) : State :=
  { s with fld.crown.lastRx := s.fld.crown.crownUp.elim s.fld.crown.lastRx fun u => s.fld.crown.lastRx.set u s.now }
/-- R366, R367: the filtered states after the last sample before the cycle began, and what follows for the heat (R338). -/
def State.takeDi (s : State) : State :=
  let level (i : Nat) : Bool :=
    let d := s.fld.di.getD i {}
    if s.fld.diAt == s.now then d.was else d.state
  State.noteHeats { s with
    fld.diSet := (List.range 24).foldl (fun (b : BitVec 24) i => if level i then b ||| (1#24 <<< i) else b) 0 }
/-- FIELD_CYCLE (R366): at every multiple of 1,000 ticks: inputs, readback, fans, outputs. -/
def fieldCycle (inp : FieldIn) (s : State) : State :=
  if !s.exchanges || s.now.toNat % 1000 != 0 then s
  else
    let s := s.bankHeard
    let s : State := { s with
      fld.loadV := inp.loadV
      fld.bankOff := s.fld.bankOff && !s.fld.released
      fld.cycleAt := some s.now }
    let s := (List.range 8).foldl (fun s i => s.takeAi i (inp.ai.getD i 0)) s.takeDi
    let s := s.takeReadbacks inp
    let s := (List.range 8).foldl (fun s i => s.takeFan i inp) s
    let s := (List.range 8).foldl (fun s i => s.openDue (i + 1)) s
    let s := (List.range 8).foldl (fun s i => s.classify (i + 1)) s
    s.judgeFans.settleOutputs.demandSent
def execFieldCycle (inp : FieldIn) (s : State) : Res := go (fieldCycle inp s)

/-- R367: one sample of one input. -/
def Di.sample (limit : Nat) (d : Di) (level : Bool) : Di :=
  let c := min d.count limit
  let c := if level then min (c + 1) limit else c - 1
  { raw := level, count := c, state := if c = 0 then false else if c = limit then true else d.state, was := d.state }
/-- DI_SAMPLE (R367): every 400 ticks, while the bank has power on its Keystone side (R365). -/
def diSample (levels : BitVec 24) (s : State) : State :=
  if !s.awake || s.now.toNat % 400 != 0 || !(s.fld.power == .on || s.on 0x003) then s
  else
    { s with
      fld.di := s.fld.di.mapIdx fun i d => d.sample (s.num 0x910 i) (levels.getLsbD i)
      fld.diAt := s.now }
def execDiSample (levels : BitVec 24) (s : State) : Res := go (diSample levels s)

/-- A mismatch bit changes when the other condition has stood for io.rb_time (R368). -/
def lasted (now : Tick) (rb : Nat) (since : Option Tick) : Bool := since.elim false fun t => msT rb ≤ ticksFrom t now
/-- READBACK_MISMATCH (R368): an output's mismatch bit is set, with FAULT 0x6020, or cleared. -/
def readbackMismatch (dig : Bool) (ch : Nat) (s : State) : State :=
  let rb := s.num 0x902
  let d := s.fld.dos.getD (ix ch) {}
  let a := s.fld.aos.getD (ix ch) {}
  let due := if dig then lasted s.now rb d.since else lasted s.now rb a.since
  let set := !(if dig then d.mis else a.mis)
  if !due then s
  else
    let s : State :=
      if dig then { s with fld.dos := updAt (ix ch) (fun d => { d with mis := set, since := none }) s.fld.dos }
      else { s with fld.aos := updAt (ix ch) (fun a => { a with mis := set, since := none }) s.fld.aos }
    if set then s.event 0x6020 9 0 (if dig then 0 else 1) ch else s
def execReadbackMismatch (dig : Bool) (ch : Nat) (s : State) : Res := go (readbackMismatch dig ch s)

/-- DO_CURRENT_LIMIT (R369): an output driven into its current limit for 5 ms is held off. -/
def doCurrentLimit (ch : Nat) (s : State) : State :=
  { s with fld.dos := updAt (ix ch) (fun d => if d.out then { d with heldOff := true } else d) s.fld.dos }
def execDoCurrentLimit (ch : Nat) (s : State) : Res := go (doCurrentLimit ch s)

/-- FIELD_PHANTOM_LIMIT (R540): the power of the bank's Keystone side is switched off for 1 s. -/
def fieldPhantomLimit (s : State) : State :=
  if s.awake && s.fld.power == .on then { s with fld.power := .tripped, fld.powerOffAt := s.now } else s
def execFieldPhantomLimit (s : State) : Res := go (fieldPhantomLimit s)
/-- FIELD_PHANTOM_RETRY (R540): 1 s after a trip it is tried again. -/
def fieldPhantomRetry (s : State) : State :=
  if s.awake && s.fld.power == .tripped && secT 1 ≤ ticksFrom s.fld.powerOffAt s.now then { s with fld.power := .on } else s
def execFieldPhantomRetry (s : State) : Res := go (fieldPhantomRetry s)

/-! ### Fan rows and verbs -/

/-- FAN_START_WINDOW_END (R378 step 3); an attempt that succeeds in this cycle has succeeded (step 2 comes first). -/
def fanStartWindowEnd (n : Nat) (s : State) : State :=
  let f := s.fan n
  if f.state == .starting && f.opening.isNone && 400000 * s.num (fanP 5 n) ≤ ticksFrom f.since s.now then
    if s.fanUp n then s.fanRunning n else s.fanFail n
  else s
def execFanStartWindowEnd (n : Nat) (s : State) : Res := go (fanStartWindowEnd n s)
/-- R378: the back-off after a failed attempt, in s. -/
def backOff (tries : Nat) : Nat := if tries ≤ 1 then 10 else if tries = 2 then 30 else 90
/-- FAN_RETRY_WAIT_END (R378): the next attempt begins. -/
def fanRetryWaitEnd (n : Nat) (s : State) : State :=
  let f := s.fan n
  if f.state == .retryWait && secT (backOff f.tries) ≤ ticksFrom f.since s.now then s.fanAttempt n else s
def execFanRetryWaitEnd (n : Nat) (s : State) : Res := go (fanRetryWaitEnd n s)
/-- FAN_COAST_TIMEOUT (R380): fan.N.coast has passed. -/
def fanCoastTimeout (n : Nat) (s : State) : State :=
  let f := s.fan n
  if f.state == .coasting && secT (s.num (fanP 0xC n)) ≤ ticksFrom f.since s.now then (s.event 0x6006 8 n).fanStopped n else s
def execFanCoastTimeout (n : Nat) (s : State) : Res := go (fanCoastTimeout n s)

/-- The fan coasts, or is about to. -/
def Fan.stopping (f : Fan) : Bool := f.state == .coasting || f.opening == some .coasting
/-- FAN_START (R378): from STOPPED; queued while the fan stops (R156). -/
def fanStart (ln : Ln) (n : Nat) (speed : Option Lit) (s : State) : State :=
  s.verb ln .operate fun s =>
    match speed.elim (.ok none) fun l => (litArg { unit := some .pct, stepD := 100 } 0 10000 l).map some with
    | .error c => refuse s c
    | .ok v =>
      let f := s.fan n
      if !(1 ≤ n && n ≤ 8) then refuse s 401
      else if !s.inAny [.ready, .run, .drain] then refuse s 301
      else
        let set (s : State) : State := v.elim s fun v => s.setRaw (fanP 6 n) 0 v
        if f.stopping then
          s.startOp ln (.fanStart n) "queued" fun s => (set s).updFan n fun f => { f with startQueued := true }
        else if f.state != .stopped then refuse s 301
        else if f.runIn then refuse s 601
        else s.startOp ln (.fanStart n) ("starting fan " ++ natText n) fun s => (set s).fanBegin n
def execFanStart (ln : Ln) (n : Nat) (speed : Option Lit) (s : State) : Res := go (fanStart ln n speed s)
/-- FAN_STOP (R380): the fan's DISABLE form (R156–R158). -/
def fanStop (ln : Ln) (n : Nat) (s : State) : State :=
  s.verb ln .operate fun s =>
    let f := s.fan n
    if !(1 ≤ n && n ≤ 8) then refuse s 401
    else if f.stopping then
      if f.startQueued then done (s.cancelFanStart n) "enable cancelled" else done s "already stopping"
    else if f.state == .stopped then done s "STOPPED"
    else if !stoppable f then refuse s 301
    else s.startOp ln (.fanStop n) ("stopping fan " ++ natText n) fun s => s.fanStopSeq n
def execFanStop (ln : Ln) (n : Nat) (s : State) : Res := go (fanStop ln n s)
/-- FAN_RESET (R379). -/
def fanReset (ln : Ln) (n : Nat) (s : State) : State :=
  s.verb ln .operate fun s =>
    let f := s.fan n
    if !(1 ≤ n && n ≤ 8) then refuse s 401
    else if f.state == .fanStall || f.state == .driveFault then done (s.fanOpen n .stopped) "STOPPED"
    else refuse s 301
def execFanReset (ln : Ln) (n : Nat) (s : State) : Res := go (fanReset ln n s)

end Sys2Proof.Machine
end

