-- ==== Sys2Proof/Machine/Probes.lean ====
section
/-! DEFINITION. The probe rings (chapter 11): the nodes' handling of frames, the sweep, the values and averages. -/
namespace Sys2Proof.Machine

/-! ### Frames (Tables 11.3 and 11.4) -/

/-- The crc of a query, with byte 2 taken as 0. -/
def queryCrc (f : List Byte) : Nat := (crc16 ((f.take 6).set 2 0)).toNat
/-- A query's crc is good. -/
def queryOk (f : List Byte) : Bool := f.length = 8 && leNat (sliceB f 6 2) = queryCrc f
/-- A byte of a frame. -/
def byteAt (f : List Byte) (i : Nat) : Nat := (f.getD i 0).toNat
/-- A bit in its place. -/
def bitAt (b : Bool) (i : Nat) : Nat := if b then 2 ^ i else 0
/-- Table 11.4: the reply of a node to a query. -/
def NodeDev.reply (d : NodeDev) (q : List Byte) : List Byte :=
  let m := d.moist.toNat + bitAt d.mInvalid 20 + bitAt d.tInvalid 21 + bitAt d.stale 22 + bitAt d.selfTest 23
  let b := [0xA5#8, 0x81#8, q.getD 3 0, q.getD 4 0] ++ leBytes 4 d.serial.toNat ++ leBytes 4 m ++ leBytes 2 d.temp.toNat
  b ++ leBytes 2 (crc16 b).toNat

/-! ### Nodes (R385) -/

/-- Node `pos` of ring `r`, counted from OUT and from 1, changed by `f`. -/
def State.updNode (s : State) (r pos : Nat) (f : NodeDev → NodeDev) : State :=
  { s with fld.nodeDevs := updAt (ix r) (fun l => updAt (ix pos) f l) s.fld.nodeDevs }
/-- The frame goes out of the port towards OUT (`false`) or RET (`true`). -/
def NodeDev.emit (d : NodeDev) (toRet : Bool) (f : List Byte) : NodeDev :=
  if toRet then { d with outB := f } else { d with outA := f }
/-- PROBE_NODE_READ (R385): a READ with hop 1 is answered out of the port it came in on, when its crc is good; any other is
forwarded with hop − 1. -/
def probeNodeRead (r pos : Nat) (fromRet : Bool) (f : List Byte) (s : State) : State :=
  s.updNode r pos fun d =>
    if byteAt f 2 = 1 then if queryOk f then { d.emit fromRet (d.reply f) with stale := true } else d
    else d.emit (!fromRet) (f.set 2 (f.getD 2 0 - 1))
def execProbeNodeRead (r pos : Nat) (fromRet : Bool) (f : List Byte) (s : State) : Res := go (probeNodeRead r pos fromRet f s)
/-- R389: the MEASURE that the bank sent from OUT came back at RET. -/
def State.ringClosed (s : State) (r : Nat) : State :=
  if ((s.ring r).sweep).elim false fun w => w.phase == .measOut then s.updRing r fun x => { x with closed := true } else s
/-- PROBE_NODE_MEASURE (R385): a MEASURE is forwarded; one whose crc is good starts a conversion. -/
def probeNodeMeasure (r pos : Nat) (fromRet : Bool) (f : List Byte) (s : State) : State :=
  s.updNode r pos fun d =>
    let d := d.emit (!fromRet) f
    if queryOk f then { d with converting := some s.now, stale := false } else d
def execProbeNodeMeasure (r pos : Nat) (fromRet : Bool) (f : List Byte) (s : State) : Res :=
  go (probeNodeMeasure r pos fromRet f s)
/-- PROBE_NODE_REPLY_FORWARD (R385): a reply is forwarded unchanged. -/
def probeNodeReplyForward (r pos : Nat) (toRet : Bool) (f : List Byte) (s : State) : State :=
  s.updNode r pos fun d => d.emit toRet f
def execProbeNodeReplyForward (r pos : Nat) (toRet : Bool) (f : List Byte) (s : State) : Res :=
  go (probeNodeReplyForward r pos toRet f s)
/-- PROBE_CONVERSION_DONE (R385): the conversion that a MEASURE started ends. -/
def probeConversionDone (r pos : Nat) (c : Conversion) (s : State) : State :=
  s.updNode r pos fun d =>
    if d.converting.isNone then d
    else { d with
      moist := c.moist
      temp := c.temp
      mInvalid := c.mInvalid
      tInvalid := c.tInvalid
      selfTest := c.selfTest
      converting := none }
def execProbeConversionDone (r pos : Nat) (c : Conversion) (s : State) : Res := go (probeConversionDone r pos c s)

/-! ### Values and averages (R388, R390) -/

/-- R388: moisture with gain and offset; outside the 20 bits of its format the manual states no value (assumption 12). -/
def State.nodeMoist (s : State) (r i raw : Nat) : State × Nat :=
  let v := roundDiv (raw * s.raw (ringP 0xE r) i) (2 ^ 18) + s.raw (ringP 0xF r) i
  if 0 ≤ v && v < 2 ^ 20 then (s, v.toNat) else (s.drew, (s.freeWord.setWidth 20).toNat)
/-- R388: a READ-RESP for position `i + 1` of ring `r` sets its values and status: INVALID on a flag, MISMATCH on a serial, else OK or FAR-END by
the end it was read from. -/
def State.takeReply (s : State) (r i : Nat) (fromRet : Bool) (f : List Byte) : State :=
  let w := leNat (sliceB f 8 4)
  let serial := leNat (sliceB f 4 4)
  let want := s.num (ringP 9 r) i
  let put (s : State) (g : Node → Node) : State := s.updRing r fun x => { x with nodes := updAt i g x.nodes }
  if w / 2 ^ 20 % 16 != 0 then (put s fun n => { n with status := .invalid }).event 0x6033 10 r (i + 1) (w / 2 ^ 20 % 16)
  else if want != 0 && want != serial then (put s fun n => { n with status := .mismatch }).event 0x6032 10 r (i + 1) serial
  else
    let (s, m) := s.nodeMoist r i (w % 2 ^ 20)
    put s fun n =>
      { n with
        moist := m
        temp := (BitVec.ofNat 16 (leNat (sliceB f 12 2))).toInt
        status := if fromRet then .farEnd else .ok
        readAt := some s.now }

/-- R390: the nodes of a role that count, on either ring. -/
def State.roleNodes (s : State) (role : Nat) : List Node :=
  [1, 2].flatMap fun r =>
    ((List.range (s.num (ringP 1 r))).filter fun i => s.num (ringP 0xA r) i = role).filterMap fun i =>
      let n := (s.ring r).nodes.getD i {}
      let fresh := n.readAt.elim false fun t => ticksFrom t s.now ≤ secT (2 * s.num (ringP 0 r))
      if (n.status == .ok || n.status == .farEnd) && fresh then some n else none
/-- The mean of whole numbers, rounded; none of an empty list. -/
def meanOf (l : List Int) : Option Int := if l.isEmpty then none else some (roundDiv (l.foldl (· + ·) 0) l.length)
/-- R390: average `i` (0 outlet moisture, 1 outlet temperature, 2 inlet moisture) is valid or lost; NOTE 0x6034 at a loss. -/
def State.setAvg (s : State) (i : Nat) (ok : Bool) : State :=
  let was := s.fld.avgValid.getLsbD i
  let s : State := { s with fld.avgValid := if ok then s.fld.avgValid ||| (1#8 <<< i) else s.fld.avgValid &&& ~~~(1#8 <<< i) }
  if was && !ok then s.event 0x6034 9 0 i else s
/-- Every average is lost (R392). -/
def State.loseAvgs (s : State) : State := ((s.setAvg 0 false).setAvg 1 false).setAvg 2 false
/-- R390, R218: the three averages at the end of a sweep. -/
def State.formAvgs (s : State) : State :=
  let o := s.roleNodes 1
  let i := s.roleNodes 2
  let om := meanOf (o.map fun n => (n.moist : Int))
  let ot := meanOf (o.map (·.temp))
  let im := meanOf (i.map fun n => (n.moist : Int))
  let s := ((s.setAvg 0 om.isSome).setAvg 1 ot.isSome).setAvg 2 im.isSome
  let s : State := { s with
    fld.avgOutTemp := ot.getD s.fld.avgOutTemp
    fld.avgInMoist := (im.map Int.toNat).getD s.fld.avgInMoist }
  match om with
  | none => s
  | some v =>
    State.batchAverage { s with
      fld.avgOutMoist := v.toNat
      plumb.x := v.toNat
      plumb.xSet := true
      plumb.lastAvg := s.now
      plumb.missNoted := false }

/-! ### The sweep (R386–R391) -/

/-- The sweep of ring `r` changed by `f`. -/
def State.updSweep (s : State) (r : Nat) (f : Sweep → Sweep) : State := s.updRing r fun x => { x with sweep := x.sweep.map f }
/-- A MEASURE goes out of an end of the ring. -/
def State.sendMeasure (s : State) (r : Nat) (fromRet : Bool) : State :=
  (s.updSweep r fun w => { w with phase := if fromRet then .measRet else .measOut, slotAt := s.now, got := false }).updRing r
    fun x => { x with query := some (fromRet, 3, 0xFF) }
/-- A READ goes out in a new slot. The READ that reads the last position not yet read is the completion step (R391): while one is out to
that position it counts as begun, until its slot ends without a reply. -/
def State.sendRead (s : State) (r attempt : Nat) : State :=
  match (s.ring r).sweep with
  | none => s
  | some w =>
    let fromRet := w.phase == .measRet || w.phase == .fromRet
    let dist := if fromRet then w.j + 1 else w.k + 1
    (s.updSweep r fun w =>
      { w with
        phase := if fromRet then .fromRet else .fromOut
        slotAt := s.now
        attempt := attempt
        got := false
        lastReadAt := if w.k + w.j + 1 = w.n then some s.now else none }).updRing r
      fun x => { x with query := some (fromRet, 1, dist) }
/-- R388: a position becomes LOST, with NOTE 0x6031 at the change. -/
def State.markLost (s : State) (r i : Nat) : State :=
  if ((s.ring r).nodes.getD i {}).status == .lost then s
  else (s.updRing r fun x => { x with nodes := updAt i (fun n => { n with status := .lost }) x.nodes }).event 0x6031 10 r (i + 1)
/-- R387, R389, R390: finish(). -/
def State.finishSweep (s : State) (r : Nat) : State :=
  match (s.ring r).sweep with
  | none => s
  | some w =>
    let n := w.n
    let s := ((List.range n).filter fun i => w.k ≤ i && i < n - w.j).foldl (fun s i => s.markLost r i) s
    let b := if w.k < n then w.k else 0
    let s := if b = (s.ring r).breakAt then s else s.event 0x6030 10 r w.k w.j
    (s.updRing r fun x =>
      { x with
        sweep := none
        breakAt := b
        last := .complete
        timeMs := (roundDiv (ticksFrom w.startAt s.now) 4000).toNat
        query := none }).formAvgs
/-- R387: the sweep goes on after the position it has read, or after a wait: the next READ, or its end. -/
def State.nextRead (s : State) (r : Nat) : State :=
  match (s.ring r).sweep with
  | none => s
  | some w => if w.k + w.j < w.n then s.sendRead r 1 else s.finishSweep r
/-- A sweep of ring `r` is under way. -/
def State.sweeping (s : State) (r : Nat) : Bool := (s.ring r).sweep.isSome
/-- PROBE_SWEEP_START (R386). -/
def probeSweepStart (r : Nat) (s : State) : State :=
  let p := secT (s.num (ringP 0 r))
  let runs := s.awake && !s.inAny [.standby, .collapse] && s.fld.link.up && !s.on (ringP 2 r)
  if !(1 ≤ r && r ≤ 2) || !runs || s.now.toNat % p != 2000000 * (r - 1) then s
  else if s.sweeping r then s.updRing r fun x => { x with overruns := x.overruns + 1 }
  else
    (s.updRing r fun x =>
      { x with sweep := some { number := x.number, startAt := s.now, n := s.num (ringP 1 r) }, number := x.number + 1, closed := false }).sendMeasure r false
def execProbeSweepStart (r : Nat) (s : State) : Res := go (probeSweepStart r s)
/-- PROBE_MEASURE_WAIT_END (R387): 100,000 ticks after a MEASURE. -/
def probeMeasureWaitEnd (r : Nat) (s : State) : State :=
  match (s.ring r).sweep with
  | none => s
  | some w =>
    if (w.phase == .measOut || w.phase == .measRet) && 100000 ≤ ticksFrom w.slotAt s.now then s.nextRead r else s
def execProbeMeasureWaitEnd (r : Nat) (s : State) : Res := go (probeMeasureWaitEnd r s)
/-- The sweep of ring `r` ends as aborted (R391, R392). -/
def State.abortSweep (s : State) (r : Nat) : State :=
  if s.sweeping r then s.updRing r fun x => { x with sweep := none, last := .aborted, query := none } else s
/-- PROBE_SLOT_END (R387, R391): the position was read, or the retry follows, or the sweep turns to RET, or ends. A slot that ends without a
reply was not the completion step: an abort that came in it has won. -/
def probeSlotEnd (r : Nat) (s : State) : State :=
  match (s.ring r).sweep with
  | none => s
  | some w =>
    if !(w.phase == .fromOut || w.phase == .fromRet) || ticksFrom w.slotAt s.now < 2000 then s
    else if w.got then
      (s.updSweep r fun w => if w.phase == .fromOut then { w with k := w.k + 1 } else { w with j := w.j + 1 }).nextRead r
    else if w.stopAt.isSome then s.abortSweep r
    else if w.attempt = 1 then s.sendRead r 2
    else if w.phase == .fromOut then s.sendMeasure r true
    else s.finishSweep r
def execProbeSlotEnd (r : Nat) (s : State) : Res := go (probeSlotEnd r s)
/-- PROBE_REPLY (R387, R388): a frame arrives at the bank. A reply counts when it is whole, in its slot, with a good crc and the
expected dist and seq; a MEASURE that arrives at RET closes the ring (R389). -/
def probeReply (r : Nat) (f : List Byte) (s : State) : State :=
  match (s.ring r).sweep with
  | none => s
  | some w =>
    let fromRet := w.phase == .fromRet
    let dist := if fromRet then w.j + 1 else w.k + 1
    let good := f.length = 16 && byteAt f 0 = 0xA5 && byteAt f 1 = 0x81 && byteAt f 2 = dist && byteAt f 3 = w.number.toNat &&
      leNat (sliceB f 14 2) = (crc16 (f.take 14)).toNat
    if f.length = 8 && byteAt f 1 = 3 && byteAt f 4 = w.number.toNat && queryOk f then s.ringClosed r
    else if good && (fromRet || w.phase == .fromOut) && !w.got && ticksFrom w.slotAt s.now < 2000 then
      (s.takeReply r (if fromRet then w.n - w.j - 1 else w.k) fromRet f).updSweep r fun w => { w with got := true }
    else s
def execProbeReply (r : Nat) (f : List Byte) (s : State) : Res := go (probeReply r f s)

/-- The completion step of the sweep has begun. -/
def State.sweepPast (s : State) (r : Nat) : Bool := ((s.ring r).sweep).elim true fun w => w.lastReadAt.isSome
/-- R391, R159: an abort of a running sweep. A completion step that begins in this tick comes first. -/
def State.stopSweep (s : State) (r : Nat) : State :=
  let t := probeMeasureWaitEnd r (probeSlotEnd r s)
  if !s.sweeping r then s
  else if s.sweepPast r then s.updSweep r fun w => { w with stopAt := some s.now }
  else if t.sweepPast r then t.updSweep r fun w => { w with stopAt := some s.now }
  else s.abortSweep r
/-- PROBE_RUN_STOP (R391): `SET probe.r.run STOP` answers `= STOP` in every case. -/
def probeRunStop (ln : Ln) (r : Nat) (s : State) : State :=
  s.verb ln .operate fun s =>
    if !(1 ≤ r && r ≤ 2) then refuse s 401 else done ((s.stopSweep r).setRaw (ringP 2 r) 0 1) "STOP"
def execProbeRunStop (ln : Ln) (r : Nat) (s : State) : Res := go (probeRunStop ln r s)

/-- R392: what the loss of the FIELD link does to fans, sweeps and averages; the bank sets its outputs off. -/
def State.fieldLost (s : State) : State :=
  let s := (List.range 8).foldl (fun s i =>
    let n := i + 1
    if stoppable (s.fan n) then
      (s.cancelFanStart n).fanStopped n
    else s) s
  let s := ((s.abortSweep 1).abortSweep 2).loseAvgs.judgeFans
  { s with fld.bankOff := true }

end Sys2Proof.Machine
end

