-- ==== Sys2Proof/Machine/CourseOps.lean ====
section
/-! DEFINITION. What the courses' commands share (chapters 6 and 7): settings, enable, drain, drop tests and test pulses, as the
Keystone runs them. -/
namespace Sys2Proof.Machine

/-! ### Settings (Table 7.10, R238) -/

/-- Two 16-bit values in a word. -/
def pack16 (lo hi : Nat) : U32 := BitVec.ofNat 32 (lo % 65536 + 65536 * hi)
/-- The Keystone's value of setting word `a` of course `n`; 0 where the word is reserved. -/
def State.settingWord (s : State) (n a : Nat) : U32 :=
  let k := (a - 0x40) / 0x20
  let i := (a - 0x40) % 0x20
  if a = 8 then BitVec.ofNat 32 (s.course n).link.delay
  else if a = 9 then BitVec.ofNat 32 (s.num (courseP 3 n))
  else if a = 10 then BitVec.ofNat 32 (s.num (courseP 0 n))
  else if 0x40 ≤ a && a < 0x140 then
    if i = 0 then pack16 (s.num (courseP 0xA n) k) (s.num (courseP 0xB n) k)
    else if i = 1 then pack16 (s.num (courseP 0xC n) k) (s.num (courseP 0xD n) k)
    else if i < 18 then pack16 (s.num (courseP 0xE n) (16 * k + i - 2)) (s.num (courseP 0xF n) (16 * k + i - 2))
    else 0
  else if 0x200 ≤ a && a < 0x240 then BitVec.ofNat 32 (s.num (courseP 0x12 n) (a - 0x200))
  else 0
/-- The four words from an address. -/
def State.settingWords (s : State) (n a : Nat) : List U32 := (List.range 4).map fun i => s.settingWord n (a + i)
/-- The addresses of the CONFIG frames that carry every write word. -/
def configAddrs : List Nat :=
  [8] ++ (List.range 8).flatMap (fun k => (List.range 5).map fun i => 0x40 + 0x20 * k + 4 * i) ++
    (List.range 16).map fun i => 0x200 + 4 * i
/-- The profile tables that some channel in use selects. -/
def State.profilesUsed (s : State) (n : Nat) : List Nat :=
  (List.range 8).filter fun k => (List.range (s.num (courseP 0 n))).any fun ch => s.num (courseP 0x12 n) ch = k
/-- R238: a profile table is well formed. -/
def State.profileOk (s : State) (n k : Nat) : Bool :=
  let pts := s.num (courseP 0xD n) k
  let t (j : Nat) := s.num (courseP 0xE n) (16 * k + j)
  let i (j : Nat) := s.num (courseP 0xF n) (16 * k + j)
  (List.range pts).all fun j =>
    (j = 0 || t (j - 1) < t j) && t j ≤ 2000 && s.num (courseP 0xC n) k ≤ i j && i j ≤ s.num (courseP 0xA n) k
/-- R238: the first profile table in use that fails. -/
def State.badProfile (s : State) (n : Nat) : Option Nat := (s.profilesUsed n).find? fun k => !s.profileOk n k

/-! ### Drop tests: the end of a sweep (R225–R228, R231) -/

/-- The learn window of a source is granted at its connection, or revoked there (R310). -/
def State.grantLearn (s : State) (src : Nat) (on : Bool) : State :=
  match (s.source src).conn with
  | some c => s.updConn c fun x => { x with revoked := (if on then [] else [5]) ++ x.revoked.filter (· != 5) }
  | none => s
/-- The sweep of chute `n` is over; its learn window is revoked (R310). -/
def State.learnClose (s : State) (n : Nat) : State :=
  let s := match (s.chute n).learn with
    | some x => s.grantLearn x.src false
    | none => s
  s.updChute n fun c => { c with learn := none }
/-- R227, R231: a sweep ends without applying anything, for the reason `why` of Table 16.3 (1 stopped, 2 left state, 3 source
lost). -/
def State.learnDrop (s : State) (n : Nat) (detail : String) (why : Nat := 2) : State :=
  if (s.chute n).learn.isNone then s
  else ((s.learnClose n).event 0x2034 1 n 0 why).finish (· == .courseLearn n) (.err 301 detail)
/-- R231: a source that leaves its ready state ends its sweep. -/
def State.learnSourceLost (s : State) (src : Nat) : State :=
  (List.range 8).foldl (fun s i =>
    if ((s.chute (i + 1)).learn).elim false fun x => x.src = src then s.learnDrop (i + 1) "source lost" 3 else s) s
/-- Every sweep that a condition ends. -/
def State.learnDropAll (s : State) (detail : String) : State := (List.range 8).foldl (fun s i => s.learnDrop (i + 1) detail) s
/-- R225: the counted results of a step: how many, and how many hits. -/
def LearnBin.tally (b : LearnBin) (i : Nat) : Nat × Nat :=
  ((b.counted.filter fun c => c.1 = i).length, (b.counted.filter fun c => c.1 = i && c.2).length)
/-- R225: a hit step. -/
def LearnBin.hitStep (b : LearnBin) (i : Nat) : Bool :=
  let (k, h) := b.tally i
  1 ≤ h && k ≤ 2 * h
/-- The runs of consecutive hit steps among the first `n`, as first and last steps, in order. -/
def hitRuns (hit : Nat → Bool) (n : Nat) : List (Nat × Nat) :=
  ((List.range n).foldl (fun (l : List (Nat × Nat)) i =>
    if !hit i then l
    else match l with
      | (a, b) :: rest => if b + 1 = i then (a, i) :: rest else (i, i) :: l
      | [] => [(i, i)]) []).reverse
/-- R225: the better of two runs: the longer, then the one whose centre is nearer δ = 0, then the earlier. -/
def betterRun (x : Learn) (best r : Nat × Nat) : Nat × Nat :=
  let len (p : Nat × Nat) := p.2 - p.1
  let mid (p : Nat × Nat) := (x.delta p.1 + x.delta p.2).natAbs
  if len best < len r || (len best = len r && mid r < mid best) then r else best
/-- R225: the centre of a bin; none when the bin is thin. -/
def State.binCentre (s : State) (x : Learn) (b : LearnBin) : Option Int :=
  match hitRuns b.hitStep x.steps with
  | [] => none
  | r :: rest =>
    if b.counted.length < s.num 0x396 then none
    else
      let (lo, hi) := rest.foldl (betterRun x) r
      some (roundDiv (x.delta lo + x.delta hi) 2)
/-- R226: Δ(i), rounded with `corr`, from measured positions `(2 × position, centre)` in order. -/
def corrAt (pts : List (Int × Int)) (i : Nat) (corr : Int) : Int :=
  let p : Int := 2 * i
  let below := (pts.filter fun q => q.1 ≤ p).getLast?
  let above := (pts.filter fun q => p ≤ q.1).head?
  match below, above with
  | some a, some b => if a.1 = b.1 then corr + a.2 else roundDiv ((corr + a.2) * (b.1 - a.1) + (b.2 - a.2) * (p - a.1)) (b.1 - a.1).toNat
  | some a, none => corr + a.2
  | none, some b => corr + b.2
  | none, none => corr
/-- One line of the reply for a bin (R228). -/
def binLine (b : Nat) (c : Option Int) (counted : Nat) : String :=
  "bin " ++ natText b ++ " counted " ++ natText counted ++ c.elim " thin" fun v => " centre " ++ numText { unit := some .tick } v
/-- R225–R228: the sweep ends and its result is applied to plumb.N.corr. -/
def State.learnApply (s : State) (n : Nat) : State :=
  match (s.chute n).learn with
  | none => s
  | some x =>
    let cs := x.bins.map fun b => s.binCentre x b
    let pts := (List.range 8).filterMap fun (b : Nat) => (cs.getD b none).map fun c => ((16 * (b : Int) + 7, c) : Int × Int)
    let s := (s.learnClose n).event 0x2034 1 n pts.length
    if pts.isEmpty then s.finish (· == .courseLearn n) (.err 501 "no learn results")
    else
      let id := plumbP 0xA n
      let new := (List.range 64).map fun i => (i, clampI (-524288) 524287 (corrAt pts i (s.raw id i)))
      let s := new.foldl (fun s p => s.setRaw id p.1 p.2) s
      let body := ["chute " ++ natText n ++ " class " ++ natText x.cls] ++
        (List.range 8).map (fun b => binLine b (cs.getD b none) (x.bins.getD b {}).counted.length) ++
        ["bins measured " ++ natText pts.length]
      s.finish (· == .courseLearn n) (.multi body)

/-! ### Enable and drain (R254–R256) -/

/-- Table 1.2: the link of course `n` is up. -/
def State.courseUp (s : State) (n : Nat) : Bool := (s.course n).link.up
/-- R254 step 1: the enable of course `n` starts: the link trains if it is not up, and the identity is read. -/
def State.beginEnable (s : State) (n : Nat) : State :=
  let s := s.updCourse n fun c =>
    { c with
      state := .enabling
      step := 1
      enSince := s.now
      wordsBack := []
      enQueued := false
      drainVerb := false
      dischargeAt := none }
  if s.courseUp n then s.send (.course n) (.query 0 2) else s.train (.course n)
/-- R254 step 2: the settings go out, and are asked back. -/
def State.sendSettings (s : State) (n : Nat) : State :=
  let s := s.updCourse n fun c => { c with step := 2, wordsBack := [] }
  (s.sends (.course n) (configAddrs.map fun a => .config a (s.settingWords n a))).sends (.course n)
    [.query 8 64, .query 0x108 64, .query 0x208 14]
/-- R254 steps 3 and 4: the self-test and the charge. -/
def State.sendEnable (s : State) (n : Nat) : State :=
  (s.updCourse n fun c => { c with step := 3, enSince := s.now }).send (.course n) .enable
/-- The committed plans of a course. -/
def State.firesLeft (s : State) (n : Nat) : Bool := (s.course n).plans.any (·.committed)
/-- R256 step 3: the boost discharge begins once no committed fire is left. -/
def State.judgeDischarge (s : State) (n : Nat) : State :=
  if (s.course n).state == .draining && (s.course n).dischargeAt.isNone && !s.firesLeft n then
    s.updCourse n fun c => { c with dischargeAt := some s.now }
  else s
/-- The course leaves ON: a sweep on its chute ends (R227). -/
def State.courseLeaves (s : State) (n : Nat) : State := s.learnDrop n "course not ON"
/-- R255, R256: a drain starts. An enable under way ends with it. -/
def State.startDrain (s : State) (n : Nat) (verb : Bool) : State :=
  match (s.course n).state with
  | .off | .draining => s
  | st =>
    let s := if st == .enabling then s.finish (· == .courseEnable n) (.err 301 "cancelled") else s.courseLeaves n
    let s := s.updCourse n fun c => { c with state := .draining, drainAt := s.now, drainVerb := verb, dischargeAt := none }
    let s := s.endUncommitted n
    (s.send (.course n) (.drain false)).judgeDischarge n
/-- A queued COURSE ENABLE is cancelled (R156). -/
def State.cancelCourseEnable (s : State) (n : Nat) : State :=
  if (s.course n).enQueued then
    (s.updCourse n fun c => { c with enQueued := false }).finish (· == .courseEnable n) (.err 301 "cancelled")
  else s
/-- R256 step 4: the course is OFF; the DISABLE is answered; a queued ENABLE runs in full, or is cancelled (R156). -/
def State.courseOff (s : State) (n : Nat) : State :=
  let q := (s.course n).enQueued
  let s := (s.updCourse n fun c => { c with state := .off, dischargeAt := none, enQueued := false, plans := [] }).finish
    (· == .courseDisable n) (.ok "OFF")
  if !q then s
  else if s.inAny [.ready, .run] then s.beginEnable n
  else s.finish (· == .courseEnable n) (.err 301 "cancelled")
/-- R254 step 5. -/
def State.courseOn (s : State) (n : Nat) : State :=
  (s.updCourse n fun c => { c with state := .on, step := 0, drainVerb := false }).finish (· == .courseEnable n) (.ok "ON")
/-- R254: an enable fails: the course is left OFF with its boost discharged, whatever it holds from before: a link that is up carries a
DRAIN. -/
def State.enableFails (s : State) (n code : Nat) (detail : String) : State :=
  let s := if s.courseUp n then s.send (.course n) (.drain false) else s
  (s.updCourse n fun c => { c with state := .off, step := 0 }).finish (· == .courseEnable n) (.err code detail)

/-- R268, R182: what a course whose link is lost can no longer report: its committed tickets end with the outcome that their
commitment fixed. -/
def State.endBlind (s : State) (n : Nat) : State :=
  let l := (s.tk.tickets.filter fun t => t.committed && t.final_.isNone && chuteOf t.slot == n).map (·.tid)
  l.foldl (fun s tid => (s.updTicket tid fun t => { t with primedAll := false }).endFire tid) s
/-- R268, Table 1.6: the Keystone has lost the link of course `n`. -/
def State.courseLost (s : State) (n : Nat) : State :=
  let was := (s.course n).state
  let s := s.event 0x3010 1 n
  let s := s.courseLeaves n
  let s := (s.endUncommitted n).endBlind n
  let s := s.updLink (.course n) fun x => { x with up := false, training := false, sent := [] }
  if was == .enabling then
    (s.updCourse n fun c => { c with state := .off, step := 0 }).finish (· == .courseEnable n) (.err 601 "link lost")
  else if was == .off then s
  else s.courseOff n

/-! ### Test pulses (R258) -/

/-- The place of a test pulse in the record: a FIRM request of priority 3 that belongs to no source. -/
def testSlot (n ch k : Nat) : TicketSlot :=
  { seq := BitVec.ofNat 32 k, priority := 3, kind := .firm, chute := n - 1, first := ch }
/-- One pulse is placed, its fire start 4 ms ahead. -/
def State.placePulse (s : State) (n : Nat) : State :=
  match (s.course n).test with
  | none => s
  | some x =>
    let k := testSlot n x.ch (x.placed + 1)
    let at_ := tickPlus s.now 16000
    let t : Ticket :=
      { tid := s.tk.nextTid, slot := k, stamp := s.now, band := s.bandNow, reqStart := at_, computed := true, dur := 4 * x.dur
        lead := s.leadTicks k, sets := s.chSets k, primedPlan := s.canPrime k, confirmed := true, test := true }
    let s := s.updCourse n fun c =>
      { c with test := c.test.map fun x => { x with placed := x.placed + 1, nextAt := tickPlus s.now (msT x.period) } }
    let s := s.keep t
    if s.inAny [.ready, .run] && s.canPlace k then s.placeTicket t.tid else s.endTicket t.tid .deniedLate
/-- Every test whose next pulse is due places it. -/
def State.pulses (s : State) : State :=
  (List.range 8).foldl (fun s i =>
    if ((s.course (i + 1)).test).elim false fun x => x.placed < x.count && x.nextAt == s.now then s.placePulse (i + 1) else s) s

end Sys2Proof.Machine
end

