-- ==== Sys2Proof/Machine/LedgerOps.lean ====
section
/-! DEFINITION. The room in the ledger's buffer (R429, R434). -/
namespace Sys2Proof.Machine

/-- A record's bytes (Table 12.11): 16 of header and its body, padded to a multiple of 4. -/
def recSize (r : Record) : Nat := 16 + (r.body.length + 3) / 4 * 4
/-- A journal frame's bytes (Table 13.1): serial, record and CRC. -/
def frameSize (r : Record) : Nat := 8 + recSize r + 4
/-- The journal's usable room, its reserve and the staging area's room, in bytes (R434). -/
def journalRoom : Nat := 56 * 2 ^ 20
def reserveRoom : Nat := 4 * 2 ^ 20
def stagingRoom : Nat := 508 * 2 ^ 20
/-- The bytes of an ashlar's stream (Table 12.8). -/
def streamBytes : Nat := 2451456
/-- Bytes of the journal that records occupy. -/
def Ledger.journalUsed (l : Ledger) : Nat :=
  sumOf (fun (f : Frame) => frameSize f.record) l.journal.frames
/-- Bytes of staging in use: frames the formatter has not taken yet, and ashlar images until they are verified or abandoned
(R430, R432). -/
def Ledger.stagingUsed (l : Ledger) : Nat :=
  sumOf (fun (f : Frame) => if f.staged && l.fmtSerial.toNat ≤ f.serial.toNat then frameSize f.record else 0) l.journal.frames +
    streamBytes * (l.forming.toList.length + l.closed.length + l.onTape.toList.length + l.awaiting.length)
/-- The larger of the two ratios reaches `p` per cent (R434). -/
def Ledger.fillAtLeast (l : Ledger) (p : Nat) : Bool :=
  p * journalRoom ≤ 100 * l.journalUsed || p * stagingRoom ≤ 100 * l.stagingUsed
/-- ledger.fill, in 0.1 %, at most 100 %. -/
def Ledger.fill (l : Ledger) : Nat :=
  min 1000 (max (l.journalUsed * 1000 / journalRoom) (l.stagingUsed * 1000 / stagingRoom))
/-- R156: a queued LEDGER LOAD is cancelled. -/
def State.cancelLoad (s : State) : State :=
  if s.led.loadQueued then
    State.finish { s with led.loadQueued := false } (· == .ledgerLoad) (.err 301 "cancelled")
  else s

end Sys2Proof.Machine
end

