-- ==== Sys2Proof/Machine/Recorder.lean ====
section
/-! DEFINITION. The event recorder (chapter 16): numbering, recording, flushing, freeze and thaw, reading and clearing, and
the unsolicited lines of chapter 2. -/
namespace Sys2Proof.Machine

/-- R523, Table 16.3: the severity of a code. -/
def sevOf (code : Nat) : Severity :=
  if [0x1001, 0x2030, 0x4301, 0x5040, 0x8001, 0x8003].contains code then .info
  else if [0x4201, 0x4203, 0x7032, 0x8010, 0x8011, 0x8030, 0x8060, 0x8061, 0x9010, 0x9020, 0xA010].contains code then .alarm
  else if [0x1010, 0x1011, 0x1012, 0x1013, 0x1014, 0x1020, 0x1030, 0x1040, 0x1043, 0x1045, 0x1051, 0x2010, 0x2011, 0x2032,
           0x3001, 0x3002, 0x3010, 0x3040, 0x4010, 0x4011, 0x4101, 0x4302, 0x5010, 0x5020, 0x5041, 0x6002, 0x6003,
           0x6005, 0x6010, 0x6012, 0x6020, 0x7011, 0x7012, 0x7031, 0x7040, 0x7041, 0x7060, 0x7061, 0x7070,
           0x8004, 0x8012, 0x8013, 0x8040, 0x8041, 0x8042, 0x8070, 0x8071, 0x8072, 0x9003, 0x9012, 0x9030, 0x9031,
           0xA021].contains code then .fault
  else .note

/-- The event is of severity FAULT or ALARM. -/
def grave (e : Event) : Bool := sevRank (sevOf e.code) ≥ 2

/-- Table 16.1: bytes 0–27 of a record and its crc. -/
def EventRec.bytes (r : EventRec) : List Byte :=
  let b := leBytes 4 r.seq.toNat ++ leBytes 2 r.ev.code ++ [BitVec.ofNat 8 r.ev.index, BitVec.ofNat 8 r.ev.kind] ++
    [BitVec.ofNat 8 (sevRank (sevOf r.ev.code)), BitVec.ofNat 8 ((if r.frozen then 1 else 0) + (if r.standby then 2 else 0)), 0, 0] ++
    leBytes 4 r.ev.p0.toNat ++ leBytes 4 r.ev.p1.toNat ++ leBytes 4 r.ev.p2.toNat ++ leBytes 4 r.ev.p3.toNat
  b ++ leBytes 4 (crc32 b).toNat

/-! ### The text of an event line (R69) -/

/-- The events of Table 16.3, part 1: code and name. -/
def eventNames1 : List (Nat × String) :=
  [(0x1001, "state change"), (0x1002, "LINE SYNC started"), (0x1003, "LINE SYNC stopped"), (0x1010, "FAULT entered"),
   (0x1011, "reference clock lost lock"), (0x1012, "self-test step failed or overran"),
   (0x1013, "bring-up or shutdown step failed"), (0x1014, "drain limit reached"), (0x1020, "collapse declared"),
   (0x1021, "supply dip under 2 ms"), (0x1022, "supply below 19.2 V"), (0x1030, "hold-up energy below need"),
   (0x1040, "configuration bank failed"), (0x1041, "KEPT parameter absent from bank"), (0x1042, "CONFIG ACCEPT or LOAD"),
   (0x1043, "calibration fallback or invalid FACTORY bank"), (0x1044, "CAL RESTORE FACTORY"),
   (0x1045, "bank erase, program or read-back failed"), (0x2001, "sequence gap"), (0x2010, "ring overrun"),
   (0x2011, "ring index refused"), (0x2012, "tally counter jump"), (0x2013, "recipe report refused"),
   (0x2020, "priming cut short")]
/-- The events of Table 16.3, part 2: code and name. -/
def eventNames2 : List (Nat × String) :=
  [(0x2030, "moisture band changed"), (0x2031, "outlet average missing"), (0x2032, "flight table element saturated"),
   (0x2033, "flight corrections reset"), (0x2034, "COURSE LEARN ended"), (0x3001, "boost phase marked"),
   (0x3002, "boost stopped"), (0x3010, "course link lost"), (0x3020, "duty warning"), (0x3030, "COURSE TEST"),
   (0x3040, "air refill held"), (0x3041, "air refill released"), (0x4002, "connection closing"),
   (0x4010, "connection error"), (0x4011, "port link lost or SFP+ module fault"), (0x4012, "SUP or SUP-T link lost"),
   (0x4101, "remote access violation"), (0x4201, "authentication failures above 64 in 1 s"),
   (0x4202, "CONNECT failed authentication"), (0x4203, "random source failed its health test"), (0x4301, "rekey complete"),
   (0x4302, "nonce limit reached"), (0x5010, "loop source invalid, loop frozen"), (0x5011, "airflow estimate in use")]
/-- The events of Table 16.3, part 3: code and name. -/
def eventNames3 : List (Nat × String) :=
  [(0x5020, "plenum at high limit"), (0x5021, "plenum below low limit for 600 s"), (0x5030, "coefficient saturated"),
   (0x5040, "batch step"), (0x5041, "batch HELD"), (0x5050, "heat availability changed"),
   (0x6001, "fan start attempt failed"), (0x6002, "FAN-STALL"), (0x6003, "TACH-LOST"), (0x6004, "tachometer recovered"),
   (0x6005, "DRIVE-FAULT"), (0x6006, "coast time ended before stop"), (0x6010, "common fault bit set"),
   (0x6011, "common fault bit clear"), (0x6012, "FIELD link lost"), (0x6020, "output readback mismatch"),
   (0x6021, "analogue input invalid"), (0x6030, "ring break changed"), (0x6031, "position LOST"),
   (0x6032, "node serial mismatch"), (0x6033, "node reply INVALID"), (0x6034, "average lost"), (0x7001, "cartridge loaded"),
   (0x7002, "cartridge unloaded")]
/-- The events of Table 16.3, part 4: code and name. -/
def eventNames4 : List (Nat × String) :=
  [(0x7003, "cartridge initialised"), (0x7011, "ashlar abandoned"), (0x7012, "ashlar written again (REDO)"),
   (0x7020, "capstone CLOSED written"), (0x7021, "capstone FULL written"), (0x7030, "buffer above ledger.warn"),
   (0x7031, "buffer full"), (0x7032, "records dropped"), (0x7040, "journal was not sealed"),
   (0x7041, "journal frame failed its crc"), (0x7051, "pending lot change discarded"),
   (0x7060, "cartridge counter exhausted"), (0x7061, "header ashlar failed verify"),
   (0x7070, "LEDGER link or transport fault"), (0x8001, "rekey complete"), (0x8002, "counter threshold reached"),
   (0x8003, "rekey aborted, slot SPLIT"), (0x8004, "write held for rekey"), (0x8010, "tag check failed"),
   (0x8011, "region quarantined"), (0x8012, "uncorrectable ECC in a sealed line"), (0x8013, "access with wrong key ID"),
   (0x8030, "lid opened"), (0x8031, "lid closed")]
/-- The events of Table 16.3, part 5: code and name. -/
def eventNames5 : List (Nat × String) :=
  [(0x8040, "key store copy invalid and rewritten"), (0x8041, "no valid key store"),
   (0x8042, "write-only parameter did not unwrap"), (0x8050, "unit ledger key exported"),
   (0x8051, "unit ledger key replaced"), (0x8060, "blocked access to a keyed range"), (0x8061, "JTAG opened"),
   (0x8070, "rekey waiting for random source"), (0x8071, "held write refused"), (0x8072, "seal engine self-check failed"),
   (0x9002, "standby SYNCED"), (0x9003, "standby lost SYNCED"), (0x9010, "crown taken"),
   (0x9011, "planned handover complete"), (0x9012, "CROWN YIELD failed"), (0x9020, "stepped down: later generation seen"),
   (0x9021, "CROWN TAKE without mirror"), (0x9030, "PEER link or connection lost"), (0x9031, "crown not taken"),
   (0xA001, "LOGIN response failed"), (0xA002, "session locked out for 60 s"),
   (0xA003, "ENGINEER granted without challenge"), (0xA004, "LOGIN granted"),
   (0xA005, "pending outcome discarded with its session")]
/-- The events of Table 16.3, part 6: code and name. -/
def eventNames6 : List (Nat × String) :=
  [(0xA010, "CLEARED"), (0xA011, "freeze summary"), (0xA020, "records possibly lost at an unclean stop"),
   (0xA021, "store slot failed its crc at restore")]
/-- R69: the text that ends an event line. DESIGN CHOICE: the manual gives the text of one code only (chapter 16, "air refill held"); the
model takes the name of the event in Table 16.3 as that example does, and none for a code outside the table (assumption 58). -/
def eventText (code : Nat) : String := lookupD code "" (eventNames1 ++ eventNames2 ++ eventNames3 ++ eventNames4 ++ eventNames5 ++ eventNames6)

/-! ### The store and the ring -/

/-- R528: the seqs of the 16 ALARM records with the highest seqs. -/
def lastAlarms (l : List EventRec) : List U32 :=
  ((l.filter fun r => sevOf r.ev.code == .alarm).reverse.take 16).map (·.seq)
/-- R528: every CLEARED record and the last 16 ALARM records are protected. -/
def protectedRec (alarms : List U32) (r : EventRec) : Bool := r.ev.code == 0xA010 || alarms.contains r.seq

/-- R528: a record enters a store of `cap` places: the store, and whether a record was overwritten or this one dropped. -/
def keepRecord (cap : Nat) (l : List EventRec) (r : EventRec) : List EventRec × Nat × Nat :=
  if l.length < cap then (l ++ [r], 0, 0)
  else
    let al := lastAlarms l
    match l.find? fun v => sevRank (sevOf v.ev.code) ≤ sevRank (sevOf r.ev.code) && !protectedRec al v with
    | none => (l, 0, 1)
    | some v => (l.filter (fun x => x.seq != v.seq) ++ [r], 1, 0)

/-- A record enters the ring of 8,192 places (R525, R529). -/
def State.ringAdd (s : State) (r : EventRec) : State :=
  let (l, o, d) := keepRecord 8192 s.evr.ring r
  { s with
    evr.ring := l
    evr.overwritten := s.evr.overwritten + BitVec.ofNat 32 o
    evr.dropped := s.evr.dropped + BitVec.ofNat 32 d }

/-- R526, R528: every ring record is written into the store of 65,536 places, in seq order. A failed MRAM stops flushing
(R536). -/
def State.flush (s : State) : State :=
  if s.evr.mramFailed then s
  else
    let (l, o, d) := s.evr.ring.foldl (fun (a : List EventRec × Nat × Nat) r =>
      let (l, o, d) := keepRecord 65536 a.1 r
      (l, a.2.1 + o, a.2.2 + d)) (s.evr.store, 0, 0)
    { s with
      evr.store := l
      evr.ring := []
      evr.flushDue := false
      evr.overwritten := s.evr.overwritten + BitVec.ofNat 32 o
      evr.dropped := s.evr.dropped + BitVec.ofNat 32 d }

/-- R70: a session with event level `l` receives events of severity `v`. -/
def receives (l : EvLevel) (v : Severity) : Bool :=
  match l with
  | .none => false | .info => true | .note => sevRank v ≥ 1 | .fault => sevRank v ≥ 2 | .alarm => sevRank v ≥ 3

/-- R521, R522, R525: an event becomes a record with the next seq; its line is queued in every session that receives it
(R69); a FAULT or ALARM recorded outside STANDBY makes an EVENT ledger record and a flush due (R526). -/
def State.record (s : State) (e : Event) : State :=
  let r : EventRec := { seq := s.evr.next, ev := e, frozen := s.evr.frozen.isSome, standby := s.ctl.state == .standby }
  let s : State := { s with
    evr.ceiling := if s.evr.next == s.evr.ceiling && !s.evr.mramFailed then s.evr.ceiling + 8192 else s.evr.ceiling
    evr.next := s.evr.next + 1
    sessions := s.sessions.map fun x =>
      let x : Session := if receives x.evLevel (sevOf e.code) then { x with queue := x.queue ++ [r] } else x
      if e.code == 0xA004 && x.idx == e.index then { x with loginSeq := r.seq } else x
    ctl.alarmLed := s.ctl.alarmLed || sevOf e.code == .alarm }
  let s := s.ringAdd r
  let s := if grave e && s.ctl.state != .standby then s.makeRecord 6 s.lineNow r.bytes else s
  { s with evr.flushDue := s.evr.flushDue || grave e || s.evr.ring.length ≥ 4096 }

/-- R530, R531: an INFO or NOTE event during a freeze is only counted, in the class of its code. -/
def State.countFrozen (s : State) (e : Event) : State :=
  { s with evr.counts := updAt (e.code / 4096) (· + 1) s.evr.counts }

/-- R522, R525, R530: one event is taken into the recorder; before the numbering is fixed it is held. -/
def State.takeEvent (s : State) (e : Event) : State :=
  if !s.evr.fixed then { s with evr.heldEvents := s.evr.heldEvents ++ [e] }
  else if s.evr.frozen.isSome && !grave e then s.countFrozen e
  else s.record e

/-- EVENT_RECORD (R525): the oldest event raised and not yet taken enters the ring. -/
def eventRecord (s : State) : State :=
  match s.raised with
  | [] => s
  | e :: rest => if s.awake then State.takeEvent { s with raised := rest } e else s
def execEventRecord (s : State) : Res := go (eventRecord s)

/-- R522: the numbering is fixed; the events held until then are recorded in order. -/
def State.fixNumbering (s : State) (next : U32) : State :=
  let held := s.evr.heldEvents
  let s : State := { s with
    evr.next := next
    evr.fixed := true
    evr.heldEvents := []
    evr.clean := false }
  held.foldl State.record s
/-- R522: p0 of 0xA020 after an unclean stop: the number after the newest record of the store, or ceiling − 8,192. -/
def lostFrom (ceil : U32) : Option U32 → U32
  | none => ceil - 8192
  | some h => if u32Before h (ceil - 8192) then ceil - 8192 else h + 1
/-- Steps 3 and 8 of WAKING (R522, R527, R537): the slots that fail their crc are freed and the numbering is fixed. -/
def State.restoreStore (s : State) (headerBad : Bool) (bad : List U32) : State :=
  if s.evr.fixed then s
  else
    let kept := s.evr.store.filter fun r => !bad.contains r.seq
    let freed := s.evr.store.length - kept.length
    let last := (kept.getLast?).map (·.seq)
    let clean := s.evr.clean
    let ceil := s.evr.ceiling
    let next := if headerBad then last.elim 0 (· + 16384) else if clean then s.evr.storedNext else ceil
    let s : State := { s with evr.store := kept, evr.ceiling := if headerBad then next + 8192 else ceil }
    let s := s.fixNumbering next
    let s := if freed = 0 then s else s.event 0xA021 0x0F 0 freed
    if headerBad then
      match last with
      | none => s.event 0xA020 0x0F 0 0 0xFFFFFFFF
      | some h => s.event 0xA020 0x0F 0 (h + 1).toNat (h + 16383).toNat
    else if clean then s
    else s.event 0xA020 0x0F 0 (lostFrom ceil last).toNat (ceil - 1).toNat

/-- EV_FLUSH (R526): when a flush is due, or at a tick that is a multiple of 40,000,000; suspended while frozen (R530). -/
def evFlush (s : State) : State :=
  if s.awake && s.evr.fixed && s.evr.frozen.isNone && (s.evr.flushDue || s.now.toNat % 40000000 = 0) then s.flush else s
def execEvFlush (s : State) : Res := go (evFlush s)

/-! ### Freeze and thaw -/

/-- R531: parameter p of the freeze summary: byte b is the count of class 4 p + b, at most 255. -/
def freezeParam (counts : List Nat) (p : Nat) : Nat :=
  leNat ((List.range 4).map fun b => BitVec.ofNat 8 (min 255 (counts.getD (4 * p + b) 0)))
/-- R531: the freeze ends: the summary NOTE 0xA011 when an event was counted, then a flush. -/
def State.thaw (s : State) : State :=
  let c := s.evr.counts
  let s : State := { s with evr.frozen := none, evr.counts := List.replicate 16 0 }
  let s := if c.any (· != 0) then
      s.record { code := 0xA011, kind := 0x0F, p0 := BitVec.ofNat 32 (freezeParam c 0), p1 := BitVec.ofNat 32 (freezeParam c 1)
                 p2 := BitVec.ofNat 32 (freezeParam c 2), p3 := BitVec.ofNat 32 (freezeParam c 3) }
    else s
  { s with evr.flushDue := true }

/-- EV_FREEZE (R530). -/
def evFreeze (ln : Ln) (s : State) : State :=
  s.verb ln .operate fun s =>
    done { s with
      evr.frozen := some s.now
      evr.counts := if s.evr.frozen.isSome then s.evr.counts else List.replicate 16 0 } "frozen 60s"
def execEvFreeze (ln : Ln) (s : State) : Res := go (evFreeze ln s)

/-- EV_THAW (R531). -/
def evThaw (ln : Ln) (s : State) : State :=
  s.verb ln .operate fun s =>
    if s.evr.frozen.isNone then refuse s 301
    else if s.evr.counts.any (· != 0) then done s.thaw ("thawed, summary " ++ natText s.evr.next.toNat)
    else done s.thaw "thawed, nothing held"
def execEvThaw (ln : Ln) (s : State) : Res := go (evThaw ln s)

/-- EV_AUTO_THAW (R532): 60 s after the last FREEZE. -/
def evAutoThaw (s : State) : State :=
  match s.evr.frozen with
  | some t => if secT 60 ≤ ticksFrom t s.now then s.thaw else s
  | none => s
def execEvAutoThaw (s : State) : Res := go (evAutoThaw s)

/-! ### Reading and clearing -/

/-- The records held: the store's, then the ring's, in ascending seq. -/
def State.heldRecs (s : State) : List EventRec := s.evr.store ++ s.evr.ring
/-- A body line of EV READ (R533). -/
def evLine (r : EventRec) : String :=
  natText r.seq.toNat ++ " " ++ sevName (sevOf r.ev.code) ++ " 0x" ++ hexText 4 r.ev.code ++ " 0x" ++ hexText 2 r.ev.kind ++
    hexText 2 r.ev.index ++ " 0x" ++ hexText 2 ((if r.frozen then 1 else 0) + (if r.standby then 2 else 0)) ++
    " 0x" ++ hexText 8 r.ev.p0.toNat ++ " 0x" ++ hexText 8 r.ev.p1.toNat ++ " 0x" ++ hexText 8 r.ev.p2.toNat ++
    " 0x" ++ hexText 8 r.ev.p3.toNat
/-- R533: the records an EV READ returns. -/
def State.evSelect (s : State) (start : Option Nat) (count : Nat) (min : Option Severity) : List EventRec :=
  let q := s.heldRecs.filter fun r => sevRank ((min).getD .info) ≤ sevRank (sevOf r.ev.code)
  match start with
  | some f =>
    let f := BitVec.ofNat 32 f
    (q.filter fun r => r.seq == f || u32Before f r.seq).take count
  | none => q.drop (q.length - count)
/-- R533: the seq that a following read should name. -/
def State.evNext (s : State) (l : List EventRec) (count : Nat) : U32 :=
  if l.length < count then s.evr.next else (l.getLast?).elim s.evr.next (·.seq + 1)

/-- EV_READ (R533). -/
def evRead (ln : Ln) (start : Option Nat) (count : Option Nat) (min : Option Severity) (s : State) : State :=
  s.verb ln .view fun s =>
    let n := count.getD 20
    if n < 1 || 1000 < n || start.elim false (2 ^ 32 ≤ ·) then refuse s 401
    else
      let l := s.evSelect start n min
      (s, some (.multi (l.map evLine ++ ["next " ++ natText (s.evNext l n).toNat])))
def execEvRead (ln : Ln) (start : Option Nat) (count : Option Nat) (min : Option Severity) (s : State) : Res :=
  go (evRead ln start count min s)

/-- R534: seq lies in the range of a clear. -/
def inClear (range : Option (U32 × U32)) (seq : U32) : Bool :=
  match range with
  | none => true
  | some (a, b) => (seq == a || u32Before a seq) && (seq == b || u32Before seq b)

/-- R534: the records in the range leave the store, but for CLEARED records, the last 16 ALARMs and the login record of the
session; ALARM 0xA010 is recorded at once. -/
def State.clearRecs (s : State) (ln : Ln) (range : Option (U32 × U32)) : State × Nat :=
  let s := s.flush
  let al := lastAlarms s.evr.store
  let keep := ((s.session? ln.ses).map (·.loginSeq))
  let gone (r : EventRec) : Bool := inClear range r.seq && !protectedRec al r && !(r.ev.code == 0xA004 && keep == some r.seq)
  let n := (s.evr.store.filter gone).length
  let lo := range.elim ((s.evr.store.head?).elim 0 (·.seq)) (·.1)
  let hi := range.elim ((s.evr.store.getLast?).elim 0 (·.seq)) (·.2)
  let s : State := { s with evr.store := s.evr.store.filter fun r => !gone r }
  (s.record { code := 0xA010, kind := 0x0E, index := ln.ses, p0 := lo, p1 := hi, p2 := BitVec.ofNat 32 n
              p3 := BitVec.ofNat 32 (s.loginOf ln) }, n)

/-- EV_CLEAR (R534). -/
def evClear (ln : Ln) (range : Option (Nat × Nat)) (s : State) : State :=
  s.verb ln .engineer fun s =>
    let wide := range.elim false fun p => 2 ^ 32 ≤ p.1 || 2 ^ 32 ≤ p.2
    let range := range.map fun p => (BitVec.ofNat 32 p.1, BitVec.ofNat 32 p.2)
    if !s.fresh ln then refuse s 202 "fresh login needed"
    else if wide || range.elim false (fun p => u32Before p.2 p.1) then refuse s 401
    else if s.evr.frozen.isSome then refuse s 301
    else
      let seq := s.evr.next
      let (t, n) := (s.spendFresh ln).clearRecs ln range
      done t ("cleared " ++ natText n ++ ", record " ++ natText seq.toNat)
def execEvClear (ln : Ln) (range : Option (Nat × Nat)) (s : State) : Res := go (evClear ln range s)

/-! ### Unsolicited lines (R69–R72) -/

/-- R72: unsolicited lines sent in the last second. DESIGN CHOICE: R72 does not say which second counts; the model takes the second that ends
at the present tick (assumption 58). -/
def Session.recent (x : Session) (now : Tick) : List Tick := x.sentAt.filter fun t => ticksFrom t now < secT 1
/-- R72: a line that may not be sent is dropped and counted with its severity. -/
def Session.suppress (x : Session) (v : Severity) : Session :=
  { x with
    suppressed := x.suppressed + 1
    suppressedSev := if x.suppressed = 0 || sevRank x.suppressedSev < sevRank v then v else x.suppressedSev }
/-- R55: in TYPED mode a line that interrupts a partial line is preceded by CRLF and followed by the prompt and that line. -/
def Session.unsolicited (x : Session) (o : Out) : Session :=
  let open_ := x.mode == .typed && !x.partialLine.isEmpty
  let x := if open_ then x.say { out := .echo [13, 10] } else x
  let x := x.say { out := o }
  if open_ then (x.say { out := .prompt }).say { out := .echo x.partialLine } else x
/-- UNSOLICITED_LINE_SEND (R69–R72): the oldest queued event line goes out, or is dropped beyond 20 in a second (R72) or
beyond a full reply buffer (R91). -/
def unsolicitedLineSend (ses : Nat) (s : State) : State :=
  match s.session? ses with
  | none => s
  | some x =>
    match x.queue with
    | [] => s
    | r :: rest =>
      s.updSession ses fun x =>
        let x : Session := { x with queue := rest, sentAt := x.recent s.now }
        if x.sentAt.length ≥ 20 || s.bufferFull x then x.suppress (sevOf r.ev.code)
        else ({ x with sentAt := x.sentAt ++ [s.now] } : Session).unsolicited 
          (.event (sevOf r.ev.code) r.ev.code r.seq (eventText r.ev.code))
def execUnsolicitedLineSend (ses : Nat) (s : State) : Res := go (unsolicitedLineSend ses s)

/-- SUPPRESSION_LINE (R72): once the rate allows, one line tells how many were dropped. -/
def suppressionLine (ses : Nat) (s : State) : State :=
  s.updSession ses fun x =>
    let l := x.recent s.now
    if x.suppressed = 0 || l.length ≥ 20 || s.bufferFull x then x
    else ({ x with sentAt := l ++ [s.now], suppressed := 0, suppressedSev := .info } : Session).unsolicited
      (.suppressed x.suppressedSev x.suppressed)
def execSuppressionLine (ses : Nat) (s : State) : Res := go (suppressionLine ses s)

end Sys2Proof.Machine
end

