-- ==== Sys2Proof/Machine/Units.lean ====
section
/-! DEFINITION. The unit states (chapter 4): FAULT and its causes, bring-up and shutdown, DRAIN, and the STATE verbs. -/
namespace Sys2Proof.Machine

/-! ### Causes of FAULT (Table 4.7) -/

/-- The name of a cause. -/
def causeText (bit : Nat) : String :=
  match bit with
  | 0 => "clock lock" | 1 => "FIELD" | 2 => "ledger buffer" | 3 => "DRAM" | 4 => "MRAM" | 5 => "self-test" | _ => "failed check"
/-- R476: a region is quarantined, the engine has failed (R487), or a region of action FAULT holds a poisoned line. -/
def State.checkStands (s : State) : Bool :=
  s.mp.engineFailed || s.mp.slots.any (·.quarantined) || s.mp.lines.any fun l => l.poison && s.num 0xC03 l.slot = 1
/-- Table 4.7: the cause is still active. -/
def State.causeActive (s : State) (bit : Nat) : Bool :=
  match bit with
  | 0 => !s.clk.refLocked || ticksFrom s.clk.lockedSince s.now < secT 1
  | 1 => !s.fld.link.up || s.fld.fault
  | 2 => s.led.fillAtLeast 50
  | 6 => s.checkStands
  | _ => true
/-- The causes held and still active. -/
def State.activeCauses (s : State) : List Nat := numsWhere 7 fun b => s.ctl.causes.getLsbD b && s.causeActive b

/-! ### Waiting and queued verbs -/

/-- R144: a queued STATE RUN is cancelled. -/
def State.cancelRun (s : State) : State :=
  if s.ctl.runQueued then
    State.finish { s with ctl.runQueued := false } (· == PendOp.state .run) (.err 301 "cancelled")
  else s
/-- R156: a queued LINK RESET is cancelled. -/
def State.cancelReset (s : State) (p : Nat) : State :=
  if (s.port p).enQueued then
    (s.updPort p fun x => { x with enQueued := false }).finish (· == .linkReset p) (.err 301 "cancelled")
  else s
/-- R156, "When things coincide": every queued ENABLE is cancelled. -/
def State.cancelQueued (s : State) : State :=
  let s := (List.range 8).foldl (fun s i => (s.cancelCourseEnable (i + 1)).cancelFanStart (i + 1)) s
  let s := (List.range 16).foldl (fun s n =>
    if (s.loop n).queued.isSome then
      (s.updLoop n fun l => { l with queued := none }).finish (· == .loopMode n) (.err 301 "cancelled")
    else s) s
  let s := (List.range 7).foldl (fun s i => s.cancelReset (i + 1)) s
  let s := s.cancelLoad
  (List.range 6).foldl (fun s i => s.cancelRekey (i + 1)) s
/-- R512, Table 4.2: a CROWN YIELD is made in READY, RUN or DRAIN only: one that still waits for its cut ends. One past its cut goes on to
the courses' report (R515) or to the reclaim of R513. -/
def State.dropYield (s : State) (detail : String) : State :=
  if s.crown.yieldAsked then
    State.finish { s with crown.yieldAsked := false } (· == .crownYield) (.err 301 detail)
  else s
/-- The STATE verbs that are pending end with `o`. -/
def State.dropStateVerbs (s : State) (o : Out) : State :=
  let s : State := { s with ctl.waiting := [], ctl.holdOut := false }
  ([.ready, .run, .drain, .hold] : List StateVerb).foldl (fun (s : State) v => s.finish (· == PendOp.state v) o) s
/-- The sorting side ends (R139): uncommitted tickets end, sweeps end, every course drains. -/
def State.endSorting (s : State) (detail : String) : State :=
  let s := (s.learnDropAll detail).endAllUncommitted
  (List.range 8).foldl (fun s i => s.startDrain (i + 1) false) s

/-! ### FAULT (R154, R155) -/

/-- A cause is held (R154). -/
def State.holdCause (s : State) (bit : Nat) : State := { s with ctl.causes := s.ctl.causes ||| (1#32 <<< bit) }
/-- A cause is held and recorded (R154). -/
def State.setCause (s : State) (bit : Nat) : State := (s.holdCause bit).event 0x1010 0 0 bit
/-- R139, R144, R149, R154: the unit enters FAULT. From WAKING the recorder's numbering is fixed first (R537). -/
def State.goFault (s : State) (bit : Nat) : State :=
  let s := s.restoreStore false []
  let s := if s.ctl.bringup.isSome then s.finish (· == PendOp.state .ready) (.err 601 (causeText bit)) else s
  let s := match (s.ctl.shutdown).bind (·.failWith) with
    | some (code, detail) => s.finish (· == PendOp.state .ready) (.err code detail)
    | none => s
  let s : State := { s with ctl.bringup := none, ctl.shutdown := none }
  let s := ((s.cancelRun.cancelQueued).dropStateVerbs (.err 301 "fault")).dropYield "fault"
  let s := s.batchHold
  let s := if s.ctl.state == .drain then s.zonesRest else s
  let s := (s.endSorting "fault").stopLineSync
  ((s.enter .fault).retargetLoops).outputsOff
/-- The states from which a cause leads to FAULT: HELD, READY, RUN and DRAIN (R154); WAKING on clock loss and on a DRAM or
MRAM failure (Table 4.2), and during its bring-up (R149). -/
def State.faultsOn (s : State) (bit : Nat) : Bool :=
  match s.ctl.state with
  | .held | .ready | .run | .drain => true
  | .waking => bit = 0 || bit = 3 || bit = 4 || s.ctl.bringup.isSome || s.ctl.shutdown.isSome
  | _ => false
/-- R154: a cause arises. In FAULT it is added; in STANDBY it is held. -/
def State.enterFault (s : State) (bit : Nat) : State :=
  if s.faultsOn bit then (s.setCause bit).goFault bit
  else if s.ctl.state == .fault then s.setCause bit
  else if s.ctl.state == .standby then s.holdCause bit
  else s
/-- The unit enters HELD; a cause that is held and active applies there (R518). -/
def State.enterHeld (s : State) : State :=
  let s := (s.enter .held).retargetLoops
  match s.activeCauses with
  | [] => s
  | b :: _ => (s.event 0x1010 0 0 b).goFault b

/-! ### Conditions of a start (Table 4.6) -/

/-- Table 4.6: the first condition that refuses STATE READY, with its code. -/
def State.readyRefusal (s : State) : Option (Nat × String) :=
  if !s.par.accepted then some (301, "configuration not accepted")
  else if !s.ctl.holdupOk then some (601, "hold-up energy")
  else if !s.clk.refLocked then some (601, "reference clock")
  else if !s.fld.link.up then some (601, "FIELD link")
  else if s.fld.fault then some (601, "field fault")
  else (s.coursesUsed.find? fun n => !s.courseUp n).map fun n => (601, "course " ++ natText n)
/-- Table 4.6: the condition that refuses STATE RUN; of several, R68 has a 301 come before a 601. -/
def State.runRefusal (s : State) : Option (Nat × String) :=
  if !s.par.accepted then s.readyRefusal
  else if !s.courses.any (·.state == .on) then some (301, "no course ON")
  else if s.on 0x013 && s.led.state != .writable then some (301, "no writable cartridge")
  else s.readyRefusal

/-! ### Shutdown and bring-up (Table 4.5) -/

/-- Table 4.5: the shutdown begins: heat demand and loops, fans, fires, courses. -/
def State.beginShutdown (s : State) (failWith : Option (Nat × String)) : State :=
  let s : State := { s with ctl.bringup := none, ctl.shutdown := some { step := 4, since := s.now, failWith := failWith } }
  ((s.retargetLoops).stopFans).endSorting "shutdown"
/-- R149, R164: a bring-up fails: the shutdown follows, and STATE READY ends with the code. -/
def State.failBringup (s : State) (code : Nat) (detail : String) : State :=
  if s.ctl.bringup.isSome then s.beginShutdown (some (code, detail)) else s
/-- Table 4.5: the bring-up begins: the field outputs are released. -/
def State.beginBringup (s : State) (auto : Bool) : State :=
  State.settleOutputs { s.unlimit with ctl.bringup := some { step := 1, since := s.now, auto := auto }, fld.released := true }

/-- READY is left for RUN (Table 4.5): fires are placed, loops set to AUTO leave manual. -/
def State.enterRun (s : State) : State := ((s.unlimit.enter .run).retargetLoops).finish (· == PendOp.state .run) (.ok "RUN")
/-- Entry to DRAIN (R138, R152, R358, R359). -/
def State.enterDrain (s : State) : State :=
  let s := State.enter { s with ctl.drainAt := s.now } .drain
  (((s.learnDropAll "drain").zonesDrain).retargetLoops).batchDrained
/-- R368: the last comparison of a channel found a difference: the mismatch bit stands and no match has begun, or a difference has
begun. -/
def differs (mis : Bool) (since : Option Tick) : Bool := mis == since.isNone
/-- R164, R166: the first channel whose readback disagrees with its command. -/
def State.badChannel (s : State) : Option (Nat × String) :=
  let d (i : Nat) : Bool := differs (s.fld.dos.getD i {}).mis (s.fld.dos.getD i {}).since
  let a (i : Nat) : Bool := differs (s.fld.aos.getD i {}).mis (s.fld.aos.getD i {}).since
  match (numsWhere 16 d).head?, (numsWhere 8 a).head? with
  | some i, _ => some (i + 1, "digital output " ++ natText (i + 1))
  | none, some i => some (i + 17, "analogue output " ++ natText (i + 1))
  | none, none => none
/-- R166, R368: a field cycle has compared every output with what it was commanded at the release, io.rb_time after that. -/
def State.readBack (s : State) (release : Tick) : Bool :=
  !s.fld.bankOff && s.fld.cycleAt.elim false fun t => tickLe release t && msT (s.num 0x902) ≤ ticksFrom release t

/-! ### The STATE verbs (Table 4.3, R143–R145) -/

/-- What a STATE verb does from the present state: an answer at once, or a pending start. -/
inductive StateAct where
  | now (o : Out)
  | soon (text : String) (f : State → State)

/-- The verb waits for the bring-up or shutdown under way (R145). -/
def State.queueVerb (s : State) (v : StateVerb) : State :=
  { s with ctl.waiting := if s.ctl.waiting.contains v then s.ctl.waiting else s.ctl.waiting ++ [v] }
/-- 301: Table 4.3 does not let the verb start. -/
def notNow : StateAct := .now (.err 301 "")
/-- R145: a STATE verb while a bring-up runs. -/
def State.actInBringup (s : State) (v : StateVerb) : StateAct :=
  if v == .ready then .soon "bringing up" id
  else if v == .run && s.ctl.waiting.contains .hold then notNow
  else .soon "queued" fun s => s.queueVerb v
/-- R145, R149: a STATE verb while a shutdown runs; a failed bring-up shuts down to HELD. STATE RUN is refused while a STATE HOLD is
outstanding, which it is in every other shutdown. -/
def State.actInShutdown (s : State) (v : StateVerb) : StateAct :=
  let failing := ((s.ctl.shutdown).bind (·.failWith)).isSome
  if v == .hold then .soon "holding" fun s => { s with ctl.holdOut := s.ctl.holdOut || failing }
  else if v == .run && (!failing || s.ctl.holdOut || s.ctl.waiting.contains .hold) then notNow
  else if v == .ready && failing then .soon "bringing up" id
  else .soon "queued" fun s => s.queueVerb v
/-- STATE HOLD in FAULT (R155): the causes that are still active refuse it. -/
def State.holdInFault (s : State) : StateAct :=
  match s.activeCauses with
  | [] => .soon "" fun s => (State.enterHeld { s with ctl.causes := 0 }).finish (· == PendOp.state .hold) (.ok "HELD")
  | b :: bs => .now (.err 301 ((b :: bs).foldl (fun t b => t ++ (if t == "" then "" else ", ") ++ causeText b) ""))
/-- A verb that a condition of Table 4.6 may refuse. -/
def unlessRefused (r : Option (Nat × String)) (text : String) (f : State → State) : StateAct :=
  match r with
  | some (c, d) => .now (.err c d)
  | none => .soon text f
/-- Table 4.3. -/
def State.actIdle (s : State) (v : StateVerb) : StateAct :=
  match s.ctl.state, v with
  | .held, .ready => unlessRefused s.readyRefusal "bringing up" fun s => s.beginBringup false
  | .held, .hold => .now (.ok "HELD")
  | .ready, .ready => .now (.ok "READY")
  | .ready, .run => unlessRefused s.runRefusal "starting" State.enterRun
  | .ready, .hold => .soon "holding" fun s => s.beginShutdown none
  | .run, .run => .now (.ok "RUN")
  | .run, .drain => .soon "draining" State.enterDrain
  | .run, .hold => .soon "holding after drain" fun s => State.enterDrain { s with ctl.holdOut := true }
  | .drain, .ready => .soon "ready after drain" id
  | .drain, .run => if s.ctl.holdOut then notNow else .soon "queued" fun s => { s with ctl.runQueued := true }
  | .drain, .drain => .soon "draining" State.cancelRun
  | .drain, .hold => .soon "holding after drain" fun s => State.cancelRun { s with ctl.holdOut := true }
  | .fault, .hold => s.holdInFault
  | _, _ => notNow
/-- Table 4.3 and R145. -/
def State.stateAct (s : State) (v : StateVerb) : StateAct :=
  if !s.inAny [.held, .ready, .run, .drain, .fault] then notNow
  else if s.ctl.bringup.isSome then s.actInBringup v
  else if s.ctl.shutdown.isSome then s.actInShutdown v
  else s.actIdle v
/-- A STATE verb given by a session. STATE HOLD in FAULT answers at once (Table 4.3). -/
def State.stateVerb (s : State) (ln : Ln) (v : StateVerb) : State :=
  s.verb ln .operate fun s =>
    match s.stateAct v with
    | .now o => (s, some o)
    | .soon text f => if text == "" then (f s, some (.ok "HELD")) else s.startOp ln (.state v) text f
def stateReady (ln : Ln) (s : State) : State := s.stateVerb ln .ready
def stateRun (ln : Ln) (s : State) : State := s.stateVerb ln .run
def stateDrain (ln : Ln) (s : State) : State := s.stateVerb ln .drain
def stateHold (ln : Ln) (s : State) : State := s.stateVerb ln .hold
/-- STATE_READY, STATE_RUN, STATE_DRAIN and STATE_HOLD (R143). -/
def execStateReady (ln : Ln) (s : State) : Res := go (stateReady ln s)
def execStateRun (ln : Ln) (s : State) : Res := go (stateRun ln s)
def execStateDrain (ln : Ln) (s : State) : Res := go (stateDrain ln s)
def execStateHold (ln : Ln) (s : State) : Res := go (stateHold ln s)

/-- R145: a verb that waited runs in full; while another bring-up or shutdown runs, the rest wait on. -/
def State.resumeVerbs : List StateVerb → State → State
  | [], s => s
  | v :: vs, s =>
    if s.ctl.bringup.isSome || s.ctl.shutdown.isSome then { s with ctl.waiting := v :: vs }
    else
      let s := match s.stateAct v with
        | .now o => s.finish (· == PendOp.state v) o
        | .soon _ f => f s
      resumeVerbs vs s
/-- The verbs that waited. -/
def State.resume (s : State) : State := State.resumeVerbs s.ctl.waiting { s with ctl.waiting := [] }

/-! ### Ends of bring-up, shutdown and DRAIN -/

/-- The bring-up has ended: loops in manual, fans stopped, rings armed; the unit is READY. -/
def State.endBringup (s : State) : State :=
  let s := ((State.enter { s with ctl.bringup := none } .ready).retargetLoops).finish (· == PendOp.state .ready) (.ok "READY")
  s.resume
/-- Table 4.5: the bring-up goes on while its step has ended. -/
def State.advanceBringup (s : State) : State :=
  match s.ctl.bringup with
  | none => s
  | some b =>
    if b.step = 1 then
      if !s.readBack b.since then s
      else match s.badChannel with
        | some (c, d) => (s.event 0x1013 0 0 1 c).failBringup 601 d
        | none =>
          let s := State.startLineSync { s with ctl.bringup := some { b with step := 3, since := s.now } }
          s.coursesUsed.foldl (fun s n => s.beginEnable n) s
    else if s.coursesUsed.all fun n => (s.course n).state == .on then s.endBringup
    else s
/-- BRINGUP_COMPLETE: the step under way has ended. -/
def bringupComplete (s : State) : State := s.advanceBringup
def execBringupComplete (s : State) : Res := go (bringupComplete s)
/-- BRINGUP_STEP_TIMEOUT (R164): a step of the bring-up has not ended within 2 s. -/
def bringupStepTimeout (s : State) : State :=
  match s.ctl.bringup with
  | none => s
  | some b =>
    if ticksFrom b.since s.now < secT 2 then s
    else (s.event 0x1013 0 0 b.step).failBringup 601 ("step " ++ natText b.step)
def execBringupStepTimeout (s : State) : Res := go (bringupStepTimeout s)

/-- Table 4.5, shutdown steps 5 and 6: LINE SYNC stops, outputs go off, and the unit is HELD. -/
def State.endShutdown (s : State) (failWith : Option (Nat × String)) : State :=
  let s : State := { s with ctl.shutdown := none, ctl.holdOut := false }
  let s := ((s.batchHold.stopLineSync.outputsOff).dropYield "held").enterHeld
  let s := match failWith with
    | some (c, d) => s.finish (· == PendOp.state .ready) (.err c d)
    | none => s
  (s.finish (· == PendOp.state .hold) (.ok "HELD")).resume
/-- SHUTDOWN_COMPLETE: every course is OFF. -/
def shutdownComplete (s : State) : State :=
  match s.ctl.shutdown with
  | none => s
  | some x => if s.courses.all (·.state == .off) then s.endShutdown x.failWith else s
def execShutdownComplete (s : State) : Res := go (shutdownComplete s)
/-- SHUTDOWN_STEP_TIMEOUT (R164): FAULT with the cause recorded; the outputs go off all the same. -/
def shutdownStepTimeout (s : State) : State :=
  match s.ctl.shutdown with
  | none => s
  | some x =>
    if ticksFrom x.since s.now < msT 200 then s
    else (s.event 0x1013 0 0 x.step).goFault 5
def execShutdownStepTimeout (s : State) : Res := go (shutdownStepTimeout s)

/-- R152: every ticket placed has its outcome, and no timeline holds a request. -/
def State.sortingDone (s : State) : Bool := !s.tk.tickets.any (·.placed)
/-- R152: DRAIN ends in READY; a STATE HOLD outstanding goes on to HELD; a queued STATE RUN runs in full. -/
def State.endDrain (s : State) : State :=
  let s : State := ((s.zonesRest).enter .ready).retargetLoops
  let s : State := (s.finish (· == PendOp.state .drain) (.ok "READY")).finish (· == PendOp.state .ready) (.ok "READY")
  if s.ctl.holdOut then s.beginShutdown none
  else if s.ctl.runQueued then
    let s : State := { s with ctl.runQueued := false }
    match s.runRefusal with
    | some (c, d) => s.finish (· == PendOp.state .run) (.err c d)
    | none => s.enterRun
  else s
/-- DRAIN_COMPLETE (R152). -/
def drainComplete (s : State) : State :=
  if s.ctl.state == .drain && s.sortingDone && s.zonesDone then s.endDrain else s
def execDrainComplete (s : State) : Res := go (drainComplete s)
/-- DRAIN_LIMIT (R153): the zones that are late go to manual with heat demand at 4 mA; each is named in FAULT 0x1014. -/
def drainLimit (s : State) : State :=
  if s.ctl.state == .drain && secT (s.num 0x014) ≤ s.drainTicks && !s.zonesDone then
    let (s, late) := s.zonesLimit
    (late.foldl (fun (s : State) z => s.event 0x1014 7 z) s).endDrain
  else s
def execDrainLimit (s : State) : Res := go (drainLimit s)

end Sys2Proof.Machine
end

