-- ==== Sys2Proof/Machine/Courses.lean ====
section
/-! DEFINITION. The Keystone's side of the courses (chapter 7) and the drop test (R222–R228): the COURSE verbs and the frames a
course sends up. -/
namespace Sys2Proof.Machine

/-- Course `n` exists (sys.courses). -/
def State.hasCourse (s : State) (n : Nat) : Bool := 1 ≤ n && n ≤ s.courseCount

/-! ### Enable (R254, R255) -/

/-- R254, R149: an enable fails; during a bring-up the bring-up fails with it. -/
def State.failEnable (s : State) (n code : Nat) (detail : String) : State :=
  (s.enableFails n code detail).failBringup code ("course " ++ natText n ++ ": " ++ detail)

/-- COURSE_ENABLE (R254, R255, R156–R158). -/
def courseEnable (ln : Ln) (n : Nat) (s : State) : State :=
  s.verb ln .operate fun s =>
    let op := PendOp.courseEnable n
    let text := "enabling course " ++ natText n
    if !s.hasCourse n then refuse s 401
    else if !s.inAny [.ready, .run] then refuse s 301
    else match (s.course n).state with
      | .on => done s "ON"
      | .enabling => s.startOp ln op text id
      | .draining => s.startOp ln op "queued" fun s => s.updCourse n fun c => { c with enQueued := true }
      | .off => s.startOp ln op text fun s => s.beginEnable n
def execCourseEnable (ln : Ln) (n : Nat) (s : State) : Res := go (courseEnable ln n s)

/-- COURSE_ENABLE_COMPLETE (R254): the link that does not train in 1,000 ms, the self-test that leaves no phase, the charge
that reaches V_ready, and the charge that does not in 500 ms. -/
def courseEnableComplete (n : Nat) (s : State) : State :=
  let c := s.course n
  if c.state != .enabling then s
  else if c.step = 1 then
    if msT 1000 ≤ ticksFrom c.enSince s.now then s.failEnable n 601 "link does not train" else s
  else if c.step != 3 then s
  else if tickBefore c.enSince c.last.at_ && c.last.n = 0 then (s.event 0x3002 1 n 0).failEnable n 601 "no boost phase"
  else if tickBefore c.enSince c.last.at_ && c.last.ready && c.last.st == .on then s.courseOn n
  else if msT 500 ≤ ticksFrom c.enSince s.now then s.failEnable n 601 "boost not ready"
  else s
def execCourseEnableComplete (n : Nat) (s : State) : Res := go (courseEnableComplete n s)

/-! ### Disable and its abort (R255–R257) -/

/-- COURSE_DISABLE (R255, R256, R157). -/
def courseDisable (ln : Ln) (n : Nat) (s : State) : State :=
  s.verb ln .operate fun s =>
    if !s.hasCourse n then refuse s 401
    else if !s.inAny [.ready, .run] then refuse s 301
    else match (s.course n).state with
      | .off => done s "OFF"
      | .draining => if (s.course n).enQueued then done (s.cancelCourseEnable n) "enable cancelled" else done s "already stopping"
      | _ => s.startOp ln (.courseDisable n) ("draining course " ++ natText n) fun s => s.startDrain n true
def execCourseDisable (ln : Ln) (n : Nat) (s : State) : Res := go (courseDisable ln n s)

/-- R257: the abort has won: the course is ON again, and a queued ENABLE completes. -/
def State.abortDrain (s : State) (n : Nat) : State :=
  let s := (s.updCourse n fun c => { c with state := .on, drainVerb := false, enQueued := false }).send (.course n) (.drain true)
  (s.finish (· == .courseDisable n) (.err 301 "aborted")).finish (· == .courseEnable n) (.ok "ON")
/-- COURSE_DISABLE_ABORT (R257, R159). -/
def courseDisableAbort (ln : Ln) (n : Nat) (s : State) : State :=
  s.verb ln .operate fun s =>
    let c := s.course n
    if !s.hasCourse n then refuse s 401
    else if !(c.state == .draining && c.drainVerb) then refuse s 301 "nothing to abort"
    else if c.dischargeAt.isSome then done s "already complete"
    else done (s.abortDrain n) "aborted"
def execCourseDisableAbort (ln : Ln) (n : Nat) (s : State) : Res := go (courseDisableAbort ln n s)

/-- COURSE_DRAIN_COMPLETE (R256 step 4): a STATUS since the drain says OFF, or no link is left to report it. -/
def courseDrainComplete (n : Nat) (s : State) : State :=
  let c := s.course n
  if c.state == .draining && ((tickBefore c.drainAt c.last.at_ && c.last.st == .off) || !c.link.up) then s.courseOff n else s
def execCourseDrainComplete (n : Nat) (s : State) : Res := go (courseDrainComplete n s)

/-! ### Test pulses (R258) -/

/-- R49, R50, R258: a time that a test names in whole steps of `u`, or its default. -/
def testTime (u : Suffix) (lo hi : Int) (dflt : Nat) (l : Option Lit) : Except Nat Nat :=
  match l with
  | none => .ok dflt
  | some l => match litArg { unit := some u } lo hi l with
    | .ok v => .ok v.toNat
    | .error c => .error c
/-- COURSE_TEST (R258). -/
def courseTest (ln : Ln) (n ch : Nat) (dur : Option Lit) (count : Option Nat) (period : Option Lit) (s : State) : State :=
  s.verb ln .engineer fun s =>
    let k := count.getD 1
    match testTime .us 200 20000 (s.num (courseP 0x15 n) ch) dur, testTime .ms 1 10000 100 period with
    | .error c, .error e => refuse s (if e = 402 then 402 else c)
    | .error c, .ok _ => refuse s c
    | .ok _, .error e => refuse s e
    | .ok d, .ok p =>
    if !s.hasCourse n || s.num (courseP 0 n) ≤ ch || d < 200 || 20000 < d || k < 1 || 1000 < k ||
        1000 * p < d + s.num (courseP 0x11 n) ch then refuse s 401
    else if s.ctl.state != .ready then refuse s 301
    else if (s.course n).test.isSome then refuse s 302
    else s.startOp ln (.courseTest n) ("testing course " ++ natText n ++ " ch " ++ natText ch) fun s =>
      (s.updCourse n fun c => { c with test := some { ch := ch, dur := d, count := k, period := p } }).placePulse n
def execCourseTest (ln : Ln) (n ch : Nat) (dur : Option Lit) (count : Option Nat) (period : Option Lit) (s : State) : Res :=
  go (courseTest ln n ch dur count period s)

/-- The name of an outcome in a reply. -/
def outcomeText : Outcome → String
  | .fired => "FIRED" | .merged => "MERGED" | .extended => "EXTENDED" | .shifted => "SHIFTED" | .deniedAir => "DENIED-AIR"
  | .deniedLate => "DENIED-LATE" | .deniedBoost => "DENIED-BOOST" | .lapsed => "LAPSED" | .cancelled => "CANCELLED"
  | .cancelTooLate => "CANCEL-TOO-LATE" | .droppedFailover => "DROPPED-FAILOVER"
/-- The denied pulses of a test, as detail. -/
def denialText (l : List (Nat × Outcome)) : String :=
  l.foldl (fun t d => t ++ ", " ++ natText d.1 ++ " " ++ outcomeText d.2) ""
/-- COURSE_TEST_COMPLETE (R258): every pulse has fired or been denied. -/
def courseTestComplete (n : Nat) (s : State) : State :=
  match (s.course n).test with
  | none => s
  | some x =>
    if x.fired + x.denials.length < x.count then s
    else
      let s := (s.updCourse n fun c => { c with test := none }).event 0x3030 1 n x.ch x.fired x.count
      s.finish (· == .courseTest n)
        (.ok ("fired " ++ natText x.fired ++ " of " ++ natText x.count ++ denialText x.denials))
def execCourseTestComplete (n : Nat) (s : State) : Res := go (courseTestComplete n s)

/-! ### Frames from a course -/

/-- Phase states that are newly LOST or SENSE: FAULT 0x3001 (R267). -/
def State.notePhases (s : State) (n : Nat) (old new : List Nat) (working : Nat) : State :=
  (List.range 6).foldl (fun s i =>
    let p := new.getD i 0
    if 2 ≤ p && p ≤ 3 && p != old.getD i 0 then s.event 0x3001 1 n (i + 1) p working else s) s
/-- course.N.ch.duty (R244): energised ticks of a channel in the last 10 s, in 0.1 %. -/
def Channel.duty (c : Channel) (now : Tick) : Nat :=
  let window := secT 10
  let inside (a b : Tick) : Nat := min window (ticksFrom a now) - min window (ticksFrom b now)
  let past := sumOf (fun (x : Tick × Tick) => inside x.1 x.2) c.spans
  (roundDiv (((past + c.onSince.elim 0 fun a => min window (ticksFrom a now)) * 1000 : Nat) : Int) window).toNat
/-- R244: NOTE 0x3020 for the first channel above course.N.duty_warn, at most once a minute. -/
def State.noteDuty (s : State) (n : Nat) : State :=
  let c := s.course n
  if c.dutyNoted.elim false fun t => ticksFrom t s.now < secT 60 then s
  else
    match (List.range 64).find? fun ch => s.num (courseP 0x17 n) < ((s.dev n).chans.getD ch {}).duty s.now with
    | none => s
    | some ch =>
      let d := ((s.dev n).chans.getD ch {}).duty s.now
      (s.updCourse n fun c => { c with dutyNoted := some s.now }).event 0x3020 1 n ch d
/-- R267: why a course goes to DRAINING or OFF by itself: its last phase is gone (0), or its bank was overcharged (1). -/
def fallCause (old new : Status) : Option Nat :=
  if new.n = 0 && old.n != 0 then some 0 else if new.st == .draining || new.st == .off then some 1 else none
/-- R267: a course that the Keystone holds ON, or that charges in an enable, has gone to DRAINING or OFF by itself: a FAULT event, and the
drain runs, or the enable fails (R254). -/
def State.courseFell (s : State) (n : Nat) (old new : Status) : State :=
  match (s.course n).state, fallCause old new with
  | .on, some c => (s.event 0x3002 1 n c).startDrain n false
  | .enabling, some c =>
    if (s.course n).step = 3 && (c = 0 || old.st == .enabling || old.st == .on) then
      (s.event 0x3002 1 n c).failEnable n 601 (if c = 0 then "no boost phase" else "boost not ready")
    else s
  | _, _ => s
/-- COURSE_STATUS but for the crown (R245–R247, R267): state, readiness, phases and their consequences. -/
def State.takeStatus (s : State) (n : Nat) (gen : U32) (f : StatusFrame) : State :=
  let c := s.course n
  let old := c.last
  let new : Status :=
    { at_ := s.now, st := f.st, ready := f.ready, bankV := f.bankV, fieldV := f.fieldV, phases := f.phases, n := f.n
      gen := gen, crownLive := f.crownLive }
  let s := (s.heard (.course n)).updCourse n fun c =>
    { c with last := new, prior := if old.at_ == s.now then c.prior else old }
  let s := s.notePhases n old.phases f.phases f.n
  let s := if f.fieldV < 1800 && 1800 ≤ old.fieldV then s.event 0x3002 1 n 2 else s
  (s.courseFell n old new).noteDuty n

/-- The tickets whose priming was cut short within the last second, with those of a plan that ends now: the ticket that started its
fire, once however many channels it has. -/
def Course.cutNow (c : Course) (now : Tick) (p : Plan) : List (Nat × Tick) :=
  let l := c.cutShort.filter fun x => ticksFrom x.2 now < secT 1
  (p.tids.take 1).foldl (fun l tid => if l.any fun x => x.1 == tid then l else l ++ [(tid, now)]) l
/-- R207: priming was cut short on a fire planned as primed; NOTE 0x2020 at most once a second, with the tickets of the last second. -/
def State.noteCut (s : State) (n : Nat) (p : Plan) (primed : Bool) : State :=
  if !p.primed || primed then s
  else
    let c := s.course n
    let l := c.cutNow s.now p
    if c.cutNoted.elim false fun t => ticksFrom t s.now < secT 1 then s.updCourse n fun c => { c with cutShort := l }
    else (s.updCourse n fun c => { c with cutShort := l, cutNoted := some s.now }).event 0x2020 1 n l.length
/-- A fire that did not begin: its tickets end with `o` (R248, R264, R504). -/
def State.endRefused (s : State) (p : Plan) (o : Outcome) : State :=
  p.tids.foldl (fun s tid => s.endTicket tid o) s
/-- R233, R241, R246, R252: a fire of plan `p` has run: it is counted, the start of its RELEASE and what is left of its PEAK interval stand,
and the quiet window begins anew. -/
def State.fireRan (s : State) (n : Nat) (p : Plan) (f : EndBody) : State :=
  let peak := s.peakOf n p
  let s := s.updManifold n fun b => { b with samples := [], quietSince := s.now }
  s.updCourse n fun c =>
    { c with
      fires := c.fires + 1
      relAt := (p.ch, f.release) :: c.relAt.filter fun x => x.1 != p.ch
      peaksLeft := (peak :: c.peaksLeft).filter fun x => tickBefore s.now x.2 }
/-- COURSE_END (R233, R248, R264, R504): the END of a fire settles its tickets and frees its plan slot (R566). -/
def courseEnd (up : UpHdr) (f : EndBody) (s : State) : State :=
  let n := up.course
  if !s.awake then s
  else
    let s := s.heard (.course n)
    match (s.course n).plans.find? fun p => p.slot == some f.slot with
    | none => s
    | some p =>
      let s := s.updCourse n fun c => { c with plans := c.plans.filter fun q => q.slot != some f.slot }
      let s :=
        if f.code = 0 then
          let s := (s.fireRan n p f).noteCut n p f.primed
          p.tids.foldl (fun s tid => s.endChannel p.ch f.primed tid) s
        else s.endRefused p (if f.code = 1 then .deniedBoost else if f.code = 2 then .deniedLate else .droppedFailover)
      s.judgeDischarge n
def execCourseEnd (up : UpHdr) (f : EndBody) (s : State) : Res := go (courseEnd up f s)

/-- Words read back: the value of word `a`. -/
def wordBack (l : List (Nat × U32)) (a : Nat) : Option U32 := (l.find? fun p => p.1 = a).map (·.2)
/-- R263: the identity of a device from its words 0 to 4. -/
def identModel (l : List (Nat × U32)) : List Byte :=
  (leBytes 4 (lookupD 0 0 l).toNat ++ leBytes 4 (lookupD 1 0 l).toNat)
/-- R254 step 1: every identity word is back. -/
def State.judgeIdentity (s : State) (n : Nat) : State :=
  let l := (s.course n).wordsBack
  if !((List.range 8).all fun a => (wordBack l a).isSome) then s
  else
    let s := s.updCourse n fun c =>
      { c with identModel := identModel l, identSerial := lookupD 2 0 l, identFw := lookupD 3 0 l }
    if (lookupD 4 0 l).toNat % 256 != 1 then s.failEnable n 601 "wrong device"
    else match s.badProfile n with
      | some k => s.failEnable n 401 ("profile " ++ natText k)
      | none => s.sendSettings n
/-- R254 step 2: four words read back against the Keystone's own. -/
def State.judgeWords (s : State) (n addr : Nat) (ws : List U32) : State :=
  if (ws.mapIdx fun i w => decide (w = s.settingWord n (addr + i))).all (· == true) then
    if (s.course n).wordsBack.length = 568 then s.sendEnable n else s
  else s.failEnable n 601 "read-back differs"
/-- The device kind in an identity group. -/
def kindOfWords (addr : Nat) (ws : List U32) (old : Nat) : Nat := if addr = 4 then (ws.getD 0 0).toNat % 256 else old
/-- COURSE_READBACK (R263). -/
def courseReadback (l : LinkId) (addr : Nat) (ws : List U32) (s : State) : State :=
  if !s.awake then s
  else
    let s := (s.heard l).updLink l fun x => { x with kind := kindOfWords addr ws x.kind, present := x.present || addr = 4 }
    match l with
    | .course n =>
      let c := s.course n
      if c.state != .enabling || !(c.step = 1 && addr < 8 || c.step = 2 && 8 ≤ addr && addr < 0x240) then s
      else
        let s := s.updCourse n fun c =>
          { c with wordsBack := (ws.mapIdx fun i w => (addr + i, w)).foldl (fun l p => assocSet p.1 p.2 l) c.wordsBack }
        if c.step = 1 then s.judgeIdentity n else s.judgeWords n addr ws
    | _ => s
def execCourseReadback (l : LinkId) (addr : Nat) (ws : List U32) (s : State) : Res := go (courseReadback l addr ws s)

/-- COURSE_LINK_LOSS (R268): 400 ticks without a valid frame on the uplink. A bring-up fails with the course (Table 4.6). -/
def courseLinkLoss (n : Nat) (s : State) : State :=
  let x := (s.course n).link
  if !s.awake || !s.hasCourse n || !x.up || ticksFrom x.lastRx s.now < 400 then s
  else (s.courseLost n).failBringup 601 ("course " ++ natText n ++ " link")
def execCourseLinkLoss (n : Nat) (s : State) : Res := go (courseLinkLoss n s)

/-! ### Drop tests (R222–R228) -/

/-- COURSE_LEARN (R222). -/
def courseLearn (ln : Ln) (n src : Nat) (s : State) : State :=
  s.verb ln .engineer fun s =>
    let span := s.num 0x393
    let step := s.num 0x394
    let x : Learn := { src := src, since := s.now, cls := s.num 0x392, span := span, step := step }
    let other := (List.range 8).any fun i => ((s.chute (i + 1)).learn).elim false fun y => y.src = src
    if !s.hasCourse n || src < 1 || 16 < src then refuse s 401
    else if step = 0 || span % step != 0 || 255 < x.steps then refuse s 401
    else if s.ctl.state != .run || (s.course n).state != .on || !(s.source src).open_ then refuse s 301
    else if (s.chute n).learn.isSome then refuse s 302
    else if other then refuse s 302 "source busy"
    else
      let text := "learning chute " ++ natText n ++ " class " ++ natText x.cls ++ " steps " ++ natText x.steps
      s.startOp ln (.courseLearn n) text fun s =>
        ((s.grantLearn src true).updChute n fun c => { c with learn := some x, learnGen := nextGen c.learnGen }).updSource src fun q =>
        { q with learnWin := [] }
def execCourseLearn (ln : Ln) (n src : Nat) (s : State) : Res := go (courseLearn ln n src s)
/-- COURSE_LEARN_STOP (R227). -/
def courseLearnStop (ln : Ln) (n : Nat) (s : State) : State :=
  s.verb ln .engineer fun s =>
    if !s.hasCourse n then refuse s 401
    else if (s.chute n).learn.isNone then refuse s 301
    else done (s.learnDrop n "stopped" 1) "stopped"
def execCourseLearnStop (ln : Ln) (n : Nat) (s : State) : Res := go (courseLearnStop ln n s)

/-- R223, R227: every bin is full. -/
def State.binsFull (s : State) (x : Learn) : Bool := x.bins.all fun b => x.steps * s.num 0x395 ≤ b.counted.length
/-- R224: the result of one learn ticket is counted in its bin. -/
def State.countLearn (s : State) (n : Nat) (bin step : Nat) (hit : Bool) : State :=
  s.updChute n fun c =>
    { c with learn := c.learn.map fun x =>
        { x with bins := updAt bin (fun b => { b with counted := b.counted ++ [(step, hit)] }) x.bins } }
/-- LEARN_RESULT_READ (R224): 1 s after its completion entry, the byte of learn ticket `tid` is read. -/
def learnResultRead (n tid : Nat) (s : State) : State :=
  match s.ticket? tid, (s.chute n).learn with
  | some t, some x =>
    match t.learn, t.entryAt with
    | some (bin, step), some at_ =>
      if ticksFrom at_ s.now < secT 1 || chuteOf t.slot != n || t.src != x.src then s
      else
        let b := cellAt (s.source t.src).learnWin (t.slot.seq.toNat % 4096)
        let s := s.updTicket tid fun t => { t with learn := none }
        let s := if t.final_ == some .fired && (b = 1 || b = 2) then s.countLearn n bin step (b = 1) else s
        if ((s.chute n).learn).elim false s.binsFull then s.learnApply n else s
    | _, _ => s
  | _, _ => s
def execLearnResultRead (n tid : Nat) (s : State) : Res := go (learnResultRead n tid s)
/-- LEARN_LIMIT (R227): plumb.learn.limit has passed. -/
def learnLimit (n : Nat) (s : State) : State :=
  match (s.chute n).learn with
  | none => s
  | some x => if secT (s.num 0x398) ≤ ticksFrom x.since s.now then s.learnApply n else s
def execLearnLimit (n : Nat) (s : State) : Res := go (learnLimit n s)

end Sys2Proof.Machine
end

