-- ==== Sys2Proof/Machine/CourseDevs.lean ====
section
/-! DEFINITION. The courses themselves (chapter 7; R503–R504): what each does with a downlink frame, its plans and channels, its
boost supply, and what it loses with its uplink or its field supply. -/
namespace Sys2Proof.Machine

/-! ### Parts of a course -/

/-- A setting word; 0 when it has not been written. -/
def CourseDev.word (v : CourseDev) (a : Nat) : U32 := lookupD a 0 v.words
/-- The course's own tick (R260). -/
def CourseDev.tick (v : CourseDev) (now : Tick) : Tick := tickPlus now v.tickErr
/-- The boost setpoint, in 0.1 V. -/
def CourseDev.setpoint (v : CourseDev) : Nat := (v.word 9).toNat % 65536
/-- Working phases (Table 7.6). -/
def CourseDev.working (v : CourseDev) : Nat := (v.phases.filter (· == 1)).length
/-- R245: the boost is ready: 90 % of the setpoint. -/
def CourseDev.ready (v : CourseDev) : Bool := 0 < v.bankV && 9 * v.setpoint ≤ 10 * v.bankV
/-- The channel is OFF: never driven, or its falling current is zero. -/
def Channel.isOff (c : Channel) (now : Tick) : Bool := c.phase == .off || (c.phase == .release && tickLe c.zeroBy now)
/-- R244: the coil is no longer energised: its span enters those of the last 10 s. -/
def Channel.deEnergise (c : Channel) (now : Tick) : Channel :=
  let old := c.spans.filter fun p => ticksFrom p.2 now < secT 10
  { c with onSince := none, spans := c.onSince.elim old fun a => old ++ [(a, now)] }
/-- The channel's current falls to zero within `t` ticks (R193, R233). -/
def Channel.letGo (c : Channel) (now : Tick) (t : Nat) : Channel :=
  { c.deEnergise now with phase := .release, since := now, zeroBy := tickPlus now t }
/-- Channel `ch` changed by `f`. -/
def CourseDev.updChan (v : CourseDev) (ch : Nat) (f : Channel → Channel) : CourseDev := { v with chans := updAt ch f v.chans }
/-- An END goes out. -/
def CourseDev.sendEnd (v : CourseDev) (e : EndFrame) : CourseDev := { v with ends := (e :: v.ends).take 512 }
/-- Priming under way for the plans that `p` picks is released, and its current is zero within `t` ticks (R193, R206). -/
def CourseDev.unprime (v : CourseDev) (now : Tick) (t : Nat) (p : Nat → Bool) : CourseDev :=
  { v with chans := v.chans.map fun c => if c.phase == .prime && p c.slot then c.letGo now t else c }
/-- Plans that `p` picks leave, and their priming with them. -/
def CourseDev.dropPlans (v : CourseDev) (now : Tick) (p : DevPlan → Bool) (t : Nat := 400) : CourseDev :=
  let gone := (v.plans.filter p).map (·.slot)
  { v.unprime now t gone.contains with plans := v.plans.filter fun q => !p q }
/-- R268, R256: the uncommitted plans leave. -/
def CourseDev.dropUncommitted (v : CourseDev) (now : Tick) : CourseDev := v.dropPlans now fun p => !p.committed
/-- A fire is still to run or is running. -/
def CourseDev.busy (v : CourseDev) : Bool :=
  v.plans.any (·.committed) || v.chans.any fun c => c.phase == .peak || c.phase == .hold
/-- The course starts to drain (R256, R267). -/
def CourseDev.drain (v : CourseDev) (now : Tick) : CourseDev :=
  if v.state == .off || v.state == .draining then v
  else { v.dropUncommitted now with state := .draining, discharge := none }

/-! ### Receiving -/

/-- A valid downlink frame has arrived: its uplink is alive, a frame of the crown ends the wait of R268, and its seq is acknowledged when it is the next in order, or the
first since the counter was lost (R269). -/
def CourseDev.hear (v : CourseDev) (now : Tick) (d : Dn) : CourseDev :=
  let next := !v.aligned || v.lost || d.seq == v.rxSeq.getD d.up 0 + 1
  { v with
    lastRx := v.lastRx.set d.up now
    lost := v.lost && !(v.crownUp == some d.up && d.gen == v.gen)
    rxSeq := if next then v.rxSeq.set d.up d.seq else v.rxSeq
    acked := if next then d.seq else v.acked }
/-- R265: the frame is of the current generation and comes on the uplink that holds the crown. -/
def CourseDev.obeys (v : CourseDev) (d : Dn) : Bool := v.gen == d.gen && v.crownUp == some d.up
/-- A course that runs hears a frame; what it then does is `f`. -/
def State.devHear (s : State) (d : Dn) (f : CourseDev → CourseDev) : State :=
  if (s.dev d.course).powered then s.updDev d.course fun v => f (v.hear s.now d) else s
/-- R265, R502: a frame is executed only when it is of the current generation and comes on the crown uplink; every other one but CROWN is
discarded and counted. -/
def State.devDo (s : State) (d : Dn) (f : CourseDev → CourseDev) : State :=
  s.devHear d fun v => if v.obeys d then f v else { v with stale := v.stale + 1 }
/-- R268: an uplink that was lost executes nothing but ENABLE, and what COURSE ENABLE needs (R254: training, settings, and the DRAIN of an
enable that fails; assumption 61). -/
def CourseDev.waits (v : CourseDev) (d : Dn) : Bool := v.enableOnly.getD d.up false
/-- R268: after a loss the uplink executes none of the frames that drive the course until ENABLE. -/
def State.devDrive (s : State) (d : Dn) (f : CourseDev → CourseDev) : State :=
  s.devDo d fun v => if v.waits d then v else f v

/-- COURSE_RX_SYNC (R260): the counter stands at the tick carried plus the cable delay. -/
def courseRxSync (d : Dn) (t : Tick) (s : State) : State :=
  s.devDo d fun v =>
    let delay := roundDiv ((v.word 8).toNat % 65536 : Nat) 50
    { v with aligned := true, tickErr := tickDist s.now (tickPlus t delay) }
def execCourseRxSync (d : Dn) (t : Tick) (s : State) : Res := go (courseRxSync d t s)

/-- Table 7.10: the bits of a word that may be written. -/
def wordMask (a : Nat) : U32 :=
  let i := (a - 0x40) % 0x20
  if a = 8 || a = 9 then 0xFFFF
  else if a = 10 then 0x7F
  else if 0x40 ≤ a && a < 0x140 then if i = 1 then 0xFFFFFF else if i < 18 then 0xFFFFFFFF else 0
  else if 0x200 ≤ a && a < 0x240 then 7
  else 0
/-- R262: a word applies, unless it is read-only or reserved or has a reserved bit set. -/
def CourseDev.putWord (v : CourseDev) (a : Nat) (w : U32) : CourseDev :=
  if wordMask a = 0 || w &&& ~~~(wordMask a) != 0 then v else { v with words := assocSet a w v.words }
/-- COURSE_RX_CONFIG (R262). -/
def courseRxConfig (d : Dn) (addr : Nat) (ws : List U32) (s : State) : State :=
  s.devDo d fun v =>
    if (v.state == .off || v.state == .enabling) && addr % 4 = 0 then
      (ws.mapIdx fun i w => (addr + i, w)).foldl (fun v p => v.putWord p.1 p.2) v
    else v
def execCourseRxConfig (d : Dn) (addr : Nat) (ws : List U32) (s : State) : Res := go (courseRxConfig d addr ws s)

/-- Table 7.10: what a word reads as. -/
def CourseDev.readWord (v : CourseDev) (a : Nat) : U32 :=
  match a with
  | 0 => BitVec.ofNat 32 (leNat (bytesOf "KY-C"))
  | 1 => BitVec.ofNat 32 (leNat (bytesOf "64"))
  | 2 => v.serial
  | 3 => v.fw
  | 4 => BitVec.ofNat 32 (v.kind % 256 + 256 * (v.hwRev % 256))
  | 5 => 64
  | _ => v.word a
/-- COURSE_RX_QUERY (R263). -/
def courseRxQuery (d : Dn) (addr groups : Nat) (s : State) : State :=
  s.devDo d fun v =>
    if addr % 4 != 0 || groups < 1 || 64 < groups then v
    else { v with readbacks := (List.range groups).map fun g =>
        (addr + 4 * g, (List.range 4).map fun i => v.readWord (addr + 4 * g + i)) }
def execCourseRxQuery (d : Dn) (addr groups : Nat) (s : State) : Res := go (courseRxQuery d addr groups s)
/-- COURSE_RX_ECHO (R261 step 2). -/
def courseRxEcho (d : Dn) (t : Tick) (clk num : Nat) (s : State) : State :=
  s.devDo d fun v => { v with echoReply := some (num, t, clk) }
def execCourseRxEcho (d : Dn) (t : Tick) (clk num : Nat) (s : State) : Res := go (courseRxEcho d t clk num s)
/-- COURSE_RX_IDLE (R265, R268): the uplink stays alive; IDLE takes no seq (Table 7.5). -/
def courseRxIdle (d : Dn) (s : State) : State :=
  if (s.dev d.course).powered then
    s.updDev d.course fun v =>
      { v with
        lastRx := v.lastRx.set d.up s.now
        lost := v.lost && !(v.crownUp == some d.up && d.gen == v.gen)
        stale := if v.obeys d then v.stale else v.stale + 1 }
  else s
def execCourseRxIdle (d : Dn) (s : State) : Res := go (courseRxIdle d s)

/-- COURSE_RX_ENABLE (R254 steps 3 and 4): every phase is tested and taken into service, and the bank charges. -/
def courseRxEnable (d : Dn) (s : State) : State :=
  s.devDo d fun v =>
    let v := { v with enableOnly := v.enableOnly.set d.up false }
    if v.state == .off then { v with state := .enabling, phases := List.replicate 6 1, clamp := false, discharge := none } else v
def execCourseRxEnable (d : Dn) (s : State) : Res := go (courseRxEnable d s)
/-- COURSE_RX_DRAIN (R256, R257). -/
def courseRxDrain (d : Dn) (abort : Bool) (s : State) : State :=
  s.devDo d fun v =>
    if !abort then v.drain s.now
    else if v.state == .draining && v.discharge.isNone && !v.waits d then { v with state := .on } else v
def execCourseRxDrain (d : Dn) (abort : Bool) (s : State) : Res := go (courseRxDrain d abort s)

/-! ### Plans (R259, R264, R240) -/

/-- COURSE_RX_PLAN (R259, R235, R243): the plan stands in its slot; its ceiling is clamped at 45 %. -/
def courseRxPlan (d : Dn) (p : PlanBody) (s : State) : State :=
  s.devDrive d fun v =>
    if v.state != .on || 512 ≤ p.slot || (v.word 10).toNat % 128 ≤ p.ch then v
    else
      let q : DevPlan :=
        { slot := p.slot, ch := p.ch, prov := p.prov, primed := p.primed, ceil := min 45 p.ceil, profile := p.profile
          start := p.start, dur := 4 * p.durUs, lead := 4 * p.leadUs, gen := v.gen }
      { v with plans := v.plans.filter (fun r => !(r.slot == p.slot && r.gen == v.gen)) ++ [q] }
def execCourseRxPlan (d : Dn) (p : PlanBody) (s : State) : Res := go (courseRxPlan d p s)
/-- The mask names the plan: its slot, and no plan of the current generation stands in that slot beside it. -/
def CourseDev.named (v : CourseDev) (bank : Nat) (mask : BitVec 128) (p : DevPlan) : Bool :=
  p.slot / 128 = bank && mask.getLsbD (p.slot % 128) &&
    (p.gen == v.gen || !v.plans.any fun q => q.slot == p.slot && q.gen == v.gen)
/-- COURSE_RX_CONFIRM (R259). -/
def courseRxConfirm (d : Dn) (bank : Nat) (mask : BitVec 128) (s : State) : State :=
  s.devDrive d fun v => { v with plans := updAll (v.named bank mask) (fun p => { p with prov := false }) v.plans }
def execCourseRxConfirm (d : Dn) (bank : Nat) (mask : BitVec 128) (s : State) : Res := go (courseRxConfirm d bank mask s)
/-- COURSE_RX_COMMIT (R264). -/
def courseRxCommit (d : Dn) (bank : Nat) (mask : BitVec 128) (s : State) : State :=
  s.devDrive d fun v => { v with plans := updAll (v.named bank mask) (fun p => { p with committed := true, prov := false }) v.plans }
def execCourseRxCommit (d : Dn) (bank : Nat) (mask : BitVec 128) (s : State) : Res := go (courseRxCommit d bank mask s)
/-- COURSE_RX_DROP (R193): committed fires are never withdrawn (R187). The frame comes within 16 ticks of the tick at which the outcome
became final, and the current is zero within 400 ticks of that tick: within 384 ticks of the release. -/
def courseRxDrop (d : Dn) (bank : Nat) (mask : BitVec 128) (s : State) : State :=
  s.devDrive d fun v => v.dropPlans s.now (fun p => v.named bank mask p && !p.committed) 384
def execCourseRxDrop (d : Dn) (bank : Nat) (mask : BitVec 128) (s : State) : Res := go (courseRxDrop d bank mask s)
/-- COURSE_RX_EXTEND (R240): the RELEASE tick of a committed fire moves, when the frame comes before it by the course's own tick. As with a
mask, a plan of the current generation is meant before one of an older. -/
def courseRxExtend (d : Dn) (slot dur : Nat) (s : State) : State :=
  s.devDrive d fun v =>
    let hit (p : DevPlan) : Bool :=
      p.slot == slot && p.committed && tickBefore (v.tick s.now) (tickPlus p.start p.dur) &&
        (p.gen == v.gen || !v.plans.any fun q => q.slot == slot && q.gen == v.gen)
    match v.plans.find? hit with
    | none => v
    | some p =>
      { v with
        plans := updFirst hit (fun p => { p with dur := 4 * dur }) v.plans
        chans := v.chans.map fun c =>
          if (c.phase == .peak || c.phase == .hold) && c.slot == slot && c.gen == p.gen then { c with releaseAt := tickPlus p.start (4 * dur) } else c }
def execCourseRxExtend (d : Dn) (slot dur : Nat) (s : State) : Res := go (courseRxExtend d slot dur s)

/-! ### The crown as a course sees it (R503) -/

/-- R503: the frame makes the course adopt. -/
def CourseDev.adopts (v : CourseDev) (now : Tick) (up : Nat) (new : U32) : Bool :=
  laterGen v.gen new &&
    match v.crownUp with
    | none => true
    | some c => up == c || 2400 < ticksFrom (v.lastRx.getD c 0) now || v.handover == some new
/-- R503: on adoption without HANDOVER, fires in PEAK or HOLD and committed plans before H stand; every other plan goes. -/
def CourseDev.keepsPlan (v : CourseDev) (h : Tick) (p : DevPlan) : Bool :=
  (p.committed && tickBefore p.start h) ||
    v.chans.any fun c => (c.phase == .peak || c.phase == .hold) && c.slot == p.slot && c.gen == p.gen
/-- R503: the course adopts a generation. -/
def CourseDev.adopt (v : CourseDev) (now : Tick) (up : Nat) (new : U32) (h : Tick) : CourseDev :=
  let v := if v.handover == some new then v else v.dropPlans now fun p => !v.keepsPlan h p
  { v with gen := new, crownUp := some up, handover := none, lost := false }
/-- COURSE_RX_CROWN (R502, R503): a HANDOVER on the crown uplink names the generation that may come on the other. -/
def courseRxCrown (d : Dn) (gen : U32) (horizon : Tick) (handover : Bool) (s : State) : State :=
  if !(s.dev d.course).powered then s
  else s.updDev d.course fun v =>
    let heard := v.hear s.now d
    if handover then if v.crownUp == some d.up then { heard with handover := some gen } else heard
    else if v.adopts s.now d.up gen then heard.adopt s.now d.up gen horizon
    else heard
def execCourseRxCrown (d : Dn) (gen : U32) (horizon : Tick) (handover : Bool) (s : State) : Res :=
  go (courseRxCrown d gen horizon handover s)

/-! ### Channels (R232–R234, R248) -/

/-- The plans of a channel whose fires have not begun, by fire start. -/
def CourseDev.plansOn (v : CourseDev) (ch : Nat) : List DevPlan :=
  sortBy (fun (a b : DevPlan) => tickBefore a.start b.start)
    (v.plans.filter fun p => p.ch == ch && !v.chans.any fun c =>
      (c.phase == .peak || c.phase == .hold) && c.slot == p.slot && c.gen == p.gen)
/-- The next plan of a channel. -/
def CourseDev.planOn (v : CourseDev) (ch : Nat) : Option DevPlan := (v.plansOn ch).head?
/-- R193, R195: a plan primes now: planned as primed, between its priming start and its fire start; not an unconfirmed PROV while the boost
is not ready. -/
def CourseDev.primes (v : CourseDev) (t : Tick) (p : DevPlan) : Bool :=
  p.primed && p.lead != 0 && tickLe (tickPlus p.start (-p.lead)) t && tickBefore t p.start && (!p.prov || v.ready)
/-- COURSE_PRIME_START (R193–R195, R234): from OFF, for the first plan of the channel that primes now. -/
def coursePrimeStart (n ch : Nat) (s : State) : State :=
  let v := s.dev n
  match (v.plansOn ch).find? (v.primes (v.tick s.now)) with
  | none => s
  | some p =>
    if v.powered && (v.chans.getD ch {}).isOff s.now then
      s.updDev n fun v => v.updChan ch fun c =>
        { c with
          phase := .prime
          slot := p.slot
          since := s.now
          ceil := p.ceil
          profile := p.profile
          reached := false
          gen := p.gen
          onSince := some s.now }
    else s
def execCoursePrimeStart (n ch : Nat) (s : State) : Res := go (coursePrimeStart n ch s)

/-- A plan whose fire does not begin: its END, and its priming ends. -/
def CourseDev.refusePlan (v : CourseDev) (now : Tick) (code : Nat) (p : DevPlan) : CourseDev :=
  (v.dropPlans now fun q => q.slot == p.slot && q.gen == p.gen).sendEnd { slot := p.slot, code := code, release := now }
/-- The channel still carries a fire of an older generation (R504). -/
def CourseDev.bounded (v : CourseDev) (now : Tick) (p : DevPlan) : Bool :=
  let c := v.chans.getD p.ch {}
  !c.isOff now && c.phase != .prime && c.gen != p.gen
/-- PEAK begins. -/
def CourseDev.startPeak (v : CourseDev) (now : Tick) (p : DevPlan) (reached : Bool) : CourseDev :=
  v.updChan p.ch fun c =>
    { c with
      phase := .peak
      reached := c.phase == .prime && c.slot == p.slot && reached
      slot := p.slot
      since := now
      releaseAt := tickPlus p.start p.dur
      ceil := p.ceil
      profile := p.profile
      gen := p.gen
      onSince := some (c.onSince.getD now) }
/-- R195: while the boost is not ready, priming for unconfirmed PROV plans ends. -/
def CourseDev.shed (v : CourseDev) (now : Tick) : CourseDev :=
  if v.ready then v else v.unprime now 400 fun i => v.plans.any fun p => p.slot == i && p.prov
/-- COURSE_PEAK_START (R195, R206, R248, R504): at the fire start. A bank below V_ready sheds the priming of unconfirmed PROV plans, then
refuses every plan with that start. -/
def coursePeakStart (n ch : Nat) (reached : Bool) (s : State) : State :=
  let v := s.dev n
  match v.planOn ch with
  | none => s
  | some p =>
    if !v.powered || tickBefore (v.tick s.now) p.start then s
    else if !p.committed then s.updDev n fun v => v.refusePlan s.now 2 p
    else if v.bounded s.now p then s.updDev n fun v => v.refusePlan s.now 3 p
    else if v.ready then s.updDev n fun v => v.startPeak s.now p reached
    else s.updDev n fun v =>
      (v.plans.filter fun q => q.start == p.start && q.committed).foldl (fun v q => v.refusePlan s.now 1 q) (v.shed s.now)
def execCoursePeakStart (n ch : Nat) (reached : Bool) (s : State) : Res := go (coursePeakStart n ch reached s)

/-! ### The current of a channel (R232, R237, R242) -/

/-- Table 7.10: word `i` of profile table `k`. -/
def CourseDev.profWord (v : CourseDev) (k i : Nat) : Nat := (v.word (0x40 + 0x20 * (k % 8) + i)).toNat
/-- I_peak and I_hold of a table, in mA. -/
def CourseDev.iPeak (v : CourseDev) (k : Nat) : Nat := v.profWord k 0 % 65536
def CourseDev.iHold (v : CourseDev) (k : Nat) : Nat := v.profWord k 1 % 65536
/-- The ramp of a table: (0, I_peak), then its points (t_j in ticks, i_j in mA). -/
def CourseDev.ramp (v : CourseDev) (k : Nat) : List (Nat × Nat) :=
  (0, v.iPeak k) :: (List.range (v.profWord k 1 / 65536 % 256)).map fun j =>
    (4 * (v.profWord k (2 + j) % 65536), v.profWord k (2 + j) / 65536)
/-- R237: the target at `t` ticks along a ramp, as a fraction in mA; none from its last point on. -/
def rampAt (t : Nat) : List (Nat × Nat) → Option (Int × Nat)
  | a :: b :: rest =>
    if t < b.1 then some ((a.2 : Int) * (b.1 - a.1 : Nat) + ((b.2 : Int) - a.2) * (t - a.1 : Nat), b.1 - a.1) else rampAt t (b :: rest)
  | _ => none
/-- R237: the HOLD current target `t` ticks after the end of PEAK, as a fraction in mA. -/
def CourseDev.holdTarget (v : CourseDev) (k t : Nat) : Int × Nat := (rampAt t (v.ramp k)).getD (v.iHold k, 1)

/-- Table 7.1: how a channel is driven: what is applied, and the current it is held to as a fraction in mA. -/
inductive Drive where
  /-- OFF: no current. -/
  | none
  /-- PRIME: from the boost, chopped at the priming ceiling. -/
  | prime (num : Int) (den : Nat)
  /-- PEAK: boost voltage applied, current rising to I_peak. -/
  | peak (num : Int) (den : Nat)
  /-- HOLD: from the course field supply, chopped at the target. -/
  | hold (num : Int) (den : Nat)
  /-- RELEASE: the active clamp. -/
  | clamp
deriving DecidableEq, Repr
/-- Table 7.1, R237, R242: the drive of channel `ch`. -/
def CourseDev.drive (v : CourseDev) (now : Tick) (ch : Nat) : Drive :=
  let c := v.chans.getD ch {}
  match c.phase with
  | .off => .none
  | .prime => .prime ((c.ceil : Int) * v.iPeak c.profile) 100
  | .peak => .peak (v.iPeak c.profile) 1
  | .hold => let x := v.holdTarget c.profile (ticksFrom c.since now); .hold x.1 x.2
  | .release => if tickLe c.zeroBy now then .none else .clamp

/-- t_peak_max of the fire in progress on a channel, in ticks (Table 7.10). -/
def CourseDev.peakMax (v : CourseDev) (ch : Nat) : Nat := 4 * (v.profWord (v.chans.getD ch {}).profile 0 / 65536)
/-- COURSE_PEAK_END (R232): I_peak is reached, or t_peak_max has expired; HOLD follows. -/
def coursePeakEnd (n ch : Nat) (peak : Bool) (s : State) : State :=
  s.updDev n fun v =>
    let c := v.chans.getD ch {}
    if v.powered && c.phase == .peak && (peak || v.peakMax ch ≤ ticksFrom c.since s.now) then
      v.updChan ch fun c => { c with phase := .hold, since := s.now }
    else v
def execCoursePeakEnd (n ch : Nat) (peak : Bool) (s : State) : Res := go (coursePeakEnd n ch peak s)
/-- COURSE_RELEASE_START (R233): at s + D the current falls, within 150 µs, and the end of the fire is reported. -/
def courseReleaseStart (n ch : Nat) (s : State) : State :=
  s.updDev n fun v =>
    let c := v.chans.getD ch {}
    if v.powered && (c.phase == .peak || c.phase == .hold) && tickLe c.releaseAt (v.tick s.now) then
      let v := { v with plans := v.plans.filter fun p => !(p.slot == c.slot && p.gen == c.gen) }
      (v.updChan ch fun c => c.letGo s.now 600).sendEnd
        { slot := c.slot, code := 0, primed := c.reached, release := v.tick s.now }
    else v
def execCourseReleaseStart (n ch : Nat) (s : State) : Res := go (courseReleaseStart n ch s)

/-! ### Boost and STATUS (R245, R254, R256, R267) -/

/-- What the course does before it reports: it charges its bank while it may, and discharges it at the end of a drain. -/
def CourseDev.settle (v : CourseDev) (now : Tick) : CourseDev :=
  let charge := !v.low && !v.clamp && 0 < v.working
  match v.state with
  | .off => { v with bankV := 0 }
  | .enabling => if charge then { v with bankV := v.setpoint, state := .on } else v
  | .on => if charge then { v with bankV := v.setpoint } else v
  | .draining =>
    if v.busy then v
    else match v.discharge with
      | none => { v with discharge := some now }
      | some t => if t == now then v else { v with state := .off, bankV := 0, discharge := none }
/-- R492: a valid frame has come on the crown uplink within 400 ticks. -/
def CourseDev.crownLive (v : CourseDev) (now : Tick) : Bool :=
  v.crownUp.elim false fun c => ticksFrom (v.lastRx.getD c 0) now ≤ 400
/-- The STATUS of a course (Table 7.6). -/
def CourseDev.statusOf (v : CourseDev) (now : Tick) : Status :=
  { at_ := now, st := v.state, ready := v.ready, bankV := v.bankV, fieldV := v.fieldV, phases := v.phases, n := v.working
    gen := v.gen, crownLive := v.crownLive now }
/-- COURSE_STATUS_SEND (R245). -/
def courseStatusSend (n : Nat) (s : State) : State :=
  if !(s.dev n).powered then s
  else s.updDev n fun v =>
    let v := (v.settle s.now).shed s.now
    { v with statusAt := s.now, statusSent := some (v.statusOf s.now) }
def execCourseStatusSend (n : Nat) (s : State) : Res := go (courseStatusSend n s)

/-- BOOST_PHASE_FAULT (R267): the phase is marked LOST or SENSE and stopped; with none left the course drains. -/
def boostPhaseFault (n phase : Nat) (sense : Bool) (s : State) : State :=
  s.updDev n fun v =>
    if !v.powered || v.phases.getD (ix phase) 0 != 1 then v
    else
      let v := { v with phases := v.phases.set (ix phase) (if sense then 3 else 2) }
      if v.working = 0 then v.drain s.now else v
def execBoostPhaseFault (n phase : Nat) (sense : Bool) (s : State) : Res := go (boostPhaseFault n phase sense s)
/-- BOOST_OVERVOLTAGE (R267): switching stops, the bank is clamped, the course drains. -/
def boostOvervoltage (n : Nat) (s : State) : State :=
  s.updDev n fun v => if v.powered && v.state != .off then { v.drain s.now with clamp := true } else v
def execBoostOvervoltage (n : Nat) (s : State) : Res := go (boostOvervoltage n s)

/-! ### Field supply and uplink (R267, R268) -/

/-- COURSE_FIELD_SUPPLY_LOW (R267): below 18.0 V switching stops, so the boost is not ready, and priming for unconfirmed PROV
plans ends (R195). The bank's voltage has no stated
value then: it is a free value below V_ready (assumption 4). -/
def courseFieldSupplyLow (n v : Nat) (s : State) : State :=
  if !(s.dev n).powered || 1800 ≤ v then s
  else
    let x := s.freeWord.toNat
    s.drew.updDev n fun d =>
      CourseDev.shed { d with fieldV := v, low := true, bankV := if d.ready then x % ((9 * d.setpoint + 9) / 10) else d.bankV } s.now
def execCourseFieldSupplyLow (n v : Nat) (s : State) : Res := go (courseFieldSupplyLow n v s)
/-- A course at power-up, or without power: only what the device is stays. -/
def CourseDev.bare (d : CourseDev) (v : Nat) : CourseDev :=
  { kind := d.kind, serial := d.serial, fw := d.fw, hwRev := d.hwRev, fieldV := v }
/-- COURSE_FIELD_SUPPLY_LOSS (R267, R548): below 14.0 V the electronics stop. -/
def courseFieldSupplyLoss (n v : Nat) (s : State) : State :=
  if 1400 ≤ v then s else s.updDev n fun d => d.bare v
def execCourseFieldSupplyLoss (n v : Nat) (s : State) : Res := go (courseFieldSupplyLoss n v s)
/-- COURSE_FIELD_SUPPLY_RETURN (R267, R548): at 19.2 V or more a course that lost its electronics starts from power-up; one that
only stopped switching recharges. -/
def courseFieldSupplyReturn (n v : Nat) (s : State) : State :=
  if v < 1920 then s
  else s.updDev n fun d => if d.powered then { d with fieldV := v, low := false } else { d.bare v with powered := true }
def execCourseFieldSupplyReturn (n v : Nat) (s : State) : Res := go (courseFieldSupplyReturn n v s)

/-- COURSE_UPLINK_SILENCE (R268): 400 ticks without a valid frame on the crown uplink. -/
def courseUplinkSilence (n : Nat) (s : State) : State :=
  s.updDev n fun v =>
    let silent := v.crownUp.elim false fun c => 400 ≤ ticksFrom (v.lastRx.getD c 0) s.now
    if v.powered && silent && !v.lost then
      { v.dropUncommitted s.now with
        lost := true, lostAt := s.now, enableOnly := v.crownUp.elim v.enableOnly fun c => v.enableOnly.set c true }
    else v
def execCourseUplinkSilence (n : Nat) (s : State) : Res := go (courseUplinkSilence n s)
/-- COURSE_ORPHAN_DRAIN (R268): 2 s after the loss, without a crown frame, the course drains itself. -/
def courseOrphanDrain (n : Nat) (s : State) : State :=
  s.updDev n fun v => if v.powered && v.lost && secT 2 ≤ ticksFrom v.lostAt s.now then v.drain s.now else v
def execCourseOrphanDrain (n : Nat) (s : State) : Res := go (courseOrphanDrain n s)

end Sys2Proof.Machine
end

