-- ==== Sys2Proof/Machine/Faults.lean ====
section
/-! DEFINITION. Conditions from outside that the Keystone records or that lead to FAULT: the reference clock, the field bank, the
supply and the environment (chapters 1, 4, 11, 16 and 17). -/
namespace Sys2Proof.Machine

/-- CLOCK_LOCK_LOSS (R35): LINE SYNC stops at once, and the unit enters FAULT. -/
def clockLockLoss (s : State) : State :=
  if !s.awake || !s.clk.refLocked then s
  else
    let s : State := { s with clk.refLocked := false }
    ((s.event 0x1011 0 0).stopLineSync).enterFault 0
def execClockLockLoss (s : State) : Res := go (clockLockLoss s)
/-- REFERENCE_CLOCK_LOCK (R154): the 1 s that clears cause [0] starts. -/
def referenceClockLock (s : State) : State :=
  if s.awake && !s.clk.refLocked then { s with clk.refLocked := true, clk.lockedSince := s.now } else s
def execReferenceClockLock (s : State) : Res := go (referenceClockLock s)

/-- FIELD_FAULT_BIT (R373, R374): the bit is recorded; it fails a bring-up (R149). -/
def fieldFaultBit (set : Bool) (s : State) : State :=
  if !s.exchanges || set == s.fld.fault then s
  else
    let s := State.event { s with fld.fault := set } (if set then 0x6010 else 0x6011) 9 0
    if set then s.failBringup 601 "field fault" else s
def execFieldFaultBit (set : Bool) (s : State) : Res := go (fieldFaultBit set s)
/-- R36, R392: the FIELD link is lost. -/
def State.loseField (s : State) : State :=
  if !s.fld.link.up then s
  else
    let s := s.updLink .field fun x => { x with up := false, training := false, sent := [] }
    ((s.event 0x6012 9 0).fieldLost).enterFault 1
/-- FIELD_LINK_LOSS (R392). -/
def fieldLinkLoss (s : State) : State := if s.awake then s.loseField else s
def execFieldLinkLoss (s : State) : Res := go (fieldLinkLoss s)

/-- EV_MRAM_FAIL (R536): a flush or a new ceiling could not be written; flushing stops and cause [4] is set. -/
def evMramFail (ceiling : Bool) (s : State) : State :=
  if !s.awake || s.evr.mramFailed then s
  else
    let c := if ceiling then s.evr.ceiling - 8192 else s.evr.ceiling
    State.enterFault { s with evr.mramFailed := true, evr.ceiling := c } 4
def execEvMramFail (ceiling : Bool) (s : State) : Res := go (evMramFail ceiling s)

/-- SUPPLY_BELOW_COLLAPSE (R160): the bus falls below 17.0 V. In DARK that is what Table 4.2 asks for after an image failure. -/
def supplyBelowCollapse (bus : Nat) (s : State) : State :=
  if 1700 ≤ bus then s
  else if s.ctl.state == .dark then { s with ctl.bus := bus, ctl.imageFail := false }
  else { s with ctl.bus := bus, ctl.belowSince := some (s.ctl.belowSince.getD s.now) }
def execSupplyBelowCollapse (bus : Nat) (s : State) : Res := go (supplyBelowCollapse bus s)
/-- R160: the bus as measured at 17.0 V or above; a NOTE once for each entry below 19.2 V. -/
def State.takeBus (s : State) (bus : Nat) : State :=
  let s : State := { s with ctl.bus := bus }
  if 1920 ≤ bus then { s with ctl.lowNoted := false }
  else if s.ctl.lowNoted then s
  else State.event { s with ctl.lowNoted := true } 0x1022 0 0 bus
/-- SUPPLY_DIP_END (R160): back above 17.0 V within 2 ms: a NOTE with the lowest voltage. -/
def supplyDipEnd (low bus : Nat) (s : State) : State :=
  match s.ctl.belowSince with
  | none => s
  | some t =>
    if bus < 1700 || msT 2 ≤ ticksFrom t s.now || s.ctl.state == .collapse then s
    else (State.event { s with ctl.belowSince := none } 0x1021 0 0 low).takeBus bus
def execSupplyDipEnd (low bus : Nat) (s : State) : Res := go (supplyDipEnd low bus s)
/-- SUPPLY_LOW (R160). -/
def supplyLow (bus : Nat) (s : State) : State := if !s.awake || bus < 1700 then s else s.takeBus bus
def execSupplyLow (bus : Nat) (s : State) : Res := go (supplyLow bus s)
/-- R162: the measured energy of the hold-up bank; below the need it is a FAULT event, and refuses STATE READY (Table 4.6). -/
def State.setHoldup (s : State) (pct : Nat) : State :=
  let s : State := { s with ctl.holdup := min 200 pct, ctl.holdupOk := 100 ≤ pct }
  if pct < 100 then s.event 0x1030 0 0 pct else s
/-- HOLDUP_MEASURE (R162): once an hour. It does not end RUN; a bring-up it meets fails (R149). -/
def holdupMeasure (pct : Nat) (s : State) : State :=
  if !s.awake || s.ctl.state == .collapse then s
  else
    let s := s.setHoldup pct
    if pct < 100 then s.failBringup 601 "hold-up energy" else s
def execHoldupMeasure (pct : Nat) (s : State) : Res := go (holdupMeasure pct s)
/-- SUPPLY_INPUT_LOST (R545). -/
def supplyInputLost (b : Bool) (s : State) : State :=
  let i := if b then 1 else 0
  if !s.awake || s.ctl.inputLost.getD i true || s.ctl.belowSince.isSome then s
  else State.event { s with ctl.inputLost := s.ctl.inputLost.set i true } 0x1052 0 0 i
def execSupplyInputLost (b : Bool) (s : State) : Res := go (supplyInputLost b s)
/-- SUPPLY_INPUT_RESTORED (R545). -/
def supplyInputRestored (b : Bool) (s : State) : State :=
  let i := if b then 1 else 0
  if !s.awake || !s.ctl.inputLost.getD i false then s
  else State.event { s with ctl.inputLost := s.ctl.inputLost.set i false } 0x1053 0 0 i
def execSupplyInputRestored (b : Bool) (s : State) : Res := go (supplyInputRestored b s)

/-- COOLING_FAN_STOP (R539). -/
def coolingFanStop (i : Nat) (s : State) : State :=
  if !s.awake || !s.ctl.coolRun.getD (ix i) false then s
  else State.event { s with ctl.coolRun := s.ctl.coolRun.set (ix i) false, ctl.coolRpm := s.ctl.coolRpm.set (ix i) 0 } 0x1050 0 0 i
def execCoolingFanStop (i : Nat) (s : State) : Res := go (coolingFanStop i s)
/-- OVER_TEMPERATURE (R539): FAULT 0x1051 above 85 °C, at most once a minute. -/
def overTemperature (t : Int) (s : State) : State :=
  if !s.awake then s
  else
    let s : State := { s with ctl.temp := t }
    if t ≤ 85 || s.ctl.overTempAt.elim false (fun a => ticksFrom a s.now < secT 60) then s
    else State.event { s with ctl.overTempAt := some s.now } 0x1051 0 0 t.toNat
def execOverTemperature (t : Int) (s : State) : Res := go (overTemperature t s)

end Sys2Proof.Machine
end

