-- ==== Sys2Proof/Machine/Fjart.lean ====
section
/-! DEFINITION. The sessions of Fjart (chapter 2): the bytes and lines they receive, the lines refused before any verb, tags
repeated, modes, logins and their challenges. -/
namespace Sys2Proof.Machine

/-! ### Opening and ending a session -/

/-- The text session of a connection (R38). -/
def State.textSession? (s : State) (c : Nat) : Option Session := s.sessions.find? fun x => x.conn == some c
/-- R38: the lowest index from 1 to 8 that no open text session holds. -/
def State.freeIndex (s : State) : Option Nat :=
  (([1, 2, 3, 4, 5, 6, 7, 8] : List Nat)).find? fun i => (s.session? i).isNone
/-- R90: a text session ends; its pending operations run on and their outcomes will be recorded. -/
def State.endSession (s : State) (i : Nat) : State :=
  match s.session? i with
  | none => s
  | some x =>
    { s with
      sessions := s.sessions.filter fun y => y.idx != i
      orphans := s.orphans ++ x.pend.map fun p => (i, p) }

/-! ### Lines received -/

/-- A line without a token, which gets no reply (R46). -/
def blankLine (text : List Byte) : Bool := text.all blank
/-- R43: a received line waits for its execution; a fifth is answered at once, and an empty one ignored. `bad`: it is
malformed whatever its bytes (R39, R89). R87: a host line starts the idle time again. DESIGN CHOICE: whether an ignored line does is left
open; in the model it does not (assumption 58). -/
def State.receiveLine (s : State) (i : Nat) (text : List Byte) (bad : Bool) : State :=
  match s.session? i with
  | none => s
  | some x =>
    if blankLine text && !bad then s.prompt i
    else if x.input.length ≥ 4 then (s.say i { tag := x.replyTag text, out := .err 302 "input full" }).prompt i
    else s.updSession i fun x =>
      { x with
        input := x.input ++ [{ text := text, bad := bad, at_ := s.now }]
        idleSince := s.now }

/-- The complete lines of a payload and the bytes after its last terminator (R39, R45). -/
def splitLines : List Byte → List Byte → List (List Byte) × List Byte
  | cur, [] => ([], cur)
  | cur, [b] => if b = 13 || b = 10 then ([cur], []) else ([], cur ++ [b])
  | cur, b :: c :: rest =>
    if b = 13 && c = 10 then let (l, t) := splitLines [] rest; (cur :: l, t)
    else if b = 13 || b = 10 then let (l, t) := splitLines [] (c :: rest); (cur :: l, t)
    else splitLines (cur ++ [b]) (c :: rest)
/-- R39: the lines of a SEND enter a session; bytes after the last terminator are a malformed line. -/
def State.receiveText (s : State) (i : Nat) (payload : List Byte) : State :=
  let (ls, tail) := splitLines [] payload
  let s := ls.foldl (fun s l => s.receiveLine i l false) s
  if tail.isEmpty then s else s.receiveLine i tail true

/-! ### CONSOLE bytes -/

/-- The bytes go out as an echo (R54). -/
def Session.echo (x : Session) (b : List Byte) : Session := x.say { out := .echo b }
/-- A character joins the line being entered: in TYPED mode it is echoed, or answered with BEL beyond the 200th (R54). -/
def Session.enterByte (x : Session) (b : Byte) (err : Bool) : Session :=
  let y : Session := { x with partialLine := x.partialLine ++ [b], spoiled := x.spoiled || err }
  if x.mode == .typed then y.echo (if x.partialLine.length < 200 then [b] else [7]) else y
/-- The line being entered is empty again. -/
def Session.clearLine (x : Session) : Session := { x with partialLine := [], spoiled := false, escape := false }
/-- The terminator of the line being entered (R45). -/
def State.consoleEnd (s : State) (b : Byte) : State :=
  match s.session? 0 with
  | none => s
  | some x =>
    if b = 10 && x.lastCr then s.updSession 0 fun x => { x with lastCr := false }
    else
      let s := s.updSession 0 fun x => ({ x with lastCr := b == 13 } : Session).clearLine
      let s := s.updSession 0 fun x => if x.mode == .typed then x.echo [13, 10] else x
      s.receiveLine 0 x.partialLine x.spoiled
/-- An editing key of TYPED mode (Table 2.3). DESIGN CHOICE: a line in which a byte came with a framing or parity error stays malformed
(R89) even when that byte is deleted; the manual leaves it open (assumption 58). -/
def Session.edit (x : Session) (b : Byte) : Session :=
  if b = 0x15 then ({ x with partialLine := [] } : Session).echo [b]
  else if x.partialLine.isEmpty then x
  else ({ x with partialLine := x.partialLine.dropLast } : Session).echo [b]

/-- CONSOLE_CHAR (R45, R54, R56, R89, Table 2.3). -/
def consoleChar (b : Byte) (err : Bool) (s : State) : State :=
  match s.session? 0 with
  | none => s
  | some x =>
    if !err && (b = 13 || b = 10) && !x.escape then s.consoleEnd b
    else
      let s := s.updSession 0 fun x => { x with lastCr := false }
      if x.mode != .typed || err then s.updSession 0 (·.enterByte b err)
      else if x.escape then
        s.updSession 0 fun x => { x with escape := !(0x40 ≤ b.toNat && b.toNat ≤ 0x7E) }
      else if b = 0x1B then s.updSession 0 fun x => { x with escape := true }
      else if b = 0x03 then (s.updSession 0 (·.clearLine)).prompt 0
      else if b = 0x08 || b = 0x7F || b = 0x15 then s.updSession 0 (·.edit b)
      else s.updSession 0 (·.enterByte b false)
def execConsoleChar (b : Byte) (err : Bool) (s : State) : Res := go (consoleChar b err s)

/-- CONSOLE_BREAK (R89): a break condition counts as Ctrl-C. -/
def consoleBreak (s : State) : State := consoleChar 3 false s
def execConsoleBreak (s : State) : Res := go (consoleBreak s)

/-! ### Lines that run no verb -/

/-- FJART_LINE_REFUSED (R68): the line at the head of a session's input, whose turn it is, has a fault of its bytes, length, check, tag,
tokens, verb or arguments: it is answered with the first code and has no effect. -/
def fjartLineRefused (ses : Nat) (text : List Byte) (s : State) : State :=
  match s.fate ses text with
  | .ignore => (s.lineDropped ses).prompt ses
  | .refuse c => s.lineRefused ses text c
  | _ => s
def execFjartLineRefused (ses : Nat) (text : List Byte) (s : State) : Res := go (fjartLineRefused ses text s)

/-- TAG_REPEAT (R58): the earlier reply goes out again, and nothing is executed. -/
def tagRepeat (ses : Nat) (text : List Byte) (s : State) : State :=
  match s.fate ses text with
  | .again => s.lineAgain ses
  | _ => s
def execTagRepeat (ses : Nat) (text : List Byte) (s : State) : Res := go (tagRepeat ses text s)

/-! ### Mode -/

/-- The mode as MODE writes it (R78). -/
def modeText : SesMode → String
  | .typed => "TYPED" | .gen => "GEN" | .genCheck => "GEN CHECK"
/-- The session's mode changes; any MODE GEN lets the next line carry any tag (R56). -/
def Session.setMode (x : Session) (m : SesMode) : Session :=
  { x with mode := m, anyTag := true, lastTag := if m == .typed || x.mode == .typed then none else x.lastTag }
/-- An operation of the line's session is pending. -/
def State.sessionPends (s : State) (ln : Ln) : Bool := (s.session? ln.ses).elim false fun x => !x.pend.isEmpty

/-- MODE (R78): the reply goes out in the old mode. -/
def modeSet (ln : Ln) (m : SesMode) (s : State) : State :=
  s.verb ln .none fun s =>
    if s.sessionPends ln then refuse s 302
    else ((s.answer ln (.ok (modeText m))).updSession ln.ses (·.setMode m), none)
def execMode (ln : Ln) (m : SesMode) (s : State) : Res := go (modeSet ln m s)

/-- The name of an event level. -/
def evLevelText : EvLevel → String
  | .none => "NONE" | .info => "INFO" | .note => "NOTE" | .fault => "FAULT" | .alarm => "ALARM"
/-- R70: the event levels of CONSOLE and of a text queue. -/
def evLevelAllowed (ses : Nat) (l : EvLevel) : Bool := ses != 0 || l == .info || l == .note || l == .fault
/-- MODE_EVENTS (R70, R78). -/
def modeEvents (ln : Ln) (l : EvLevel) (s : State) : State :=
  s.verb ln .none fun s =>
    if !evLevelAllowed ln.ses l then refuse s 401
    else if s.sessionPends ln then refuse s 302
    else done (s.updSession ln.ses fun x => { x with evLevel := l }) ("EVENTS " ++ evLevelText l)
def execModeEvents (ln : Ln) (l : EvLevel) (s : State) : Res := go (modeEvents ln l s)

/-! ### LOGIN -/

/-- The name of a level. -/
def levelText : Level → String
  | .none => "NONE" | .view => "VIEW" | .operate => "OPERATE" | .engineer => "ENGINEER" | .factory => "FACTORY"
/-- R82: the session is locked out. -/
def Session.locked (x : Session) (now : Tick) : Bool := x.lockedUntil.elim false fun t => tickBefore now t
/-- The key of a level, when it is set (R80, R81, R86). -/
def State.levelKey (s : State) (lv : Level) : Option (List Byte) :=
  match lv with
  | .operate => if s.isSet 0x040 then some (s.key 0x040) else none
  | .engineer => if s.isSet 0x041 then some (s.key 0x041) else none
  | .factory => some Config.factoryKey
  | _ => none

/-- A level is granted (R80, R524): at OPERATE and above it takes a login id; NOTE 0xA004 names the person; ENGINEER and
FACTORY count as fresh authentication (R84). -/
def State.grant (s : State) (ses : Nat) (lv : Level) (who : List Byte) : State :=
  let high := levelRank lv ≥ 2
  let s : State := { s with evr.login := if high then s.evr.login + 1 else s.evr.login }
  let id : U32 := if high then s.evr.login else 0
  let s := s.updSession ses fun x =>
    { x with
      level := lv
      loginId := id
      name := who
      challenge := none
      freshAt := if levelRank lv ≥ 3 then some s.now else none }
  s.event 0xA004 0x0E ses id.toNat (leNat (sliceB who 0 4)) (leNat (sliceB who 4 4)) (leNat (sliceB who 8 4))

/-- A challenge is issued (R80); it replaces an unanswered one (R82). -/
def State.challenge (s : State) (ses : Nat) (lv : Level) (who : List Byte) : State × U32 :=
  let v := BitVec.ofNat 32 (beNat (s.randomBytes 4))
  (s.drew.updSession ses fun x =>
    { x with challenge := some { level := lv, value := v, at_ := s.now }, asked := who }, v)

/-- LOGIN (R80, R82, R86); the refusals in the order of R68: 102, 201, 401. -/
def login (ln : Ln) (lv : Level) (who : List Byte) (s : State) : State :=
  s.verb ln .none fun s =>
    if lv == .none then refuse s 102
    else if (s.session? ln.ses).elim false fun x => x.locked s.now then refuse s 201 "locked"
    else if lv != .view && (s.levelKey lv).isNone && !(lv == .engineer && ln.ses = 0) then refuse s 201 "no key"
    else if 16 < who.length then refuse s 401
    else if lv == .view then done (s.grant ln.ses .view who) "VIEW"
    else if (s.levelKey lv).isNone then done ((s.event 0xA003 0x0E 0).grant 0 .engineer who) "ENGINEER"
    else
      let (t, v) := s.challenge ln.ses lv who
      done t ("challenge " ++ hexText 8 v.toNat)
def execLogin (ln : Ln) (lv : Level) (who : List Byte) (s : State) : Res := go (login ln lv who s)

/-- R81: the message a response signs. -/
def loginMessage (lv : Level) (challenge : U32) : List Byte :=
  bytesOf "KY620|" ++ unitSerial ++ bytesOf ("|" ++ levelText lv ++ "|" ++ hexText 8 challenge.toNat)
/-- R81: the response that the key of a level gives to a challenge. -/
def loginResponse (key : List Byte) (lv : Level) (challenge : U32) : U32 :=
  BitVec.ofNat 32 (beNat ((hmac key (loginMessage lv challenge)).take 4))
/-- R82: a failed response: NOTE 0xA001; the fifth of the session locks it for 60 s. -/
def State.failLogin (s : State) (ses : Nat) (c : Challenge) : State :=
  let s := (s.event 0xA001 0x0E ses (levelRank c.level - 1)).updSession ses fun x =>
    { x with challenge := none, failed := x.failed + 1 }
  let s : State := { s with evr.authFailures := s.evr.authFailures + 1 }
  if (s.session? ses).elim false fun x => x.failed ≥ 5 then
    (s.event 0xA002 0x0E ses).updSession ses fun x =>
      { x with failed := 0, lockedUntil := some (tickPlus s.now (secT 60 : Nat)) }
  else s

/-- LOGIN_RESPONSE (R81, R82). -/
def loginAnswer (ln : Ln) (resp : U32) (s : State) : State :=
  s.verb ln .none fun s =>
    match s.session? ln.ses with
    | none => (s, none)
    | some x =>
      if x.locked s.now then refuse s 201 "locked"
      else match x.challenge with
        | none => refuse s 201 "no challenge"
        | some c =>
          let good := (s.levelKey c.level).elim false fun k => loginResponse k c.level c.value == resp
          if good && ticksFrom c.at_ s.now ≤ secT 60 then done (s.grant ln.ses c.level x.asked) (levelText c.level)
          else refuse (s.failLogin ln.ses c) 201
def execLoginResponse (ln : Ln) (resp : U32) (s : State) : Res := go (loginAnswer ln resp s)

/-- The session is logged out (R83, R87). -/
def Session.logOut (x : Session) : Session := { x with level := .none, loginId := 0, name := [], freshAt := none }
/-- LOGOUT (R83). -/
def logout (ln : Ln) (s : State) : State := s.verb ln .none fun s => done (s.updSession ln.ses (·.logOut))
def execLogout (ln : Ln) (s : State) : Res := go (logout ln s)

/-- CONSOLE_IDLE_LOGOUT (R87): never while a final reply is awaited. -/
def consoleIdleLogout (s : State) : State :=
  s.updSession 0 fun x =>
    let idle := s.num 0x022
    if idle != 0 && x.pend.isEmpty && secT idle ≤ ticksFrom x.idleSince s.now then x.logOut else x
def execConsoleIdleLogout (s : State) : Res := go (consoleIdleLogout s)

/-- LOGIN_LOCKOUT_END (R82): 60 s after the fifth failed response. -/
def loginLockoutEnd (ses : Nat) (s : State) : State :=
  s.updSession ses fun x => { x with lockedUntil := if x.locked s.now then x.lockedUntil else none }
def execLoginLockoutEnd (ses : Nat) (s : State) : Res := go (loginLockoutEnd ses s)

end Sys2Proof.Machine
end

