-- ==== Sys2Proof/Machine/ProductCode.lean ====
section
/-! DEFINITION. The product code of the ledger (R403) with its decoder, and the read channel of the Keystone (R401, R405, R407, R444). -/
namespace Sys2Proof.Machine

/-! ### The field and the encoder (R403) -/

/-- Multiplication by α in GF(2^8) over 0x11D. -/
def alphaTimes (b : Byte) : Byte := if b.msb then (b <<< 1) ^^^ 0x1D#8 else b <<< 1
/-- Multiplication in that field, by the lower `n` bits of `k`. -/
def fieldMul : Nat → Nat → Byte → Byte
  | 0, _, _ => 0
  | n + 1, k, b => (if k % 2 = 1 then b else 0) ^^^ fieldMul n (k / 2) (alphaTimes b)
/-- The product of two field elements. -/
def fmul (a b : Byte) : Byte := fieldMul 8 a.toNat b
/-- α^n. -/
def alphaPow : Nat → Byte
  | 0 => 1
  | n + 1 => alphaTimes (alphaPow n)
/-- R403: the generator polynomial with roots α^0 to α^(n−1), highest degree first. -/
def rsGen : Nat → List Byte
  | 0 => [1]
  | n + 1 =>
    let g := rsGen n
    List.zipWith (· ^^^ ·) (g ++ [0]) (0 :: g.map fun c => fmul (alphaPow n) c)
/-- One byte of the division by the generator `g`, whose leading 1 is left out: the remainder so far is `r`. -/
def rsStep (g r : List Byte) (b : Byte) : List Byte :=
  let f := b ^^^ r.headD 0
  List.zipWith (· ^^^ ·) (r.tail ++ [0]) (g.map fun c => fmul f c)
/-- R403: the `n` parity bytes of a codeword with these user bytes, highest degree first. -/
def rsParity (n : Nat) (user : List Byte) : List Byte :=
  let g := (rsGen n).tail
  user.foldl (rsStep g) (List.replicate n 0)

/-! ### The decoder (R405) -/

/-- `a` to the power `n` in that field, and its inverse. -/
def fpow (a : Byte) : Nat → Byte
  | 0 => 1
  | n + 1 => fmul a (fpow a n)
def finv (a : Byte) : Byte := fpow a 254
/-- The sum of two polynomials, lowest degree first. -/
def polyAdd : List Byte → List Byte → List Byte
  | [], l => l
  | l, [] => l
  | a :: as, b :: bs => (a ^^^ b) :: polyAdd as bs
/-- The value of a polynomial, lowest degree first. -/
def polyEval (p : List Byte) (x : Byte) : Byte := p.foldr (fun c a => c ^^^ fmul x a) 0
/-- The syndromes of a received word, highest degree first: its values at α^0 to α^(p−1). -/
def syndromes (p : Nat) (w : List Byte) : List Byte := (List.range p).map fun i => w.foldl (fun a b => fmul a (alphaPow i) ^^^ b) 0
/-- The locator of position `j` of a word of `n` bytes, and its inverse. -/
def locator (n j : Nat) : Byte := alphaPow (n - 1 - j)
def locatorInv (n j : Nat) : Byte := alphaPow ((255 - (n - 1 - j)) % 255)
/-- The polynomial whose zeros are the inverses of the given locators. -/
def erasurePoly (xs : List Byte) : List Byte := xs.foldl (fun g x => polyAdd g (0 :: g.map (fmul x))) [1]
/-- What the search for the locator polynomial carries: the polynomial, the one to correct it with, and its degree. -/
structure Locating where
  lam : List Byte
  aux : List Byte
  deg : Nat
/-- Syndrome `r` is taken in, with `f` erasures. -/
def locateStep (syn : List Byte) (f : Nat) (x : Locating) (r : Nat) : Locating :=
  let d := (List.range (r + 1)).foldl (fun a i => a ^^^ fmul (x.lam.getD i 0) (syn.getD (r - i) 0)) 0
  let up := 0 :: x.aux
  if d = 0 then { x with aux := up }
  else
    let lam := polyAdd x.lam (up.map (fmul d))
    if 2 * x.deg ≤ r + f then { lam := lam, aux := x.lam.map (fmul (finv d)), deg := r + 1 + f - x.deg }
    else { x with lam := lam, aux := up }
/-- The locator polynomial of a word with these syndromes and erased positions' locators. -/
def locate (syn xs : List Byte) : Locating :=
  let g := erasurePoly xs
  let f := xs.length
  ((List.range (syn.length - f)).map (· + f)).foldl (locateStep syn f) { lam := g, aux := g, deg := f }
/-- The error of the position with locator `x` and inverse `xi`: x Ω(1/x) over the derivative of the locator polynomial at 1/x. -/
def errorAt (syn lam : List Byte) (x xi : Byte) : Byte :=
  let omega := (List.range syn.length).map fun i =>
    (List.range (i + 1)).foldl (fun a j => a ^^^ fmul (lam.getD j 0) (syn.getD (i - j) 0)) 0
  let slope := (List.range (lam.length - 1)).map fun i => if i % 2 = 0 then lam.getD (i + 1) 0 else 0
  fmul x (fmul (polyEval omega xi) (finv (polyEval slope xi)))
/-- R405: a word of RS(n, n − p) decoded, with the positions `erased` taken as unknown: the codeword, and how many other bytes were wrong.
None beyond what the code corrects: errors and erasures with 2 × errors + erasures above p. -/
def rsDecode (p : Nat) (w : List Byte) (erased : List Nat) : Option (List Byte × Nat) :=
  let n := w.length
  let w := w.mapIdx fun j b => if erased.contains j then 0 else b
  let syn := syndromes p w
  if p < erased.length then none
  else if syn.all (· == 0) then some (w, 0)
  else
    let q := locate syn (erased.map (locator n))
    let bad := (List.range n).filter fun j => polyEval q.lam (locatorInv n j) = 0
    let c := w.mapIdx fun j b => if bad.contains j then b ^^^ errorAt syn q.lam (locator n j) (locatorInv n j) else b
    if bad.length = q.deg && (syndromes p c).all (· == 0) && 2 * q.deg ≤ p + erased.length then some (c, q.deg - erased.length)
    else none

/-! ### The read channel (R401, R405, R407) -/

/-- Table 12.7: the fields of a row header. -/
structure RowId where
  seq : Nat
  matrix : Nat
  row : Nat
  channel : Nat
  kind : Nat
  rewrite : Bool
deriving DecidableEq, Repr
/-- The row header at the head of a part, when its crc holds. -/
def headerOf (b : List Byte) : Option RowId :=
  let f := (b.getD 5 0).toNat
  if leNat (sliceB b 6 2) = (crc16 (b.take 6)).toNat then
    some { seq := leNat (b.take 3), matrix := (b.getD 3 0).toNat % 128, row := (b.getD 4 0).toNat, channel := f % 16
           kind := f / 16 % 4, rewrite := f.testBit 6 }
  else none
/-- R405, R407: what names the row: its header, or the header copy in part B when SYNC-A was missed. -/
def rowId (x : RowRead) : Option RowId := match x.partA with | some a => headerOf a | none => x.partB.bind headerOf
/-- R405: C1 over a row of which both parts were acquired: the codeword, and how many symbols it corrects, at most 10. Without SYNC-A the
row skips C1; without SYNC-B more bytes are missing than C1 restores. -/
def rowC1 (x : RowRead) : Option (List Byte × Nat) :=
  match x.partA, x.partB with
  | some a, some b => rsDecode 20 (sliceB a 8 124 ++ sliceB b 8 124) []
  | _, _ => none
/-- R405: what the row passes to C2, none an erasure: its codeword; without SYNC-A the erasures of bytes 0 to 123 and bytes 124 to 247 as
received; a row that C1 cannot decode is erased (assumption 62). -/
def rowToC2 (x : RowRead) : List (Option Byte) :=
  match rowC1 x, x.partA, x.partB with
  | some (w, _), _, _ => w.map some
  | none, none, some b => List.replicate 124 none ++ (sliceB b 8 124).map some
  | _, _, _ => List.replicate 248 none
/-- R405: one column of a matrix through C2: at most 6 errors or 12 erasures. -/
def c2Column (col : List (Option Byte)) : Option (List Byte) :=
  (rsDecode 12 (col.map (·.getD 0)) ((List.range col.length).filter fun i => (col.getD i none).isNone)).map (·.1)
/-- R407, R405: what the reads of an ashlar give of a row: any copy that passes C1, else any that was read at all. -/
def rowFrom (reads : List RowRead) (m r : Nat) : List (Option Byte) :=
  let mine := reads.filter fun x => (rowId x).elim false fun h => h.kind = 0 && h.matrix = m && h.row = r
  ((mine.find? fun x => (rowC1 x).isSome).or mine.head?).elim (List.replicate 248 none) rowToC2
/-- R403–R405: the 84 user rows of a matrix, from the reads of its 96 rows. -/
def matrixFrom (reads : List RowRead) (m : Nat) : Option (List (List Byte)) :=
  let rows := (List.range 96).map (rowFrom reads m)
  ((List.range 228).mapM fun c => c2Column (rows.map fun r => r.getD c none)).map fun cols =>
    (List.range 84).map fun r => cols.map fun col => col.getD r 0
/-- R404: the stream of an ashlar that was read. -/
def streamFrom (reads : List RowRead) : Option (List Byte) :=
  ((List.range 128).mapM (matrixFrom reads)).map fun ms => ms.flatMap (·.flatten)
/-- R444: a row block read back fails: it has not come within 40 block lengths, its header crc fails in both parts, C1 corrects more than 4
symbols, or C1 does not decode it, which a row without SYNC-A skips (assumption 62). -/
def blockFails (read : Option RowRead) : Bool :=
  read.elim true fun x =>
    (x.partA.bind headerOf).isNone && (x.partB.bind headerOf).isNone || (rowC1 x).elim true fun q => 4 < q.2

end Sys2Proof.Machine
end

