-- ==== Sys2Proof/Machine/Seal.lean ====
section
/-! DEFINITION. Memory protection (chapter 14): accesses to the sealed and grouted regions, failed checks, the repointer, the
key store and the debug paths. The state holds the contents in clear; `sealImage`, `sealTag` and `groutImage` say what the
DRAM devices hold. -/
namespace Sys2Proof.Machine

/-! ### What the DRAM holds (R461, R465) -/

/-- One step of the product of GHASH (NIST SP 800-38D). -/
def ghashStep (x : BitVec 128) (st : BitVec 128 × BitVec 128) (i : Nat) : BitVec 128 × BitVec 128 :=
  let z := if x.getMsbD i then st.1 ^^^ st.2 else st.1
  let v := if st.2.getLsbD 0 then (st.2 >>> 1) ^^^ (0xE1#128 <<< 120) else st.2 >>> 1
  (z, v)
/-- The product of GHASH. -/
def ghashMul (x y : BitVec 128) : BitVec 128 := ((List.range 128).foldl (ghashStep x) (0, y)).1
/-- GHASH of 16-byte blocks under `h`. -/
def ghash (h : List Byte) (blocks : List (List Byte)) : List Byte :=
  beBytes 16 (blocks.foldl (fun y b => ghashMul (y ^^^ BitVec.ofNat 128 (beNat b)) (BitVec.ofNat 128 (beNat h))) 0).toNat
/-- R461: the input block `b` of a line. -/
def sealBlock (slot addr : Nat) (ctr : BitVec 28) (b : Nat) : List Byte :=
  leBytes 4 (addr / 64) ++ leBytes 4 ctr.toNat ++ [BitVec.ofNat 8 b, BitVec.ofNat 8 slot] ++ List.replicate 6 0
/-- The address of a line of a region. -/
def lineAddr (slot line : Nat) : Nat := (regionOf slot).elim 0 (·.1) + 64 * line
/-- The key in force for a line: the new one below the boundary, the old one at or above it (R471). -/
def KeySlot.keyAt (k : KeySlot) (line : Nat) : List Byte :=
  if k.state == .active || line < k.boundary then k.key else k.oldKey
/-- R461: the encrypted bytes of a line. -/
def State.sealImage (s : State) (slot line : Nat) : List Byte :=
  let key := (s.slot slot).keyAt line
  let ctr := (s.lineMeta slot line).ctr
  let a := lineAddr slot line
  (List.range 4).flatMap fun b => xorB (readCells s.mp.dram (a + 16 * b) 16) (aesEnc key (sealBlock slot a ctr b))
/-- R461: the tag of a line. -/
def State.sealTag (s : State) (slot line : Nat) : List Byte :=
  let key := (s.slot slot).keyAt line
  let c := s.sealImage slot line
  let g := ghash (aesEnc key (List.replicate 16 0)) ((List.range 4).map fun b => sliceB c (16 * b) 16)
  xorB (g.take 8) (aesEnc key (sealBlock slot (lineAddr slot line) (s.lineMeta slot line).ctr 0xFF))
/-- R465: the image of an aligned unit of a GROUT region. -/
def State.groutImage (s : State) (slot addr : Nat) : List Byte :=
  Config.groutMix ((s.slot slot).keyAt ((addr - (regionOf slot).elim 0 (·.1)) / 64)) addr (readCells s.mp.dram addr 8)

/-! ### The counter and tag cache -/

/-- The metadata lines that stay, most recent first: 8,192 places for EXPORT (slot 3), 24,576 shared. -/
def cacheKeep : Nat → Nat → List (Nat × Nat) → List (Nat × Nat)
  | _, _, [] => []
  | e, sh, m :: ms =>
    if m.1 = 3 && e < 8192 then m :: cacheKeep (e + 1) sh ms
    else if sh < 24576 then m :: cacheKeep e (sh + 1) ms
    else cacheKeep e sh ms
/-- The metadata line of a data line is used: a hit, or a miss that may put out the least recently used. -/
def State.touch (s : State) (slot line : Nat) : State :=
  let m := (slot, line / 4)
  if s.mp.cache.contains m then
    { s with mp.hits := s.mp.hits + 1, mp.cache := m :: s.mp.cache.filter (· != m) }
  else { s with mp.misses := s.mp.misses + 1, mp.cache := cacheKeep 0 0 (m :: s.mp.cache) }

/-! ### Lines of an access -/

/-- The part of an access that lies in one line. -/
structure Piece where
  line : Nat := 0
  off  : Nat := 0
  data : List Byte := []
/-- The parts of `data` from offset `off` of a region, line by line. -/
def piecesOf (off : Nat) (data : List Byte) : List Piece :=
  (List.range ((off % 64 + data.length + 63) / 64)).map fun i =>
    let line := off / 64 + i
    let start := max off (64 * line)
    let stop := min (off + data.length) (64 * (line + 1))
    { line := line, off := start - 64 * line, data := sliceB data (start - off) (stop - start) }
/-- The lines of `len` bytes from offset `off` of a region. -/
def linesIn (off len : Nat) : List Nat := (List.range ((off % 64 + len + 63) / 64)).map fun i => off / 64 + i

/-! ### Failed checks (R475, R476) -/

/-- The requester of an access in an event; the manual numbers none of the Keystone's own (assumption 4). -/
def State.requester (s : State) (who : Option Nat) : Nat := who.getD (s.freeWord.toNat % 256)
/-- R475, R476: the check of a line fails. -/
def State.failCheck (s : State) (slot line : Nat) (who : Option Nat) : State :=
  let w := s.requester who
  let s := if who.isNone then s.drew else s
  let s := s.putMeta slot line (s.lineMeta slot line).ctr true
  let s := s.updSlot slot fun k => { k with alarms := k.alarms + 1 }
  let s := s.event 0x8010 0x0C slot line w (s.slot slot).alarms.toNat
  match s.num 0xC03 slot with
  | 1 => s.enterFault 6
  | 2 => ((s.updSlot slot fun k => { k with quarantined := true }).event 0x8011 0x0C slot).enterFault 6
  | _ => s
/-- A SEAL region refuses every access: the engine has failed (R487), or the region is quarantined (R476). -/
def State.sealGate (s : State) (slot : Nat) : Option BusError :=
  if s.mp.engineFailed then some .engine else if (s.slot slot).quarantined then some .quarantine else none

/-- The lines of a read, each checked before any byte is returned (R462, R475). -/
def State.checkLines (s : State) (slot : Nat) (who : Option Nat) : Bool → List Nat → State × Option BusError
  | _, [] => (s, none)
  | altered, l :: ls =>
    let t := s.touch slot l
    if (t.lineMeta slot l).poison then (t, some .poison)
    else if altered then (t.failCheck slot l who, some .poison)
    else checkLines t slot who false ls
/-- A read of `len` bytes at offset `off` of a SEAL region. -/
def State.sealRead (s : State) (slot off len : Nat) (who : Option Nat) (altered : Bool) : State × Except BusError (List Byte) :=
  match s.sealGate slot with
  | some e => (s, .error e)
  | none =>
    match s.checkLines slot who altered (linesIn off len) with
    | (t, some e) => (t, .error e)
    | (t, none) => (t, .ok (readCells t.mp.dram ((regionOf slot).elim 0 (·.1) + off) len))

/-- Bytes written to the DRAM from an address. -/
def State.writeDram (s : State) (addr : Nat) (l : List Byte) : State := { s with mp.dram := writeCells s.mp.dram addr l }
/-- A line of the DRAM set to zeros. -/
def State.zeroLine (s : State) (addr : Nat) : State := { s with mp.dram := clearCells s.mp.dram addr 64 }
/-- R478: a partial write is counted. -/
def State.countPartial (s : State) : State := { s with mp.partial_ := s.mp.partial_ + 1 }
/-- The bus answers an access. -/
def State.busAnswer (s : State) (e : Option BusError) : State := { s with mp.busError := e }
/-- R462, R474: bytes are written to a line that is sound or written whole; a write that the counter has no room for is
held. -/
def State.putLine (s : State) (slot line off : Nat) (data : List Byte) : State :=
  if (s.lineMeta slot line).ctr = ctrMax then
    State.noteHeld { s with mp.heldWrites := s.mp.heldWrites ++
      [{ slot := slot, line := line, off := off, data := data, at_ := s.now }] } slot line
  else (s.writeDram (lineAddr slot line + off) data).advance slot line false
/-- R478: the bytes of a partial write with zeros about them. -/
def wholeLine (off : Nat) (data : List Byte) : List Byte := padTo 64 (List.replicate off 0 ++ data)
/-- R462, R475, R478: one line of a write. `own` is the Keystone's own writer of EXPORT structures; `altered` says that the
line fails the check that a partial write makes. -/
def State.writePiece (s : State) (slot : Nat) (who : Option Nat) (own altered : Bool) (p : Piece) : State × Option BusError :=
  let s := s.touch slot p.line
  if p.data.length = 64 then (s.putLine slot p.line 0 p.data, none)
  else
    let s := s.countPartial
    let s := if altered && !(s.lineMeta slot p.line).poison then s.failCheck slot p.line who else s
    if (s.lineMeta slot p.line).poison then
      if own then (s.putLine slot p.line 0 (wholeLine p.off p.data), none) else (s, some .poison)
    else (s.putLine slot p.line p.off p.data, none)
/-- The lines of a write in order; the first bus error is the one signalled. -/
def State.writePieces (s : State) (slot : Nat) (who : Option Nat) (own : Bool) :
    Bool → List Piece → State × Option BusError
  | _, [] => (s, none)
  | altered, p :: ps =>
    let (t, e) := s.writePiece slot who own altered p
    let (u, e') := t.writePieces slot who own false ps
    (u, e <|> e')
/-- A write at offset `off` of a SEAL region. -/
def State.sealWrite (s : State) (slot off : Nat) (data : List Byte) (who : Option Nat) (own altered : Bool) :
    State × Option BusError :=
  match s.sealGate slot with
  | some e => (s, some e)
  | none => s.writePieces slot who own altered (piecesOf off data)

/-! ### Accesses by address (R459, R460) -/

/-- An address of the metadata area, which only the seal engine reaches. -/
def isMeta (addr : Nat) : Bool := 0x3F0000000 ≤ addr && addr < 0x400000000
/-- The key ID that reaches an address; none for the metadata area. -/
def keyFor (addr : Nat) : Option Nat := if isMeta addr then none else some ((slotAt addr).getD 0)
/-- R460: the access is refused and recorded. -/
def State.wrongKey (s : State) (who : Option Nat) (key addr : Nat) : State :=
  let w := s.requester who
  let s := if who.isNone then s.drew else s
  State.event { s with mp.busError := some .key } 0x8013 0 0 w (addr % 2 ^ 32) ((key * 2 ^ 36 + addr) / 2 ^ 32)
/-- The access runs past the end of its region or of the DRAM. -/
def pastEnd (addr len : Nat) : Bool :=
  match (slotAt addr).bind regionOf with
  | some r => r.1 + r.2 < addr + len
  | none => 0x400000000 < addr + len || (List.range len).any fun i => (slotAt (addr + i)).isSome || isMeta (addr + i)
/-- What an access leaves: the data read, or the bus error. -/
def State.answerRead (r : State × Except BusError (List Byte)) : State :=
  match r with
  | (s, .ok d) => { s with mp.busError := none, mp.readData := d }
  | (s, .error e) => { s with mp.busError := some e, mp.readData := [] }

/-- SEAL_READ (R460, R462, R475): `altered` carries the bytes that the DRAM returns when it was altered; a GROUT or plain range
does not detect it (R466). -/
def sealReadCmd (who key addr len : Nat) (altered : Option (List Byte)) (s : State) : State :=
  if !s.awake then s
  else if keyFor addr != some key then s.wrongKey (some who) key addr
  else if pastEnd addr len then { s with mp.busError := some .range, mp.readData := [] }
  else if isSeal key then
    State.answerRead (s.sealRead key (addr - lineAddr key 0) len (some who) altered.isSome)
  else { s with mp.busError := none, mp.readData := altered.elim (readCells s.mp.dram addr len) (padTo len) }

/-- SEAL_WRITE (R460, R462, R474, R478). Requester 0 is the Keystone's own writer of EXPORT structures. -/
def sealWriteCmd (who key addr : Nat) (data : List Byte) (altered : Bool) (s : State) : State :=
  if !s.awake then s
  else if keyFor addr != some key then s.wrongKey (some who) key addr
  else if pastEnd addr data.length then { s with mp.busError := some .range }
  else if isSeal key then
    let (t, e) := s.sealWrite key (addr - lineAddr key 0) data (some who) (who = 0 && key = 3) altered
    t.busAnswer e
  else (s.writeDram addr data).busAnswer none
def execSealWrite (who key addr : Nat) (data : List Byte) (altered : Bool) (s : State) : Res :=
  go (sealWriteCmd who key addr data altered s)

/-- GROUT_ACCESS (R465–R467): a write, or a read of `len` bytes. -/
def groutAccess (key addr : Nat) (wr : Option (List Byte)) (len : Nat) (s : State) : State :=
  let n := wr.elim len (·.length)
  if !s.awake then s
  else if keyFor addr != some key || !isGrout key then s.wrongKey none key addr
  else if pastEnd addr n then { s with mp.busError := some .range, mp.readData := [] }
  else match wr with
    | some d => (s.writeDram addr d).busAnswer none
    | none => { s with mp.busError := none, mp.readData := readCells s.mp.dram addr n }
def execGroutAccess (key addr : Nat) (wr : Option (List Byte)) (len : Nat) (s : State) : Res :=
  go (groutAccess key addr wr len s)

/-- WRONG_KEY_ACCESS (R460). -/
def wrongKeyAccess (who key addr : Nat) (s : State) : State :=
  if s.awake && keyFor addr != some key then s.wrongKey (some who) key addr else s
def execWrongKeyAccess (who key addr : Nat) (s : State) : Res := go (wrongKeyAccess who key addr s)

/-- Table 14.3: the slot and line whose metadata entry lies at an address of the metadata area. -/
def metaOwner (addr : Nat) : Option (Nat × Nat) :=
  if addr < 0x3F0000000 then none
  else if addr < 0x3F8000000 then some (1, (addr - 0x3F0000000) / 16)
  else if addr < 0x3F9000000 then some (2, (addr - 0x3F8000000) / 16)
  else if addr < 0x3F9400000 then some (3, (addr - 0x3F9000000) / 16)
  else if addr < 0x3FB400000 then some (4, (addr - 0x3F9400000) / 16)
  else none
/-- A line is poisoned. -/
def State.poisonLine (s : State) (slot line : Nat) : State := s.putMeta slot line (s.lineMeta slot line).ctr true
/-- ECC_UNCORRECTABLE (R479): in a SEAL region the line is poisoned; in a metadata line its four lines are; anywhere else cause
[3] of Table 4.7. -/
def eccUncorrectable (who addr : Nat) (s : State) : State :=
  if !s.awake then s
  else if (slotAt addr).elim false isSeal then
    let slot := (slotAt addr).getD 0
    let line := (addr - lineAddr slot 0) / 64
    let s := s.poisonLine slot line
    State.event { s with mp.busError := some .poison } 0x8012 0x0C slot line who
  else match metaOwner addr with
    | some (slot, line) =>
      ([0, 1, 2, 3] : List Nat).foldl (fun s (i : Nat) => s.poisonLine slot (line / 4 * 4 + i)) s
    | none => s.enterFault 3
def execEccUncorrectable (who addr : Nat) (s : State) : Res := go (eccUncorrectable who addr s)

/-- HELD_WRITE_TIMEOUT (R485): a write held 10 ms without a rekey starting is refused. -/
def heldWriteTimeout (s : State) : State :=
  let late := s.mp.heldWrites.filter fun h => s.mp.running != some h.slot && msT 10 ≤ ticksFrom h.at_ s.now
  if late.isEmpty || !s.awake then s
  else late.foldl (fun (s : State) h => s.event 0x8071 0x0C h.slot h.line)
    { s with mp.heldWrites := s.mp.heldWrites.filter (fun h => !late.contains h), mp.busError := some .held }
def execHeldWriteTimeout (s : State) : Res := go (heldWriteTimeout s)

/-! ### The repointer (R471–R474) -/

/-- The repointer takes request `r`: a SPLIT slot continues from its boundary under the same new key (R473); otherwise a new
key is drawn and the boundary is at line 0. A CLEAR of a slot that a plain rekey left SPLIT starts again from line 0. -/
def State.takeRekey (s : State) (r : RekeyReq) : State :=
  let k := s.slot r.slot
  if k.state == .split && (!r.clear || k.clearing) then
    let s := s.updSlot r.slot fun k => { k with state := .repointing, clearing := r.clear, rngNoted := false }
    { s with mp.running := some r.slot }
  else
    let key := s.randomBytes (if isSeal r.slot then 16 else 32)
    let s := s.drew.updSlot r.slot fun k =>
      { k with state := .repointing, oldKey := k.key, key := key, boundary := 0, clearing := r.clear,
               rngNoted := false }
    { s with mp.running := some r.slot }
/-- The repointer takes the next rekey of its queue, unless the random source fails: then it stays queued, recorded once
(R485). -/
def State.nextRekey (s : State) : State :=
  match s.mp.running, s.mp.queue with
  | none, r :: rest =>
    if s.net.rngOk then State.takeRekey { s with mp.queue := rest } r
    else if (s.slot r.slot).rngNoted then s
    else (s.updSlot r.slot fun k => { k with rngNoted := true }).event 0x8070 0x0C r.slot
  | _, _ => s
/-- REKEY_BEGIN (R472). -/
def rekeyBegin (s : State) : State := if s.awake then s.nextRekey else s
def execRekeyBegin (s : State) : Res := go (rekeyBegin s)
/-- REKEY_RNG_RETRY (R485). -/
def rekeyRngRetry (s : State) : State := if s.awake then s.nextRekey else s
def execRekeyRngRetry (s : State) : Res := go (rekeyRngRetry s)
/-- REKEY_PERIOD_EXPIRE (R472). -/
def rekeyPeriodExpire (slot : Nat) (s : State) : State :=
  let hours := s.num 0xC09 slot
  if s.awake && (regionOf slot).isSome && hours != 0 && secT (3600 * hours) ≤ ticksFrom (s.slot slot).changedAt s.now
      && !s.rekeyDue slot then
    s.queueRekey { slot := slot }
  else s
def execRekeyPeriodExpire (slot : Nat) (s : State) : Res := go (rekeyPeriodExpire slot s)

/-- What a finished CLEAR brings about (the table of "Clearing a region"). -/
def State.cleared (s : State) (slot : Nat) : State :=
  match slot with
  | 1 => { s with
      led.journal.frames := s.led.journal.frames.map fun f => { f with staged := false }
      led.forming := none
      led.closed := []
      led.fmtSerial := ((s.led.closed ++ s.led.forming.toList).head?).elim s.led.fmtSerial (·.serial) }
  | 3 =>
    let s : State := { s with
      tk.sources := s.tk.sources.map fun x => { x with entries := [], cprod := 0, ccons := 0, learnWin := [] }
      par.setBlocks := []
      par.results := []
      par.loadAreas := [] }
    s.updatePage
  | 4 => if s.ctl.state == .standby then { s with crown.rebase := true, crown.synced := .no } else s.startBase
  | _ => s
/-- The boundary has passed the last line (R471). -/
def State.finishRekey (s : State) (slot : Nat) : State :=
  let clear := (s.slot slot).clearing
  let s := s.updSlot slot fun k =>
    { k with state := .active, oldKey := [], boundary := 0, epoch := k.epoch + 1, changedAt := s.now, clearing := false,
             heldNoted := false, quarantined := k.quarantined && !clear }
  let n := (s.slot slot).epoch
  let s := State.event { s with mp.running := none, mp.stopping := none } 0x8001 0x0C slot n.toNat
  let s := if clear then s.cleared slot else s
  s.finish (fun o => o == .sealRekey slot || (clear && o == .sealClear slot))
    (.ok (regionName slot ++ " epoch " ++ natText n.toNat))
/-- The held writes of a line leave the queue. -/
def State.dropHeld (s : State) (slot line : Nat) : State :=
  { s with mp.heldWrites := s.mp.heldWrites.filter fun h => !(h.slot == slot && h.line == line) }
/-- The held writes of a line are made (R474). -/
def State.makeHeld (s : State) (slot line : Nat) : State :=
  let mine := s.mp.heldWrites.filter fun h => h.slot == slot && h.line == line
  mine.foldl (fun (s : State) h =>
      let (t, e) := s.writePiece slot none false false { line := line, off := h.off, data := h.data }
      if e.isSome then t.busAnswer e else t)
    (s.dropHeld slot line)
/-- R471, R475: one line moves: read under the old key, checked, and written under the new one with counter 0. A poisoned line
stays poisoned and holds zeros; a CLEAR writes zeros and lifts the poison. -/
def State.moveLine (s : State) (slot line : Nat) (altered : Bool) : State :=
  let k := s.slot slot
  let s := if isSeal slot then s.touch slot line else s
  let s := if altered && isSeal slot && !k.clearing && !(s.lineMeta slot line).poison then s.failCheck slot line none else s
  let poison := (s.lineMeta slot line).poison && !k.clearing
  let s := if poison || k.clearing then s.zeroLine (lineAddr slot line) else s
  let s := if isSeal slot then s.putMeta slot line 0 poison else s
  (s.updSlot slot fun k => { k with boundary := line + 1 }).makeHeld slot line
/-- R473: the repointer has stopped after the line in progress; the slot stays SPLIT, with both keys and the boundary. A write still held
queues the continuation (R474); a queued CLEAR whose state has passed is cancelled (R156). -/
def State.repointerStopped (s : State) (slot : Nat) : State :=
  let b := (s.slot slot).boundary
  let s := if (slot = 1 || slot = 3) && s.ctl.state != .held && s.mp.queue.any (fun r => r.slot == slot && r.clear) then
      s.cancelRekey slot
    else s
  let s := ({ s.updSlot slot fun k => { k with state := .split } with mp.running := none, mp.stopping := none } : State).event 0x8003 0x0C
    slot b
  if s.mp.heldWrites.any (·.slot == slot) && !s.rekeyWaits slot then s.queueRekey { slot := slot, counter := true } else s
/-- R473: an abort has won: a queued rekey of the slot ends, and a running one stops after the line in progress. -/
def State.abortRekey (s : State) (slot : Nat) : State :=
  let s := s.unqueueRekey slot
  let s : State :=
    if s.mp.running == some slot then { s with mp.stopping := some s.now }
    else if s.mp.heldWrites.any (·.slot == slot) then s.queueRekey { slot := slot, counter := true }
    else s
  s.finish (fun o => o == .sealRekey slot || o == .sealClear slot) (.err 301 "aborted")
/-- The repointer stops at once (R163). -/
def State.stopRekey (s : State) (slot : Nat) : State :=
  let s := s.abortRekey slot
  if s.rekeyStops slot then s.repointerStopped slot else s
/-- R473: the repointer stops within 1 µs of the abort. -/
def State.repointerTick (s : State) : State :=
  match s.mp.running, s.mp.stopping with
  | some slot, some t => if 4 ≤ ticksFrom t s.now then s.repointerStopped slot else s
  | _, _ => s
/-- REPOINT_LINE (R471): `altered` says that the line fails its check. -/
def repointLine (altered : Bool) (s : State) : State :=
  match s.mp.running with
  | none => s
  | some slot =>
    if !s.awake then s
    else
      let line := (s.slot slot).boundary
      let s := s.moveLine slot line altered
      if linesOf slot ≤ line + 1 then s.finishRekey slot
      else if s.mp.stopping.isSome then s.repointerStopped slot
      else s
def execRepointLine (altered : Bool) (s : State) : Res := go (repointLine altered s)

/-! ### Verbs -/

/-- R158: a rekey of the slot runs and is not being stopped, or one waits: another joins it. -/
def State.rekeyJoins (s : State) (slot : Nat) : Bool := (s.mp.running == some slot && s.mp.stopping.isNone) || s.rekeyWaits slot
/-- R156, R473: the first line of SEAL REKEY: queued while an abort is stopping the repointer on that slot. -/
def State.rekeyText (s : State) (slot : Nat) : String :=
  if s.rekeyStops slot then "queued" else "repointing " ++ regionName slot
/-- SEAL_REKEY (R156–R158, R472, R473). -/
def sealRekey (ln : Ln) (slot : Nat) (s : State) : State :=
  s.verb ln .engineer fun s =>
    if (regionOf slot).isNone then refuse s 401
    else s.startOp ln (.sealRekey slot) (s.rekeyText slot) fun s =>
      if s.rekeyJoins slot then s else s.queueRekey { slot := slot }
def execSealRekey (ln : Ln) (slot : Nat) (s : State) : Res := go (sealRekey ln slot s)
/-- SEAL_REKEY_CLEAR ("Clearing a region", R156). -/
def sealRekeyClear (ln : Ln) (slot : Nat) (s : State) : State :=
  s.verb ln .engineer fun s =>
    if !isSeal slot then refuse s 401
    else if (slot = 1 || slot = 3) && s.ctl.state != .held then refuse s 301
    else s.startOp ln (.sealClear slot) (s.rekeyText slot) fun s =>
      if (s.mp.running == some slot && s.mp.stopping.isNone && (s.slot slot).clearing) || s.mp.queue.any (fun r => r.slot == slot && r.clear) then s
      else s.queueRekey { slot := slot, clear := true }
def execSealRekeyClear (ln : Ln) (slot : Nat) (s : State) : Res := go (sealRekeyClear ln slot s)
/-- SEAL_REKEY_ABORT (R473, R157, R159): the completion step is the boundary reaching the last line; the abort is the DISABLE form. -/
def sealRekeyAbort (ln : Ln) (slot : Nat) (s : State) : State :=
  s.verb ln .engineer fun s =>
    if (regionOf slot).isNone then refuse s 401
    else if !s.rekeyDue slot then refuse s 301 "nothing to abort"
    else if s.rekeyStops slot then
      if s.rekeyWaits slot then done (s.cancelRekey slot) "enable cancelled" else done s "already stopping"
    else if s.mp.running == some slot && linesOf slot ≤ (s.slot slot).boundary + 1 then done s "already complete"
    else done (s.abortRekey slot) "aborted"
def execSealRekeyAbort (ln : Ln) (slot : Nat) (s : State) : Res := go (sealRekeyAbort ln slot s)

/-- seal.slot.s.state as it reads. -/
def KeySlot.shown (k : KeySlot) : SlotState :=
  if k.state == .repointing then .repointing else if k.quarantined then .quarantined else k.state
/-- The words of seal.slot.s.state. -/
def slotStateText : SlotState → String
  | .active => "ACTIVE" | .repointing => "REPOINTING" | .split => "SPLIT" | .quarantined => "QUARANTINED"
/-- seal.slot.s.poison and seal.slot.s.ctr_max. -/
def State.poisoned (s : State) (slot : Nat) : Nat := (s.mp.lines.filter fun l => l.slot == slot && l.poison).length
def State.ctrMaxOf (s : State) (slot : Nat) : Nat :=
  s.mp.lines.foldl (fun m l => if l.slot = slot then max m l.ctr.toNat else m) 0
/-- The boundary as it reads: 0 when ACTIVE. -/
def KeySlot.boundaryShown (k : KeySlot) : Nat := if k.state == .active then 0 else k.boundary
/-- One line of SEAL SHOW. -/
def State.slotLine (s : State) (slot : Nat) : String :=
  let k := s.slot slot
  natText slot ++ " " ++ regionName slot ++ " " ++ slotStateText k.shown ++ " boundary " ++ natText k.boundaryShown ++
    " epoch " ++ natText k.epoch.toNat ++ " ctr_max " ++ natText (s.ctrMaxOf slot) ++ " alarms " ++ natText k.alarms.toNat ++
    " poison " ++ natText (s.poisoned slot)
/-- SEAL_SHOW (Table 14.8): slots, state, boundary, counters, cache. -/
def sealShow (ln : Ln) (slot : Option Nat) (s : State) : State :=
  s.verb ln .view fun s =>
    if slot.elim false fun i => (regionOf i).isNone then refuse s 401
    else
      let slots := slot.elim [1, 2, 3, 4, 5, 6] fun i => [i]
      (s, some (.multi (slots.map s.slotLine ++
        ["cache hits " ++ natText s.mp.hits.toNat ++ " misses " ++ natText s.mp.misses.toNat])))
def execSealShow (ln : Ln) (slot : Option Nat) (s : State) : Res := go (sealShow ln slot s)

/-! ### The unit ledger key (R468, R480, R481) -/

/-- Copy 1 of the key store is the newer valid one (R116). -/
def State.storeBNewer (s : State) : Bool :=
  s.mp.storeB.valid && (!s.mp.storeA.valid || u32Before s.mp.storeA.generation s.mp.storeB.generation)
/-- ULK in force. -/
def State.ulk (s : State) : List Byte :=
  if s.storeBNewer then s.mp.storeB.ulk else if s.mp.storeA.valid then s.mp.storeA.ulk else []
/-- R414: the keyid of a ULK. -/
def keyidOf (ulk : List Byte) : List Byte := (hmac ulk (bytesOf "TORXADY KEY ID")).take 8
/-- Bytes as upper-case hex digits. -/
def hexOf (l : List Byte) : String := l.foldl (fun t b => t ++ hexText 2 b.toNat) ""
/-- A verb that needs fresh authentication (R84). -/
def State.needFresh (s : State) (ln : Ln) (f : State → VerbRes) : VerbRes :=
  if s.fresh ln then f s else refuse s 202 "fresh login needed"
/-- SEAL_SHOW_LEDGER (R480). -/
def sealShowLedger (ln : Ln) (s : State) : State :=
  s.verb ln .engineer fun s => s.needFresh ln fun s =>
    if !s.isSet 0xC40 then refuse s 301
    else
      let s := (s.spendFresh ln).event 0x8050 0 0 0 0 0 (s.loginOf ln)
      (s, some (.multi ["keyid " ++ hexOf (keyidOf s.ulk), "wrapped " ++ hexOf (keyWrap (s.key 0xC40) s.ulk)]))
def execSealShowLedger (ln : Ln) (s : State) : Res := go (sealShowLedger ln s)
/-- R481: the key store write starts. -/
def State.startStore (s : State) (ln : Ln) (f : State → State × Option (List Byte)) (code : Nat) : VerbRes :=
  s.needFresh ln fun s =>
    if code = 401 && (f s).2.isNone then refuse s 401
    else if s.led.state != .empty then refuse s 301
    else if s.mp.storeBusy.isSome then refuse s 302
    else match f s with
      | (s, none) => refuse s code
      | (t, some key) => t.startOp ln .sealLedger "writing key store" fun s =>
          { s.spendFresh ln with mp.storeBusy := some (s.loginOf ln, key) }
/-- SEAL_REKEY_LEDGER (R481): a new ULK is drawn; with the random source failed no key is drawn. -/
def sealRekeyLedger (ln : Ln) (s : State) : State :=
  s.verb ln .engineer fun s =>
    s.startStore ln (fun s => if s.net.rngOk then (s.drew, some (s.randomBytes 32)) else (s, none)) 601
def execSealRekeyLedger (ln : Ln) (s : State) : Res := go (sealRekeyLedger ln s)
/-- SEAL_REKEY_LEDGER_IMPORT (R481). -/
def sealRekeyLedgerImport (ln : Ln) (wrapped : List Byte) (s : State) : State :=
  s.verb ln .engineer fun s =>
    s.startStore ln (fun s => (s, if s.isSet 0xC40 && wrapped.length = 40 then keyUnwrap (s.key 0xC40) wrapped else none)) 401
def execSealRekeyLedgerImport (ln : Ln) (wrapped : List Byte) (s : State) : Res := go (sealRekeyLedgerImport ln wrapped s)
/-- KEY_STORE_WRITE_COMPLETE (R468, R481, R486): the older copy has been written, or its write has failed. -/
def keyStoreWriteComplete (ok : Bool) (s : State) : State :=
  match s.mp.storeBusy with
  | none => s
  | some (login, key) =>
    let gen := (if s.storeBNewer then s.mp.storeB.generation else s.mp.storeA.generation) + 1
    let new : KeyStore := { valid := ok, generation := gen, ulk := key }
    let s : State := { s with mp.storeBusy := none }
    let s : State := if s.storeBNewer then { s with mp.storeA := new } else { s with mp.storeB := new }
    if ok then
      let id := keyidOf key
      (s.event 0x8051 0 0 (leNat (sliceB id 0 4)) (leNat (sliceB id 4 4)) 0 login).finish (· == .sealLedger)
        (.ok ("keyid " ++ hexOf id))
    else s.finish (· == .sealLedger) (.err 601 "")
def execKeyStoreWriteComplete (ok : Bool) (s : State) : Res := go (keyStoreWriteComplete ok s)

/-! ### Lid, JTAG, debug paths, the engine (R482–R484, R487) -/

/-- LID_SWITCH (R484). -/
def lidSwitch (open_ : Bool) (s : State) : State :=
  if !s.awake || open_ == s.mp.lidOpen then s
  else if open_ then
    let s : State := { s with mp.lidOpen := true, mp.lidCount := s.mp.lidCount + 1 }
    s.event 0x8030 0 0 s.mp.lidCount.toNat
  else State.event { s with mp.lidOpen := false } 0x8031 0 0
def execLidSwitch (open_ : Bool) (s : State) : Res := go (lidSwitch open_ s)
/-- JTAG_INSTRUCTION (R483): accepted or refused. -/
def jtagInstruction (ir : JtagIr) (s : State) : State :=
  if s.awake then { s with mp.jtagLast := some (ir != .other || s.on 0xC32) } else s
def execJtagInstruction (ir : JtagIr) (s : State) : Res := go (jtagInstruction ir s)
/-- DEBUG_ACCESS_BLOCKED (R482): a path that is not sealed reaches a keyed range or the metadata area: zeros for a read, and a
write discarded; recorded once per engine. -/
def debugAccessBlocked (engine addr : Nat) (wr : Bool) (s : State) : State :=
  if !s.awake || !((slotAt addr).isSome || isMeta addr) then s
  else
    let s : State := if wr then s else { s with mp.readData := List.replicate 64 0 }
    if s.mp.blocked.contains engine then s
    else State.event { s with mp.blocked := engine :: s.mp.blocked } 0x8060 0 0 engine
def execDebugAccessBlocked (engine addr : Nat) (wr : Bool) (s : State) : Res := go (debugAccessBlocked engine addr wr s)
/-- SEAL_ENGINE_FAIL (R487). -/
def sealEngineFail (s : State) : State :=
  if !s.awake || s.mp.engineFailed then s
  else (State.event { s with mp.engineFailed := true } 0x8072 0 0).enterFault 6
def execSealEngineFail (s : State) : Res := go (sealEngineFail s)

end Sys2Proof.Machine
end

