-- ==== Sys2Proof/Machine/Ledger.lean ====
section
/-! DEFINITION. The ledger (chapters 12 and 13): the journal and staging, the formatter, writing and verify, cartridges, the
ledger verbs, and what a collapse and a power-up do. -/
namespace Sys2Proof.Machine

/-- Table 12.11: the bytes of a record. -/
def recBytes (r : Record) : List Byte :=
  [r.typ, if r.noLine then 1 else 0] ++ leBytes 2 (recSize r) ++ leBytes 2 r.run.toNat ++ leBytes 2 0 ++
    leBytes 4 r.line.toNat ++ leBytes 4 r.lot.toNat ++ padTo (recSize r - 16) r.body
/-- R429: a journal frame: the serial, the record, and a CRC-32 over both. -/
def journalFrame (serial : BitVec 64) (r : Record) : List Byte :=
  let b := leBytes 8 serial.toNat ++ recBytes r
  b ++ leBytes 4 (crc32 b).toNat
/-- A serial as a number. -/
def Frame.num (f : Frame) : Nat := f.serial.toNat

/-! ### The buffer (R434) -/

/-- R434: what ledger.fill brings about when it crosses its levels. -/
def State.fillMarks (s : State) : State :=
  let high := s.num 0xB17 ≤ s.led.fill
  let full := s.led.fillAtLeast 100
  let s := if high && !s.led.warned then s.event 0x7030 0x0B 0 s.led.fill else s
  let rise := full && !s.led.full
  let s : State := { s with
    led.warned := high
    led.full := full
    led.reserve := if full then s.led.reserve else 0 }
  if rise then (s.event 0x7031 0x0B 0).enterFault 2 else s

/-- The journal takes records: its MRAM works (R458) and it is not sealed by a collapse (R454). -/
def State.journals (s : State) : Bool := s.awake && !s.led.mramFailed && !(s.ctl.state == .collapse && s.led.journal.sealed)
/-- R434: a record that neither the journal nor its reserve has room for is dropped. -/
def State.dropRecord (s : State) : State :=
  let s : State := { s with led.lost := s.led.lost + 1 }
  if s.led.lostNoted.elim true fun t => secT 1 ≤ ticksFrom t s.now then
    State.event { s with led.lostNoted := some s.now } 0x7032 0x0B 0 s.led.lost.toNat
  else s
/-- RECORD_JOURNAL (R428, R434): the oldest record generated gets its serial and its frame; once the buffer is full it goes
into the reserve, and beyond that it is dropped. -/
def recordJournal (s : State) : State :=
  match s.made with
  | [] => s
  | r :: rest =>
    if !s.journals then s
    else
      let s : State := { s with made := rest }
      let n := frameSize r
      if s.led.full && reserveRoom < s.led.reserve + n then s.dropRecord
      else
        State.fillMarks { s with
          led.journal.frames := s.led.journal.frames ++ [{ serial := s.led.serial, record := r }]
          led.serial := s.led.serial + 1
          led.reserve := if s.led.full then s.led.reserve + n else s.led.reserve }
def execRecordJournal (s : State) : Res := go (recordJournal s)

/-! ### The formatter (R416, R417, R430–R432) -/

/-- Bytes of the record area (R404). -/
def areaBytes : Nat := 2447360
/-- The bytes of records before compression. -/
def ulenOf (l : List Record) : Nat := sumOf recSize l
/-- The records of the batch being formed. -/
def openRecs (a : Ashlar) : List Record := a.recs.drop (a.recs.length - a.inBatch)
/-- R417: a batch is written with method DEFLATE when that gives fewer bytes, else STORED. -/
def deflates (deflate : Bool) (l : List Record) : Bool := deflate && (Config.deflate (l.flatMap recBytes)).length < ulenOf l
/-- R417: the length of a batch as written. -/
def clenOf (deflate : Bool) (l : List Record) : Nat :=
  if deflates deflate l then (Config.deflate (l.flatMap recBytes)).length else ulenOf l
/-- The bytes the batch being formed takes in the record area: its header and its data (R416). -/
def batchBytes (a : Ashlar) : Nat := 16 + clenOf a.deflate (openRecs a)
/-- The batch being formed fits the record area. -/
def batchFits (a : Ashlar) : Bool := a.used + batchBytes a ≤ areaBytes
/-- The batch being formed ends (R431). -/
def endBatch (a : Ashlar) : Ashlar :=
  if a.inBatch = 0 then a
  else { a with
    used := a.used + batchBytes a
    batches := a.batches + 1
    cuts := a.cuts ++ [(a.inBatch, deflates a.deflate (openRecs a))]
    inBatch := 0 }
/-- An ashlar begins with records that form its first batch. -/
def State.openAshlar (s : State) (serial : BitVec 64) (recs : List Record) : Ashlar :=
  { serial := serial, recs := recs, firstAt := s.now, inBatch := recs.length, deflate := s.on 0xB07, config := s.par.generation }
/-- R432: an ashlar takes the next sequence number and waits in staging. -/
def State.enqueue (s : State) (a : Ashlar) : State :=
  { s with
    led.journal.nextSeq := s.led.journal.nextSeq + 1
    led.closed := s.led.closed ++ [{ a with seq := s.led.journal.nextSeq }] }
/-- R432: a data ashlar is closed. The first one after a load or a WAKING carries RESTART (Table 12.9). -/
def State.closeAshlar (s : State) (a : Ashlar) : State :=
  let a : Ashlar := { a with restart := s.led.restartDue, redo := a.redo || s.led.redoDue }
  State.enqueue { s with led.restartDue := false, led.redoDue := false } a
/-- The ashlar being formed closes; a last batch that does not fit opens the next one (R431). -/
def State.closeForming (s : State) : State :=
  match s.led.forming with
  | none => s
  | some a =>
    if batchFits a then State.closeAshlar { s with led.forming := none } (endBatch a)
    else
      let kept : Ashlar := { a with recs := a.recs.take (a.recs.length - a.inBatch), inBatch := 0 }
      let next := s.openAshlar (a.serial + BitVec.ofNat 64 kept.recs.length) (openRecs a)
      State.closeAshlar { s with led.forming := some next } kept
/-- R420, R431: the formatter takes a record. -/
def State.formRecord (s : State) (f : Frame) : State :=
  let fresh := s.openAshlar f.serial [f.record]
  let s : State := { s with led.fmtSerial := f.serial + 1 }
  match s.led.forming with
  | none => { s with led.forming := some fresh }
  | some a =>
    if a.serial.toNat + a.recs.length != f.num then
      let s := s.closeForming
      let s := s.closeForming
      { s with led.forming := some fresh }
    else if ulenOf (openRecs a) + recSize f.record ≤ 65536 && a.inBatch != 0 then
      { s with led.forming := some { a with recs := a.recs ++ [f.record], inBatch := a.inBatch + 1 } }
    else
      let s := if batchFits a then { s with led.forming := some (endBatch a) } else s.closeForming
      let b := endBatch (s.led.forming.getD fresh)
      { s with led.forming := some { b with recs := b.recs ++ [f.record], inBatch := 1, deflate := s.on 0xB07 } }

/-- The active waits for its standby (R499): the standby is SYNCED. -/
def State.peerSynced (s : State) : Bool := s.crown.holds && s.crown.peerBeat.elim false (·.synced)
/-- R499: the next serial and next sequence number that the standby is known to hold. -/
def State.mirrored (s : State) : Nat × Nat :=
  ((s.crown.cutSeq.find? fun c => c.1 == s.crown.peerApplied.toNat).map (·.2)).getD (0, 0)
/-- R499: a record with this serial may go into a batch. -/
def State.mayForm (s : State) (serial : Nat) : Bool := !s.peerSynced || serial < s.mirrored.1
/-- R499: an ashlar with this sequence number may be encrypted. -/
def State.mayEncrypt (s : State) (seq : Nat) : Bool := !s.peerSynced || seq < s.mirrored.2
/-- The formatter works: a writable cartridge with room, outside COLLAPSE (R452) and STANDBY (R489). -/
def State.formats (s : State) : Bool :=
  s.awake && s.led.state == .writable && !s.led.fullDue && s.ctl.state != .collapse && s.ctl.state != .standby
/-- The formatter takes the staged records in serial order (R431). -/
def State.format (s : State) : State :=
  let ready := s.led.journal.frames.filter fun f => f.staged && !f.verified && s.led.fmtSerial.toNat ≤ f.num
  if s.formats then (ready.takeWhile fun f => s.mayForm f.num).foldl State.formRecord s else s

/-- A frame is copied into staging (R430). -/
def stageFirst : List Frame → List Frame
  | [] => []
  | f :: fs => if f.staged then f :: stageFirst fs else { f with staged := true } :: fs
/-- STAGING_PAGE (R430): the next frame in serial order is copied into staging, when staging has room. -/
def stagingPage (s : State) : State :=
  let next := s.led.journal.frames.find? fun f => !f.staged
  if !s.awake || !s.led.replayed then s
  else match next with
    | none => s.format
    | some f =>
      if stagingRoom < s.led.stagingUsed + frameSize f.record then s.fillMarks
      else (State.fillMarks { s with led.journal.frames := stageFirst s.led.journal.frames }).format
def execStagingPage (s : State) : Res := go (stagingPage s)
/-- LEDGER_FLUSH_TIMER (R431). -/
def ledgerFlushTimer (s : State) : State :=
  let due := s.led.forming.elim false fun a => secT (s.num 0xB16) ≤ ticksFrom a.firstAt s.now
  if s.formats && due then s.closeForming else s
def execLedgerFlushTimer (s : State) : Res := go (ledgerFlushTimer s)

/-- R433: the space of the oldest records is released while they stand in verified ashlars. -/
def State.release (s : State) : State :=
  let left := s.led.journal.frames.dropWhile (·.verified)
  State.fillMarks { s with
    led.journal.frames := left
    led.journal.oldest := (left.head?).elim s.led.serial (·.serial) }
/-- The records of an ashlar stand in a verified ashlar. -/
def State.markVerified (s : State) (a : Ashlar) : State :=
  let first := a.serial.toNat
  { s with led.journal.frames := s.led.journal.frames.map fun f =>
      if first ≤ f.num && f.num < first + a.recs.length then { f with verified := true } else f }
/-- Every image in staging is discarded; the records that are not on tape are formatted afresh (R432, R455). -/
def State.reform (s : State) : State :=
  { s with
    led.forming := none
    led.closed := []
    led.onTape := none
    led.awaiting := []
    led.streaming := false
    led.blocksDue := 0
    led.fullDue := false
    led.fmtSerial := (s.led.journal.frames.head?).elim s.led.serial (·.serial) }

/-! ### Places on tape (R408, R410, R440) -/

/-- The first data-zone wedge of a wrap in its direction of travel (R410). -/
def wrapStart (w : Nat) : Nat := if w % 2 = 0 then 100 else 514899
/-- Wedges of the data zone that remain from a wedge on. -/
def zoneLeft (w i : Nat) : Nat := if w % 2 = 0 then 514900 - i else i + 1 - 100
/-- R410: where the next ashlar goes; none when nothing may be started any more. -/
def placeFor (data : Bool) (w i : Nat) : Option (Nat × Nat) :=
  if w < 90 && (if data && w = 89 then 88 else 44) ≤ zoneLeft w i then some (w, i)
  else if w < 89 then some (w + 1, wrapStart (w + 1))
  else none
/-- The ashlar is complete: a trailer is valid (R423 and "Reading a cartridge"). -/
def complete (a : Ashlar) : Bool := 1 ≤ a.trailers
/-- R408: the wedges from the preamble of an ashlar to the first place of the next one. Every channel is as long as the
longest: 768 rows, its copies, the preamble and the trailer, of 2,310 bits of 35.0 nm each, in wedges of 2.0 mm. -/
def wedgesOf (a : Ashlar) : Nat := ((770 + a.perCh.foldl max 0) * 80850 + 1999999) / 2000000 + 1
/-- R408, R440: the wedges from its preamble to the place of the next ashlar: one more where no trailer of it is valid. -/
def wedgesPast (a : Ashlar) : Nat := if complete a then wedgesOf a else wedgesOf a + 1
/-- A wedge `n` further on in the direction of travel. -/
def wedgeOn (w i n : Nat) : Nat := if w % 2 = 0 then i + n else i - n
/-- R438: the ashlar is sound. -/
def soundOn (a : Ashlar) : Bool := 12 ≤ a.trailers && a.sound
/-- The sequence number of the last complete ashlar (Table 12.9, prev). -/
def lastComplete (c : Cartridge) : Nat := ((c.tape.filter complete).getLast?).elim 0xFFFFFFFFFFFF (·.seq)
/-- The number after the last one on tape (R412). -/
def seqAfter (c : Cartridge) : Nat := c.tape.foldl (fun m a => max m (a.seq + 1)) 0

/-- The ledger state a loaded cartridge gives (R438 steps 2 to 4 and 6). -/
def State.cartState (s : State) (c : Cartridge) : LedgerState :=
  if !c.headersOk || c.keyid != keyidOf s.ulk then .foreign
  else match c.tape.find? fun a => a.kind == .capstone && complete a with
    | some a => if a.reason = 1 then .full else .closed
    | none => .writable

/-! ### Writing and verify (R443–R446) -/

/-- The Keystone may write tape: the link is up, the transport has not stopped, no seek, verify, replay or load runs (R447), and
the unit holds the crown and is not in COLLAPSE (R452, R489). -/
def State.writes (s : State) : Bool :=
  s.awake && s.led.link.up && !s.led.stopped && s.ctl.state != .standby && s.ctl.state != .collapse && !s.crown.yielding && !s.crown.ledgerHandover &&
    ((s.led.state == .writable && s.led.op == .none) || (s.led.state == .unloading && s.led.op == .unload))
/-- R441, R442: the capstone that is due now, by its reason: every closed ashlar has been verified. -/
def State.capstoneDue (s : State) : Option Nat :=
  let quiet := s.led.closed.isEmpty && s.led.onTape.isNone && s.led.awaiting.isEmpty
  if s.led.capDone || !quiet then none
  else if s.led.fullDue then some 1
  else if s.led.state == .unloading && s.led.closeAsked && s.led.forming.isNone &&
      s.led.cart.elim false (fun c => s.cartState c == .writable) then some 2
  else none
/-- Table 12.13: the CAPSTONE record. -/
def State.capRecord (s : State) (c : Cartridge) (reason : Nat) : Record :=
  let data := c.tape.filter (·.kind == .data)
  let whole := data.filter complete
  { typ := 7
    noLine := s.lineNow.isNone
    run := s.led.run
    line := s.lineNow.getD 0
    lot := lotAt s.led.lots s.led.run (s.lineNow.getD 0)
    body := leBytes 4 whole.length ++ leBytes 4 (c.tape.filter fun a => !complete a).length ++
      leBytes 6 ((whole.getLast?).elim 0 (·.seq)) ++ leBytes 2 0 ++
      leBytes 8 ((whole.getLast?).elim 0 fun a => a.serial.toNat + a.recs.length - 1) ++
      leBytes 8 (sumOf (fun (a : Ashlar) => a.recs.length) whole) ++ [BitVec.ofNat 8 reason, 0, 0, 0] }
/-- R422: a capstone is made and waits to be written. -/
def State.makeCapstone (s : State) (reason : Nat) : State :=
  match s.led.cart with
  | none => s
  | some c =>
    let a := endBatch { (s.openAshlar s.led.serial [s.capRecord c reason]) with kind := .capstone, reason := reason }
    State.enqueue { s with led.serial := s.led.serial + 1 } a

/-- The highest speed index whose entry level the fill reaches (Table 13.3). -/
def startSpeed (fill : Nat) : Nat := min 7 (fill / 100)
/-- R443: one step up or down between ashlars. -/
def stepSpeed (i fill : Nat) : Nat :=
  if i < 7 && 100 * (i + 1) ≤ fill then i + 1 else if 0 < i && fill + 50 < 100 * i then i - 1 else i
/-- The oldest closed ashlar goes onto tape; with no room left for it a capstone FULL is due, and the data images are discarded
(R441). -/
def State.putOnTape (s : State) : State :=
  match s.led.closed, s.led.cart with
  | a :: rest, some c =>
    match placeFor (a.kind == .data) c.wrap c.wedge with
    | some (w, i) =>
      { s with
        led.closed := rest
        led.onTape := some { a with wrap := w, wedge := i, reverse := w % 2 == 1, prev := lastComplete c }
        led.blocksDue := 769
        led.streaming := true }
    | none => { s with
        led.fullDue := true
        led.closed := []
        led.forming := none
        led.streaming := false
        led.fmtSerial := if a.kind == .data then a.serial else s.led.fmtSerial }
  | _, _ => { s with led.streaming := false }
/-- The next closed ashlar may be written (R443, R499). -/
def State.nextReady (s : State) : Bool := (s.led.closed.head?).elim false fun a => s.mayEncrypt a.seq
/-- TAPE_START (R443): with a closed ashlar waiting the tape starts; a capstone that is due is made first. -/
def tapeStart (s : State) : State :=
  if !s.writes || s.led.onTape.isSome || s.led.streaming then s
  else
    let s := match s.capstoneDue with
      | some r => s.makeCapstone r
      | none => s
    if s.nextReady then State.putOnTape { s with led.speed := startSpeed s.led.fill } else s
def execTapeStart (s : State) : Res := go (tapeStart s)

/-- An ashlar stands on tape, and the next one may begin at wedge `i` of its wrap. -/
def State.stood (s : State) (a : Ashlar) (w i : Nat) : State :=
  { s with
    led.onTape := none
    led.blocksDue := 0
    led.cart := s.led.cart.map fun c => { c with tape := c.tape ++ [a], wrap := w, wedge := i } }
/-- The facts of an ashlar on tape as its verify found them. -/
def State.setTape (s : State) (seq trailers : Nat) (sound : Bool) : State :=
  { s with led.cart := s.led.cart.map fun c =>
      { c with tape := updAll (fun a => a.seq == seq) (fun a => { a with trailers := trailers, sound := sound }) c.tape } }
/-- The records of an ashlar are written again, with a new sequence number and REDO (R426, R445); none closes any more in
COLLAPSE (R452). -/
def State.redoAshlar (s : State) (a : Ashlar) : State :=
  if a.kind == .data && s.ctl.state != .collapse then
    s.enqueue { a with redo := true, restart := false, trailers := 0, sound := false, perCh := List.replicate 16 0 }
  else s
/-- R426, R440: the ashlar on tape ends without a trailer. The next one begins at least two wedges beyond its last block, or,
at the end of the data zone, at the next wrap (R427). The manual does not tell how far it got (assumption 4). -/
def State.breakOff (s : State) (a : Ashlar) (zoneEnd : Bool) : State :=
  let w := if zoneEnd then a.wrap + 1 else a.wrap
  let i := if zoneEnd then wrapStart (a.wrap + 1) else wedgeOn a.wrap a.wedge (s.freeWord.toNat % wedgesOf a + 2)
  State.drew { s.stood { a with trailers := 0, sound := false } w i with led.streaming := false }
/-- An ashlar is abandoned (R426, R446). -/
def State.abandon (s : State) (a : Ashlar) (zoneEnd : Bool) : State :=
  let s := s.breakOff a zoneEnd
  State.event { s with led.abandoned := s.led.abandoned + 1 } 0x7011 0x0B 0 (a.seq % 2 ^ 32)
/-- BLOCK_READBACK (R405, R444, R446, R427): the read channel decodes a block of channel `ch`; one that fails is written again on that
channel. -/
def blockReadback (read : Option RowRead) (ch : Nat) (s : State) : State :=
  match s.led.onTape with
  | none => s
  | some a =>
    if !blockFails read || !s.awake || 16 ≤ ch then s
    else if 256 ≤ a.perCh.foldl (· + ·) 0 then (s.abandon a false).redoAshlar a
    else
      let b : Ashlar := { a with perCh := updAt ch (· + 1) a.perCh }
      if zoneLeft a.wrap a.wedge < wedgesOf b - 1 then (s.abandon a true).redoAshlar a
      else { s with led.onTape := some b, led.rewrites := s.led.rewrites + 1, led.blocksDue := s.led.blocksDue + 1 }
def execBlockReadback (read : Option RowRead) (ch : Nat) (s : State) : Res := go (blockReadback read ch s)
/-- ASHLAR_WRITE_END (R443): the trailers stand on tape, `trailers` of them valid; the tape streams on with the next closed
ashlar, one speed step up or down, or stops. -/
def ashlarWriteEnd (trailers : Nat) (s : State) : State :=
  match s.led.onTape with
  | none => s
  | some a =>
    if !s.awake then s
    else
      let a : Ashlar := { a with trailers := min 16 trailers, sound := true }
      let s := s.stood a a.wrap (wedgeOn a.wrap a.wedge (wedgesPast a))
      let s : State := { s with led.awaiting := s.led.awaiting ++ [a] }
      if s.writes && s.nextReady then State.putOnTape { s with led.speed := stepSpeed s.led.speed s.led.fill }
      else { s with led.streaming := false }
def execAshlarWriteEnd (trailers : Nat) (s : State) : Res := go (ashlarWriteEnd trailers s)

/-- The shutdown of the transport begins (R442). -/
def State.beginUnload (s : State) (close : Bool) : State :=
  let s : State := (s.closeForming).closeForming
  { s with led.state := .unloading, led.op := .unload, led.opAt := s.now, led.closeAsked := close }
/-- A capstone has been verified (R441, R442). -/
def State.capVerified (s : State) (reason : Nat) : State :=
  let s : State := { s with led.capDone := true, led.fullDue := false }
  if reason = 1 then
    let s := s.event 0x7021 0x0B 0
    if s.led.state == .unloading then s
    else
      let s : State := { s with led.state := .full }
      if s.on 0xB19 then s.beginUnload false else s
  else
    let s := s.event 0x7020 0x0B 0
    if s.led.state == .unloading then s else { s with led.state := .closed }
/-- R512: once the ashlar on tape has been verified, the yielding Keystone sends HANDOVER on the LEDGER link. -/
def State.ledgerHandover (s : State) : State :=
  if s.crown.ledgerHandover && s.led.onTape.isNone && s.led.awaiting.isEmpty then
    let g := if s.crown.holds then s.crown.gen + 1 else s.crown.gen
    State.updLink { s with crown.ledgerHandover := false } .ledger (·.send s.now (.crown g 0 true))
  else s
/-- ASHLAR_VERIFIED (R445): the oldest ashlar written is verified, or its records are written again with REDO. -/
def ashlarVerified (trailers : Nat) (rowsOk : Bool) (s : State) : State :=
  match s.led.awaiting with
  | [] => s
  | a :: rest =>
    if !s.awake || s.led.journal.sealed then s
    else
      let s := State.setTape { s with led.awaiting := rest } a.seq (min 16 trailers) rowsOk
      let s :=
        if 12 ≤ trailers && rowsOk then
          if a.kind == .capstone then s.capVerified a.reason else (s.markVerified a).release
        else
          let s := State.event { s with led.redo := s.led.redo + 1 } 0x7012 0x0B 0 (a.seq % 2 ^ 32) (min 16 trailers)
          s.redoAshlar a
      s.ledgerHandover
def execAshlarVerified (trailers : Nat) (rowsOk : Bool) (s : State) : Res := go (ashlarVerified trailers rowsOk s)

/-! ### Load (R438–R441) -/

/-- CARTRIDGE_INSERTED (R438): with autoload the load starts, after a transport fault too (R457). -/
def cartridgeInserted (c : Cartridge) (s : State) : State :=
  if s.led.cart.isSome then s
  else
    let s : State := { s with led.cart := some c, led.state := if s.led.state == .fault && !s.led.linkFault then .empty else s.led.state }
    if s.awake && s.on 0xB18 && s.led.state == .empty && s.led.op == .none && s.led.link.up && s.ctl.state != .standby
        && s.ctl.state != .waking && s.ctl.state != .collapse then s.beginLoad
    else s
def execCartridgeInserted (c : Cartridge) (s : State) : Res := go (cartridgeInserted c s)
/-- CARTRIDGE_REMOVED (R457): taken out by hand. -/
def cartridgeRemoved (s : State) : State :=
  if s.led.cart.isNone || (s.led.threaded && s.led.state != .fault) || s.led.op != .none then s
  else
    let s : State := { s with led.cart := none, led.threaded := false }
    if s.led.linkFault then s else { s with led.state := .empty }
def execCartridgeRemoved (s : State) : Res := go (cartridgeRemoved s)
/-- LEDGER_LOAD (R438); during an unload it is held (R156). -/
def ledgerLoad (ln : Ln) (s : State) : State :=
  s.verb ln .operate fun s =>
    if s.ctl.state == .standby || s.ctl.state == .waking || s.ctl.state == .collapse then refuse s 301
    else if s.led.state == .unloading then s.startOp ln .ledgerLoad "queued" fun s => { s with led.loadQueued := true }
    else if s.led.state != .empty then refuse s 301
    else if s.led.op != .none then refuse s 302
    else if s.led.cart.isNone || !s.led.link.up then refuse s 601
    else s.startOp ln .ledgerLoad "loading" State.beginLoad
def execLedgerLoad (ln : Ln) (s : State) : Res := go (ledgerLoad ln s)

/-- The cartridge is ejected: the ledger is EMPTY (R442 step 5). -/
def State.eject (s : State) : State :=
  State.event { s with
    led.cart := none
    led.threaded := false
    led.state := .empty
    led.op := .none
    led.closeAsked := false
    led.capDone := false } 0x7002 0x0B 0
/-- The ordinal of a ledger state (Table 13.2). -/
def ledgerOrdinal : LedgerState → Nat
  | .empty => 0 | .loading => 1 | .writable => 2 | .closed => 3 | .full => 4 | .foreign => 5 | .unloading => 6 | .fault => 7
/-- Its name. -/
def ledgerText : LedgerState → String
  | .empty => "EMPTY" | .loading => "LOADING" | .writable => "WRITABLE" | .closed => "CLOSED" | .full => "FULL"
  | .foreign => "FOREIGN" | .unloading => "UNLOADING" | .fault => "FAULT"
/-- R439: a blank cartridge initialised: instance, key and header ashlars. -/
def State.initCart (s : State) : Cartridge :=
  let hdr := fun (seq wedge : Nat) (prev : Nat) =>
    ({ seq := seq, kind := .header, serial := s.led.serial, wedge := wedge, prev := prev, keyid := keyidOf s.ulk,
       wrapped := keyWrap s.ulk (s.randomBytes 32), config := s.par.generation, trailers := 16, sound := true } : Ashlar)
  { instance_ := BitVec.ofNat 48 (Config.ledgerUnit % 65536 * 2 ^ 32 + s.led.counter.toNat)
    blank := false
    keyid := keyidOf s.ulk
    headersOk := true
    tape := [hdr 0 100 0xFFFFFFFFFFFF, hdr 1 133 0]
    ck := s.randomBytes 32
    wrap := 0
    wedge := 166 }
/-- A cartridge holds records not yet released in an ashlar that is not sound (R455). -/
def State.needsRedo (s : State) (c : Cartridge) : Bool :=
  c.tape.any fun a => a.kind == .data && !soundOn a &&
    s.led.journal.frames.any fun f => !f.verified && a.serial.toNat ≤ f.num && f.num < a.serial.toNat + a.recs.length
/-- R438 steps 5 and 6: a cartridge to be written: the records of sound ashlars are released when the journal was being written
to it; the rest are formatted afresh. -/
def State.takeCart (s : State) (c : Cartridge) : State :=
  let same := c.instance_ == s.led.journal.instance_
  let s := if same then ((c.tape.filter fun a => a.kind == .data && soundOn a).foldl State.markVerified s).release else s
  let s : State := { s with
    led.journal.instance_ := c.instance_
    led.journal.nextSeq := if same then max s.led.journal.nextSeq (seqAfter c) else seqAfter c
    led.restartDue := true
    led.redoDue := s.needsRedo c
    led.capDone := false }
  s.reform.format
/-- The end of a load: its state, its record and its reply. -/
def State.endLoad (s : State) (st : LedgerState) (c : Cartridge) : State :=
  let s : State := { s with led.cart := some c, led.threaded := true, led.headsUp := false, led.state := st, led.op := .none }
  let s := s.event 0x7001 0x0B 0 (ledgerOrdinal st) (c.instance_.toNat % 2 ^ 32)
  let s := if st == .writable then s.takeCart c else s
  let seq := if st == .writable then s.led.journal.nextSeq else seqAfter c
  s.finish (· == .ledgerLoad) (.ok (ledgerText st ++ " instance 0x" ++ hexText 12 c.instance_.toNat ++ " seq " ++ natText seq))
/-- LEDGER_LOAD_DONE (R438, R439): the load has ended; `threaded` says that servo was acquired on wrap 0, `verified` that the
header ashlars of a blank cartridge passed their verify. -/
def ledgerLoadDone (threaded verified : Bool) (s : State) : State :=
  match s.led.cart with
  | none =>
    if s.led.op == .load then
      State.finish { s with led.op := .none, led.state := .empty } (· == .ledgerLoad) (.err 601 "")
    else s
  | some c =>
    if !s.awake || s.led.op != .load then s
    else if !threaded then
      let s : State := { s with led.state := .fault, led.op := .none }
      (s.event 0x7001 0x0B 0 7 (c.instance_.toNat % 2 ^ 32)).finish (· == .ledgerLoad) (.err 601 "")
    else if !c.blank then s.endLoad (s.cartState c) c
    else if s.led.counter = 0xFFFFFFFF then
      ((s.event 0x7060 0x0B 0).eject).finish (· == .ledgerLoad) (.err 501 "cartridge counter exhausted")
    else
      let n := s.initCart
      let s : State := { s.drew with led.counter := s.led.counter + 1 }
      if verified then (s.event 0x7003 0x0B 0 (n.instance_.toNat % 2 ^ 32)).endLoad .writable n
      else
        ((s.event 0x7061 0x0B 0 (n.instance_.toNat % 2 ^ 32)).eject).finish (· == .ledgerLoad) (.err 601 "")
def execLedgerLoadDone (threaded verified : Bool) (s : State) : Res := go (ledgerLoadDone threaded verified s)

/-! ### Unload, seek, verify, replay, abort (R442, R447–R451) -/

/-- LEDGER_UNLOAD (R442). -/
def ledgerUnload (ln : Ln) (close : Bool) (s : State) : State :=
  s.verb ln .operate fun s =>
    if s.ctl.state == .standby then refuse s 301
    else if s.led.state == .unloading && s.led.loadQueued then
      done (State.finish { s with led.loadQueued := false } (· == .ledgerLoad) (.err 301 "cancelled")) "enable cancelled"
    else if s.led.state == .unloading then done s "already stopping"
    else if !([LedgerState.writable, .closed, .full, .foreign].contains s.led.state) then refuse s 301
    else if s.led.op != .none then refuse s 302
    else s.startOp ln .ledgerUnload "unloading" fun s => s.beginUnload close
def execLedgerUnload (ln : Ln) (close : Bool) (s : State) : Res := go (ledgerUnload ln close s)
/-- LEDGER_UNLOAD_DONE (R442 step 5): once everything closed is verified and the capstone asked for stands. A LEDGER LOAD that
was held would now find no cartridge, and is cancelled (R156). -/
def ledgerUnloadDone (s : State) : State :=
  let quiet := s.led.closed.isEmpty && s.led.onTape.isNone && s.led.awaiting.isEmpty && s.capstoneDue.isNone
  if !s.awake || s.led.op != .unload || !quiet then s
  else
    let s := (s.eject).finish (· == .ledgerUnload) (.ok "EMPTY")
    if s.led.loadQueued then
      State.finish { s with led.loadQueued := false } (· == .ledgerLoad) (.err 301 "cancelled")
    else s
def execLedgerUnloadDone (s : State) : Res := go (ledgerUnloadDone s)

/-- R447: what refuses SEEK, VERIFY and REPLAY. -/
def State.tapeRefusal (s : State) : Option Nat :=
  if s.ctl.state == .standby then some 301
  else if !([LedgerState.writable, .closed, .full].contains s.led.state) then some 301
  else if s.led.state == .writable && s.inAny [.run, .drain] then some 301
  else if s.led.op != .none then some 302
  else none
/-- A tape operation begins. -/
def State.beginTape (s : State) (op : LedgerOp) : State := { s with led.op := op, led.opAt := s.now }
/-- LEDGER_SEEK (R448). -/
def ledgerSeek (ln : Ln) (t : SeekTarget) (s : State) : State :=
  s.verb ln .operate fun s =>
    match s.tapeRefusal with
    | some c => refuse s c
    | none => s.startOp ln .ledgerSeek "seeking" fun s => { s.beginTape .seek with led.seekTo := t }
def execLedgerSeek (ln : Ln) (t : SeekTarget) (s : State) : Res := go (ledgerSeek ln t s)
/-- R448: the place a seek goes to: sequence number, wrap and wedge. -/
def seekPlace (c : Cartridge) : SeekTarget → Option (Nat × Nat × Nat)
  | .seq n => (c.tape.find? (·.seq == n)).map fun a => (a.seq, a.wrap, a.wedge)
  | .serial n => (c.tape.find? fun a => a.kind == .data && complete a && a.serial.toNat ≤ n && n < a.serial.toNat + a.recs.length).map
      fun a => (a.seq, a.wrap, a.wedge)
  | .end_ => some (seqAfter c, c.wrap, c.wedge)
/-- LEDGER_SEEK_DONE (R448): servo lock on the target wedge, or a transport that found none. -/
def ledgerSeekDone (ok : Bool) (s : State) : State :=
  if !s.awake || s.led.op != .seek then s
  else
    let s : State := { s with led.op := .none }
    let o : Out := match s.led.cart.bind fun c => seekPlace c s.led.seekTo with
      | none => .err 401 ""
      | some (n, w, i) =>
        if ok then .ok ("ashlar " ++ natText n ++ " wrap " ++ natText w ++ " wedge " ++ natText i) else .err 601 ""
    s.finish (· == .ledgerSeek) o
def execLedgerSeekDone (ok : Bool) (s : State) : Res := go (ledgerSeekDone ok s)
/-- LEDGER_VERIFY (R449). -/
def ledgerVerify (ln : Ln) (first last : Option Nat) (s : State) : State :=
  s.verb ln .operate fun s =>
    match s.tapeRefusal with
    | some c => refuse s c
    | none => s.startOp ln .ledgerVerify "verifying" fun s =>
        { s.beginTape .verify with
          led.verifyFrom := first.getD 2
          led.verifyTo := last.getD (s.led.cart.elim 0 fun c => seqAfter c - 1) }
def execLedgerVerify (ln : Ln) (first last : Option Nat) (s : State) : Res := go (ledgerVerify ln first last s)
/-- The ashlars in the range of VERIFY. -/
def State.verifyRange (s : State) : List Ashlar :=
  s.led.cart.elim [] fun c => c.tape.filter fun a => s.led.verifyFrom ≤ a.seq && a.seq ≤ s.led.verifyTo
/-- R449: sound, complete, skipped, failed. -/
def verifyCounts (l : List Ashlar) : List Nat :=
  let n := fun (p : Ashlar → Bool) => (l.filter p).length
  [n soundOn, n fun a => complete a && a.sound && !soundOn a, n fun a => !complete a, n fun a => complete a && !a.sound]
/-- The last serial among ashlars that a reader accepts. -/
def lastSerial (l : List Ashlar) : Nat :=
  ((l.filter fun a => complete a && a.sound && !a.recs.isEmpty).getLast?).elim 0 fun a => a.serial.toNat + a.recs.length - 1
/-- LEDGER_VERIFY_DONE (R449). -/
def ledgerVerifyDone (s : State) : State :=
  if !s.awake || s.led.op != .verify then s
  else
    let n := verifyCounts s.verifyRange
    let k := fun i => natText (n.getD i 0)
    State.finish { s with led.op := .none, led.lastVerify := n } (· == .ledgerVerify)
      (.ok ("sound " ++ k 0 ++ " complete " ++ k 1 ++ " skipped " ++ k 2 ++ " failed " ++ k 3 ++ ", last serial " ++
        natText (lastSerial s.verifyRange)))
def execLedgerVerifyDone (s : State) : Res := go (ledgerVerifyDone s)

/-- R307: a range of the SHARE area. -/
def shareRange (off len : Nat) : Bool := off % 64 = 0 && len % 64 = 0 && 64 ≤ len && off + len ≤ 67108864
/-- LEDGER_REPLAY (R450). -/
def ledgerReplay (ln : Ln) (serial count off len : Nat) (s : State) : State :=
  s.verb ln .operate fun s =>
    if !shareRange off len || count = 0 || 2 ^ 32 ≤ count then refuse s 401
    else match s.tapeRefusal with
      | some c => refuse s c
      | none => s.startOp ln .ledgerReplay "replaying" fun s =>
          { s.beginTape .replay with led.replay := some { serial := serial, count := count, off := off, len := len } }
def execLedgerReplay (ln : Ln) (serial count off len : Nat) (s : State) : Res := go (ledgerReplay ln serial count off len s)
/-- R425, R450: the records that a reader takes, by serial, the first copy in write order of each. -/
def tapeRecords (c : Cartridge) : List (Nat × Record) :=
  let all := (c.tape.filter fun a => a.kind == .data && complete a && a.sound).flatMap fun a =>
    (List.range a.recs.length).map fun i => (a.serial.toNat + i, a.recs.getD i {})
  let once := all.foldl (fun (l : List (Nat × Record)) p => if l.any (fun q => q.1 == p.1) then l else l ++ [p]) []
  sortBy (fun (a b : Nat × Record) => decide (a.1 < b.1)) once
/-- The records that fit a space, in order. -/
def fitRecords (room : Nat) : List (Nat × Record) → List (Nat × Record)
  | [] => []
  | p :: ps => if recSize p.2 ≤ room then p :: fitRecords (room - recSize p.2) ps else []
/-- The replay ends with its reply. -/
def State.replayEnds (s : State) (o : Out) : State :=
  State.finish { s with led.op := .none, led.replay := none } (· == .ledgerReplay) o
/-- LEDGER_REPLAY_DONE (R450): the records are written to the SHARE range, and the verb answers. When 120 s have passed the
number delivered by then is not the manual's to say (assumption 4). -/
def ledgerReplayDone (s : State) : State :=
  match s.led.replay, s.led.cart with
  | some q, some c =>
    if !s.awake || s.led.op != .replay then s
    else
      let late := secT 120 ≤ ticksFrom s.led.opAt s.now
      let from_ := (tapeRecords c).filter fun p => q.serial ≤ p.1
      let asked := from_.take q.count
      let fit := fitRecords q.len asked
      let out := if late then fit.take (s.freeWord.toNat % (fit.length + 1)) else fit
      let ended := if late then "TIME" else if fit.length < asked.length then "SPACE"
        else if fit.length = q.count then "COUNT" else "END"
      let bytes := out.flatMap fun p => recBytes p.2
      let read := c.tape.filter fun a => a.kind == .data && out.any fun p => a.serial.toNat ≤ p.1 && p.1 < a.serial.toNat + a.recs.length
      let s : State := if late then s.drew else s
      (s.sealWrite 2 q.off bytes none false false).1.replayEnds
        (.multi (read.map (fun a => "ashlar " ++ natText a.seq ++ " records " ++ natText a.recs.length) ++
          ["delivered " ++ natText out.length ++ " records " ++ natText bytes.length ++ " bytes, last serial " ++
            natText ((out.getLast?).elim 0 (·.1)) ++ ", ended " ++ ended]))
  | _, _ => s
def execLedgerReplayDone (s : State) : Res := go (ledgerReplayDone s)

/-- An aborted tape operation leaves the transport as it stands (R442, R448, R449). -/
def State.abortTape (s : State) : State :=
  match s.led.op with
  | .seek => State.finish { s with led.op := .none } (· == .ledgerSeek) (.err 301 "aborted")
  | .verify =>
    let l := s.verifyRange
    let n := verifyCounts (l.take (s.freeWord.toNat % (l.length + 1)))
    State.finish { s.drew with led.op := .none, led.lastVerify := n } (· == .ledgerVerify) (.err 301 "aborted")
  | .unload =>
    let st := s.led.cart.elim .empty s.cartState
    let s : State := { s with
      led.op := .none
      led.state := st
      led.closeAsked := false
      led.closed := s.led.closed.filter fun a => a.kind != .capstone || a.reason = 1 }
    let s := s.finish (· == .ledgerUnload) (.err 301 "aborted")
    if s.led.loadQueued then State.finish { s with led.loadQueued := false } (· == .ledgerLoad) (.err 301 "") else s
  | _ => s
/-- LEDGER_ABORT (R451, R159): `completion` is the tick in which the completion step of Table 4.8 began, if it has. -/
def ledgerAbort (ln : Ln) (completion : Option Tick) (s : State) : State :=
  s.verb ln .operate fun s =>
    if !(s.led.op == .seek || s.led.op == .verify || s.led.op == .unload) then refuse s 301 "nothing to abort"
    else if completion.elim false fun t => tickLe t s.now then done s "already complete"
    else done s.abortTape "aborted"
def execLedgerAbort (ln : Ln) (completion : Option Tick) (s : State) : Res := go (ledgerAbort ln completion s)

/-! ### Faults (R456–R458, R505, R546) -/

/-- The ledger verbs that are pending end with `o`. -/
def State.endLedgerVerbs (s : State) (o : Out) : State :=
  State.finish { s with led.op := .none, led.replay := none, led.closeAsked := false, led.loadQueued := false }
    (fun p => p == .ledgerLoad || p == .ledgerUnload || p == .ledgerSeek || p == .ledgerVerify || p == .ledgerReplay) o
/-- R456, R457: the ashlar on tape is abandoned, the tape stops, the ledger is in FAULT. -/
def State.ledgerFault (s : State) (why : Nat) : State :=
  let s := match s.led.onTape with
    | some a => s.abandon a false
    | none => s
  let s := ((s.event 0x7070 0x0B 0 why).cancelLoad).endLedgerVerbs (.err 601 "")
  { s.reform with led.state := .fault }
/-- R36, R456: the LEDGER link is lost. -/
def State.loseLedger (s : State) : State :=
  if !s.led.link.up then s
  else
    let s := s.updLink .ledger fun x => { x with up := false, training := false, sent := [] }
    { s.ledgerFault 0 with led.linkFault := true }
/-- LEDGER_LINK_LOSS (R456). -/
def ledgerLinkLoss (s : State) : State := if s.awake then s.loseLedger else s
def execLedgerLinkLoss (s : State) : Res := go (ledgerLinkLoss s)
/-- TRANSPORT_FAULT (R457): 1 servo, 2 tension, 3 head. -/
def transportFault (why : Nat) (s : State) : State :=
  if s.awake && 1 ≤ why && why ≤ 3 then s.ledgerFault why else s
def execTransportFault (why : Nat) (s : State) : Res := go (transportFault why s)
/-- TRANSPORT_SUPPLY_COLLAPSE (R546): the transport stops at a row-block boundary, unloads its heads and reports a head fault. -/
def transportSupplyCollapse (s : State) : State :=
  let s : State := { s with led.headsUp := true, led.streaming := false }
  if s.awake then s.ledgerFault 3 else s
def execTransportSupplyCollapse (s : State) : Res := go (transportSupplyCollapse s)
/-- JOURNAL_MRAM_FAIL (R458). -/
def journalMramFail (s : State) : State :=
  if !s.awake || s.led.mramFailed then s else State.enterFault { s with led.mramFailed := true } 4
def execJournalMramFail (s : State) : Res := go (journalMramFail s)

/-! ### Collapse and power-up (R452–R455) -/

/-- R453: the time, in ns, to write the blocks still due and to read back the last, at speed index `i`. -/
def tapeSpeeds : List Nat := [1500, 2000, 2500, 3000, 3750, 4500, 5250, 6000]
def estimateNs (blocks i : Nat) : Nat := (blocks * 80850 + 2500000) * 1000 / tapeSpeeds.getD i 1500
/-- Table 13.4: what tick 0 of a collapse does to each stage of a write. `offSpeed` says that the transport does not stream at a
speed of Table 13.3 (R453). -/
def State.ledgerCollapse (s : State) (offSpeed : Bool) : State :=
  let s : State := { s with led.forming := none, led.closed := [] }
  match s.led.onTape with
  | none => s
  | some a =>
    if a.kind == .capstone || offSpeed || 120000000 < estimateNs s.led.blocksDue s.led.speed then s.breakOff a false else s
/-- JOURNAL_REPLAY (R455): once after WAKING, when an autoload has ended. `bad` is the place of the first frame whose crc
fails. -/
def journalReplay (bad : Option Nat) (s : State) : State :=
  if !s.inAny [.held, .ready, .run, .drain, .fault] || s.led.replayed || s.led.op == .load then s
  else if s.led.cart.isSome && s.on 0xB18 && s.led.state == .empty && s.led.link.up then s.beginLoad
  else
    let all := s.led.journal.frames
    let s : State := match bad with
      | none => s
      | some i =>
        if i < all.length then
          State.event { s with led.journal.frames := all.take i } 0x7041 0x0B 0
            (sumOf (fun (f : Frame) => frameSize f.record) (all.drop (i + 1)))
        else s
    let s := if s.led.journal.sealed then s else s.event 0x7040 0x0B 0
    let last := (s.led.journal.frames.getLast?).elim 0 fun f => f.num + 1
    let s : State := { s with
      led.journal.frames := s.led.journal.frames.map fun f => { f with staged := true }
      led.serial := if s.led.serial.toNat < last then BitVec.ofNat 64 last else s.led.serial
      led.journal.sealed := false
      led.replayed := true
      led.restartDue := true
      led.redoDue := s.led.redoDue || s.led.cart.elim false s.needsRedo }
    s.release.reform.fillMarks.format
def execJournalReplay (bad : Option Nat) (s : State) : Res := go (journalReplay bad s)

/-! ### Bus errors of STAGING (R477) -/

/-- Table 14.7: the formatter (requester 1) discards the image being formed and has its records paged again; for the ledger
writer (requester 2) the ashlar on tape is abandoned and its records are written again with REDO (assumption 21). -/
def State.stagingError (s : State) (who : Nat) : State :=
  if who = 1 then
    let first := (s.led.forming).elim s.led.fmtSerial (·.serial)
    { s with
      led.forming := none
      led.fmtSerial := first
      led.journal.frames := s.led.journal.frames.map fun f => { f with staged := f.staged && f.num < first.toNat } }
  else if who = 2 then
    match s.led.onTape with
    | some a => (s.abandon a false).redoAshlar a
    | none => s
  else s
/-- SEAL_READ (R460, R462, R475) with what the requester does on a bus error of STAGING (R477). -/
def sealReadBy (who key addr len : Nat) (altered : Option (List Byte)) (s : State) : State :=
  let t := sealReadCmd who key addr len altered s
  if s.awake && key = 1 && keyFor addr == some key && t.mp.busError.isSome then t.stagingError who else t
def execSealRead (who key addr len : Nat) (altered : Option (List Byte)) (s : State) : Res :=
  go (sealReadBy who key addr len altered s)

/-! ### CONDITION records (R421, Table 12.13) -/

/-- A fraction of Q1.19 in 0.01 %. -/
def hundredths (v : Int) : Int := roundDiv (v * 10000) (2 ^ 19)
/-- The CONDITION body of zone `z`. -/
def State.conditionBody (s : State) (z : Nat) : List Byte :=
  let p := 3 * (z - 1)
  let on := fun n => (s.loop n).active != .off
  let val := fun n (v : Int) => if on n then hundredths v else 0
  let valid := s.fld.avgValid
  [BitVec.ofNat 8 z, (s.zone z).inhibit,
    if s.batchMode && s.dry.batch.state != .idle then BitVec.ofNat 8 (stepNum s.dry.batch.step) else 0xFF,
    BitVec.ofNat 8 (if on p then 4 * (s.loop p).i1 + (s.loop p).i2 else 0)] ++
  leInt 4 (s.plenumNow z) ++ leInt 4 ((s.loop p).limits.getD 0 0) ++
  leInt 2 (val p (s.loop p).u) ++ leInt 2 (val (p + 1) (s.loop (p + 1)).y) ++ leInt 2 (val (p + 1) (s.loop (p + 1)).u) ++
  leInt 2 (val (p + 2) (s.loop (p + 2)).u) ++
  leBytes 4 s.fld.avgOutMoist ++ leInt 4 s.fld.avgOutTemp ++ leBytes 4 s.fld.avgInMoist ++
  leBytes 4 (roundDiv ((s.dry.crack : Int) * 100) (2 ^ 20)).toNat ++ leInt 2 (val p (s.loop p).ff) ++
  [BitVec.ofNat 8 ((if s.heatOf z then 1 else 0) + 2 * (valid.toNat % 8)), 0]
/-- CONDITION_RECORD (R421): at every multiple of 40,000,000 ticks, for each zone with a loop not OFF. -/
def conditionRecord (s : State) : State :=
  if !s.inAny [.held, .ready, .run, .drain, .fault] || s.now.toNat % 40000000 != 0 then s
  else ([1, 2, 3, 4, 5] : List Nat).foldl (fun s z =>
    if ([0, 1, 2] : List Nat).any fun i => (s.loop (3 * (z - 1) + i)).active != .off then
      s.makeRecord 3 s.lineNow (s.conditionBody z)
    else s) s
def execConditionRecord (s : State) : Res := go (conditionRecord s)

end Sys2Proof.Machine
end

