-- ==== Sys2Proof/Machine/Live.lean ====
section
/-! DEFINITION. The values that read-only parameters show: what GET, SHOW and the parameter page return for them (the parameter
tables of every chapter). -/
namespace Sys2Proof.Machine

/-- 1 for true, as an ordinal of an enumeration such as NO, YES. -/
def bit01 (b : Bool) : Int := if b then 1 else 0
/-- Ordinals of the enumerations, in the order their tables list them. -/
def sourceOrd : CfgSource → Nat
  | .a => 0 | .b => 1 | .factory => 2 | .window => 3
def calSourceOrd : CalSource → Nat
  | .user => 0 | .factory => 1 | .default => 2
def phantomOrd : PhantomState → Nat
  | .on => 0 | .tripped => 1 | .off => 2
def connStateOrd : ConnState → Nat
  | .closed => 0 | .opening => 1 | .ready => 2 | .error => 3 | .closing => 4
def reasonOrd : Reason → Nat
  | .none => 0 | .peerClose => 1 | .localClose => 2 | .violationSent => 3 | .violationReceived => 4 | .retry => 5 | .rnr => 6
  | .silence => 7 | .linkDown => 8 | .waitBroken => 9 | .nonceLimit => 10 | .epochLimit => 11
def moduleOrd : ModuleKind → Nat
  | .none => 0 | .sr => 1 | .lr => 2 | .other => 3 | .faulty => 3 | .dac => 4
def courseOrd : CourseState → Nat
  | .off => 0 | .enabling => 1 | .on => 2 | .draining => 3
def drainOrd : DrainState → Nat
  | .none => 0 | .draining => 1 | .complete => 2
def activeOrd : LoopActive → Nat
  | .off => 0 | .stopping => 1 | .manual => 2 | .auto => 3 | .frozen => 4 | .tracking => 5
def batchStateOrd : BatchState → Nat
  | .idle => 0 | .running => 1 | .held => 2
def batchStepOrd : BatchStep → Nat
  | .fill => 0 | .heat => 1 | .dry => 2 | .temper => 3 | .cool => 4 | .empty => 5
def fanOrd : FanState → Nat
  | .stopped => 0 | .starting => 1 | .retryWait => 2 | .running => 3 | .tachLost => 4 | .coasting => 5 | .fanStall => 6
  | .driveFault => 7
def statusOrd : NodeStatus → Nat
  | .ok => 0 | .farEnd => 1 | .lost => 2 | .invalid => 3 | .mismatch => 4
def lastOrd : SweepLast → Nat
  | .none => 0 | .complete => 1 | .aborted => 2
def ledgerOpOrd : LedgerOp → Nat
  | .none => 0 | .load => 1 | .seek => 2 | .verify => 3 | .replay => 4 | .unload => 5
def slotStateOrd : SlotState → Nat
  | .active => 0 | .repointing => 1 | .split => 2 | .quarantined => 3
def syncOrd : SyncState → Nat
  | .no => 0 | .base => 1 | .yes => 2

/-- The member numbers of an ID in a family: `(id − base) / stride + 1`. -/
def memberOf (base stride id : Nat) : Nat := (id - base) / stride + 1

/-- The active mode that a loop shows (Table 10.6): FROZEN while its source is invalid. -/
def Loop.shown (l : Loop) : LoopActive := if l.frozen then .frozen else l.active
/-- The word of the bits on which `p` holds, bit `i` for number `i`. -/
def maskOf (n : Nat) (p : Nat → Bool) : Nat := sumOf (fun i => if p i then 2 ^ i else 0) (List.range n)
/-- ticket.primed: channels now priming for unconfirmed PROV tickets (Table 5.16). -/
def State.primingProv (s : State) : Nat :=
  sumOf (fun i =>
    ((s.devs.getD i {}).chans.filter fun c =>
      c.phase == .prime && (s.course (i + 1)).plans.any fun p => p.slot == some c.slot && p.prov).length) (List.range 8)
/-- seal.repoint.rate in MB/s (R471): 1,000 while a write of the region moved is held, else the share; 0 with no move under way. -/
def State.repointRate (s : State) : Nat :=
  if s.mp.running.isNone then 0
  else if s.mp.heldWrites.any fun h => s.mp.running == some h.slot then 1000
  else min 1000 (roundDiv ((s.num 0xC20 * 10240 : Nat) : Int) 100).toNat
/-- R492, R506: a path to the peer counts as alive until its silence reaches 2,400 ticks. -/
def State.path1Alive (s : State) : Bool := s.crown.peerBeat.isSome && ticksFrom s.crown.path1 s.now < 2400
def State.path2Alive (s : State) : Bool := s.crown.path2 != 0 && ticksFrom s.crown.path2 s.now < 2400
/-- crown.peer (Table 15.7). -/
def State.peerOrd (s : State) : Nat :=
  if !s.on 0x003 then 0
  else if s.path1Alive then if s.path2Alive then 4 else 2 else if s.path2Alive then 3 else 1
/-- crown.role (Table 15.7). -/
def State.roleOrd (s : State) : Nat := if !s.on 0x003 then 0 else if s.ctl.state == .standby then 2 else 1

/-- Read-only parameters of sys, port and tick. -/
def State.liveSys (s : State) (id e : Nat) : Int :=
  match id with
  | 0x010 => stateCode s.ctl.state
  | 0x011 => s.ctl.causes.toNat
  | 0x015 => bit01 s.ctl.holdupOk
  | 0x016 => s.ctl.holdup
  | 0x017 => s.ctl.supplyA
  | 0x018 => s.ctl.supplyB
  | 0x019 => s.ctl.bus
  | 0x01A => s.ctl.collapses.toNat
  | 0x01B => s.ctl.wakingMs
  | 0x025 => s.sessions.length
  | 0x042 => s.evr.authFailures.toNat
  | 0x050 => sourceOrd s.par.source
  | 0x051 => s.par.generation.toNat
  | 0x052 => bit01 s.par.accepted
  | 0x053 => bit01 (!s.bankValid .a)
  | 0x054 => bit01 (!s.bankValid .b)
  | 0x055 => s.openBonds.length
  | 0x060 => s.ctl.temp
  | 0x061 => (s.ctl.coolRun.filter (· == true)).length
  | 0x062 => s.ctl.coolRpm.getD e 0
  | 0x063 => phantomOrd s.fld.power
  | 0x210 => tickHi s.now
  | 0x211 => tickLo s.now
  | 0x212 => s.sync.line.toNat
  | 0x213 => bit01 (!s.clk.refLocked)
  | _ => 0
/-- Read-only parameters of a port's own block at 0x0100 (Table 8.16). -/
def State.livePort (s : State) (id : Nat) : Int :=
  let p := s.port (memberOf 0x100 0x10 id)
  match id % 16 with
  | 0 => bit01 p.link
  | 0xD => p.authfail.toNat
  | 0xE => p.drops.toNat
  | _ => 0
/-- Read-only parameters of connections, groups and the ports' further families (Tables 8.16 and 9.5). -/
def State.liveNet (s : State) (id e : Nat) : Int :=
  let c := s.conn e
  let g := s.group e
  match id with
  | 0x180 => connStateOrd c.state
  | 0x181 => c.port
  | 0x182 => reasonOrd c.reason
  | 0x183 => c.epoch.toNat
  | 0x184 => (c.fseq / 2 ^ 32 : Nat)
  | 0x185 => (c.fseq % 2 ^ 32 : Nat)
  | 0x186 => c.retx.toNat
  | 0x187 => c.sq.length
  | 0x188 => c.cqCount.toNat
  | 0x189 => if c.fullOn then c.fullGen else 0
  | 0x1A2 => (g.conns.toNat / 2 ^ 32 : Nat)
  | 0x1A3 => (g.conns.toNat % 2 ^ 32 : Nat)
  | 0x1A7 => g.gsn.toNat
  | 0x1A8 => g.partial_.toNat
  | 0x1A9 => g.busy.toNat
  | 0x1B0 => (208 - s.net.userWins.length : Nat)
  | _ =>
    if id / 8 = 0x38 then (s.port (id - 0x1C0 + 1)).held.toNat
    else if id / 8 = 0x39 then (s.port (id - 0x1C8 + 1)).localCnt.toNat
    else if id / 8 = 0x3A then moduleOrd (s.port (id - 0x1D0 + 1)).module_
    else if id / 8 = 0x3B then (s.port (id - 0x1D8 + 1)).rxPower
    else 0
/-- Read-only parameters of chutes and the plumb model (Table 6.5). -/
def State.livePlumb (s : State) (id e : Nat) : Int :=
  let c := s.chute (memberOf 0x300 0x10 id)
  match id with
  | 0x382 => s.moistNow
  | 0x383 => s.plumb.band
  | _ =>
    match id % 16 with
    | 7 => c.t.getD e 0
    | 8 => c.s.getD e 0
    | 9 => c.r.getD e 0
    | 0xB => c.clamped.toNat
    | 0xC => c.sat.toNat
    | 0xD => bit01 c.learn.isSome
    | _ => 0
/-- Read-only parameters of a course (Table 7.9). -/
def State.liveCourse (s : State) (id e : Nat) : Int :=
  let n := memberOf 0x400 0x20 id
  let c := s.course n
  match id % 32 with
  | 0x02 => courseOrd c.state
  | 0x04 => c.last.bankV
  | 0x05 => bit01 c.last.ready
  | 0x06 => c.last.n
  | 0x07 => sumOf (fun i => c.last.phases.getD i 0 * 16 ^ i) (List.range 6)
  | 0x09 => s.simEffOf n c.last.n
  | 0x16 => ((s.dev n).chans.getD e {}).duty s.now
  | 0x18 => bit01 c.link.up
  | 0x19 => c.last.fieldV
  | 0x1A => c.fires.toNat
  | 0x1B => c.deniedBoost.toNat
  | 0x1C => (s.dev n).stale.toNat
  | _ => 0
/-- Read-only parameters of a manifold (Table 7.9). -/
def State.liveAir (s : State) (id : Nat) : Int :=
  let m := s.manifold (memberOf 0x500 0x10 id)
  match id % 16 with
  | 0x5 => roundDiv ((m.rhoNum * 1000 : Nat) : Int) m.rhoDen
  | 0x9 => m.pressure
  | 0xA => unitsMilli m.level
  | 0xB => unitsMilli m.hard
  | 0xC => unitsMilli m.soft
  | 0xD => bit01 m.held
  | 0xE => m.denied.toNat
  | _ => 0
/-- Read-only parameters of tickets (Table 5.16). -/
def State.liveTicket (s : State) (id : Nat) : Int :=
  match id with
  | 0x601 => s.primingProv
  | 0x602 => s.tk.deniedSpec.toNat
  | 0x603 => s.tk.taken.toNat
  | 0x604 => s.tk.late.toNat
  | 0x605 => s.tk.stalls.toNat
  | _ =>
    let n := memberOf 0x620 8 id
    let q := s.source n
    match id % 8 with
    | 0 => if !q.open_ then 0 else if q.stalled then 2 else 1
    | 1 => q.next.toNat
    | 2 => (s.tk.tickets.filter fun t => t.src == n && t.final_.isNone).length
    | 3 => q.gaps.toNat
    | 4 => q.refused.toNat
    | 5 => q.overruns.toNat
    | 6 => (s.srcPort n - 1 : Nat)
    | _ => 0
/-- Read-only parameters of conditioning (Table 10.6). -/
def State.liveDry (s : State) (id e : Nat) : Int :=
  let l := s.loop e
  match id with
  | 0x7A1 => activeOrd l.shown
  | 0x7BD => l.flags.toNat
  | 0x7BE => hundredths l.y
  | 0x7BF => hundredths l.u
  | 0x7C0 => (4 * l.i1 + l.i2 : Nat)
  | 0x7C1 => hundredths l.ff
  | 0x7E7 => roundDiv ((s.dry.crack : Int) * 100) (2 ^ 20)
  | 0x7E8 => s.dry.crackCount.toNat
  | 0x7EA => batchStateOrd s.dry.batch.state
  | 0x7EB => batchStepOrd s.dry.batch.step
  | _ =>
    let z := s.zone (memberOf 0x700 0x20 id)
    match id % 32 with
    | 5 => bit01 z.heat
    | 6 => z.inhibit.toNat
    | 8 => s.plenumNow (memberOf 0x700 0x20 id)
    | 9 => drainOrd z.drain
    | _ => 0
/-- Read-only parameters of a fan (Table 11.7). -/
def State.liveFan (s : State) (id : Nat) : Int :=
  let f := s.fan (memberOf 0x800 0x10 id)
  match id % 16 with
  | 0x7 => fanOrd f.state
  | 0x8 => f.rpm
  | 0xB => f.current
  | 0xD => f.attempts.toNat
  | _ => 0
/-- Read-only parameters of the field bank (Table 11.7). -/
def State.liveIo (s : State) (id e : Nat) : Int :=
  match id with
  | 0x900 => bit01 s.fld.fault
  | 0x901 => s.fld.loadV
  | 0x911 => s.fld.diSet.toNat
  | 0x913 => maskOf 16 fun i => (s.fld.dos.getD i {}).rb
  | 0x914 => maskOf 16 fun i => (s.fld.dos.getD i {}).mis
  | 0x924 => (s.fld.ais.getD e {}).value
  | 0x925 => maskOf 8 fun i => (s.fld.ais.getD i {}).valid
  | 0x932 => clampI 0 65535 (s.fld.aos.getD e {}).rb
  | 0x933 => maskOf 8 fun i => (s.fld.aos.getD i {}).mis
  | _ => 0
/-- Read-only parameters of the probe rings (Table 11.7). -/
def State.liveProbe (s : State) (id e : Nat) : Int :=
  let r := memberOf 0xA00 0x40 id
  let x := s.ring r
  let d := x.nodes.getD e {}
  match id with
  | 0xA80 => s.fld.avgOutMoist
  | 0xA81 => s.fld.avgOutTemp
  | 0xA82 => s.fld.avgInMoist
  | 0xA83 => s.fld.avgValid.toNat
  | _ =>
    match id % 64 with
    | 0x03 => if x.sweep.isSome then 1 else if s.on (ringP 2 r) then 2 else 0
    | 0x04 => x.breakAt
    | 0x05 => bit01 x.closed
    | 0x06 => lastOrd x.last
    | 0x07 => x.timeMs
    | 0x08 => x.overruns.toNat
    | 0x0B => d.moist
    | 0x0C => d.temp
    | 0x0D => statusOrd d.status
    | _ => 0
/-- Read-only parameters of the ledger (Tables 12.14 and 13.6). -/
def State.liveLedger (s : State) (id : Nat) : Int :=
  let l := s.led
  match id with
  | 0xB00 => Config.ledgerUnit
  | 0xB01 => l.counter.toNat
  | 0xB02 => l.run.toNat
  | 0xB03 => (l.serial.toNat / 2 ^ 32 : Nat)
  | 0xB04 => (l.serial.toNat % 2 ^ 32 : Nat)
  | 0xB05 => leNat ((keyidOf s.ulk).take 4)
  | 0xB06 => leNat ((keyidOf s.ulk).drop 4)
  | 0xB10 => ledgerOrdinal l.state
  | 0xB11 => ledgerOpOrd l.op
  | 0xB12 => l.fill
  | 0xB13 => (l.journalUsed / 1024 : Nat)
  | 0xB14 => (l.stagingUsed / 1024 : Nat)
  | 0xB15 => l.speed
  | 0xB1A => l.rewrites.toNat
  | 0xB1B => l.abandoned.toNat
  | 0xB1C => l.redo.toNat
  | 0xB1D => l.lost.toNat
  | 0xB1E => (l.journal.nextSeq / 2 ^ 32 % 65536 : Nat)
  | 0xB1F => (l.journal.nextSeq % 2 ^ 32 : Nat)
  | 0xB20 => (l.journal.oldest.toNat / 2 ^ 32 : Nat)
  | 0xB21 => (l.journal.oldest.toNat % 2 ^ 32 : Nat)
  | 0xB2B => l.journal.lot.toNat
  | 0xB2C => bit01 (s.committedOf .lot).isSome
  | _ => 0
/-- Read-only parameters of memory protection (Table 14.8). -/
def State.liveSeal (s : State) (id e : Nat) : Int :=
  let k := s.slot e
  match id with
  | 0xC00 => if e ≤ 6 then e else 0
  | 0xC01 => if isSeal e then 1 else if isGrout e then 2 else 0
  | 0xC02 => slotStateOrd k.shown
  | 0xC04 => k.alarms.toNat
  | 0xC05 => s.poisoned e
  | 0xC06 => k.epoch.toNat
  | 0xC07 => k.boundaryShown
  | 0xC08 => s.ctrMaxOf e
  | 0xC21 => s.repointRate
  | 0xC22 => s.mp.queue.length
  | 0xC23 => s.mp.hits.toNat
  | 0xC24 => s.mp.misses.toNat
  | 0xC25 => s.mp.partial_.toNat
  | 0xC30 => bit01 s.mp.lidOpen
  | 0xC31 => s.mp.lidCount.toNat
  | 0xC41 => bit01 (!(s.mp.storeA.valid && s.mp.storeB.valid))
  | _ => 0
/-- Read-only parameters of the crown, the recorder and calibration (Tables 15.7, 16.4 and 3.11). -/
def State.liveRest (s : State) (id : Nat) : Int :=
  match id with
  | 0xD00 => s.roleOrd
  | 0xD01 => s.crown.gen.toNat
  | 0xD04 => s.peerOrd
  | 0xD05 => syncOrd s.crown.synced
  | 0xD06 => s.crown.epoch.toNat
  | 0xD07 => s.crown.lag
  | 0xD08 => s.crown.clockErr
  | 0xD09 => s.crown.takes.toNat
  | 0xD0A => s.crown.dropped.toNat
  | 0xE00 => s.evr.next.toNat
  | 0xE01 => (s.evr.store.length + s.evr.ring.length : Nat)
  | 0xE02 => s.evr.ring.length
  | 0xE03 => s.evr.dropped.toNat
  | 0xE04 => s.evr.overwritten.toNat
  | 0xE05 => bit01 s.evr.frozen.isSome
  | 0xE06 => s.evr.login.toNat
  | 0xF00 => calSourceOrd s.par.calSource
  | 0xF01 => s.par.calGeneration.toNat
  | 0xF02 => bit01 (!s.bankValid .factory)
  | _ => 0
/-- The raw value of a read-only parameter. -/
def State.live (s : State) (id e : Nat) : Int :=
  match id / 256 with
  | 0 => s.liveSys id e
  | 1 => if id < 0x180 then s.livePort id else s.liveNet id e
  | 2 => s.liveSys id e
  | 3 => s.livePlumb id e
  | 4 => s.liveCourse id e
  | 5 => s.liveAir id
  | 6 => s.liveTicket id
  | 7 => s.liveDry id e
  | 8 => s.liveFan id
  | 9 => s.liveIo id e
  | 0xA => s.liveProbe id e
  | 0xB => s.liveLedger id
  | 0xC => s.liveSeal id e
  | _ => s.liveRest id

/-- The bytes of a MAC address with colons between them. -/
def macText : List Byte → String
  | [] => ""
  | [b] => hexText 2 b.toNat
  | b :: rest => hexText 2 b.toNat ++ ":" ++ macText rest
/-- The text of a read-only string. -/
def State.liveText (s : State) (k : PKey) : List Byte :=
  if k.id = 0x001 then unitSerial
  else if k.desc.base = 0x10F then bytesOf (macText (Config.portMac k.fam))
  else if k.desc.base = 0x41D then
    let c := s.course k.fam
    if c.identModel.isEmpty then []
    else c.identModel ++ bytesOf (" " ++ natText c.identSerial.toNat ++ " " ++ natText c.identFw.toNat)
  else []

/-- The running raw value of a parameter or element (R97, R108). -/
def State.valueOf (s : State) (k : PKey) : Int :=
  if k.desc.acc == .ro then s.live k.id k.elem else s.raw k.id k.elem
/-- The parameter holds text. -/
def isText (d : PDesc) : Bool :=
  match d.typ with
  | .str _ => true
  | _ => false
/-- A raw value as a reply writes it (R47, R51): a keyword, or a number in its native unit. -/
def State.rawText (s : State) (k : PKey) (v : Int) : String :=
  match k.desc.typ with
  | .enum names => names.getD v.toNat ""
  | _ => numText (s.unitOf k) v
/-- R73: the value of a parameter as a reply writes it. -/
def State.getText (s : State) (k : PKey) : String :=
  if k.desc.acc == .wo then if s.isSet k.id then "(set)" else "(unset)"
  else if isText k.desc then quoted (if k.desc.acc == .ro then s.liveText k else s.text k.id)
  else s.rawText k (s.valueOf k)

/-- The name of a level that SET needs (R75): the table's, or OPERATE for LIVE and ENGINEER for KEPT and CAL. -/
def setLevel (d : PDesc) : Level :=
  d.level.getD (match d.cls with
    | .live => .operate
    | .kept | .cal => .engineer
    | .fact => .factory)

end Sys2Proof.Machine
end

