-- ==== Sys2Proof/Machine/Set.lean ====
section
/-! DEFINITION. GET, SET, CAL SET and set requests, and the bond verbs (chapters 2 and 3): a line is judged whole, then applied
whole. -/
namespace Sys2Proof.Machine

/-! ### Bond commits (R106–R113) -/

/-- A bond that exists: its number lies in Table 3.8's range. -/
def bondExists (b : Bond) : Bool := allBonds.contains b
/-- sys.courses holds a staged value. -/
def State.coursesStaged (s : State) : Bool := (s.stagedOf 0x002).isSome
/-- The commit changes sys.courses. -/
def State.coursesMove (s : State) : Bool := s.coursesStaged && s.completed 0x002 != s.raw 0x002
/-- The open geometry bonds, by number. -/
def State.openGeometry (s : State) : List Nat := ((List.range 8).map (· + 1)).filter fun n => s.bondOpen (.geometry n)
/-- The committed values of a bond's own members, completed with running values (R110). -/
def State.newSet (s : State) (ids : List Nat) : List ParamVal := ids.map fun i => { id := i, raw := s.completed i }

/-- Every loop of a zone stands still, so no sample takes its limits. -/
def State.zoneIdle (s : State) (z : Nat) : Bool :=
  ([3 * (z - 1), 3 * (z - 1) + 1, 3 * (z - 1) + 2]).all fun n => (s.loop n).active == .off
/-- A committed limits set is in force for every loop of its zone. -/
def State.limitsNow (s : State) (z : Nat) : State :=
  ([3 * (z - 1), 3 * (z - 1) + 1, 3 * (z - 1) + 2]).foldl State.takeLimits s
/-- A committed geometry.N set is in force, and its flight tables are rebuilt (R215). -/
def State.geometryNow (s : State) (n : Nat) : State := (s.takeCommitted (.geometry n)).buildTable n

/-- R112, Table 3.8: a commit whose effect point is the commit itself takes effect. -/
def State.atOnce (s : State) (b : Bond) : State :=
  match b with
  | .tach _ => s.takeCommitted b
  | .sync => if s.sync.running then s else s.syncEffect
  | .limits z => if s.zoneIdle z then s.limitsNow z else s
  | _ => s
/-- A bond other than a geometry-wide set is committed and closes (R110). -/
def State.commitBond (s : State) (b : Bond) : State :=
  let ids := ownMembers b
  ((s.commitSet b (s.newSet ids)).unstage ids).atOnce b
/-- R113: sys.courses and every open geometry.N are committed as one set. -/
def State.commitGeometry (s : State) : State :=
  let ns := s.openGeometry
  let courses := if s.coursesStaged then s.newSet [0x002] else []
  let t := ns.foldl (fun t n => t.commitSet (.geometry n) (courses ++ s.newSet (ownMembers (.geometry n)))) s
  t.unstage (0x002 :: ns.flatMap fun n => ownMembers (.geometry n))

/-- What refuses a commit of one bond (R110, R113): 403 with the check that fails, or 301. -/
def State.commitRefusal (s : State) (b : Bond) : Option (Nat × String) :=
  let own := match b with | .geometry _ => s.coursesStaged | _ => false
  if own then some (403, "sys.courses staged")
  else if !bondCheck b s.completed s.sync.line then some (403, bondFails b s.completed)
  else if !s.commitAllowed b false then some (301, bondName b)
  else none
/-- What refuses a geometry-wide commit: courses 1 to the new sys.courses are checked (R113). -/
def State.geometryRefusal (s : State) : Option (Nat × String) :=
  let n := (s.completed 0x002).toNat
  match ((List.range 8).map (· + 1)).find? fun i => i ≤ n && !bondCheck (.geometry i) s.completed s.sync.line with
  | some i => some (403, bondName (.geometry i) ++ ", " ++ bondFails (.geometry i) s.completed)
  | none => if s.openGeometry.any fun i => !s.commitAllowed (.geometry i) s.coursesMove then some (301, "geometry")
  else none

/-- BOND_COMMIT (R110, R113). -/
def bondCommit (ln : Ln) (b : BondRef) (s : State) : State :=
  s.verb ln .engineer fun s =>
    match b with
    | .all => refuse s 401
    | .one b =>
      if !bondExists b then refuse s 401
      else if s.ctl.state == .standby || !s.bondOpen b then refuse s 301
      else match s.commitRefusal b with
        | some (c, d) => refuse s c d
        | none => done (s.commitBond b) (bondName b)
    | .geometry =>
      if s.ctl.state == .standby || s.openGeometry.isEmpty then refuse s 301
      else match s.geometryRefusal with
        | some (c, d) => refuse s c d
        | none => done s.commitGeometry "geometry"
def execBondCommit (ln : Ln) (b : BondRef) (s : State) : Res := go (bondCommit ln b s)

/-- BOND_DISCARD (R111). -/
def bondDiscard (ln : Ln) (b : BondRef) (s : State) : State :=
  s.verb ln .engineer fun s =>
    if (match b with | .one b => !bondExists b | _ => false) then refuse s 401
    else if s.ctl.state == .standby then refuse s 301
    else match b with
    | .all => done { s with par.staged := [] } "ALL"
    | .one b =>
      if !s.bondOpen b then refuse s 301
      else
        let keeps := match b with | .geometry _ => s.coursesStaged | _ => false
        done (s.unstage (ownMembers b)) (bondName b ++ if keeps then ", sys.courses staged" else "")
    | .geometry =>
      if s.openGeometry.isEmpty then refuse s 301
      else done (s.unstage (0x002 :: (List.range 8).flatMap fun i => ownMembers (.geometry (i + 1)))) "geometry"
def execBondDiscard (ln : Ln) (b : BondRef) (s : State) : Res := go (bondDiscard ln b s)

/-- The name of the session that staged a value. -/
def sessionName (i : Nat) : String := if i = 0 then "console" else "text " ++ natText i
/-- A member's line in BOND SHOW. -/
def State.memberLine (s : State) (id : Nat) : String :=
  match resolve (.id id none) with
  | none => ""
  | some k =>
    "  " ++ pathText k ++ "  running " ++ s.rawText k (s.raw id) ++
      ((s.par.staged.find? fun p => p.id == id).elim "" fun p =>
        "  staged " ++ s.rawText k p.raw ++ "  by " ++ sessionName p.byWhom)
/-- The lines BOND SHOW gives for a bond. -/
def State.bondLines (s : State) (b : Bond) : List String :=
  (bondName b ++ if s.bondOpen b then " open" else " closed") :: (bondMembers b).map s.memberLine
/-- BOND_SHOW (R108): one bond, or every open one. R500 refuses it in STANDBY with the other BOND verbs. -/
def bondShow (ln : Ln) (b : Option Bond) (s : State) : State :=
  s.verb ln .view fun s =>
    if b.elim false fun b => !bondExists b then refuse s 401
    else if s.ctl.state == .standby then refuse s 301
    else (s, some (.multi ((b.elim s.openBonds fun b => [b]).flatMap s.bondLines)))
def execBondShow (ln : Ln) (b : Option Bond) (s : State) : Res := go (bondShow ln b s)

/-- BOND_EFFECT (R112, Table 3.8): a committed set whose effect point has come is taken in one step. A sync set waits for the
first edge in a later tick, or the stop of line sync; a geometry set for a later tick; a limits set for the loops' samples
unless none runs; a lot for the edge of its line. -/
def bondEffect (b : Bond) (s : State) : State :=
  match s.committedOf b with
  | none => s
  | some c =>
    match b with
    | .tach _ => s.takeCommitted b
    | .sync => if !s.sync.running || (c.at_ != s.now && s.sync.edge == s.now && s.sync.started) then s.syncEffect else s
    | .limits z => if s.zoneIdle z then s.limitsNow z else s
    | .geometry n => if c.at_ != s.now then s.geometryNow n else s
    | .lot => if s.lotDue then s.lotEffect else s
def execBondEffect (b : Bond) (s : State) : Res := go (bondEffect b s)

/-! ### One pair of a SET line -/

/-- R68: the rank of an error code; the lower is reported. -/
def faultRank (c : Nat) : Nat :=
  ([103, 104, 105, 102, 101, 201, 202, 402, 401, 403, 303, 301, 302, 501, 601, 701]).findIdx (· == c)

/-- A value as it arrives: a literal of a line, or the 32 bits of a set request (Table 3.6). -/
inductive ValIn where
  | lit (l : Lit) | word (v : U32)
deriving DecidableEq, Repr
/-- The value for a parameter, or a code. -/
def State.valueIn (s : State) (k : PKey) (v : ValIn) : Except Nat PVal :=
  match v with
  | .lit l => litValue k.desc (s.unitOf k) l
  | .word w => if isText k.desc then .error 402 else
      let r := recRaw k.desc w
      if k.desc.lo ≤ r && r ≤ k.desc.hi then .ok (.raw r) else .error 401

/-- A connection of port `p` is not CLOSED. -/
def State.portBusy (s : State) (p : Nat) : Bool := s.net.conns.any fun c => c.port == p && c.state != .closed
/-- The edges of a variable ascend with room for its hysteresis (R351). -/
def edgesOk (e1 e2 e3 hyst : Int) : Bool := e1 < e2 && e2 < e3 && 2 * hyst ≤ e2 - e1 && 2 * hyst ≤ e3 - e2
/-- R220: the edges of the moisture bands. -/
def State.bandEdgesOk (s : State) : Bool :=
  (List.range 6).all fun i =>
    let a := s.raw (0x386 + i)
    let b := s.raw (0x387 + i)
    a < b && 2 * s.raw 0x384 ≤ b - a

/-- 401 faults that depend on what the line leaves standing; `t` holds the line's values. -/
def leavesFault (t : State) (k : PKey) : Bool :=
  let b := k.desc.base
  let n := k.fam
  let e := k.elem
  if b = 0x303 || b = 0x304 then t.raw (plumbP 4 n) - t.raw (plumbP 3 n) < 50000
  else if 0x384 ≤ b && b ≤ 0x38C && b != 0x385 then !t.bandEdgesOk
  else if b = 0x501 then t.raw (airP 0 n) < t.raw (airP 1 n)
  else if b = 0x502 then t.on (airP 2 n) && t.raw 0x921 (t.num (airP 2 n) - 1) != 2
  else if b = 0x7A4 || b = 0x7A5 then t.raw 0x7A5 e ≤ t.raw 0x7A4 e
  else if b = 0x7A7 || b = 0x7A8 then t.raw 0x7A8 e ≤ t.raw 0x7A7 e
  else if (0x7AF ≤ b && b ≤ 0x7B1) || b = 0x7B5 then
    !edgesOk (t.raw 0x7AF e) (t.raw 0x7B0 e) (t.raw 0x7B1 e) (t.raw 0x7B5 e)
  else if (0x7B2 ≤ b && b ≤ 0x7B4) || b = 0x7B6 then
    !edgesOk (t.raw 0x7B2 e) (t.raw 0x7B3 e) (t.raw 0x7B4 e) (t.raw 0x7B6 e)
  else if b = 0x921 then
    t.raw 0x921 e != 2 && (List.range 8).any fun i => t.num (airP 2 (i + 1)) = e + 1
  else if b = 0x922 || b = 0x923 then t.raw 0x922 e == t.raw 0x923 e
  else if 0xC00 ≤ b && b ≤ 0xC09 then !(1 ≤ e && e ≤ 6)
  else false
/-- 301 faults: the state of what the parameter belongs to does not allow the SET. -/
def stateFault (s : State) (k : PKey) : Bool :=
  let b := k.desc.base
  let n := k.fam
  if s.ctl.state == .standby && !isLocal k.id then true
  else if b = 0x303 || b = 0x304 || (0x40A ≤ b && b ≤ 0x40F) || b = 0x412 || b = 0x403 then (s.course n).state != .off
  else if b = 0x381 then s.courses.any fun c => c.state != .off
  else if b = 0x101 || b = 0x102 || b = 0x103 || b = 0x198 then s.portBusy n
  else if b = 0x7A2 || b = 0x7A3 || b = 0x7A6 then (s.loop k.elem).active != .off
  else if b = 0x7E0 then !s.inAny [.held, .ready]
  else if b = 0x931 then (List.range 16).any fun i => s.num 0x7A6 i = k.elem + 1
  else false
/-- 302 faults: what the parameter belongs to is busy. -/
def busyFault (s : State) (k : PKey) : Bool :=
  let b := k.desc.base
  if b = 0x30A then (s.chute k.fam).learn.isSome
  else if b = 0xA01 || b = 0xA09 then (s.ring k.fam).sweep.isSome
  else if 0x1A0 ≤ b && b ≤ 0x1A9 then !(s.group k.elem).posts.isEmpty
  else false

/-! ### The whole line -/

/-- What a line asks of one parameter, the value it stores, and that value as the reply writes it. -/
structure SetPair where
  key   : PKey
  val   : PVal
  shown : String := ""
deriving DecidableEq, Repr
/-- What a judged line does: the code and place of its fault with what the spec has its detail say, or its pairs. -/
structure SetPlan where
  fault : Option (Nat × Nat) := none
  why   : String := ""
  pairs : List SetPair := []
deriving DecidableEq, Repr
/-- A fault enters a plan: the one that R68 ranks first stands, and of equals the first pair (R74). -/
def SetPlan.put (p : SetPlan) (code i : Nat) (why : String := "") : SetPlan :=
  match p.fault with
  | some (c, j) =>
    if faultRank code < faultRank c || (code = c && i < j) then { p with fault := some (code, i), why := why } else p
  | none => { p with fault := some (code, i), why := why }

/-- The stored value as the reply writes it, in the unit that the pairs before it leave (R51, R74); a write-only value is not shown. -/
def State.storedText (s : State) (k : PKey) (v : PVal) : String :=
  match v with
  | .text b => if k.desc.acc == .wo then "(set)" else quoted b
  | .raw v => s.rawText k v

/-- The pair's value, written without any effect: what the values stand at when the line has been applied. -/
def State.writePair (s : State) (ses : Nat) (p : SetPair) : State :=
  match p.val with
  | .text b => s.setText p.key.id b
  | .raw v => if p.key.desc.bond.isSome then s.stage p.key.id v ses else s.setRaw p.key.id p.key.elem v
/-- Whether one pair is allowed at all, and what it stores: `t` holds the values after the pairs before it. -/
def judgePair (lv : Level) (calOnly : Bool) (s : State) (ses : Nat) (a : State × SetPlan) (i : Nat)
    (r : Option PKey × ValIn) : State × SetPlan :=
  match r.1 with
  | none => (a.1, a.2.put 401 i "no such path")
  | some k =>
    let p := if calOnly && k.desc.cls != .cal then a.2.put 402 i else a.2
    let p := if k.desc.acc == .ro then p.put 402 i
      else if levelRank lv < levelRank (setLevel k.desc) then p.put 202 i else p
    let p := if stateFault s k then p.put 301 i else p
    let p := if busyFault s k then p.put 302 i else p
    match a.1.valueIn k r.2 with
    | .error c => (a.1, p.put c i)
    | .ok v =>
      let bad := match v with | .raw x => !inRange k.desc x | .text _ => false
      let pr : SetPair := { key := k, val := v, shown := a.1.storedText k v }
      (a.1.writePair ses pr, { (if bad then p.put 401 i else p) with pairs := p.pairs ++ [pr] })
/-- The pairs judged in order. -/
def judgePairs (lv : Level) (calOnly : Bool) (s : State) (ses : Nat) (i : Nat) (a : State × SetPlan) :
    List (Option PKey × ValIn) → State × SetPlan
  | [] => a
  | r :: rs => judgePairs lv calOnly s ses (i + 1) (judgePair lv calOnly s ses a i r) rs
/-- Place of the first pair that `p` holds of. -/
def firstPair (l : List SetPair) (p : SetPair → Bool) : Nat := l.findIdx p

/-- The line writes a member. -/
def SetPlan.writes (p : SetPlan) (id : Nat) : Bool := p.pairs.any fun x => x.key.id == id
/-- R106: the bonds other than geometry that the line writes whole. -/
def SetPlan.whole (p : SetPlan) : List Bond :=
  allBonds.filter fun b =>
    match b with
    | .geometry _ => false
    | _ => (bondMembers b).all p.writes
/-- R106: the geometry.N that the line writes whole, sys.courses apart. -/
def SetPlan.wholeGeometry (p : SetPlan) : List Nat :=
  ((List.range 8).map (· + 1)).filter fun n => (ownMembers (.geometry n)).all p.writes
/-- R106: the line commits sys.courses and every open geometry.N at once. -/
def SetPlan.wide (p : SetPlan) : Bool := p.writes 0x002 && !p.wholeGeometry.isEmpty
/-- R103: the further bonds that a set request's COMMIT commits. -/
def SetPlan.touched (p : SetPlan) : List Bond := allBonds.filter fun b => (bondMembers b).any p.writes

/-- A fault of a commit, named at the first pair that writes one of the members. -/
def SetPlan.putCommit (p : SetPlan) (ids : List Nat) (f : Option (Nat × String)) : SetPlan :=
  match f with
  | none => p
  | some (c, why) => p.put c (firstPair p.pairs fun x => ids.contains x.key.id) (if c = 403 then why else "")
/-- R106: the commits a line makes; `t` holds its staged values. Their faults join the plan. -/
def judgeCommits (t : State) (p : SetPlan) : SetPlan :=
  let p := p.whole.foldl (fun q b => q.putCommit (bondMembers b) (t.commitRefusal b)) p
  if p.wide then p.putCommit (bondMembers (.geometry 1) ++ p.wholeGeometry.flatMap fun n => bondMembers (.geometry n)) t.geometryRefusal
  else if t.coursesStaged then p
  else p.wholeGeometry.foldl (fun q n => q.putCommit (bondMembers (.geometry n)) (t.commitRefusal (.geometry n))) p
/-- R103: the commits of a set request with COMMIT, at ENGINEER as BOND COMMIT is. -/
def judgeTouched (lv : Level) (t : State) (p : SetPlan) : SetPlan :=
  let geo := p.writes 0x002
  p.touched.foldl (fun q b =>
    let mine := match b with | .geometry _ => geo | _ => false
    if p.whole.contains b then q
    else
      let at_ := firstPair q.pairs fun x => (bondMembers b).contains x.key.id
      let q := if levelRank lv < 3 then q.put 202 at_ else q
      if mine then q.putCommit (bondMembers b) t.geometryRefusal else q.putCommit (bondMembers b) (t.commitRefusal b)) p

/-- R46: the characters of a session's `=` reply with this content. -/
def Session.replyLength (x : Session) (content : String) : Nat :=
  content.length + 2 + (if x.mode == .typed then 0 else 6) + (if x.mode == .genCheck then 5 else 0)
/-- R46: the reply would exceed 200 characters. -/
def State.tooLong (s : State) (ses : Nat) (content : String) : Bool :=
  (s.session? ses).elim false fun x => 200 < x.replyLength content

/-- The judgement of a SET line on the state it meets (R68, R74, R106); `t` is what its values would be. -/
def judgeLine (lv : Level) (calOnly : Bool) (commit : Bool) (ses : Nat) (l : List (Option PKey × ValIn)) (s : State) : SetPlan :=
  let (t, p) := judgePairs lv calOnly s ses 0 (s, {}) l
  let p := p.pairs.foldl (fun q x =>
    if leavesFault t x.key then q.put 401 (firstPair p.pairs fun y => y == x) else q) p
  let p := judgeCommits t p
  if commit then judgeTouched lv t p else p

/-! ### What a SET sets in motion -/

/-- A value that differs between two states. -/
def moved (s t : State) (id : Nat) (e : Nat := 0) : Bool := s.raw id e != t.raw id e
/-- R220: the band before the first average. -/
def State.setBand (t s : State) : State :=
  if moved s t 0x385 && !t.plumb.xSet then
    { t with plumb.band := t.num 0x385, plumb.bandPrev := t.plumb.band, plumb.bandAt := t.now }
  else t
/-- Chutes: tables of a new v range or gravity (R215), and the band before the first average. -/
def State.setPlumb (t s : State) : State :=
  let t := (List.range 8).foldl (fun t i =>
    if moved s t (plumbP 3 (i + 1)) || moved s t (plumbP 4 (i + 1)) then t.buildTable (i + 1) else t) t
  (if moved s t 0x381 then t.buildTables else t).setBand s
/-- Manifolds: a new size cuts the level, a new source of ρ is taken (R249, R252). -/
def State.setAir (t s : State) : State :=
  (List.range 8).foldl (fun t i =>
    let m := i + 1
    let t := if moved s t (airP 0 m) then t.cutLevel m else t
    if moved s t (airP 2 m) || moved s t (airP 3 m) || moved s t (airP 4 m) then t.airFixed m else t) t
/-- Loops: a new mode or wiring moves the loop; with a new gain of the region in force, a new period or nd, the coefficients are derived
again at its next sample (R346, Table 10.3). -/
def State.setLoops (t s : State) : State :=
  let t := (List.range 16).foldl (fun t n =>
    let gains := ([0x7C8, 0x7C9, 0x7CA, 0x7CB] : List Nat).any fun g => moved s t g (16 * n + 4 * (s.loop n).i1 + (s.loop n).i2)
    let t := if gains || moved s t 0x7A2 n || moved s t 0x7AC n then t.updLoop n fun l => { l with switchDue := true } else t
    if moved s t 0x7A0 n || moved s t 0x7A3 n || moved s t 0x7A6 n then t.retargetLoop n else t) t
  if (List.range 4).any fun i => moved s t (zoneP 4 (i + 1)) then t.noteHeats else t
/-- Probe rings: STOP aborts the sweep (R391); seal.jtag OPEN is recorded (R483). -/
def State.setRest (t s : State) : State :=
  let t := ([1, 2] : List Nat).foldl (fun t r => if moved s t (ringP 2 r) && t.on (ringP 2 r) then t.stopSweep r else t) t
  if moved s t 0xC32 && t.on 0xC32 then t.event 0x8061 0 0 else t
/-- What the running blocks take up from a line that has changed `s` into `t`. -/
def State.afterSet (t s : State) : State := (((t.setPlumb s).setAir s).setLoops s).setRest s

/-- R216: a line that moves v_lo or v_hi of a chute resets its corrections before its pairs are written. -/
def State.corrFirst (s t : State) : State :=
  (List.range 8).foldl (fun u i =>
    if moved s t (plumbP 3 (i + 1)) || moved s t (plumbP 4 (i + 1)) then u.resetCorr (i + 1) else u) s
/-- The line is applied: its pairs in order, its commits, and what follows from them. -/
def State.applyLine (s : State) (ses : Nat) (commit : Bool) (p : SetPlan) : State :=
  let last := p.pairs.foldl (fun t x => t.writePair ses x) s
  let t := p.pairs.foldl (fun t x => t.writePair ses x) (s.corrFirst last)
  let t := p.whole.foldl State.commitBond t
  let t := if p.wide then t.commitGeometry
    else if t.coursesStaged then t
    else p.wholeGeometry.foldl (fun t n => t.commitBond (.geometry n)) t
  let t := if commit then
      p.touched.foldl (fun t b =>
        if !t.bondOpen b then t
        else match b with
          | .geometry _ => if p.writes 0x002 then t.commitGeometry else t.commitBond b
          | _ => t.commitBond b) t
    else t
  t.afterSet s

/-- How the line wrote the parameter of a pair, or its path where it names one. -/
def refText (r : PRef) : String :=
  match r with
  | .path segs => ".".intercalate (segs.map fun g => match g with | .name t => t | .idx n => natText n)
  | .id id e => "#0x" ++ hexText 4 id ++ e.elim "" fun k => "." ++ natText k
/-- R52, R74, R110: the detail of a refused SET line: what a rule has it say, then the first failing pair. DESIGN CHOICE: R74 has an
error name the first failing pair, and Worked case 0.1 shows the `?401 out of range` of a line of one pair without a detail; the model
names the pair where the line has more than one (assumption 58). -/
def SetPlan.detail (p : SetPlan) (ps : List (PRef × Lit)) (i : Nat) : String :=
  ", ".intercalate (([p.why] ++ if ps.length ≤ 1 then [] else (ps[i]?).elim [] fun q => [refText q.1]).filter (· != ""))
/-- One SET or CAL SET line: the reply gives the stored values; a refused line has no effect (R74). -/
def State.setLine (s : State) (ln : Ln) (calOnly : Bool) (ps : List (PRef × Lit)) : VerbRes :=
  if ps.isEmpty then refuse s 102
  else
    let l := ps.map fun p => (resolve p.1, ValIn.lit p.2)
    let p := judgeLine (s.levelOf ln) calOnly false ln.ses l s
    let late := p.fault.elim true fun f => faultRank 501 < faultRank f.1
    let text := " ".intercalate (p.pairs.map (·.shown))
    if late && s.tooLong ln.ses text then refuse s 501 "reply too long"
    else match p.fault with
      | some (c, i) => refuse s c (p.detail ps i)
      | none => done (s.applyLine ln.ses false p) text

/-- SET (R74, R75). -/
def setVerb (ln : Ln) (ps : List (PRef × Lit)) (s : State) : State :=
  s.verb ln .view fun s => s.setLine ln false ps
def execSet (ln : Ln) (ps : List (PRef × Lit)) (s : State) : Res := go (setVerb ln ps s)

/-- CAL_SET (R128, R500). -/
def calSet (ln : Ln) (ps : List (PRef × Lit)) (s : State) : State :=
  s.verb ln .engineer fun s => s.setLine ln true ps
def execCalSet (ln : Ln) (ps : List (PRef × Lit)) (s : State) : Res := go (calSet ln ps s)

/-- R348: a GET that names dry.loop.n.flags clears the flags. -/
def State.clearFlags (s : State) (ks : List PKey) : State :=
  ks.foldl (fun s k => if k.id = 0x7BD then s.updLoop k.elem fun l => { l with flags := 0 } else s) s
/-- GET (R73): every value from one snapshot. -/
def getVerb (ln : Ln) (ps : List PRef) (s : State) : State :=
  s.verb ln .view fun s =>
    let ks := ps.filterMap resolve
    let text := " ".intercalate (ks.map s.getText)
    if ps.isEmpty then refuse s 102
    else if ks.length < ps.length then refuse s 401 "no such path"
    else if s.tooLong ln.ses text then refuse s 501 "reply too long"
    else done (s.clearFlags ks) text
def execGet (ln : Ln) (ps : List PRef) (s : State) : Res := go (getVerb ln ps s)

/-! ### Set requests (R101–R104) -/

/-- The result block of a connection (Table 3.7). -/
def State.setResult (s : State) (c : Nat) : SetRes := lookupD c {} s.par.results
/-- SET_REQUEST (R101, R104): at a notice on the set block the block is copied; a fifth is refused at once. -/
def setRequest (c : Nat) (block : List Byte) (s : State) : State :=
  let b := padTo 64 block
  if !s.awake || (s.conn c).state != .ready then s
  else if (s.par.setReqs.filter fun q => q.1 == c).length ≥ 4 then
    let r : SetRes := { s.setResult c with request := BitVec.ofNat 32 (leNat (sliceB b 0 4)), code := 302, pair := 0xFF }
    { s with par.results := assocSet c r s.par.results }
  else { s with par.setReqs := s.par.setReqs ++ [(c, b)] }
def execSetRequest (conn : Nat) (block : List Byte) (s : State) : Res := go (setRequest conn block s)

/-- Pair `i` of a set block (Table 3.6). -/
def blockPair (b : List Byte) (i : Nat) : List Byte := sliceB b (8 + 8 * i) 8
/-- R102: a pair names a parameter element; 401 for a scalar's index, a reserved byte or an unassigned ID. -/
def blockKey (w : List Byte) : Option PKey :=
  let id := leNat (sliceB w 0 2)
  let e := (w.getD 2 0).toNat
  if w.getD 3 0 != 0 then none
  else match descOfId id with
    | none => none
    | some (d, _) => resolve (.id id (if d.elems = 0 then if e = 0 then none else some e else some e))
/-- R10, R102: a reserved bit of the header is set. -/
def blockReserved (b : List Byte) : Bool := (b.getD 5 0).toNat / 2 != 0 || leNat (sliceB b 6 2) != 0
/-- The level of the text session on a connection. -/
def State.connLevel (s : State) (c : Nat) : Level := (s.textSession? c).elim .none (·.level)
/-- The plan of a copied set request. -/
def State.requestPlan (s : State) (c : Nat) (b : List Byte) : SetPlan :=
  let n := (b.getD 4 0).toNat
  let lv := s.connLevel c
  if n = 0 || 7 < n then { fault := some (102, 0xFF) }
  else if lv == .none then { fault := some (201, 0xFF) }
  else
    let l := (List.range n).map fun i =>
      let w := blockPair b i
      (blockKey w, ValIn.word (BitVec.ofNat 32 (leNat (sliceB w 4 4))))
    let ses := (s.textSession? c).elim 0 (·.idx)
    let p := judgeLine lv false ((b.getD 5 0).getLsbD 0) ses l s
    if blockReserved b then p.put 401 0xFF else p
/-- SET_REQUEST_EXEC (R101–R104): the oldest copied request of a connection runs as one SET line. -/
def setRequestExec (c : Nat) (s : State) : State :=
  match s.par.setReqs.find? fun q => q.1 == c with
  | none => s
  | some (_, b) =>
    let p := s.requestPlan c b
    let ses := (s.textSession? c).elim 0 (·.idx)
    let t := if p.fault.isSome then s else s.applyLine ses ((b.getD 5 0).getLsbD 0) p
    let (code, pair) := p.fault.getD (0, 0xFF)
    let r : SetRes := { request := BitVec.ofNat 32 (leNat (sliceB b 0 4)), code := BitVec.ofNat 16 code,
                        pair := BitVec.ofNat 8 pair, done := (s.setResult c).done + 1 }
    { t with
      par.setReqs := (t.par.setReqs.eraseP fun q => q.1 == c)
      par.results := assocSet c r t.par.results }
def execSetRequestExec (conn : Nat) (s : State) : Res := go (setRequestExec conn s)

end Sys2Proof.Machine
end

