-- ==== Sys2Proof/Machine/Banks.lean ====
section
/-! DEFINITION. Saving, loading and accepting configuration and calibration banks (R114–R132). -/
namespace Sys2Proof.Machine

/-! ### Writing a bank (R117, R126, R129, R132) -/

/-- The letter of a bank. -/
def bankText : BankId → String
  | .a => "A" | .b => "B" | .u1 => "U1" | .u2 => "U2" | .factory => "FACTORY"
/-- The bank number that event 0x1045 carries: 0 A, 1 B; the USER copies follow. -/
def bankNum : BankId → Nat
  | .a => 0 | .b => 1 | .u1 => 2 | .u2 => 3 | .factory => 4
/-- R117 step 2: the target of a save among two banks, and its generation. -/
def State.saveTarget (s : State) (x y : BankId) : BankId × U32 :=
  match s.newer x y with
  | none => (x, 1)
  | some k => (if k == x then y else x, (s.bank k).generation + 1)
/-- R117 step 3: an erased bank, invalid. -/
def erased : Bank := {}
/-- A save gets NOR: its target is erased (R117 step 3). -/
def State.beginNor (s : State) (config : Bool) : State :=
  let s : State := { s with par.norFirst := some config }
  match if config then s.par.save else s.par.calSave with
  | none => { s with par.norFirst := none }
  | some w => s.putBank w.target erased false
/-- A save leaves NOR; the other one, if it waits, goes on. -/
def State.endNor (s : State) : State :=
  if s.par.save.isSome then s.beginNor true
  else if s.par.calSave.isSome then s.beginNor false
  else { s with par.norFirst := none }
/-- A save that starts: it takes NOR, or waits for it. -/
def State.queueNor (s : State) (config : Bool) : State := if s.par.norFirst.isSome then s else s.beginNor config
/-- The pending text of a save (R117, R129). -/
def State.norText (s : State) (text : String) : String := if s.par.norFirst.isSome then "waiting for NOR" else text

/-- CONFIG_SAVE (R114, R117). DESIGN CHOICE: the manual does not say whether a save that must wait for NOR takes its snapshot (step 1) and
chooses its target (step 2) at the command or when NOR is free; the model does both at the command (assumption 60). -/
def configSave (ln : Ln) (s : State) : State :=
  s.verb ln .engineer fun s =>
    if !s.openBonds.isEmpty then refuse s 303 (", ".intercalate (s.openBonds.map bondName))
    else if s.par.save.isSome then refuse s 302
    else
      let s := s.checkBanks
      let (t, g) := s.saveTarget .a .b
      s.startOp ln .configSave (s.norText ("writing bank " ++ bankText t)) fun s =>
        State.queueNor { s with par.save := some { target := t, image := s.bankImage .kept g } } true
def execConfigSave (ln : Ln) (s : State) : Res := go (configSave ln s)

/-- CONFIG_SAVE_ABORT (R118, R159): `stepSix` is the tick in which step 6 began, if it has. -/
def configSaveAbort (ln : Ln) (stepSix : Option Tick) (s : State) : State :=
  s.verb ln .engineer fun s =>
    if s.par.save.isNone then refuse s 301 "nothing to abort"
    else if s.par.norFirst == some true && stepSix.elim false (fun t => tickLe t s.now) then done s "already complete"
    else
      let t : State := { s with par.save := none }
      let t := if s.par.norFirst == some true then t.endNor else t
      done (t.finish (· == PendOp.configSave) (.err 301 "aborted")) "aborted"
def execConfigSaveAbort (ln : Ln) (stepSix : Option Tick) (s : State) : Res := go (configSaveAbort ln stepSix s)

/-- The final reply of a completed save. -/
def savedText (k : BankId) (g : U32) : String :=
  (match k with
    | .a => "bank A" | .b => "bank B" | _ => "USER") ++ " generation " ++ natText g.toNat
/-- CONFIG_SAVE_COMPLETE (R117 steps 3 to 7, R132). -/
def configSaveComplete (r : NorResult) (s : State) : State :=
  match s.par.save with
  | none => s
  | some w =>
    if s.par.norFirst != some true then s
    else
      let s : State := { s with par.save := none }
      if r == .ok then
        let t : State := { s.putBank w.target w.image true with
          par.source := if w.target == .a then .a else .b
          par.generation := w.image.generation }
        (t.endNor).finish (· == PendOp.configSave) (.ok (savedText w.target w.image.generation))
      else ((s.event 0x1045 0 0 (bankNum w.target)).endNor).finish (· == PendOp.configSave) (.err 601 "")
def execConfigSaveComplete (r : NorResult) (s : State) : Res := go (configSaveComplete r s)

/-! ### Loading and accepting (R119–R125) -/

/-- A bank as its bytes spell it (Tables 3.9 and 3.10). -/
def bankOf (b : List Byte) (area : List Byte) : Bank :=
  { magic := BitVec.ofNat 32 (leNat (sliceB b 0 4))
    version := BitVec.ofNat 16 (leNat (sliceB b 4 2))
    generation := BitVec.ofNat 32 (leNat (sliceB b 8 4))
    length := BitVec.ofNat 32 (leNat (sliceB b 12 4))
    build := BitVec.ofNat 32 (leNat (sliceB b 20 4))
    crc := BitVec.ofNat 32 (leNat (sliceB b 28 4))
    recs := (List.range (area.length / 8)).map fun i =>
      { id := BitVec.ofNat 16 (leNat (sliceB area (8 * i) 2)), index := area.getD (8 * i + 2) 0, kind := area.getD (8 * i + 3) 0
        value := BitVec.ofNat 32 (leNat (sliceB area (8 * i + 4) 4)) } }
/-- R116 on an image in a load area: its bank when it is valid. -/
def imageBank (m : List Host.Cell) : Option Bank :=
  let head := readCells m 0 32
  let n := leNat (sliceB head 12 4)
  if n % 8 = 0 && n ≤ 131040 then
    let area := readCells m 32 n
    let b := bankOf head area
    if b.magic == magicOf .kept && b.version == 1 && b.crc == crc32 (head.take 28 ++ area) then some b else none
  else none
/-- The load area of a connection (R124). -/
def State.loadArea (s : State) (c : Nat) : List Host.Cell := lookupD c [] s.par.loadAreas
/-- The connection of the line's session, when it is a supervisor connection (R124). -/
def State.supervisor (s : State) (ln : Ln) : Option Nat :=
  ((s.session? ln.ses).bind (·.conn)).filter fun c => s.net.supPort == some (s.conn c).port
/-- The source of a CONFIG LOAD or CONFIG DIFF: its records and generation; none when it is not valid. -/
def State.sourceRecs (s : State) (ln : Ln) : CfgSource → Option (List BankRec × U32)
  | .factory => some ([], 0)
  | .a => if s.bankValid .a then some (s.par.bankA.recs, s.par.bankA.generation) else none
  | .b => if s.bankValid .b then some (s.par.bankB.recs, s.par.bankB.generation) else none
  | .window => ((s.supervisor ln).bind fun c => imageBank (s.loadArea c)).map fun b => (b.recs, b.generation)
/-- The name of a source. -/
def cfgText : CfgSource → String
  | .a => "A" | .b => "B" | .factory => "FACTORY" | .window => "WINDOW"

/-- The running blocks take up a whole new set of parameters: tables, manifolds, loops. -/
def State.takeAll (t s : State) : State :=
  let t := ((((t.buildTables).setBand s).setAir s).setLoops s).setRest s
  (List.range 5).foldl (fun t i => t.limitsNow (i + 1)) t

/-- CONFIG_LOAD (R114, R123, R134). DESIGN CHOICE: the manual does not say what becomes of a bond's committed set that still waits for its
effect point at a load; the model leaves it waiting, and it takes effect over the loaded values (assumption 60). -/
def configLoad (ln : Ln) (src : CfgSource) (s : State) : State :=
  s.verb ln .engineer fun s =>
    let s := s.checkBanks
    match s.sourceRecs ln src with
    | none => refuse s 401 (cfgText src)
    | some (recs, g) =>
      let staged := recs.any fun r => r.kind == 1
      match if staged then none else crossCheck .kept recs with
      | some (c, id) => refuse s c (hexText 4 id)
      | none =>
        if staged || !s.openBonds.isEmpty then refuse s 303
        else if s.ctl.state != .held then refuse s 301
        else
          let t := (s.loadRecs .kept recs).loadKeys recs
          let t : State := { t with par.source := src, par.generation := g, par.accepted := true }
          done ((t.takeAll s).event 0x1042 0 0 (sourceOrd src) g.toNat 0 (s.loginOf ln))
            ("loaded " ++ cfgText src ++ " generation " ++ natText g.toNat)
def execConfigLoad (ln : Ln) (src : CfgSource) (s : State) : Res := go (configLoad ln src s)

/-- CONFIG_ACCEPT (R122). -/
def configAccept (ln : Ln) (s : State) : State :=
  s.verb ln .engineer fun s =>
    if !s.checksHold then refuse s 403
    else if !s.openBonds.isEmpty then refuse s 303
    else if s.ctl.state != .held then refuse s 301
    else
      let t : State := { s with par.accepted := true }
      done (t.event 0x1042 0 0 (sourceOrd s.par.source) s.par.generation.toNat 0 (s.loginOf ln)) "accepted"
def execConfigAccept (ln : Ln) (s : State) : Res := go (configAccept ln s)

/-- R125: the lines that differ between the running values and a source. -/
def State.diffLines (s : State) (recs : List BankRec) : List String :=
  let vals := ((classKeys .kept).filter fun k => s.raw k.id k.elem != recsVal recs k.id k.elem).map fun k =>
    pathText k ++ " " ++ s.rawText k (s.raw k.id k.elem) ++ " " ++ s.rawText k (recsVal recs k.id k.elem)
  let keys := keyParams.filter fun id =>
    (recs.filter fun r => r.kind == 2 && r.id.toNat == id) != (if s.isSet id then keyRecs id (s.key id) else [])
  vals ++ keys.filterMap fun id => (resolve (.id id none)).map fun k => pathText k ++ " (changed)"
/-- CONFIG_DIFF (R125): the newer valid bank unless a source is named. -/
def configDiff (ln : Ln) (src : Option CfgSource) (s : State) : State :=
  s.verb ln .view fun s =>
    let newer : Option CfgSource := s.newerBank.map fun k => if k == .a then .a else .b
    match if src.isSome then src else newer with
    | none => refuse s 401
    | some .window => refuse s 401
    | some x =>
      match s.sourceRecs ln x with
      | none => refuse s 401 (cfgText x)
      | some (recs, _) => (s, some (.multi (s.diffLines recs)))
def execConfigDiff (ln : Ln) (src : Option CfgSource) (s : State) : Res := go (configDiff ln src s)

/-! ### Calibration (R126–R131) -/

/-- The records of the newer valid USER copy. -/
def State.userRecs (s : State) : List BankRec := s.newerUser.elim [] fun k => (s.bank k).recs
/-- CAL_SHOW (R130): running, USER and FACTORY value of each CAL parameter, or of one. R500 refuses it in STANDBY. DESIGN CHOICE: the
manual does not say what stands in a column whose bank is not valid; the model shows the defaults for USER, and for FACTORY what the bank's
records give (assumption 60). -/
def calShow (ln : Ln) (p : Option PRef) (s : State) : State :=
  s.verb ln .view fun s =>
    let keys : Option (List PKey) :=
      match p with
      | none => some (classKeys .cal)
      | some r => (resolve r).bind fun k => if k.desc.cls == .cal then some [k] else none
    match keys with
    | none => refuse s 401 (if p.elim true fun r => (resolve r).isSome then "" else "no such path")
    | some ks =>
      if s.ctl.state == .standby then refuse s 301
      else (s, some (.multi (ks.map fun k =>
        pathText k ++ " " ++ s.rawText k (s.raw k.id k.elem) ++ " " ++ s.rawText k (recsVal s.userRecs k.id k.elem) ++ " " ++
          s.rawText k (recsVal s.par.factory.recs k.id k.elem))))
def execCalShow (ln : Ln) (p : Option PRef) (s : State) : Res := go (calShow ln p s)

/-- A write of the running CAL values to the older USER copy starts. -/
def State.startCal (s : State) (ln : Ln) (op : PendOp) : VerbRes :=
  let s := s.checkBanks
  let (t, g) := s.saveTarget .u1 .u2
  s.startOp ln op (s.norText "writing USER") fun s =>
    State.queueNor { s with par.calSave := some { target := t, image := s.bankImage .cal g } } false
/-- CAL_SAVE (R129). -/
def calSaveVerb (ln : Ln) (s : State) : State :=
  s.verb ln .engineer fun s =>
    if s.inAny [.standby, .collapse] then refuse s 301
    else if s.par.calSave.isSome then refuse s 302
    else s.startCal ln .calSave
def execCalSave (ln : Ln) (s : State) : Res := go (calSaveVerb ln s)

/-- CAL_SAVE_COMPLETE (R126, R129, R132): of a CAL SAVE or a restore. -/
def calSaveComplete (r : NorResult) (s : State) : State :=
  match s.par.calSave with
  | none => s
  | some w =>
    if s.par.norFirst != some false then s
    else
      let mine (o : PendOp) : Bool := o == .calSave || o == .calRestore
      let s : State := { s with par.calSave := none }
      if r == .ok then
        let t : State := { s.putBank w.target w.image true with par.calSource := .user, par.calGeneration := w.image.generation }
        (t.endNor).finish mine (.ok (savedText w.target w.image.generation))
      else ((s.event 0x1045 0 0 (bankNum w.target)).endNor).finish mine (.err 601 "")
def execCalSaveComplete (r : NorResult) (s : State) : Res := go (calSaveComplete r s)

/-- Six upper-case letters from random bytes (R131). -/
def confirmWord (b : List Byte) : List Byte := (b.take 6).map fun x => BitVec.ofNat 8 (65 + x.toNat % 26)
/-- CAL_RESTORE_FACTORY (R131): a confirm word, valid for 30 s and one use. DESIGN CHOICE: R129 refuses a restore with 302 while a CAL SAVE is
pending and does not say which of the two lines it refuses; in the model the first still answers a word and the second is refused
(assumption 60). -/
def calRestoreFactory (ln : Ln) (s : State) : State :=
  s.verb ln .engineer fun s =>
    if s.ctl.state == .standby then refuse s 301
    else
      let w := confirmWord (s.randomBytes 6)
      done (s.drew.updSession ln.ses fun x => { x with confirm := some (w, s.now) }) ("confirm " ++ textOf w)
def execCalRestoreFactory (ln : Ln) (s : State) : Res := go (calRestoreFactory ln s)

/-- The confirm word of the line's session is this one, and not 30 s old. -/
def State.confirms (s : State) (ln : Ln) (w : List Byte) : Bool :=
  ((s.session? ln.ses).bind (·.confirm)).elim false fun c => c.1 == w && ticksFrom c.2 s.now ≤ secT 30
/-- The session's confirm word is spent. -/
def State.spendWord (s : State) (ln : Ln) : State := s.updSession ln.ses fun x => { x with confirm := none }
/-- The FACTORY values become the running ones. The corrections of a chute whose v_lo or v_hi changes are reset first, and that is recorded
(R216). -/
def State.loadFactory (s : State) : State :=
  let t := (s.corrFirst (s.loadRecs .cal s.par.factory.recs)).loadRecs .cal s.par.factory.recs
  t.takeAll s
/-- The FACTORY bank is valid and passes the cross-check (R127). -/
def State.factorySound (s : State) : Bool := s.bankValid .factory && (crossCheck .cal s.par.factory.recs).isNone
/-- CAL_RESTORE_CONFIRM (R131): the FACTORY values become the running ones and go to the older USER copy. A FACTORY bank that fails the
cross-check (R127, R216) is refused as an invalid one is. -/
def calRestoreConfirm (ln : Ln) (word : List Byte) (s : State) : State :=
  s.verb ln .engineer fun s =>
    if !s.confirms ln word then refuse (s.spendWord ln) 401
    else if !s.inAny [.held, .ready] then refuse s 301
    else if s.par.calSave.isSome || s.pendFull ln then refuse s 302
    else if !s.checkBanks.factorySound then refuse s 601
    else
      let t := (s.checkBanks.spendWord ln).loadFactory
      (t.event 0x1044 0x0E ln.ses (t.saveTarget .u1 .u2).2.toNat 0 0 (s.loginOf ln)).startCal ln .calRestore
def execCalRestoreConfirm (ln : Ln) (word : List Byte) (s : State) : Res := go (calRestoreConfirm ln word s)

end Sys2Proof.Machine
end

