-- ==== Sys2Proof/Machine/Peer.lean ====
section
/-! DEFINITION. The heartbeats of a pair (R492, R493, Table 15.1) and the loss of the peer (R498, R517). -/
namespace Sys2Proof.Machine

/-- Bits as a number, the first the least. -/
def flagByte (l : List Bool) : Nat := (l.zipIdx).foldl (fun n p => if p.1 then n + 2 ^ p.2 else n) 0
/-- Table 15.1: the 28 bytes before the crc. -/
def beatBody (b : Heartbeat) : List Byte :=
  leBytes 4 b.beat.toNat ++ leBytes 4 b.gen.toNat ++ [b.state, BitVec.ofNat 8 (flagByte [b.holds, b.synced, b.yielding, b.rebase]),
    BitVec.ofNat 8 b.rank, 0] ++ leBytes 6 b.tick.toNat ++ [0, 0] ++ leBytes 4 b.epoch.toNat ++ [0, 0, 0, 0]
/-- Table 15.1: a heartbeat as window 7 holds it. -/
def beatBytes (b : Heartbeat) : List Byte :=
  let l := beatBody b
  l ++ leBytes 4 (crc32 l).toNat
/-- The heartbeat that 32 bytes of window 7 spell. -/
def beatOf (l : List Byte) : Heartbeat :=
  let f := l.getD 9 0
  { beat := BitVec.ofNat 32 (leNat (sliceB l 0 4))
    gen := BitVec.ofNat 32 (leNat (sliceB l 4 4))
    state := l.getD 8 0
    holds := f.getLsbD 0
    synced := f.getLsbD 1
    yielding := f.getLsbD 2
    rebase := f.getLsbD 3
    rank := (l.getD 10 0).toNat
    tick := BitVec.ofNat 48 (leNat (sliceB l 12 6))
    epoch := BitVec.ofNat 32 (leNat (sliceB l 20 4))
    crcOk := (crc32 (sliceB l 0 28)).toNat == leNat (sliceB l 28 4) }

/-- What a standby takes from a heartbeat (R493, R501): the error of its pair tick, a new trim within ±10 ppm, and the
generation it knows, which it keeps in MRAM. -/
def State.followPeer (s : State) (b : Heartbeat) : State :=
  let err := tickDist (tickPlus b.tick (Config.peerDelay : Nat)) s.now
  let later := b.holds && laterGen s.crown.gen b.gen
  State.drew { s with
    crown.clockErr := clampI (-524288) 524287 err
    clk.trim := clampI (-1000) 1000 s.freeWord.toInt
    crown.gen := if later then b.gen else s.crown.gen
    crown.nvGen := if later then b.gen else s.crown.nvGen }
/-- HEARTBEAT_RECEIVE (R492): an authenticated heartbeat marks path 1 alive. A crown holder learns from it how far its
standby has come and whether it asks for a base (R498, R499); a standby steers by it. -/
def heartbeatReceive (b : Heartbeat) (s : State) : State :=
  if !s.awake || !b.crcOk then s
  else
    let s : State := { s with
      crown.peerBeat := some b
      crown.path1 := s.now
      crown.heard := true }
    if s.crown.holds then
      { s with crown.peerApplied := b.epoch, crown.baseDue := s.crown.baseDue || (b.rebase && s.crown.baseFrom.isNone) }
    else if s.ctl.state == .standby then s.followPeer b
    else s
def execHeartbeatReceive (b : Heartbeat) (s : State) : Res := go (heartbeatReceive b s)

/-- R36, R498, R517: the PEER link or a PEER connection fails. The crown holder keeps the crown and lifts the waits of R499; a
standby is no longer SYNCED, and will ask for a base. The FAULT event of Table 1.6 is 0x9003 for a standby that was SYNCED and 0x9030
for any other Keystone. -/
def State.peerLost (s : State) : State :=
  let s : State := { s with crown.peerBeat := s.crown.peerBeat.map fun b => { b with synced := false } }
  let synced := !s.crown.holds && s.ctl.state == .standby && s.crown.synced == .yes
  let s := if synced then s.event 0x9003 0x0D 0 1 else s.event 0x9030 0x0D 0
  if !s.crown.holds && s.ctl.state == .standby then { s with crown.synced := .no, crown.rebase := true } else s

end Sys2Proof.Machine
end

