-- ==== Sys2Proof/Machine/Conns.lean ====
section
/-! DEFINITION. The queue pairs of Ramalink (chapters 8 and 9): keys, posting and completing work entries, WAIT, the group
deliveries, and what entering and leaving READY does. -/
namespace Sys2Proof.Machine

/-! ### Ports and keys -/

/-- Tables 1.2 and 8.16: CLS-A to CLS-D, SUP and SUP-T, PEER. -/
def isCls (p : Nat) : Bool := 1 ≤ p && p ≤ 4
def isSup (p : Nat) : Bool := p = 5 || p = 6
def isPeer (p : Nat) : Bool := p = 7
/-- A port serves partners: its link is up, it is not OFF, and of SUP and SUP-T it is the one in use (R17). -/
def State.portServes (s : State) (p : Nat) : Bool :=
  (s.port p).link && !(s.port p).off && (!isSup p || s.net.supPort == some p)
/-- The parameter that holds a port's pairing secret: SUP and SUP-T share that of SUP. -/
def secretId (p : Nat) : Nat := portP 5 (if p = 6 then 5 else p)

/-- R274: HKDF-Extract. -/
def hkdfExtract (salt ikm : List Byte) : List Byte := hmac salt ikm
/-- R274: the key of the mac fields. -/
def macKey (secret : List Byte) : List Byte := hkdfExpand (hkdfExtract (List.replicate 32 0#8) secret) (bytesOf "RAMALINK CONNECT") 32
/-- R274: the mac over a frame's header and the first `n` bytes of its payload. -/
def frameMac (secret header payload : List Byte) (n : Nat) : List Byte :=
  (hmac (macKey secret) (header ++ payload.take n)).take 16
/-- R274: the PRK of a connection. -/
def prkOf (secret np nk : List Byte) : List Byte := hkdfExtract (np ++ nk) secret

/-- The connections of a port. -/
def State.connsOn (s : State) (p : Nat) : List Nat := (List.range 64).filter fun c => (s.conn c).port = p && (s.conn c).state != .closed
/-- The connection is READY. -/
def State.isReady (s : State) (c : Nat) : Bool := (s.conn c).state == .ready

/-! ### Frames waiting -/

/-- A control frame waits on a connection (R315). -/
def State.control (s : State) (c : Nat) (f : TxFrame) : State :=
  s.updConn c fun x => { x with ctl := x.ctl ++ [{ f with cls := .control, queuedAt := s.now }] }
/-- A control frame that goes before those that wait. -/
def State.controlFirst (s : State) (c : Nat) (f : TxFrame) : State :=
  s.updConn c fun x => { x with ctl := { f with cls := .control, queuedAt := s.now } :: x.ctl }
/-- An ACK waits, unless one does already (R289). -/
def State.queueAck (s : State) (c : Nat) : State :=
  let s := s.updConn c fun x => { x with rxUnacked := 0 }
  if (s.conn c).ctl.any (·.op == .ack) then s else s.control c { op := .ack }
/-- Table 8.11: the payload of a NAK. -/
def nakBytes (code : Nat) (psn expected : U32) (delay : Nat) : List Byte :=
  leBytes 4 code ++ leBytes 4 psn.toNat ++ leBytes 4 expected.toNat ++ leBytes 2 delay ++ [0, 0]
/-- A NAK waits. -/
def State.queueNak (s : State) (c code : Nat) (psn : U32) (expected : U32 := 0) (delay : Nat := 0) : State :=
  s.control c { op := .nak, payload := nakBytes code psn expected delay }

/-! ### Posting -/

/-- R270, R271, Table 8.1: bytes on the wire of a frame with `n` bytes of payload. -/
def State.wireBytes (s : State) (p n : Nat) (enc : Bool) : Nat :=
  14 + (if s.on (portP 2 p) then 4 else 0) + 32 + n + (if enc then 16 else 0) + 4
/-- R316: the ticks such a frame takes at the port's line rate, with its preamble and gap. -/
def State.frameTicks (s : State) (p n : Nat) (enc : Bool := true) : Nat :=
  let rate := if p = 6 then 250 else 2500
  ((s.wireBytes p n enc + 20) * 8 + rate - 1) / rate
/-- R314: the length of the TICKET window of a port. -/
def State.ticketWindow (s : State) (p : Nat) : Nat := 4 * (s.port p).ticketUs
/-- R314: the window of a class. -/
def State.classWindow (s : State) (p : Nat) (ticket : Bool) : Nat :=
  if ticket then s.ticketWindow p else 192 - s.ticketWindow p
/-- The largest payload of an entry's frames (R281). -/
def largestPayload (op : WorkOp) (n : Nat) : Nat :=
  match op with
  | .write | .writeNotice | .send => min n 1440
  | .read => 4
  | .atomicAdd => 8
  | .wait => 0
/-- Table 8.8: the lengths of an operation. -/
def lengthOk (op : WorkOp) (n : Nat) : Bool :=
  match op with
  | .write | .writeNotice | .read => 1 ≤ n && n ≤ 1048576
  | .send => 1 ≤ n && n ≤ 1440
  | .atomicAdd => n = 8
  | .wait => n = 0
/-- R317: every window of the entry's class is too short for its largest frame. -/
def State.frameTooLong (s : State) (p : Nat) (w : WorkEntry) : Bool :=
  w.op != .wait && s.classWindow p w.ticket < s.frameTicks p (largestPayload w.op w.length)
/-- The send queue is full (Table 8.14). -/
def State.sqFull (s : State) (c : Nat) : Bool := 1024 ≤ (s.conn c).sq.length
/-- R317: an entry enters the send queue of a READY connection with room; one that no window can hold is refused LOCAL. -/
def State.postEntry (s : State) (c : Nat) (w : WorkEntry) : State :=
  if !s.isReady c || s.sqFull c then s
  else
    let p := (s.conn c).port
    let long := s.frameTooLong p w
    let w := if long then { w with fate := some CqStatus.local_ } else w
    let s := s.updConn c fun x => { x with sq := x.sq ++ [w] }
    if long then s.updPort p fun x => { x with localCnt := x.localCnt + 1 } else s

/-! ### Completing -/

/-- Table 8.9: an entry of the completion queue. -/
def Conn.completes (x : Conn) (w : WorkEntry) (st : CqStatus) (code : Nat) : Conn :=
  { x with
    cq := { id := w.id, op := w.op, status := st, code := code, done := if st == .ok || st == .sent then w.length else w.got,
            count := x.cqCount + 1 } :: x.cq
    cqCount := x.cqCount + 1 }
/-- R282: every frame of the entry has been sent and acknowledged. -/
def Conn.allAcked (x : Conn) (w : WorkEntry) : Bool := w.framed && x.unacked.all fun f => u32Before w.lastPsn f.psn
/-- R282: the entry has done its work. -/
def Conn.finished (x : Conn) (w : WorkEntry) : Bool :=
  match w.op with
  | .write | .writeNotice | .send => x.allAcked w
  | .read | .atomicAdd => w.answered || (w.nak != 0 && x.allAcked w)
  | .wait => false
/-- R283: the completion count of a connection has reached a threshold. -/
def Conn.reached (x : Conn) (threshold : U32) : Bool := (x.cqCount - threshold).toNat < 2 ^ 31
/-- R283, R284: what a WAIT at the head of a queue does: released, broken, or held. -/
def State.waitFate (s : State) (w : WorkEntry) : Option CqStatus :=
  let y := s.conn (w.rkey.toNat % 65536)
  if y.reached w.offset then some .ok else if y.state == .ready then none else some .broken
/-- R284: connection `c` is about to leave READY: every WAIT that watches it is judged by the count that stands now, before the flush. A
WAIT behind other entries keeps the judgement until it is at the head (assumption 44). -/
def State.judgeWaits (s : State) (c : Nat) : State :=
  let x := s.conn c
  let judge (w : WorkEntry) : WorkEntry :=
    if w.op == .wait && w.fate.isNone && w.rkey.toNat % 65536 = c then
      { w with fate := some (if x.reached w.offset then .ok else .broken) }
    else w
  { s with net.conns := s.net.conns.map fun y => { y with sq := y.sq.map judge } }
/-- The status of the entry at the head of a queue, when it completes now. -/
def State.headStatus (s : State) (x : Conn) (w : WorkEntry) : Option (CqStatus × Nat) :=
  match w.fate with
  | some f => some (f, 0)
  | none =>
    if w.op == .wait then (s.waitFate w).map fun f => (f, 0)
    else if !x.finished w then none
    else if w.nak != 0 then some (.nak, w.nak)
    else some (if w.sent_ then .sent else .ok, 0)

/-! ### Groups (R321–R328) -/

/-- The post of group `g` with sequence number `gsn`. -/
def State.post? (s : State) (g : Nat) (gsn : U32) : Option Post := (s.group g).posts.find? fun p => p.gsn == gsn
/-- That post changed by `f`. -/
def State.updPost (s : State) (g : Nat) (gsn : U32) (f : Post → Post) : State :=
  s.updGroup g fun x => { x with posts := updFirst (fun p => p.gsn == gsn) f x.posts }
/-- A target of that post changed by `f`. -/
def State.updTarget (s : State) (g : Nat) (gsn : U32) (c : Nat) (f : Target → Target) : State :=
  s.updPost g gsn fun p => { p with targets := updFirst (fun t => t.conn = c) f p.targets }
/-- The target has accepted or ended. -/
def Target.over (t : Target) : Bool := t.st == .accepted || t.st == .ended
/-- R325: the target ends without having accepted; a delivery sent and not answered leaves it uncertain. -/
def Target.end_ (t : Target) : Target := if t.over then t else { t with st := .ended, uncertain := t.st == .sent }
/-- The bits of the connections that `p` holds of. -/
def targetMask (p : Target → Bool) (l : List Target) : BitVec 64 := l.foldl (fun m t => if p t then m ||| (1#64 <<< t.conn) else m) 0
/-- Table 9.4: the record of a post. -/
def doneOf (p : Post) (status : Nat) : Done :=
  { gsn := p.gsn, ppsn := p.ppsn, targets := targetMask (fun _ => true) p.targets
    delivered := targetMask (fun t => t.st == .accepted) p.targets
    uncertain := targetMask (·.uncertain) p.targets, status := status }
/-- Table 9.4: its bytes. -/
def doneBytes (g : Nat) (d : Done) : List Byte :=
  leBytes 4 d.gsn.toNat ++ leBytes 4 d.ppsn.toNat ++ leBytes 8 d.targets.toNat ++ leBytes 8 d.delivered.toNat ++
    leBytes 8 d.uncertain.toNat ++ [BitVec.ofNat 8 g, BitVec.ofNat 8 d.status, 0, 0, 0, 0, 0, 0]
/-- R327: the record of a post goes to its poster, as BULK; SHOW group prints the last one. -/
def State.sendDone (s : State) (g : Nat) (poster : Option Nat) (d : Done) : State :=
  let s := s.updGroup g fun x => { x with lastDone := some d }
  match poster with
  | some c =>
    if s.isReady c then
      s.updConn c fun x => { x with resp := x.resp ++
        [{ op := .groupDone, first := true, last := true, cls := .bulk, payload := doneBytes g d, queuedAt := s.now }] }
    else s
  | none => s
/-- R327: a post whose targets are all over is done. -/
def State.finishPost (s : State) (g : Nat) (p : Post) : State :=
  let d := doneOf p (if p.targets.isEmpty then 2 else 0)
  let s := s.updGroup g fun x =>
    { x with
      posts := x.posts.filter fun q => q.gsn != p.gsn
      partial_ := if d.delivered == d.targets then x.partial_ else x.partial_ + 1 }
  s.sendDone g p.poster d
/-- The finished posts of a group are reported. -/
def State.finishPosts (s : State) (g : Nat) : State :=
  ((s.group g).posts.filter fun p => p.targets.all Target.over).foldl (fun s p => s.finishPost g p) s
/-- A delivery of the post to the connection stands in its send queue without a frame sent. -/
def State.deliveryWaits (s : State) (g : Nat) (gsn : U32) (c : Nat) : Bool :=
  (s.conn c).sq.any fun w => w.group == some (g, gsn) && !w.framed && w.fate.isNone
/-- R325, R326: one attempt at a target: an entry on its send queue; a full queue ends an UNRELIABLE target and lets a
RELIABLE one wait; a frame that no window can hold ends it (R317). -/
def State.deliver (s : State) (g : Nat) (p : Post) (c : Nat) : State :=
  let reliable := s.num 0x1A0 g = 1
  if s.sqFull c then
    s.updTarget g p.gsn c fun t => if reliable then { t with tried := true, at_ := s.now } else { t with tried := true, st := .ended }
  else
    let w : WorkEntry := { op := .send, ticket := s.on 0x1A6 g, length := p.msg.length, data := p.msg, id := p.gsn,
                           group := some (g, p.gsn) }
    if s.frameTooLong (s.conn c).port w then
      (s.updTarget g p.gsn c fun t => { t with tried := true, st := .ended }).updPort (s.conn c).port fun x =>
        { x with localCnt := x.localCnt + 1 }
    else (s.postEntry c w).updTarget g p.gsn c fun t => { t with tried := true, st := .waiting, at_ := s.now }
/-- R325: an earlier post of a RELIABLE group still stands before this one at a target. -/
def State.blocked (s : State) (g : Nat) (gsn : U32) (c : Nat) : Bool :=
  s.num 0x1A0 g = 1 && (s.group g).posts.any fun q => u32Before q.gsn gsn && q.targets.any fun t => t.conn = c && !t.over
/-- R325: the timeout of a group in ticks. -/
def State.groupLimit (s : State) (g : Nat) : Nat := 400 * s.num 0x1A5 g
/-- The deliveries of a group that may start now are posted: those never tried whose turn has come, and with `retry` those
that were refused 400 ticks ago. -/
def State.kick (s : State) (g : Nat) (retry : Bool) : State :=
  ((s.group g).posts.flatMap fun p => p.targets.map fun t => (p, t)).foldl (fun s q =>
    let (p, t) := q
    let again := retry && t.tried && s.num 0x1A0 g = 1 && ticksFrom p.at_ s.now < s.groupLimit g &&
      400 ≤ ticksFrom t.at_ s.now && !s.deliveryWaits g p.gsn t.conn
    if t.st == .waiting && (!t.tried || again) && !s.blocked g p.gsn t.conn then s.deliver g p t.conn else s) s
/-- What follows a change of a group's targets. -/
def State.settleGroup (s : State) (g : Nat) : State := ((s.kick g false).finishPosts g).kick g false |>.finishPosts g
/-- R321: a member connection has left READY: it ceases to be a member (a NOTE), and its targets end. -/
def State.groupLost (s : State) (c : Nat) : State :=
  (List.range 16).foldl (fun s g =>
    let x := s.group g
    let s := if x.conns.getLsbD c then
        -- The manual numbers no event for this NOTE: the code is free within class 4 (assumption 6).
        let code := 0x4000 + s.freeWord.toNat % 4096
        ((s.drew).event (if sevOf code == .note then code else 0x4FFF) 3 c).updGroup g fun y =>
          { y with conns := y.conns &&& ~~~(1#64 <<< c) }
      else s
    let s := s.updGroup g fun y =>
      { y with posts := y.posts.map fun p => { p with targets := updAll (fun t => t.conn = c) Target.end_ p.targets } }
    s.settleGroup g) s

/-! ### Entering and leaving READY -/

/-- The status with which an entry is flushed: one cancelled, refused or refused by the responder has its own. -/
def flushStatus (w : WorkEntry) : CqStatus × Nat :=
  match w.fate with
  | some f => (if w.op == .wait then .flushed else f, 0)
  | none => if w.nak != 0 then (.nak, w.nak) else (.flushed, 0)
/-- R278: every entry on the send queue that has not completed completes, in order; the oldest with `first`, when it is the
cause. -/
def Conn.flush (x : Conn) (first : Option (CqStatus × Nat)) : Conn :=
  let st (i : Nat) (w : WorkEntry) : CqStatus × Nat := if i = 0 then first.getD (flushStatus w) else flushStatus w
  { (x.sq.zipIdx).foldl (fun y q => y.completes q.1 (st q.2 q.1).1 (st q.2 q.1).2) x with sq := [] }
/-- Table 8.12: the reasons that send a DISCONNECT. -/
def sendsDisconnect : Reason → Bool
  | .localClose | .retry | .rnr | .waitBroken | .epochLimit => true
  | _ => false
/-- The ticket source that a connection carries (R167). -/
def State.sourceOf (s : State) (c : Nat) : Option Nat := ((List.range 16).map (· + 1)).find? fun n => (s.source n).conn == some c
/-- The connections of PEER that are READY. -/
def State.peerReady (s : State) : List Nat := (List.range 64).filter fun c => (s.conn c).port = 7 && s.isReady c
/-- Table 8.12: what a connection that leaves READY for reason `r` still sends of the control frames `ctl` that wait: the NAK of the
violation, the ACK of the DISCONNECT, or a DISCONNECT of its own; nothing else (Table 8.7). -/
def leaveFrames (r : Reason) (now : Tick) (ctl : List TxFrame) : List TxFrame :=
  match r with
  | .violationSent => ((ctl.filter fun f => f.op == .nak).getLast?).toList
  | .peerClose => (ctl.filter fun f => f.op == .ack).take 1
  | _ =>
    if sendsDisconnect r then
      [{ op := .disconnect, first := true, last := true, queuedAt := now, payload := leBytes 16 (reasonOrd r) }]
    else []
/-- R278: one connection leaves READY for `st` with reason `r`; `first` is the status of its oldest entry when that entry is
the cause. Its entries are flushed, its windows revoked (R311), its source closed (R205), its text session ended (R90). -/
def State.leaveOne (s : State) (c : Nat) (st : ConnState) (r : Reason) (first : Option (CqStatus × Nat)) : State :=
  if !s.isReady c then s
  else
    let peer := (s.conn c).port = 7
    let s := (s.judgeWaits c).updConn c fun x =>
      { x.flush first with
        state := st
        reason := r
        recvFree := 0
        resend := []
        resp := []
        unacked := []
        ctl := leaveFrames r s.now x.ctl
        rekeying := false
        fullOn := false }
    let s : State := { s with
      net.userWins := s.net.userWins.filter fun w => w.conn != c
      par.setReqs := s.par.setReqs.filter fun q => q.1 != c }
    let s := match s.sourceOf c with
      | some n => (s.closeSource n).learnSourceLost n
      | none => s
    let s := match s.textSession? c with
      | some x => s.endSession x.idx
      | none => s
    let s := s.event (if st == .closing then 0x4002 else 0x4010) 3 c (reasonOrd r)
    let s := s.groupLost c
    if peer && r != .linkDown then s.peerLost else s

/-- Heads of send queues that complete now are completed, in order; a broken WAIT takes its own connection out of READY
(R283, R284). Each pass completes at most one entry of each queue; `n` bounds the passes. -/
def State.settleOne (s : State) (c : Nat) : State :=
  let x := s.conn c
  match x.sq with
  | [] => s
  | w :: ws =>
    if !s.isReady c then s
    else match s.headStatus x w with
      | none => s
      | some (st, code) =>
        if st == .broken then s.leaveOne c .error .waitBroken (some (.broken, 0))
        else s.updConn c fun x => ({ x with sq := ws } : Conn).completes w st code
/-- Passes over the send queues until none completes. -/
def settlePasses : Nat → State → State
  | 0, s => s
  | n + 1, s =>
    let t := (List.range 64).foldl State.settleOne s
    if t.net.conns.map (fun x => x.sq.length) == s.net.conns.map (fun x => x.sq.length) then t else settlePasses n t
/-- All that completes now completes. -/
def State.settle (s : State) : State := settlePasses (1 + sumOf (fun (x : Conn) => x.sq.length) s.net.conns) s
/-- R277, R278: a connection leaves READY, and the WAITs that watched it are judged. -/
def State.leave (s : State) (c : Nat) (st : ConnState) (r : Reason) (first : Option (CqStatus × Nat) := none) : State :=
  (s.settle.leaveOne c st r first).settle

/-- R167: the lowest free source number of a port. -/
def State.freeSource (s : State) (p : Nat) : Option Nat :=
  ((List.range 4).map fun i => 4 * (p - 1) + i + 1).find? fun n => (s.source n).conn.isNone
/-- R276, R277: a connection enters READY: its queues and counts are new, its system windows open (Table 9.1), and on a
classifier port it takes a source (R167). A ring is OPEN only where the Keystone holds the crown and does not yield (R509,
R512). -/
def State.connReady (s : State) (c : Nat) : State :=
  let p := (s.conn c).port
  let others := (s.connsOn p).any fun d => s.isReady d
  let s := s.updConn c fun x =>
    { x with
      state := .ready
      reason := .none
      epoch := 1
      rekeyAsked := false
      fseq := 0
      epochSince := s.now
      rxEpoch := 1
      recvFree := s.num (0x190 + (p - 1))
      cq := []
      cqCount := 0
      lastRx := s.now
      lastTx := s.now }
  let s : State := { s with
    par.results := s.par.results.filter fun q => q.1 != c
    par.setBlocks := s.par.setBlocks.filter fun q => q.1 != c
    par.loadAreas := s.par.loadAreas.filter fun q => q.1 != c
    net.cfgGen := if isSup p && !others then nextGen s.net.cfgGen else s.net.cfgGen
    net.peerGen := if isPeer p && !others then nextGen s.net.peerGen else s.net.peerGen }
  if isCls p then
    match s.freeSource p with
    | some n => (s.openSource n c).updSource n fun q => { q with open_ := s.crown.holds && !s.crown.yielding }
    | none => s
  else if isPeer p then
    let mirror := (s.conn c).pconn = 0x0C01
    let s := s.drew.updConn c fun x =>
      { x with
        remote := BitVec.ofNat 32 ((s.freeWord.toNat % 256) * 65536 + (if mirror then 0xFFFF else 7))
        fullOn := mirror
        fullGen := if mirror then nextGen x.fullGen else x.fullGen }
    if mirror && s.crown.holds then s.startBase else s
  else s

/-! ### Acknowledgement (R289) -/

/-- The frame is one of a send queue's entries. -/
def ofEntry : RlOp → Bool
  | .write | .writeNotice | .readReq | .send | .atomicAdd | .groupDeliver => true
  | _ => false
/-- The entry of the send queue that a frame with this psn belongs to. -/
def Conn.entryOf (x : Conn) (psn : U32) : Option Nat :=
  x.sq.findIdx? fun w => w.op != .wait && w.fate.isNone && (!w.framed || !u32Before w.lastPsn psn)
/-- Bytes of an entry that one acknowledged frame carried. -/
def Conn.ackFrame (x : Conn) (f : TxFrame) : Conn :=
  if ofEntry f.op && f.op != .readReq && f.op != .atomicAdd then
    match x.entryOf f.psn with
    | some i => { x with sq := updAt i (fun w => { w with got := w.got + f.payload.length }) x.sq }
    | none => x
  else x
/-- R289: a cumulative acknowledgement: frames before it are acknowledged. -/
def State.takeAck (s : State) (c : Nat) (a : U32) : State :=
  let x := s.conn c
  let got := x.unacked.filter fun f => u32Before f.psn a
  if got.isEmpty || u32Before x.txPsn a then s
  else
    let s := s.updConn c fun x =>
      let y := got.foldl Conn.ackFrame x
      { y with
        unacked := x.unacked.filter fun f => !u32Before f.psn a
        resend := x.resend.filter fun f => !u32Before f.psn a
        retries := 0
        rnrTries := 0 }
    s.settle

end Sys2Proof.Machine
end

