-- ==== Sys2Proof/Machine/Windows.lean ====
section
/-! DEFINITION. Windows (chapter 9): the entries open on a connection, the checks of an access, the bytes behind each
window, the full key, and the WINDOW verbs. -/
namespace Sys2Proof.Machine

/-! ### Entries -/

/-- A window as one connection sees it (R303). -/
structure Win where
  gen    : Nat := 1
  len    : Nat := 0
  perm   : Perm := .ro
  ticket : Bool := false
deriving DecidableEq, Repr

/-- The chute whose sweep runs on the source of a connection (R222). -/
def State.learnOn (s : State) (c : Nat) : Option Nat :=
  (s.sourceOf c).bind fun src =>
    ((List.range 8).map (· + 1)).find? fun n => ((s.chute n).learn).elim false fun x => x.src = src
/-- R303, R304, Table 9.1: the window that index `i` names on connection `c`. -/
def State.window? (s : State) (c i : Nat) : Option Win :=
  let p := (s.conn c).port
  let partner := isCls p || isSup p
  if !s.isReady c then none
  else if 48 ≤ i then
    (s.net.userWins.find? fun w => w.index = i && w.conn = c).map fun w =>
      { gen := w.gen, len := w.length, perm := w.perm, ticket := w.ticket }
  else match i with
    | 0 => if partner then some { len := 32, ticket := true } else none
    | 1 => if partner then some { len := 0x90000, perm := .rw } else none
    | 2 => if isSup p then some { gen := s.net.cfgGen, len := 0x60000, perm := .rw } else none
    | 3 => (s.sourceOf c).map fun n => { gen := (s.source n).ringGen, len := 0x24000, perm := .rw, ticket := true }
    | 4 => (s.sourceOf c).map fun n => { gen := (s.source n).compGen, len := 0x41000, perm := .rw, ticket := true }
    | 5 => (s.learnOn c).map fun n => { gen := (s.chute n).learnGen, len := 4096, perm := .rw }
    | 6 => some { len := 0x2000 }
    | 7 => if isPeer p then some { gen := s.net.peerGen, len := 32, perm := .rw, ticket := true } else none
    | 8 => if isPeer p then some { gen := s.net.peerGen, len := 0x1000000, perm := .wo } else none
    | _ => none

/-- The range `[off, off + n)` lies in `[a, b)`. -/
def inside (off n a b : Nat) : Bool := a ≤ off && off + n ≤ b
/-- The range may be written (R24, R99, R124, R168, R303). -/
def writable (i : Nat) (w : Win) (off n : Nat) : Bool :=
  match i with
  | 1 => inside off n 0x80000 0x80040
  | 2 => inside off n 0x40000 0x60000
  | 3 => inside off n 0 4 || inside off n 0x1000 0x23050
  | 4 => inside off n 4 8
  | _ => w.perm != .ro
/-- What an access does. -/
inductive AccessKind where
  | read | write | atomic
deriving DecidableEq, Repr

/-- An admitted access: the window's index, the offset in it, its class, and whether it came through the full key. -/
structure Admitted where
  index  : Nat := 0
  off    : Nat := 0
  ticket : Bool := false
  full   : Bool := false
deriving DecidableEq, Repr

/-- R308, from BOUNDS on: the range, the permission and the alignment. -/
def checkRange (i : Nat) (w : Win) (off n : Nat) (k : AccessKind) : Except Nat Admitted :=
  if w.len < off + n then .error 0x22
  else if k == .read then if w.perm == .wo then .error 0x23 else .ok { index := i, off := off, ticket := w.ticket }
  else if !writable i w off n then .error 0x23
  else if k == .atomic && off % 8 != 0 then .error 0x24
  else .ok { index := i, off := off, ticket := w.ticket }
/-- R310: the indices whose revoke must await the end of the access. -/
def Admitted.wins (t : Admitted) : List Nat := if t.full then [t.index, 0xFFFF] else [t.index]
/-- R308, R312, R313: the checks of an access after INVALID, in order; the code of the first that fails. Through the full key an index that
was revoked on the connection is refused with HANDLE (R310), and one that was never open with BOUNDS (R312). -/
def State.grantAccess (s : State) (c : Nat) (rkey offset : U32) (n : Nat) (k : AccessKind) : Except Nat Admitted :=
  let i := rkey.toNat % 65536
  let g := rkey.toNat / 65536 % 256
  let x := s.conn c
  if i = 0xFFFF then
    if !x.fullOn || (isCls x.port && s.inAny [.run, .drain]) then .error 0x25
    else if g != x.fullGen then .error 0x21
    else
      let j := offset.toNat / 2 ^ 24
      match s.window? c j with
      | none => .error (if x.revoked.contains j then 0x20 else 0x22)
      | some w => (checkRange j w (offset.toNat % 2 ^ 24) n k).map fun t => { t with full := true }
  else match s.window? c i with
    | none => .error 0x20
    | some w => if g != w.gen then .error 0x21 else checkRange i w offset.toNat n k

/-! ### The bytes behind the system windows -/

/-- Table 1.3: the time page. -/
def timeBytes (p : TimePage) : List Byte :=
  leBytes 6 p.tick.toNat ++ [0, 0] ++ leBytes 4 p.line.toNat ++ leBytes 6 p.edge.toNat ++ [0, 0] ++
    leBytes 4 p.period.toNat ++ leBytes 4 p.crown.toNat ++ [p.state, 0, 0, 0]
/-- Table 3.2: the type code. -/
def typeCode : PType → Nat
  | .uint w => if w ≤ 8 then 1 else if w ≤ 16 then 2 else if w ≤ 20 then 3 else 5
  | .sint _ => 4
  | .enum _ => 6
  | .fix sg _ _ => if sg then 7 else 8
  | .str _ => 9
/-- Table 3.5: the class in an entry's flags. -/
def classCode : PClass → Nat
  | .live => 0 | .kept => 1 | .cal => 2 | .fact => 3
/-- The arrays of the parameter page, with the words each takes (Table 3.4). -/
def arrayWords : List (Nat × Nat) :=
  (paramTable.filter fun d => d.elems != 0).flatMap fun d => (List.range d.count).map fun m => (d.base + d.stride * m, d.elems)
/-- The words of all arrays. -/
def arrayTotal : Nat := sumOf (·.2) arrayWords
/-- R99, Table 3.5: the page offset of element 0 of an array. The arrays lie one after another in the array area, 0x81000 to 0x8FFFF; which
comes first, and how many words stand before it, is free (assumption 60). -/
def arrayOffset (id : Nat) : Nat :=
  let before := arrayWords.filter fun a =>
    Config.arrayRank a.1 < Config.arrayRank id || (Config.arrayRank a.1 == Config.arrayRank id && a.1 < id)
  0x81000 + 4 * (Config.arrayShift % (15361 - arrayTotal) + sumOf (·.2) before)
/-- Table 3.5: the entry of an ID. -/
def State.pageEntry (s : State) (id : Nat) : List Byte :=
  match descOfId id with
  | none => List.replicate 8 0#8
  | some (d, f) =>
    let arr := d.elems != 0
    let v : U32 := if isText d || d.acc == .wo then 0
      else if arr then BitVec.ofNat 32 (arrayOffset id)
      else BitVec.ofInt 32 (s.valueOf { desc := d, id := id, fam := f })
    let count := if arr then d.elems else lookupD id 0 s.par.counts
    leBytes 4 v.toNat ++ leBytes 2 count ++
      [BitVec.ofNat 8 (classCode d.cls + flagByte [false, false, d.acc == .ro, (s.stagedOf id).isSome, arr]),
       BitVec.ofNat 8 (typeCode d.typ)]
/-- Table 3.4: the element that a word of the array area holds: its ID, row, member and index. -/
def arrayAt (off : Nat) : Option (Nat × PDesc × Nat × Nat) :=
  (paramTable.filter fun d => d.elems != 0).findSome? fun d =>
    (List.range d.count).findSome? fun m =>
      let id := d.base + d.stride * m
      let a := arrayOffset id
      if a ≤ off && off < a + 4 * d.elems then some (id, d, m + 1, (off - a) / 4) else none
/-- Table 3.7: a result block. -/
def resultBytes (r : SetRes) : List Byte :=
  leBytes 4 r.request.toNat ++ leBytes 2 r.code.toNat ++ [r.pair, 0] ++ leBytes 4 r.done.toNat ++ [0, 0, 0, 0]
/-- The set block of a connection. -/
def State.setBlock (s : State) (c : Nat) : List Byte := padTo 64 (lookupD c [] s.par.setBlocks)
/-- A byte of the parameter page (Table 3.4). -/
def State.paramByte (s : State) (c off : Nat) : Byte :=
  if off < 0x80000 then (s.pageEntry (off / 8)).getD (off % 8) 0
  else if off < 0x80040 then (s.setBlock c).getD (off - 0x80000) 0
  else if off < 0x80050 then (resultBytes (s.setResult c)).getD (off - 0x80040) 0
  else if off < 0x81000 then 0
  else match arrayAt off with
    | some (id, d, m, e) =>
      (leBytes 4 (BitVec.ofInt 32 (s.valueOf { desc := d, id := id, fam := m, elem := e })).toNat).getD ((off - arrayOffset id) % 4) 0
    | none => 0
/-- A byte of a bank as NOR holds it: erased flash reads ones. -/
def bankByte (b : Bank) (off : Nat) : Byte :=
  if b == {} then 0xFF
  else
    let l := b.bytes
    if off < 28 then l.getD off 0xFF else if off < 32 then (leBytes 4 b.crc.toNat).getD (off - 28) 0xFF
    else l.getD (off - 4) 0xFF
/-- A byte of the configuration window (R124). -/
def State.configByte (s : State) (c off : Nat) : Byte :=
  if off < 0x20000 then bankByte s.par.bankA off
  else if off < 0x40000 then bankByte s.par.bankB (off - 0x20000)
  else cellAt (s.loadArea c) (off - 0x40000)
/-- A byte of the ticket ring window (Table 5.1). -/
def State.ringByte (s : State) (n off : Nat) : Byte :=
  let q := s.source n
  let status := flagByte [q.open_, q.stalled, q.overrun, !s.on 0x600]
  if off < 16 then
    (leBytes 4 q.prod.toNat ++ leBytes 4 q.cons.toNat ++ leBytes 4 q.next.toNat ++ leBytes 4 status).getD off 0
  else if off < 0x1000 then 0
  else if off < 0x21000 then cellAt q.slots (off - 0x1000)
  else if off < 0x23000 then cellAt q.tally (off - 0x21000)
  else if off < 0x23050 then cellAt q.recipe (off - 0x23000)
  else 0
/-- A byte of the completion ring window (Table 5.2). -/
def State.compByte (s : State) (n off : Nat) : Byte :=
  let q := s.source n
  if off < 12 then (leBytes 4 q.cprod.toNat ++ leBytes 4 q.ccons.toNat ++ leBytes 4 q.free).getD off 0
  else if off < 0x1000 then 0
  else cellAt q.entries (off - 0x1000)
/-- Table 9.2: the permission in an entry. -/
def permCode : Perm → Nat
  | .ro => 1 | .wo => 2 | .rw => 3
/-- A byte of the window directory of a connection (Table 9.2). -/
def State.dirByte (s : State) (c off : Nat) : Byte :=
  if off < 0x1000 then
    match s.window? c (off / 16) with
    | none => 0
    | some w =>
      (leBytes 2 (off / 16) ++ [BitVec.ofNat 8 w.gen, BitVec.ofNat 8 (permCode w.perm + (if w.ticket then 4 else 0) + 8)] ++
        leBytes 4 w.len).getD (off % 16) 0
  else
    let x := s.conn c
    if !x.fullOn then 0
    else if off = 0x1000 then BitVec.ofNat 8 x.fullGen
    else if off = 0x1001 then 8
    else 0
/-- A byte of a window that is neither on SHARE nor in MIRROR. -/
def State.windowByte (s : State) (c i off : Nat) : Byte :=
  match i with
  | 0 => (timeBytes s.page).getD off 0
  | 1 => s.paramByte c off
  | 2 => s.configByte c off
  | 3 => s.ringByte ((s.sourceOf c).getD 0) off
  | 4 => s.compByte ((s.sourceOf c).getD 0) off
  | 5 => cellAt (s.source ((s.sourceOf c).getD 0)).learnWin off
  | 6 => s.dirByte c off
  | _ => (beatBytes (s.crown.peerBeat.getD {})).getD off 0

/-! ### Reading and writing -/

/-- Where a window lies in a SEAL region, with its offset there (Table 14.1): user windows in SHARE, window 8 in MIRROR. -/
def State.sealedAt (s : State) (c i : Nat) : Option (Nat × Nat) :=
  if 48 ≤ i then (s.net.userWins.find? fun w => w.index = i && w.conn = c).map fun w => (2, w.base)
  else if i = 8 then some (4, 0)
  else none
/-- R477, R487: EXPORT, which holds windows 0, 1, 2, 4, 5 and 6, answers no access; of its lines the model places the time
page's alone. -/
def State.exportFails (s : State) (i : Nat) : Bool :=
  [0, 1, 2, 4, 5, 6].contains i && ((s.sealGate 3).isSome || (i = 0 && (s.lineMeta 3 0).poison))
/-- R285, R286: the bytes of a range of a window; none when memory protection refuses them (NAK INTEGRITY). -/
def State.readWindow (s : State) (c : Nat) (t : Admitted) (n : Nat) : State × Option (List Byte) :=
  match s.sealedAt c t.index with
  | some (slot, base) =>
    let (s, r) := s.sealRead slot (base + t.off) n none false
    (s, match r with
      | .ok l => some l
      | .error _ => none)
  | none =>
    if s.exportFails t.index then (s, none)
    else (s, some ((List.range n).map fun k => s.windowByte c t.index (t.off + k)))
/-- Four bytes with some of them replaced, as a number. -/
def patch4 (old : Nat) (off : Nat) (data : List Byte) : U32 :=
  let l := leBytes 4 old
  BitVec.ofNat 32 (leNat (l.take off ++ data ++ l.drop (off + data.length)))
/-- Bytes written into the ticket ring window of source `n` (Table 5.1): the hardware watches prod (R170). -/
def State.writeRing (s : State) (n off : Nat) (data : List Byte) : State :=
  if off < 4 then ticketProdWrite n (patch4 (s.source n).prod.toNat off data) s
  else
    let part (a b : Nat) (m : List Host.Cell) : List Host.Cell :=
      let lo := max a off
      let hi := min b (off + data.length)
      if lo < hi then writeCells m (lo - a) (sliceB data (lo - off) (hi - lo)) else m
    s.updSource n fun q =>
      { q with
        slots := part 0x1000 0x21000 q.slots
        tally := part 0x21000 0x23000 q.tally
        recipe := part 0x23000 0x23050 q.recipe }
/-- R285: bytes written into a window. False when memory protection refuses them (NAK INTEGRITY). -/
def State.writeWindow (s : State) (c : Nat) (t : Admitted) (data : List Byte) : State × Bool :=
  match s.sealedAt c t.index with
  | some (slot, base) =>
    let (s, e) := s.sealWrite slot (base + t.off) data none false false
    (s, e.isNone)
  | none =>
    if s.exportFails t.index then (s, false)
    else
      let n := (s.sourceOf c).getD 0
      match t.index with
      | 1 =>
        let b := s.setBlock c
        let k := t.off - 0x80000
        ({ s with par.setBlocks := assocSet c (b.take k ++ data ++ b.drop (k + data.length)) s.par.setBlocks }, true)
      | 2 => ({ s with par.loadAreas := assocSet c (writeCells (s.loadArea c) (t.off - 0x40000) data) s.par.loadAreas }, true)
      | 3 => (s.writeRing n t.off data, true)
      | 4 => (completionCconsWrite n (patch4 (s.source n).ccons.toNat (t.off - 4) data) s, true)
      | 5 => (s.updSource n fun q => { q with learnWin := writeCells q.learnWin t.off data }, true)
      | _ =>
        let l := beatBytes (s.crown.peerBeat.getD {})
        (heartbeatReceive (beatOf (l.take t.off ++ data ++ l.drop (t.off + data.length))) s, true)
/-- R287: the notice of an entry that covered `[a, b)` of a window goes to the window's owner: a set request (R101), a recipe
report (R202), the trailer of an epoch in the epoch ring (R495, R497). -/
def State.notice (s : State) (c i a b : Nat) : State :=
  if i = 1 && a ≤ 0x80000 && 0x80040 ≤ b then setRequest c (s.setBlock c) s
  else if i = 3 && a ≤ 0x23000 && 0x23050 ≤ b then recipeReport ((s.sourceOf c).getD 0) s
  else if i = 8 && (b - 1) / 0x80000 = a / 0x80000 then { s with crown.notices := assocSet (a / 0x80000) s.now s.crown.notices }
  else s

/-! ### WINDOW verbs -/

/-- R305: the generation of a user entry advances as the entry opens. -/
def State.openUser (s : State) (i : Nat) : State × Nat :=
  let g := nextGen (s.net.userGen.getD (i - 48) 0)
  ({ s with net.userGen := updAt (i - 48) (fun _ => g) s.net.userGen }, g)
/-- The entries that are free, lowest first (R307). -/
def State.freeWindow (s : State) : Option Nat :=
  ((List.range 208).map (· + 48)).find? fun i => !s.net.userWins.any fun w => w.index = i
/-- A connection that WINDOW OPEN may name: READY, on a port other than PEER. -/
def State.openable (s : State) (c : Nat) : Bool := c < 64 && s.isReady c && (s.conn c).port != 7
/-- The reply that names a handle. -/
def handleText (idx : String) (g : Nat) (handle : String) : String :=
  "index 0x" ++ idx ++ " generation " ++ natText g ++ " handle 0x" ++ handle
/-- WINDOW_OPEN (R307, R332), its refusals in the order of R68: 401, 301, 501, 601. -/
def windowOpen (ln : Ln) (c off len : Nat) (perm : Perm) (ticket : Bool) (s : State) : State :=
  s.verb ln .engineer fun s =>
    if 64 ≤ c || off % 64 != 0 || len % 64 != 0 || len < 64 || 2 ^ 24 < len || 2 ^ 26 < off + len then refuse s 401
    else if !s.openable c then refuse s 301
    else match s.freeWindow with
      | none => refuse s 501
      | some i =>
        if (s.sealGate 2).isSome then refuse s 601
        else
          let (s, g) := s.openUser i
          let w : UserWin := { index := i, gen := g, conn := c, base := off, length := len, perm := perm, ticket := ticket }
          let s := s.updConn c fun x => { x with revoked := x.revoked.filter (· != i) }
          done { s with net.userWins := s.net.userWins ++ [w] } (handleText (hexText 2 i) g (hexText 2 g ++ "00" ++ hexText 2 i))
def execWindowOpen (ln : Ln) (conn off len : Nat) (perm : Perm) (ticket : Bool) (s : State) : Res :=
  go (windowOpen ln conn off len perm ticket s)
/-- WINDOW_OPEN_FULL (R313). -/
def windowOpenFull (ln : Ln) (c : Nat) (s : State) : State :=
  s.verb ln .engineer fun s =>
    if 64 ≤ c then refuse s 401
    else if !s.openable c then refuse s 301
    else if isCls (s.conn c).port && s.inAny [.run, .drain] then refuse s 301
    else
      let g := nextGen (s.conn c).fullGen
      done (s.updConn c fun x => { x with fullOn := true, fullGen := g }) (handleText "FFFF" g (hexText 2 g ++ "FFFF"))
def execWindowOpenFull (ln : Ln) (conn : Nat) (s : State) : Res := go (windowOpenFull ln conn s)
/-- R310: a response of an access admitted through index `i` of connection `c` has still to be sent. -/
def State.accessRuns (s : State) (c i : Nat) : Bool := (s.conn c).resp.any fun f => f.wins.contains i
/-- R310: the `=` reply of a revoke, at once or when every admitted access has ended. -/
def State.revokeDone (s : State) (ln : Ln) (c i : Nat) (text : String) : VerbRes :=
  if s.accessRuns c i then
    ({ s with net.revoking := s.net.revoking ++ [{ conn := c, index := i, ln := ln, text := text }] }, none)
  else done s text
/-- R310: the revokes whose admitted accesses have ended are answered. -/
def State.revokesEnd (s : State) : State :=
  (s.net.revoking.filter fun r => !s.accessRuns r.conn r.index).foldl (fun s r =>
    ({ s with net.revoking := s.net.revoking.filter (· != r) } : State).replied r.ln (.ok r.text)) s
/-- WINDOW_REVOKE (R304, R310, R311). -/
def windowRevoke (ln : Ln) (c i : Nat) (s : State) : State :=
  s.verb ln .engineer fun s =>
    if s.net.userWins.any fun w => w.index = i && w.conn = c then
      let s := s.updConn c fun x => { x with revoked := i :: x.revoked.filter (· != i) }
      State.revokeDone { s with net.userWins := s.net.userWins.filter fun w => !(w.index = i && w.conn = c) } ln c i
        ("index 0x" ++ hexText 2 i)
    else refuse s 401
def execWindowRevoke (ln : Ln) (conn index : Nat) (s : State) : Res := go (windowRevoke ln conn index s)
/-- WINDOW_REVOKE_FULL (R310, R313). The full key of PEER follows its connection (R491). -/
def windowRevokeFull (ln : Ln) (c : Nat) (s : State) : State :=
  s.verb ln .engineer fun s =>
    if c < 64 && (s.conn c).fullOn && (s.conn c).port != 7 then
      (s.updConn c fun x => { x with fullOn := false }).revokeDone ln c 0xFFFF "index 0xFFFF"
    else refuse s 401
def execWindowRevokeFull (ln : Ln) (conn : Nat) (s : State) : Res := go (windowRevokeFull ln conn s)

end Sys2Proof.Machine
end

