-- ==== Sys2Proof/Machine/Ramalink.lean ====
section
/-! DEFINITION. Frames received on the 10 Gb/s ports (chapter 8): opening connections, the order of frames, accesses,
responses, acknowledgements, NAKs, rekeying and closing. The frames of these commands have passed authentication; a frame
that fails it is RL_AUTH_FAIL. -/
namespace Sys2Proof.Machine

/-! ### Dropped frames -/

/-- A frame is dropped and counted (R273, R300, R333). -/
def State.dropFrame (s : State) (p : Nat) : State := s.updPort p fun x => { x with drops := x.drops + 1 }
/-- R295: a frame fails authentication or the replay check; above 64 in a second ALARM 0x4201 is recorded. -/
def State.authFail (s : State) (p : Nat) : State :=
  let recent := s.now :: (s.port p).authTicks.filter fun t => ticksFrom t s.now < secT 1
  let s := s.updPort p fun x => { x with authfail := x.authfail + 1, authTicks := recent.take 65 }
  let quiet := (s.port p).authAlarm.elim true fun t => secT 1 ≤ ticksFrom t s.now
  if 64 < recent.length && quiet then
    (s.event 0x4201 2 p).updPort p fun x => { x with authAlarm := some s.now }
  else s
/-- The port is one of the seven and serves (R17, R331). -/
def State.hears (s : State) (p : Nat) : Bool := s.awake && 1 ≤ p && p ≤ 7 && s.portServes p
/-- R270, R271: the port accepts a frame by its EtherType and its 802.1Q tag: while port.N.vlan is ON one tagged with the port's VID or
priority-tagged, while it is OFF one untagged or priority-tagged. -/
def State.takesTag (s : State) (p : Nat) (e : Eth) : Bool :=
  e.type = s.num (portP 1 p) &&
    match e.vid with
    | none => !s.on (portP 2 p)
    | some v => v = 0 || (s.on (portP 2 p) && v = s.num (portP 3 p))
/-- R270, R271: the port takes a frame, which is addressed to it; any other is ignored. -/
def State.hearsFrame (s : State) (p : Nat) (e : Eth) : Bool := s.hears p && e.dest == .port && s.takesTag p e
/-- RL_AUTH_FAIL (R271, R295): the MAC drops a frame whose FCS fails; the receiver one that fails authentication. -/
def rlAuthFail (p : Nat) (fcs : Bool) (s : State) : State :=
  if !s.hears p then s
  else if fcs then (s.dropFrame p).updPort p fun x => { x with fcs := x.fcs + 1 }
  else s.authFail p
def execRlAuthFail (port : Nat) (fcs : Bool) (s : State) : Res := go (rlAuthFail port fcs s)
/-- R300: the destination names no connection of the port that is OPENING or READY, and no group in use. -/
def State.stale (s : State) (p dconn : Nat) : Bool :=
  if 0xFF00 ≤ dconn && dconn ≤ 0xFF0F then !s.on 0x1A0 (dconn - 0xFF00)
  else 64 ≤ dconn || (s.conn dconn).port != p || !((s.conn dconn).state == .opening || s.isReady dconn)
/-- RL_STALE_FRAME (R300). -/
def rlStaleFrame (p dconn : Nat) (s : State) : State := if s.hears p && s.stale p dconn then s.dropFrame p else s
def execRlStaleFrame (port dconn : Nat) (s : State) : Res := go (rlStaleFrame port dconn s)

/-! ### A frame of a connection -/

/-- R295: the fseq is new within its epoch. -/
def freshSeq (seen : List Nat) (f : Nat) : Bool := !seen.contains f && seen.foldl max 0 < f + 64
/-- The fseqs kept once `f` is accepted. -/
def keepSeq (seen : List Nat) (f : Nat) : List Nat :=
  let top := max f (seen.foldl max 0)
  f :: seen.filter fun q => top < q + 64
/-- R297: the connection that an accepted frame leaves, for a frame of the present epoch, of the old one within its
millisecond, or of the next one while a rekey runs; none when the frame is dropped (R295). -/
def Conn.takeFrame (x : Conn) (now : Tick) (epoch : U32) (f : Nat) : Option Conn :=
  let old := epoch + 1 == x.rxEpoch && x.oldUntil.elim false fun t => tickLe now t
  if epoch == x.rxEpoch then
    if freshSeq x.rxSeen f then some { x with rxSeen := keepSeq x.rxSeen f, lastRx := now } else none
  else if old then
    if freshSeq x.oldSeen f then some { x with oldSeen := keepSeq x.oldSeen f, lastRx := now } else none
  else if epoch == x.rxEpoch + 1 && (x.rekeying || x.epoch == epoch) then
    some { x with
      rxEpoch := epoch
      oldSeen := x.rxSeen
      rxSeen := [f]
      oldUntil := some (tickPlus now (msT 1 : Nat))
      lastRx := now }
  else none
/-- A frame arrives on a connection of a port that takes it (R270, R271): it is dropped (R273, R295, R300), or it is accepted, opens an
OPENING connection (R276), does `first`, takes its acknowledgement (R289) and goes on to `body`. -/
def State.arriveWith (s : State) (h : RlHdr) (first body : State → State) : State :=
  let c := h.conn
  if !s.hears h.port then s
  else if h.version != 1 || s.stale h.port c then s.dropFrame h.port
  else
    let x := s.conn c
    let opening := x.state == .opening
    if opening && (x.opening || h.epoch != 1) then s.authFail h.port
    else
      let s := if opening then s.connReady c else s
      match (s.conn c).takeFrame s.now h.epoch h.fseq with
      | none => s.authFail h.port
      | some y => body ((first (s.updConn c fun _ => y)).takeAck c h.ack)
/-- The same of a frame addressed to the port, of which nothing comes before its acknowledgement. -/
def State.arrive (s : State) (h : RlHdr) (body : State → State) : State :=
  if !s.hearsFrame h.port h.eth then s else s.arriveWith h id body
/-- R289: a psn-consuming frame runs when its psn is the expected one; a later one is answered PSN-SEQ once per gap, an
earlier one with an ACK. -/
def State.inOrder (s : State) (h : RlHdr) (body : State → State) : State :=
  let c := h.conn
  let x := s.conn c
  if x.state != .ready then s
  else if h.psn == x.rxPsn then body s
  else if u32Before x.rxPsn h.psn then
    let s := if x.gapNaked then s else (s.queueNak c 1 h.psn x.rxPsn).updConn c fun y => { y with gapNaked := true }
    if h.ackreq then s.queueAck c else s
  else s.queueAck c
/-- A psn-consuming frame addressed to the port. -/
def State.sequenced (s : State) (h : RlHdr) (body : State → State) : State := s.arrive h fun s => s.inOrder h body
/-- R289: the psn is consumed; an ACK follows ACKREQ and 16 frames. -/
def State.consume (s : State) (h : RlHdr) : State :=
  let s := s.updConn h.conn fun x => { x with rxPsn := x.rxPsn + 1, gapNaked := false, rxUnacked := x.rxUnacked + 1 }
  if h.ackreq || 16 ≤ (s.conn h.conn).rxUnacked then s.queueAck h.conn else s
/-- R292: the Keystone refuses a frame: NAK, FAULT 0x4101, and the connection ends. -/
def State.violate (s : State) (h : RlHdr) (code : Nat) : State :=
  let s := (s.queueNak h.conn code h.psn).event 0x4101 3 h.conn h.port code h.psn.toNat h.offset.toNat
  s.leave h.conn .error .violationSent
/-- Table 8.11, INTEGRITY: the psn is consumed, the rest of the entry discarded. -/
def State.integrity (s : State) (h : RlHdr) : State :=
  ((s.consume h).queueNak h.conn 0x30 h.psn).updConn h.conn fun x => { x with skipEntry := !h.last }
/-- The reserved byte of rkey is set (Table 8.2). -/
def rkeyBad (h : RlHdr) : Bool := h.rkey.toNat ≥ 2 ^ 24

/-! ### Accesses (R285–R288, R308) -/

/-- A frame's bytes are taken: its entry is not skipped, and a FIRST frame's offset is the entry's. -/
def State.beginEntry (s : State) (c : Nat) (first : Bool) (off : Nat) : State :=
  s.updConn c fun x => { x with skipEntry := false, entryStart := if first then off else x.entryStart }
/-- A WRITE frame, or one of WRITE-WITH-NOTICE. -/
def State.writeFrame (s : State) (h : RlHdr) (data : List Byte) (notice : Bool) : State :=
  s.sequenced h fun s =>
    let c := h.conn
    if h.bad || rkeyBad h || data.isEmpty || 1440 < data.length then s.violate h 0x10
    else if (s.conn c).skipEntry && !h.first then
      (s.consume h).updConn c fun x => { x with skipEntry := !h.last }
    else match s.grantAccess c h.rkey h.offset data.length .write with
      | .error code => s.violate h code
      | .ok t =>
        match (s.beginEntry c h.first t.off).writeWindow c t data with
        | (s, false) => s.integrity h
        | (s, true) =>
          let s := if notice && h.last then s.notice c t.index (s.conn c).entryStart (t.off + data.length) else s
          s.consume h
/-- RL_WRITE (R285). -/
def rlWrite (h : RlHdr) (data : List Byte) (s : State) : State := s.writeFrame h data false
def execRlWrite (h : RlHdr) (data : List Byte) (s : State) : Res := go (rlWrite h data s)
/-- RL_WRITE_WITH_NOTICE (R287). -/
def rlWriteWithNotice (h : RlHdr) (data : List Byte) (s : State) : State := s.writeFrame h data true
def execRlWriteWithNotice (h : RlHdr) (data : List Byte) (s : State) : Res := go (rlWriteWithNotice h data s)

/-- R281, R286: the READ-RESP frames of a request. -/
def respFrames (now : Tick) (psn : U32) (t : Admitted) (l : List Byte) : List TxFrame :=
  let n := (l.length + 1439) / 1440
  (List.range n).map fun k =>
    { op := .readResp, rkey := psn, offset := BitVec.ofNat 32 (1440 * k), first := k = 0, last := k + 1 = n
      cls := if t.ticket then .ticket else .bulk, payload := (l.drop (1440 * k)).take 1440, queuedAt := now, wins := t.wins }
/-- Responses wait on a connection. -/
def State.respond (s : State) (c : Nat) (fs : List TxFrame) : State := s.updConn c fun x => { x with resp := x.resp ++ fs }
/-- RL_READ_REQ (R286). -/
def rlReadReq (h : RlHdr) (data : List Byte) (s : State) : State :=
  s.sequenced h fun s =>
    let n := leNat data
    if h.bad || rkeyBad h || data.length != 4 || n = 0 || 1048576 < n then s.violate h 0x10
    else match s.grantAccess h.conn h.rkey h.offset n .read with
      | .error code => s.violate h code
      | .ok t =>
        match s.readWindow h.conn t n with
        | (s, none) => s.integrity { h with last := true }
        | (s, some l) => (s.consume h).respond h.conn (respFrames s.now h.psn t l)
def execRlReadReq (h : RlHdr) (data : List Byte) (s : State) : Res := go (rlReadReq h data s)

/-- RL_ATOMIC_ADD (R288). -/
def rlAtomicAdd (h : RlHdr) (data : List Byte) (s : State) : State :=
  s.sequenced h fun s =>
    if h.bad || rkeyBad h || data.length != 8 then s.violate h 0x10
    else match s.grantAccess h.conn h.rkey h.offset 8 .atomic with
      | .error code => s.violate h code
      | .ok t =>
        match s.readWindow h.conn t 8 with
        | (s, none) => s.integrity { h with last := true }
        | (s, some old) =>
          match s.writeWindow h.conn t (leBytes 8 (leNat old + leNat data)) with
          | (s, false) => s.integrity { h with last := true }
          | (s, true) =>
            (s.consume h).respond h.conn
              [{ op := .atomicResp, rkey := h.psn, first := true, last := true, cls := if t.ticket then .ticket else .bulk
                 payload := old, queuedAt := s.now, wins := t.wins }]
def execRlAtomicAdd (h : RlHdr) (data : List Byte) (s : State) : Res := go (rlAtomicAdd h data s)

/-! ### Text (R38–R40) -/

/-- R40: the answer to a ninth text session. -/
def State.noSession (s : State) (c : Nat) : State :=
  let text := bytesOf "?501 no resource\n"
  s.postEntry c { op := .send, length := text.length, data := text }
/-- R38–R40: a SEND's text enters the connection's session, which the first one opens. -/
def State.sendText (s : State) (c : Nat) (data : List Byte) : State :=
  match s.textSession? c with
  | some x => s.receiveText x.idx data
  | none =>
    match s.freeIndex with
    | none => s.noSession c
    | some i => (s.openSession i (some c)).receiveText i data
/-- R91: the connection's session has a full reply buffer and takes no line. -/
def State.textStuck (s : State) (c : Nat) : Bool := (s.textSession? c).elim false s.bufferFull
/-- RL_SEND (R39, R289, Table 8.11): it takes a receive entry, or is answered RNR. The entry is free again once the session
can take lines. -/
def rlSend (h : RlHdr) (data : List Byte) (s : State) : State :=
  s.sequenced h fun s =>
    let c := h.conn
    if h.bad || !h.first || !h.last || data.isEmpty || 1440 < data.length then s.violate h 0x10
    else
      let s := if s.textStuck c then s else s.updConn c fun x => { x with recvFree := s.num (0x190 + (x.port - 1)) }
      if (s.conn c).recvFree = 0 then (s.drew).queueNak c 2 h.psn 0 (s.freeWord.toNat % 65536)
      else
        let s := s.updConn c fun x => { x with recvFree := x.recvFree - 1 }
        (s.sendText c data).consume h
def execRlSend (h : RlHdr) (data : List Byte) (s : State) : Res := go (rlSend h data s)

/-! ### Responses, ACK and NAK -/

/-- R282: the Keystone's entry that a response answers, by the psn of its request. -/
def Conn.requestOf (x : Conn) (op : WorkOp) (psn : U32) : Option Nat :=
  x.sq.findIdx? fun w => w.op == op && w.framed && w.lastPsn == psn
/-- Table 8.8, R285: bytes that come back for a work entry are stored at its Keystone address, where every later access sees them; SEAL
and GROUT regions are reached as their key IDs ask. Bytes that would run past the end of a region are not stored. -/
def State.storeLocal (s : State) (a : Nat) (data : List Byte) : State :=
  if pastEnd a data.length then s
  else match Sys2Proof.Machine.slotAt a with
    | some slot => if isSeal slot then (s.sealWrite slot (a - lineAddr slot 0) data none false false).1 else s.writeDram a data
    | none => s.writeDram a data
/-- A response's bytes go to the address that its work entry gives, `off` bytes on. -/
def State.storeAt (s : State) (w : WorkEntry) (off : Nat) (data : List Byte) : State :=
  match w.local_ with
  | some a => s.storeLocal (a + off) (data.take (w.length - off))
  | none => s
/-- RL_READ_RESP (R282, R285). -/
def rlReadResp (h : RlHdr) (data : List Byte) (s : State) : State :=
  s.sequenced h fun s =>
    if h.bad || data.isEmpty || 1440 < data.length then s.violate h 0x10
    else
      let s := s.consume h
      match (s.conn h.conn).requestOf .read h.rkey with
      | none => s
      | some i =>
        let s := s.storeAt ((s.conn h.conn).sq.getD i {}) h.offset.toNat data
        (s.updConn h.conn fun x => { x with sq := updAt i (fun w =>
          { w with got := w.got + data.length, answered := w.length ≤ w.got + data.length }) x.sq }).settle
def execRlReadResp (h : RlHdr) (data : List Byte) (s : State) : Res := go (rlReadResp h data s)
/-- RL_ATOMIC_RESP (R282, Table 8.8: the addend is overwritten with the returned value). -/
def rlAtomicResp (h : RlHdr) (data : List Byte) (s : State) : State :=
  s.sequenced h fun s =>
    if h.bad || data.length != 8 then s.violate h 0x10
    else
      let s := s.consume h
      match (s.conn h.conn).requestOf .atomicAdd h.rkey with
      | none => s
      | some i =>
        let s := s.storeAt ((s.conn h.conn).sq.getD i {}) 0 data
        (s.updConn h.conn fun x => { x with sq := updAt i (fun w => { w with got := 8, data := data, answered := true }) x.sq }).settle
def execRlAtomicResp (h : RlHdr) (data : List Byte) (s : State) : Res := go (rlAtomicResp h data s)
/-- RL_ACK (R289): its acknowledgement is all it carries; with ACKREQ it is answered by an ACK. -/
def rlAck (h : RlHdr) (s : State) : State :=
  s.arrive h fun s =>
    if h.bad then s.violate h 0x10 else if h.ackreq && s.isReady h.conn then s.queueAck h.conn else s
def execRlAck (h : RlHdr) (s : State) : Res := go (rlAck h s)

/-- The entry whose frame a NAK names is marked with the code. -/
def State.nakEntry (s : State) (c : Nat) (psn : U32) (code : Nat) : State :=
  let x := s.conn c
  match (x.unacked.find? fun f => f.psn == psn && ofEntry f.op), x.entryOf psn with
  | some _, some i => s.updConn c fun x => { x with sq := updAt i (fun w => { w with nak := code }) x.sq }
  | _, _ => s
/-- Sending goes back to the oldest frame that is not acknowledged (R289). -/
def State.goBack (s : State) (c : Nat) : State := s.updConn c fun x => { x with resend := x.unacked }
/-- The frame that a NAK names is a group delivery. -/
def Conn.namesDelivery (x : Conn) (psn : U32) : Bool := x.unacked.any fun f => f.psn == psn && f.op == .groupDeliver
/-- RNR: the SEND waits its delay, or its attempts are exhausted (Table 8.11); for a group delivery no attempt is counted (R327). -/
def State.nakRnr (s : State) (c : Nat) (psn : U32) (delay : Nat) : State :=
  let most := s.num (portP 9 (s.conn c).port)
  let counts := !(s.conn c).namesDelivery psn
  let s := s.updConn c fun x => { x with rnrTries := if counts then x.rnrTries + 1 else x.rnrTries }
  if counts && most != 15 && most < (s.conn c).rnrTries then
    (s.nakEntry c psn 2).leave c .error .rnr
  else s.updConn c fun x => { x with rnrUntil := some (tickPlus s.now (usT delay : Nat)) }
/-- What a NAK asks for once its acknowledgement is taken. -/
def State.nakked (s : State) (h : RlHdr) (data : List Byte) : State :=
    let c := h.conn
    let code := (data.getD 0 0).toNat
    let psn : U32 := BitVec.ofNat 32 (leNat (sliceB data 4 4))
    if (s.conn c).state != .ready then s
    else if h.bad || data.length != 16 then s.violate h 0x10
    else
    let s := if h.ackreq then s.queueAck c else s
    if code = 1 then s.goBack c
    else if code = 2 then s.nakRnr c psn (leNat (sliceB data 12 2))
    else if code = 0x30 then s.settle
    else if 0x10 ≤ code && code ≤ 0x25 then
      let s := (s.nakEntry c psn code).event 0x4101 3 c h.port code psn.toNat
        (((s.conn c).unacked.find? fun (f : TxFrame) => f.psn == psn).elim 0 fun f => f.offset.toNat)
      s.leave c .error .violationReceived
    else s.violate h 0x10
/-- Table 8.11: a NAK INTEGRITY marks its entry before the acknowledgement that covers the consumed psn is taken. -/
def State.nakMarks (s : State) (h : RlHdr) (data : List Byte) : State :=
  if !h.bad && data.length = 16 && data.getD 0 0 == 0x30 then
    s.nakEntry h.conn (BitVec.ofNat 32 (leNat (sliceB data 4 4))) 0x30
  else s
/-- RL_NAK (R289, R291, R292). -/
def rlNak (h : RlHdr) (data : List Byte) (s : State) : State :=
  if !s.hearsFrame h.port h.eth then s else s.arriveWith h (fun s => s.nakMarks h data) fun s => s.nakked h data
def execRlNak (h : RlHdr) (data : List Byte) (s : State) : Res := go (rlNak h data s)

/-! ### Rekeying and closing (R277, R296–R298) -/

/-- R296, R298: a rekey of both directions starts; on a connection that the Keystone opened that is the peer's (R491). -/
def State.startRekey (s : State) (c : Nat) : State :=
  let x := s.conn c
  if x.state != .ready || x.rekeying || x.opening then s
  else if x.epoch = 0xFFFFFFFF then s.leave c .error .epochLimit
  else
    (s.updConn c fun x => { x with rekeying := true }).control c
      { op := .rekey, first := true, last := true, payload := leBytes 16 (x.epoch + 1).toNat }
/-- R296, R491: in the partner's role the Keystone asks for a rekey, once in an epoch. -/
def State.askRekey (s : State) (c : Nat) : State :=
  let x := s.conn c
  if x.state != .ready || x.rekeyAsked || !x.opening then s
  else
    (s.updConn c fun x => { x with rekeyAsked := true }).control c
      { op := .rekeyReq, first := true, last := true, payload := List.replicate 16 0 }
/-- The epoch a REKEY or REKEY-ACK carries. -/
def epochIn (data : List Byte) : U32 := BitVec.ofNat 32 (leNat (sliceB data 0 4))
/-- The 16 bytes of a control payload are malformed: their number, or the reserved ones from `i` on (R10). -/
def controlBad (h : RlHdr) (data : List Byte) (i : Nat) : Bool := h.bad || data.length != 16 || (data.drop i).any (· != 0)
/-- Sending moves to the next epoch, from fseq 0. -/
def Conn.nextEpoch (x : Conn) (now : Tick) : Conn := { x with epoch := x.epoch + 1, fseq := 0, epochSince := now, rekeying := false, rekeyAsked := false }
/-- RL_REKEY (R297 step 2): the answer goes first under the new epoch. The last epoch cannot advance (R298). -/
def rlRekey (h : RlHdr) (data : List Byte) (s : State) : State :=
  s.sequenced h fun s =>
    let c := h.conn
    if controlBad h data 4 then s.violate h 0x10
    else if (s.conn c).epoch = 0xFFFFFFFF then (s.consume h).leave c .error .epochLimit
    else if epochIn data == (s.conn c).epoch + 1 then
      ((s.consume h).updConn c fun x => x.nextEpoch s.now).controlFirst c
        { op := .rekeyAck, first := true, last := true, payload := leBytes 16 (epochIn data).toNat }
    else s.consume h
def execRlRekey (h : RlHdr) (data : List Byte) (s : State) : Res := go (rlRekey h data s)
/-- RL_REKEY_ACK (R297 step 3). -/
def rlRekeyAck (h : RlHdr) (data : List Byte) (s : State) : State :=
  s.sequenced h fun s =>
    let c := h.conn
    let x := s.conn c
    if controlBad h data 4 then s.violate h 0x10
    else if x.rekeying && epochIn data == x.epoch + 1 then
      ((s.consume h).updConn c fun x => x.nextEpoch s.now).event 0x4301 3 c (epochIn data).toNat
    else s.consume h
def execRlRekeyAck (h : RlHdr) (data : List Byte) (s : State) : Res := go (rlRekeyAck h data s)
/-- RL_REKEY_REQ (R296). -/
def rlRekeyReq (h : RlHdr) (data : List Byte) (s : State) : State :=
  s.sequenced h fun s => if controlBad h data 0 then s.violate h 0x10 else (s.consume h).startRekey h.conn
def execRlRekeyReq (h : RlHdr) (data : List Byte) (s : State) : Res := go (rlRekeyReq h data s)
/-- RL_DISCONNECT (R277): the ACK still goes out. -/
def rlDisconnect (h : RlHdr) (data : List Byte) (s : State) : State :=
  s.sequenced h fun s =>
    if controlBad h data 1 then s.violate h 0x10
    else ((s.consume h).queueAck h.conn).leave h.conn .closing .peerClose
def execRlDisconnect (h : RlHdr) (data : List Byte) (s : State) : Res := go (rlDisconnect h data s)

/-! ### Opening (R274–R276, R491) -/

/-- Table 8.2: the header of a frame that is not encrypted. -/
def plainHeader (op dconn : Nat) (ack : U32) (n : Nat) : List Byte :=
  [1, BitVec.ofNat 8 op] ++ leBytes 2 dconn ++ leBytes 4 0 ++ leBytes 4 ack.toNat ++ List.replicate 10 0#8 ++ leBytes 2 n ++
    List.replicate 8 0#8
/-- A control frame of no open connection waits on a port, for the partner at address `dest` (R270). -/
def State.portFrame (s : State) (p : Nat) (dest : List Byte) (op : RlOp) (dconn : Nat) (ack : U32) (payload : List Byte) : State :=
  s.updPort p fun x =>
    { x with ctlPort := x.ctlPort ++ [{ op := op, dest := dest, dconn := dconn, ack := ack, payload := payload, queuedAt := s.now }] }
/-- The 32 bytes of a port's pairing secret. -/
def State.secret (s : State) (p : Nat) : List Byte := s.key (secretId p)
/-- Table 8.6: a REFUSE goes out to the sender of a CONNECT. -/
def State.sendRefuse (s : State) (p : Nat) (dest : List Byte) (pconn : Nat) (r : RefuseReason) : State :=
  let code : Nat := match r with
    | .noResource => 1 | .version => 2 | .state => 3 | .replay => 4
  let b := leBytes 16 code
  let b := b ++ frameMac (s.secret p) (plainHeader 0x32 pconn 0 32) b 16
  (s.portFrame p dest .refuse pconn 0 b).updPort p fun x => { x with refused := some r }
/-- Table 8.5: the payload of the ACCEPT of connection `c`, as it stands when the connection enters OPENING. -/
def State.acceptBytes (s : State) (c : Nat) : List Byte :=
  let x := s.conn c
  let b := leBytes 2 c ++ leBytes 2 (s.num (0x190 + (x.port - 1))) ++ leBytes 4 x.txPsn.toNat ++ x.nk ++
    (x.connect.drop 40).take 16 ++ List.replicate 8 0#8
  b ++ frameMac (s.secret x.port) (plainHeader 0x31 x.pconn.toNat x.rxPsn 64) b 48
/-- R275: the ACCEPT of connection `c` goes out; sent again it is the same. -/
def State.sendAccept (s : State) (c : Nat) : State :=
  let x := s.conn c
  s.portFrame x.port x.partner .accept x.pconn.toNat x.rxPsn x.accept
/-- A connection that is CLOSED, with what outlives it. -/
def Conn.closed (x : Conn) : Conn := { reason := x.reason, fullGen := x.fullGen }
/-- The lowest connection number that is CLOSED (R275). -/
def State.freeConn (s : State) : Option Nat := (List.range 64).find? fun c => (s.conn c).state == .closed
/-- R275 step 5: a connection is OPENING. -/
def State.beginOpening (s : State) (p c : Nat) (f : ConnectFrame) : State :=
  let np := sliceB f.payload 8 16
  let nk := s.randomBytes 16
  let ipsn : U32 := BitVec.ofNat 32 s.drew.freeWord.toNat
  let s := s.drew.drew
  let s := s.updConn c fun x =>
    { x.closed with
      state := .opening
      reason := .none
      port := p
      pconn := BitVec.ofNat 16 (leNat (sliceB f.payload 0 2))
      prq := leNat (sliceB f.payload 2 2)
      rxPsn := BitVec.ofNat 32 (leNat (sliceB f.payload 4 4))
      txPsn := ipsn
      connect := f.header ++ f.payload
      nk := nk
      prk := prkOf (s.secret p) np nk
      partner := f.source
      acceptAt := s.now }
  let s := s.updPort p fun x => { x with nps := (np :: x.nps).take 256 }
  (s.updConn c fun x => { x with accept := s.acceptBytes c }).sendAccept c
/-- Table 8.2: the version in a header. -/
def headerVersion (header : List Byte) : Nat := (header.getD 0 0).toNat % 16
/-- RL_CONNECT (R270–R273, R275, R302): a frame of another version is dropped (R273); else the first step of R275 that applies. -/
def rlConnect (p : Nat) (f : ConnectFrame) (s : State) : State :=
  if !s.hearsFrame p f.eth then s
  else if headerVersion f.header != 1 then s.dropFrame p
  else if s.ctl.state == .waking || !s.net.rngOk then s
  else if !s.isSet (secretId p) || frameMac (s.secret p) f.header f.payload 48 != sliceB f.payload 48 16 then
    (s.updPort p fun x => { x with authfail := x.authfail + 1 }).event 0x4202 2 p
  else
    let pconn := leNat (sliceB f.payload 0 2)
    if s.ctl.state == .collapse then s.sendRefuse p f.source pconn .state
    else match (s.connsOn p).find? fun c => (s.conn c).state == .opening && (s.conn c).connect == f.header ++ f.payload with
      | some c => s.sendAccept c
      | none =>
        if (s.port p).nps.contains (sliceB f.payload 8 16) then s.sendRefuse p f.source pconn .replay
        else match s.freeConn with
          | some c => if s.num (portP 6 p) ≤ (s.connsOn p).length then s.sendRefuse p f.source pconn .noResource
            else s.beginOpening p c f
          | none => s.sendRefuse p f.source pconn .noResource
def execRlConnect (port : Nat) (f : ConnectFrame) (s : State) : Res := go (rlConnect port f s)
/-- CONNECT_TIMEOUT (R276): 10 ms after the ACCEPT, or after an own CONNECT that nothing answered. -/
def connectTimeout (c : Nat) (s : State) : State :=
  let x := s.conn c
  if x.state == .opening && msT 10 ≤ ticksFrom x.acceptAt s.now then s.updConn c Conn.closed else s
def execConnectTimeout (conn : Nat) (s : State) : Res := go (connectTimeout conn s)

/-- R491: this Keystone opens the connections on PEER: its MAC address is the lower one. -/
def opensPeer : Bool := beNat (Config.portMac 7) < beNat Config.peerMac
/-- PEER_CONNECT_RETRY (R276, R491): a fresh CONNECT for the crown connection (0) or the mirror connection (1) that is not
open. -/
def peerConnectRetry (i : Nat) (s : State) : State :=
  let pconn := 0x0C00 + i
  let stands := (s.connsOn 7).any fun c => (s.conn c).pconn.toNat = pconn
  let waits := ((s.crown.peerRetry.getD i none).elim false fun t => tickBefore s.now t)
  if 1 < i || !s.hears 7 || s.ctl.state == .collapse || !s.paired || !opensPeer || !s.net.rngOk || !s.isSet (secretId 7) ||
      stands || waits then s
  else match s.freeConn with
    | none => s
    | some c =>
      let np := s.randomBytes 16
      let ipsn : U32 := BitVec.ofNat 32 s.drew.freeWord.toNat
      let b := leBytes 2 pconn ++ leBytes 2 (s.num 0x196) ++ leBytes 4 ipsn.toNat ++ np ++ List.replicate 24 0#8
      let hd := plainHeader 0x30 0xFFFF 0 64
      let b := b ++ frameMac (s.secret 7) hd b 48
      let s := s.drew.drew.updConn c fun x =>
        { x.closed with
          state := .opening
          reason := .none
          opening := true
          port := 7
          partner := Config.peerMac
          pconn := BitVec.ofNat 16 pconn
          txPsn := ipsn
          connect := hd ++ b
          acceptAt := s.now }
      let s : State := { s with
        crown.peerRetry := updAt i (fun _ => some (tickPlus s.now (msT 100 : Nat))) s.crown.peerRetry }
      s.portFrame 7 Config.peerMac .connect 0xFFFF 0 b
def execPeerConnectRetry (conn : Nat) (s : State) : Res := go (peerConnectRetry conn s)
/-- RL_ACCEPT (R270–R273, R276): an ACCEPT whose mac holds and whose np is that of the Keystone's own CONNECT makes that connection
READY. -/
def rlAccept (p : Nat) (f : AcceptFrame) (s : State) : State :=
  let np := sliceB f.payload 24 16
  let nk := sliceB f.payload 8 16
  if !s.hearsFrame p f.eth then s
  else if headerVersion f.header != 1 then s.dropFrame p
  else if frameMac (s.secret p) f.header f.payload 48 != sliceB f.payload 48 16 then s
  else match (s.connsOn p).find? fun c =>
      (s.conn c).opening && (s.conn c).state == .opening && ((s.conn c).connect.drop 40).take 16 == np with
    | none => s
    | some c =>
      s.connReady c |>.updConn c fun x =>
        { x with
          kconn := BitVec.ofNat 16 (leNat (sliceB f.payload 0 2))
          prq := leNat (sliceB f.payload 2 2)
          rxPsn := BitVec.ofNat 32 (leNat (sliceB f.payload 4 4))
          nk := nk
          prk := prkOf (s.secret p) np nk }
def execRlAccept (port : Nat) (f : AcceptFrame) (s : State) : Res := go (rlAccept port f s)
/-- RL_REFUSE (R276): the attempt ends, and the next CONNECT on the port, for either connection, waits 100 ms. -/
def rlRefuse (p dconn : Nat) (_ : RefuseReason) (macOk : Bool) (s : State) : State :=
  if !s.hears p || !macOk then s
  else match (s.connsOn p).find? fun c =>
      (s.conn c).opening && (s.conn c).state == .opening && (s.conn c).pconn.toNat = dconn with
    | none => s
    | some c =>
      let s := s.updConn c Conn.closed
      { s with crown.peerRetry := s.crown.peerRetry.map fun _ => some (tickPlus s.now (msT 100 : Nat)) }
def execRlRefuse (port dconn : Nat) (reason : RefuseReason) (macOk : Bool) (s : State) : Res :=
  go (rlRefuse port dconn reason macOk s)

/-! ### Timers of a connection -/

/-- RETRANSMIT_TIMEOUT (R289). -/
def retransmitTimeout (c : Nat) (s : State) : State :=
  let x := s.conn c
  match x.unacked with
  | [] => s
  | f :: _ =>
    if x.state != .ready || !x.resend.isEmpty || x.rnrUntil.isSome ||
        ticksFrom f.queuedAt s.now < usT (s.num (portP 7 x.port)) then s
    else if s.num (portP 8 x.port) ≤ x.retries + 1 then s.leave c .error .retry (some (.retry, 0))
    else (s.updConn c fun x => { x with retries := x.retries + 1 }).goBack c
def execRetransmitTimeout (conn : Nat) (s : State) : Res := go (retransmitTimeout conn s)
/-- RNR_RESEND (Table 8.11): the delay of an RNR is over. -/
def rnrResend (c : Nat) (s : State) : State :=
  match (s.conn c).rnrUntil with
  | some t => if s.isReady c && tickLe t s.now then (s.updConn c fun x => { x with rnrUntil := none }).goBack c else s
  | none => s
def execRnrResend (conn : Nat) (s : State) : Res := go (rnrResend conn s)
/-- KEEPALIVE (R279): 1 ms without a frame sent. -/
def keepalive (c : Nat) (s : State) : State :=
  if s.isReady c && msT 1 ≤ ticksFrom (s.conn c).lastTx s.now then s.queueAck c else s
def execKeepalive (conn : Nat) (s : State) : Res := go (keepalive conn s)
/-- CONN_SILENCE (R279). -/
def connSilence (c : Nat) (s : State) : State :=
  let x := s.conn c
  if s.isReady c && msT (s.num (portP 0xB x.port)) ≤ ticksFrom x.lastRx s.now then s.leave c .error .silence else s
def execConnSilence (conn : Nat) (s : State) : Res := go (connSilence conn s)
/-- CONN_FLUSH_DONE (R277, Table 8.7). -/
def connFlushDone (c : Nat) (s : State) : State :=
  let st := (s.conn c).state
  if st == .error || st == .closing then s.updConn c Conn.closed else s
def execConnFlushDone (conn : Nat) (s : State) : Res := go (connFlushDone conn s)
/-- REKEY_PERIOD (R296). -/
def rekeyPeriod (c : Nat) (s : State) : State :=
  let x := s.conn c
  if s.isReady c && secT (3600 * s.num (portP 0xC x.port)) ≤ ticksFrom x.epochSince s.now then s.startRekey c else s
def execRekeyPeriod (conn : Nat) (s : State) : Res := go (rekeyPeriod conn s)
/-- OLD_EPOCH_EXPIRE (R297 step 4). -/
def oldEpochExpire (c : Nat) (s : State) : State :=
  s.updConn c fun x =>
    if x.oldUntil.elim false fun t => tickBefore t s.now then { x with oldUntil := none, oldSeen := [] } else x
def execOldEpochExpire (conn : Nat) (s : State) : Res := go (oldEpochExpire conn s)

/-- RNG_HEALTH_FAIL (R302). -/
def rngHealthFail (s : State) : State :=
  if s.awake && s.net.rngOk then State.event { s with net.rngOk := false } 0x4203 0 0 else s
def execRngHealthFail (s : State) : Res := go (rngHealthFail s)
/-- RANDOM_SOURCE_RECOVERED (R302). -/
def randomSourceRecovered (s : State) : State := if s.awake then { s with net.rngOk := true } else s
def execRandomSourceRecovered (s : State) : Res := go (randomSourceRecovered s)

end Sys2Proof.Machine
end

