-- ==== Sys2Proof/Machine/Egress.lean ====
section
/-! DEFINITION. The link cycle and its arbiter (R314–R319), work entries posted, the ports' links and modules, and the LINK
verbs (R331). -/
namespace Sys2Proof.Machine

/-! ### Frames to send -/

/-- Table 8.3: the frame takes a psn. -/
def takesPsn : RlOp → Bool
  | .ack | .nak | .connect | .accept | .refuse => false
  | _ => true
/-- R281, R322: the next frame of a work entry. -/
def entryFrame (w : WorkEntry) : TxFrame :=
  let cls : FrameClass := if w.ticket then .ticket else .bulk
  match w.op with
  | .read => { op := .readReq, rkey := w.rkey, offset := w.offset, first := true, last := true, cls := cls, payload := leBytes 4 w.length }
  | .atomicAdd =>
    { op := .atomicAdd, rkey := w.rkey, offset := w.offset, first := true, last := true, cls := cls, payload := padTo 8 w.data }
  | _ =>
    let n := min 1440 (w.length - w.sentBytes)
    let f : TxFrame := { first := w.sentBytes = 0, last := w.sentBytes + n = w.length, cls := cls, payload := sliceB w.data w.sentBytes n }
    match w.group with
    | some (g, gsn) => { f with op := .groupDeliver, rkey := BitVec.ofNat 32 (0xFF00 + g), offset := gsn }
    | none =>
      { f with
        op := if w.op == .write then .write else if w.op == .writeNotice then .writeNotice else .send
        rkey := w.rkey
        offset := w.offset + BitVec.ofNat 32 w.sentBytes }
/-- Where a frame waits. -/
inductive Waits where
  | port | ctl | resend | resp | sq (i : Nat)
deriving DecidableEq, Repr

/-- Table 8.14: 16 READ and ATOMIC-ADD entries outstanding. -/
def Conn.readsFull (x : Conn) : Bool :=
  16 ≤ (x.sq.filter fun w => (w.op == .read || w.op == .atomicAdd) && w.framed && !w.answered).length
/-- R280, R283: the entry of the send queue whose frames go next: the first not framed, unless a WAIT, judged or not, stands before it. -/
def Conn.nextEntry (x : Conn) : Option (Nat × WorkEntry) :=
  (x.sq.zipIdx.find? fun q => q.1.op == .wait || (!q.1.framed && q.1.fate.isNone)).bind fun q =>
    if q.1.op == .wait || ((q.1.op == .read || q.1.op == .atomicAdd) && x.readsFull) then none else some (q.2, q.1)
/-- R289, R318: the head frame of a connection in READY: a retransmission, a response, then the send queue; none beyond
port.N.window frames or during an RNR delay. -/
def Conn.headFrame (x : Conn) (window : Nat) : Option (TxFrame × Waits) :=
  if x.state != .ready || x.rnrUntil.isSome then none
  else match x.resend with
    | f :: _ => some (f, .resend)
    | [] =>
      if window ≤ x.unacked.length then none
      else match x.resp with
        | f :: _ => some (f, .resp)
        | [] => x.nextEntry.map fun q => (entryFrame q.2, .sq q.1)
/-- A choice of the arbiter: the frame, its connection, and where it waits. -/
structure Offer where
  frame : TxFrame := {}
  conn  : Option Nat := none
  waits : Waits := .port
deriving DecidableEq, Repr

/-- The frame is encrypted (R276). -/
def encrypted : RlOp → Bool
  | .connect | .accept | .refuse => false
  | _ => true
/-- R316: the frame ends within the window that ends at `stop` of the cycle, when it starts now. -/
def State.fits (s : State) (p stop : Nat) (f : TxFrame) : Bool :=
  s.now.toNat % 200 + s.frameTicks p f.payload.length (encrypted f.op) ≤ stop
/-- R289: a control frame may go: one that takes a psn only while fewer than port.N.window frames are unacknowledged. -/
def Conn.mayControl (x : Conn) (window : Nat) (f : TxFrame) : Bool := !takesPsn f.op || x.unacked.length < window
/-- The control frames waiting on a port: its own, and the first of each connection. -/
def State.controls (s : State) (p : Nat) : List Offer :=
  ((s.port p).ctlPort.take 1).map (fun f => { frame := f }) ++ (s.connsOn p).flatMap fun c =>
    let x := s.conn c
    ((x.ctl.take 1).filter (x.mayControl (s.num (portP 0xA p)))).map (fun f => { frame := f, conn := some c, waits := .ctl }) ++
      (x.resend.take 1).filterMap fun f =>
        if f.cls == .control then some { frame := f, conn := some c, waits := .resend } else none
/-- R318: the connections of a port in rotation, after the one last granted. -/
def State.rotationOn (s : State) (p : Nat) : List Nat :=
  let l := s.connsOn p
  l.filter (fun c => (s.port p).rot < c) ++ l.filter fun c => c ≤ (s.port p).rot
/-- The oldest of the control frames. -/
def oldestOffer : List Offer → Option Offer
  | [] => none
  | o :: os => some (os.foldl (fun a b => if tickBefore b.frame.queuedAt a.frame.queuedAt then b else a) o)
/-- The head frames of the current window's class, in rotation. -/
def State.offers (s : State) (p : Nat) (cls : FrameClass) : List Offer :=
  (s.rotationOn p).filterMap fun c =>
    ((s.conn c).headFrame (s.num (portP 0xA p))).bind fun q =>
      if q.1.cls == cls then some { frame := q.1, conn := some c, waits := q.2 } else none
/-- R316: frames that do not fit are held until the next window: each hold of a frame counts once. -/
def State.countHeld (s : State) (p stop : Nat) (l : List Offer) : State :=
  let win := 2 * (s.now.toNat / 200) + (if stop = 192 then 1 else 0)
  let marks := (l.filter fun o => !s.fits p stop o.frame).map fun o => ({ conn := o.conn, frame := o.frame, window := win } : HeldMark)
  s.updPort p fun x =>
    let old := x.heldMarks.filter fun m => m.window = win
    let new := marks.filter fun m => !old.contains m
    { x with heldMarks := old ++ new, held := x.held + BitVec.ofNat 32 new.length }
/-- A frame leaves the place where it waits. -/
def Conn.takeOut (x : Conn) (w : Waits) (f : TxFrame) : Conn :=
  match w with
  | .port => x
  | .ctl => { x with ctl := x.ctl.drop 1 }
  | .resend => { x with resend := x.resend.drop 1, retx := x.retx + 1 }
  | .resp => { x with resp := x.resp.drop 1 }
  | .sq i =>
    { x with sq := updAt i (fun e => { e with sentBytes := e.sentBytes + f.payload.length, framed := f.last, lastPsn := f.psn }) x.sq }
/-- R290, R294, Table 8.2: a frame as connection `c` sends it: with its psn, under the send epoch's next fseq, and with the
next psn expected of the other direction. On a connection that the Keystone opened the receiver's number is that of the
ACCEPT (R491). -/
def Conn.frameOut (x : Conn) (c : Nat) (now : Tick) (w : Waits) (f : TxFrame) : TxFrame :=
  { f with
    psn := if takesPsn f.op && w != .resend then x.txPsn else f.psn
    epoch := x.epoch
    fseq := x.fseq
    queuedAt := now
    conn := some c
    dest := x.partner
    dconn := (if x.opening then x.kconn else x.pconn).toNat
    ack := x.rxPsn }
/-- R289, R290: a frame of a connection, `g` as it is sent, goes out. -/
def Conn.sent (x : Conn) (w : Waits) (g : TxFrame) : Conn :=
  let again := w == .resend
  let new := takesPsn g.op && !again
  let y := x.takeOut w g
  { y with
    txPsn := if new then x.txPsn + 1 else x.txPsn
    fseq := x.fseq + 1
    lastTx := g.queuedAt
    rxUnacked := 0
    unacked := if new then y.unacked ++ [g] else updFirst (fun q => again && q.psn == g.psn) (fun _ => g) y.unacked }
/-- The MAC is busy with a frame until the tick given. -/
def State.macTakes (s : State) (p : Nat) (f : TxFrame) : State :=
  s.updPort p fun x =>
    { x with mac := some (f, tickPlus s.now (s.frameTicks p f.payload.length (encrypted f.op) : Nat)) }
/-- R323: a group delivery is on its way. -/
def State.noteDelivery (s : State) (c : Nat) (f : TxFrame) (w : Waits) : State :=
  if f.op == .groupDeliver && w != .resend then
    s.updTarget (f.rkey.toNat - 0xFF00) f.offset c fun t => if t.over then t else { t with st := .sent, at_ := s.now }
  else s
/-- The granted frame is committed to the MAC (R319). Where the nonce limit stops it, the connection ends (R298), and one that is no longer
READY discards it; at fseq 2^40 a rekey starts, or is asked for (R296). -/
def State.transmit (s : State) (p : Nat) (o : Offer) : State :=
  match o.conn with
  | none => (s.updPort p fun x => { x with ctlPort := x.ctlPort.drop 1 }).macTakes p o.frame
  | some c =>
    let x := s.conn c
    if 2 ^ 47 ≤ x.fseq then
      if s.isReady c then (s.event 0x4302 3 c x.epoch.toNat).leave c .error .nonceLimit
      else s.updConn c fun x => x.takeOut o.waits o.frame
    else
      let g := x.frameOut c s.now o.waits o.frame
      let s := ((s.updConn c fun x => x.sent o.waits g).noteDelivery c g o.waits).macTakes p g
      let s := if o.frame.cls == .control then s else s.updPort p fun x => { x with rot := c }
      if 2 ^ 40 ≤ (s.conn c).fseq then (s.startRekey c).askRekey c else s
/-- R319: the MAC still sends a frame. -/
def State.macBusy (s : State) (p : Nat) : Bool := (s.port p).mac.elim false fun m => tickBefore s.now m.2
/-- EGRESS_GRANT (R314–R318): the oldest control frame that fits, else a head frame of the window's class that fits, by
rotation. Nothing starts in the guard. -/
def egressGrant (p : Nat) (s : State) : State :=
  let pos := s.now.toNat % 200
  if !s.hears p || s.macBusy p || 192 ≤ pos then s
  else
    let ticket := pos < s.ticketWindow p
    let stop := if ticket then s.ticketWindow p else 192
    let ctl := s.controls p
    let cls := s.offers p (if ticket then .ticket else .bulk)
    let s := s.countHeld p stop (ctl ++ cls)
    match oldestOffer (ctl.filter fun o => s.fits p stop o.frame) with
    | some o => s.transmit p o
    | none =>
      match cls.find? fun o => s.fits p stop o.frame with
      | some o => s.transmit p o
      | none => s
def execEgressGrant (port : Nat) (s : State) : Res := go (egressGrant port s)

/-- WORK_ENTRY_POST (R280, R317, Table 8.8): a Keystone function posts an entry; a malformed one, or one that no window can
hold, is refused LOCAL. -/
def workEntryPost (c : Nat) (w : WorkPost) (s : State) : State :=
  let e : WorkEntry := { op := w.op, ticket := w.ticket, length := w.length, rkey := w.rkey, offset := w.offset, local_ := some w.local_,
                         data := w.data, id := w.id }
  if !s.isReady c || s.sqFull c then s
  else if w.reserved || !lengthOk w.op w.length then
    (s.updConn c fun x => { x with sq := x.sq ++ [{ e with fate := some CqStatus.local_ }] }).settle
  else (s.postEntry c e).settle
def execWorkEntryPost (conn : Nat) (w : WorkPost) (s : State) : Res := go (workEntryPost conn w s)

/-! ### A port's link (R17, R36, R279, R301) -/

/-- R17: the supervisor port once port `p` has lost its link. -/
def State.reselect (s : State) (p : Nat) : State :=
  if s.net.supPort != some p then s
  else
    let other := 11 - p
    { s with net.supPort := if (s.port other).link && !(s.port other).off then some other else none }
/-- R279: an OPENING connection whose link is gone is in ERROR. -/
def Conn.lostOpening (x : Conn) : Conn := if x.state == .opening then { x with state := .error, reason := .linkDown } else x
/-- The link of a port is gone: nothing is in the MAC, and every connection of the port is in ERROR (R279). -/
def State.linkGone (s : State) (p : Nat) : State :=
  let s := s.updPort p fun x => { x with link := false, mac := none, ctlPort := [] }
  let s := (s.connsOn p).foldl (fun s c => (s.leave c .error .linkDown).updConn c Conn.lostOpening) s
  s.reselect p
/-- R36, Table 1.6: the event of a lost port. -/
def State.noteLoss (s : State) (p : Nat) : State :=
  if isCls p then s.event 0x4011 2 p 0 else if isSup p then s.event 0x4012 2 p else s.peerLost
/-- PORT_LINK_DOWN (R36, R279). -/
def portLinkDown (p : Nat) (s : State) : State :=
  if !s.awake || p < 1 || 7 < p || !(s.port p).link then s else (s.linkGone p).noteLoss p
def execPortLinkDown (port : Nat) (s : State) : Res := go (portLinkDown port s)
/-- PEER_LINK_LOSS (R517): the PEER link fails. -/
def peerLinkLoss (s : State) : State := portLinkDown 7 s
def execPeerLinkLoss (s : State) : Res := go (peerLinkLoss s)

/-- R542: the cage's module may run; SUP-T has none. -/
def State.moduleOk (s : State) (p : Nat) : Bool := p = 6 || (s.port p).module_ == .sr || (s.port p).module_ == .lr
/-- PORT_LINK_UP (R17, R301, R331): a port that is not OFF or shutting down and whose module is accepted comes up; of SUP and
SUP-T the first to do so is used. DESIGN CHOICE: a port that comes up during WAKING counts as the first (assumption 59). -/
def portLinkUp (p : Nat) (s : State) : State :=
  let x := s.port p
  if !s.awake || p < 1 || 7 < p || x.link || x.off || x.closingAt.isSome || !s.moduleOk p then s
  else
    let s := s.updPort p fun x => { x with link := true, resetAt := none }
    let s := if isSup p && s.net.supPort.isNone then { s with net.supPort := some p } else s
    if x.resetAt.isSome then s.finish (· == .linkReset p) (.ok "UP") else s
def execPortLinkUp (port : Nat) (s : State) : Res := go (portLinkUp port s)

/-- SFP_MODULE_CHANGE (R301, R542): an accepted module may train; one removed, at fault or of another kind takes the link
down and is recorded. -/
def sfpModuleChange (p : Nat) (m : ModuleKind) (power : Int) (s : State) : State :=
  if !s.awake || p < 1 || 7 < p || p = 6 then s
  else
    let old := (s.port p).module_
    let was := (s.port p).link
    let s := s.updPort p fun x => { x with module_ := m, rxPower := power }
    if m == .sr || m == .lr || (m == .none && old == .none) then s
    else
      let s := (if was then s.linkGone p else s).event 0x4011 2 p 1
      if was && isPeer p then s.peerLost else s
def execSfpModuleChange (port : Nat) (m : ModuleKind) (power : Int) (s : State) : Res := go (sfpModuleChange port m power s)

/-! ### LINK verbs (R156–R158, R331) -/

/-- A reset's shutdown begins: every READY connection on the port is closed. One that is OPENING ends with the link (R279, Table 8.7). -/
def State.closePort (s : State) (p : Nat) (off : Bool) : State :=
  let s := (s.connsOn p).foldl (fun s c => s.leave c .closing .localClose) s
  s.updPort p fun x => { x with closingAt := some s.now, goingOff := off, resetAt := none }
/-- The shutdown has ended: the transmitter is off. A LINK RESET, or one that was queued, turns it on and trains. -/
def State.portClosed (s : State) (p : Nat) : State :=
  let x := s.port p
  let s := (s.linkGone p).updPort p fun x => { x with closingAt := none, goingOff := false }
  let again := !x.goingOff || x.enQueued
  let s := if x.goingOff then s.finish (· == .linkOff p) (.ok "OFF") else s
  s.updPort p fun x =>
    { x with off := !again, enQueued := false, resetAt := if again then some s.now else none }
/-- EGRESS_GUARD_FAULT (R334): the arbiter finds a frame still in the MAC at the start of a guard, a fault of the MAC that the command
reports; the port is trained again, which loses its link. -/
def egressGuardFault (p : Nat) (s : State) : State :=
  if !s.hears p || s.now.toNat % 200 != 192 then s
  else (s.event 0x4011 2 p 0).closePort p false
def execEgressGuardFault (port : Nat) (s : State) : Res := go (egressGuardFault port s)

/-- LINK_RESET (R156, R158, R331). -/
def linkReset (ln : Ln) (p : Nat) (s : State) : State :=
  s.verb ln .engineer fun s =>
    let x := s.port p
    if p < 1 || 7 < p then refuse s 401
    else if x.closingAt.isSome then
      s.startOp ln (.linkReset p) "queued" fun s => s.updPort p fun x => { x with enQueued := x.goingOff }
    else
      s.startOp ln (.linkReset p) ("resetting " ++ portName p) fun s =>
        if x.off then s.updPort p fun y => { y with off := false, resetAt := some s.now }
        else if x.resetAt.isSome then s
        else s.closePort p false
def execLinkReset (ln : Ln) (port : Nat) (s : State) : Res := go (linkReset ln port s)
/-- LINK_RESET_OFF (R157, R331). -/
def linkResetOff (ln : Ln) (p : Nat) (s : State) : State :=
  s.verb ln .engineer fun s =>
    let x := s.port p
    let cancel (s : State) : State := s.finish (· == .linkReset p) (.err 301 "cancelled")
    if p < 1 || 7 < p then refuse s 401
    else if x.closingAt.isSome then
      if x.enQueued || !x.goingOff then
        done (cancel (s.updPort p fun y => { y with enQueued := false, goingOff := true })) "enable cancelled"
      else done s "already stopping"
    else if x.off then done s "OFF"
    else s.startOp ln (.linkOff p) ("closing " ++ portName p) fun s => (cancel s).closePort p true
def execLinkResetOff (ln : Ln) (port : Nat) (s : State) : Res := go (linkResetOff ln port s)
/-- LINK_RESET_TIMEOUT (R331): no link within 2 s of the training's start; the port stays enabled. -/
def linkResetTimeout (p : Nat) (s : State) : State :=
  if (s.port p).resetAt.elim false fun t => secT 2 ≤ ticksFrom t s.now then
    (s.updPort p fun x => { x with resetAt := none }).finish (· == .linkReset p) (.ok "DOWN, no signal")
  else s
def execLinkResetTimeout (port : Nat) (s : State) : Res := go (linkResetTimeout port s)

/-- A port in a listing (R331). -/
def State.portLine (s : State) (p : Nat) : String :=
  let x := s.port p
  portName p ++ (if x.off then " OFF" else if x.link then " UP" else " DOWN") ++ (if p = 6 then " 1Gb/s" else " 10Gb/s") ++
    " ticket " ++ natText x.ticketUs ++ "us held " ++ natText x.held.toNat ++ " local " ++ natText x.localCnt.toNat ++
    " conns" ++ (s.connsOn p).foldl (fun t c => t ++ " " ++ natText c) ""
/-- LINK_SHOW (R331). -/
def linkShow (ln : Ln) (port : Option Nat) (s : State) : State :=
  s.verb ln .view fun s =>
    match port with
    | some p => if p < 1 || 7 < p then refuse s 401 else (s, some (.multi [s.portLine p]))
    | none => (s, some (.multi (([1, 2, 3, 4, 5, 6, 7] : List Nat).map s.portLine)))
def execLinkShow (ln : Ln) (port : Option Nat) (s : State) : Res := go (linkShow ln port s)

end Sys2Proof.Machine
end

