-- ==== Sys2Proof/Machine/Groups.lean ====
section
/-! DEFINITION. Multicast groups (R321–R330): posts from partners and from the Keystone, the members' answers, retries and
timeouts, and the GROUP verb. -/
namespace Sys2Proof.Machine

/-! ### Posting -/

/-- R321: the targets of a post of group `g`: the READY connections on its member ports and its READY member connections,
but not the poster. -/
def State.targetsOf (s : State) (g : Nat) (poster : Option Nat) : List Nat :=
  (List.range 64).filter fun c =>
    let p := (s.conn c).port
    s.isReady c && poster != some c &&
      ((1 ≤ p && (s.num 0x1A1 g).testBit (p - 1)) || (s.group g).conns.getLsbD c)
/-- R323, Table 9.4: a message is posted to group `g`. With 16 posts outstanding it ends BUSY, and the gsn of its record,
which no rule states, is a free value. -/
def State.groupPost (s : State) (g : Nat) (poster : Option Nat) (ppsn : U32) (msg : List Byte) : State × U32 :=
  if 16 ≤ (s.group g).posts.length then
    let gsn : U32 := BitVec.ofNat 32 s.freeWord.toNat
    let s := s.drew.updGroup g fun x => { x with busy := x.busy + 1 }
    (s.sendDone g poster { gsn := gsn, ppsn := ppsn, status := 1 }, gsn)
  else
    let gsn := (s.group g).gsn + 1
    let targets := (s.targetsOf g poster).map fun c => ({ conn := c } : Target)
    let p : Post := { gsn := gsn, poster := poster, ppsn := ppsn, at_ := s.now, msg := msg, targets := targets }
    ((s.updGroup g fun x => { x with gsn := gsn, posts := x.posts ++ [p] }).settleGroup g, gsn)
/-- R329: a GROUP-POST may be addressed to the port or to its group. -/
def postDest (e : Eth) (g : Nat) : Bool := e.dest == .port || e.dest == .group g
/-- The header of a GROUP-POST, for the connection that rkey names (R323). -/
def postHeader (h : RlHdr) : RlHdr := { h with conn := h.rkey.toNat % 65536 }
/-- RL_GROUP_POST (R323, R329): decrypted under the connection that rkey names, which must be READY on the port; a group that is
FREE is not in use (R300). -/
def rlGroupPost (hdr : RlHdr) (g : Nat) (data : List Byte) (s : State) : State :=
  let h := postHeader hdr
  if !s.hears h.port || !postDest h.eth g || !s.takesTag h.port h.eth then s
  else if h.version != 1 || 16 ≤ g || !s.on 0x1A0 g || !s.isReady h.conn || (s.conn h.conn).port != h.port then s.dropFrame h.port
  else s.arriveWith h id fun s => s.inOrder h fun s =>
    if h.bad || 65536 ≤ h.rkey.toNat || h.offset != 0 || !h.first || !h.last || data.isEmpty || 1440 < data.length then
      s.violate h 0x10
    else if !(s.num 0x1A4 g).testBit (h.port - 1) then s.violate h 0x23
    else ((s.consume h).groupPost g (some h.conn) h.psn data).1
def execRlGroupPost (h : RlHdr) (g : Nat) (data : List Byte) (s : State) : Res := go (rlGroupPost h g data s)

/-! ### Answers, retries, timeouts -/

/-- R325–R327: what an answer makes of a target. -/
def Target.answered (t : Target) (accepted again : Bool) (now : Tick) : Target :=
  if accepted then { t with st := .accepted }
  else if again then { t with st := .waiting, at_ := now }
  else { t with st := .ended }
/-- RL_GROUP_RESULT (Table 9.3, R325–R327): an answer that matches no outstanding delivery is dropped (R333). -/
def rlGroupResult (h : RlHdr) (data : List Byte) (s : State) : State :=
  s.sequenced h fun s =>
    let gsn : U32 := BitVec.ofNat 32 (leNat (sliceB data 0 4))
    let g := (data.getD 4 0).toNat
    let r := (data.getD 5 0).toNat
    if controlBad h data 6 || !h.first || !h.last || 1 < r then s.violate h 0x10
    else
      let s := s.consume h
      match if g < 16 then s.post? g gsn else none with
      | none => s.dropFrame h.port
      | some p =>
        if !p.targets.any fun t => t.conn = h.conn && t.st == .sent then s.dropFrame h.port
        else
          let again := s.num 0x1A0 g = 1 && ticksFrom p.at_ s.now < s.groupLimit g
          (s.updTarget g gsn h.conn fun t => t.answered (r = 0) again s.now).settleGroup g
def execRlGroupResult (h : RlHdr) (data : List Byte) (s : State) : Res := go (rlGroupResult h data s)
/-- GROUP_RETRY (R325): targets that could not accept 400 ticks ago are tried again. -/
def groupRetry (g : Nat) (s : State) : State := ((s.kick g true).finishPosts g).settleGroup g
def execGroupRetry (g : Nat) (s : State) : Res := go (groupRetry g s)
/-- The entry is a delivery of the post that no frame has left. -/
def unsentDelivery (g : Nat) (gsn : U32) (w : WorkEntry) : Bool := w.group == some (g, gsn) && !w.framed && w.fate.isNone
/-- R319, R325: the deliveries of a post are cancelled: one that no frame has left completes CANCELLED, any other SENT where it
would have completed OK. -/
def State.cancelDeliveries (s : State) (g : Nat) (gsn : U32) : State :=
  let late (w : WorkEntry) : WorkEntry :=
    if unsentDelivery g gsn w then { w with fate := some CqStatus.cancelled } else { w with sent_ := true }
  let cancel (x : Conn) : Conn :=
    { x with sq := updAll (fun w => w.group == some (g, gsn) && w.fate.isNone) late x.sq }
  { s with net.conns := s.net.conns.map cancel }
/-- GROUP_TIMEOUT (R325, R327): at the timeout waiting retries are cancelled; 1 ms later a delivery without an answer is
uncertain. -/
def groupTimeout (g : Nat) (gsn : U32) (s : State) : State :=
  match s.post? g gsn with
  | none => s
  | some p =>
    let past := ticksFrom p.at_ s.now
    let late := s.groupLimit g + msT 1 ≤ past
    if past < s.groupLimit g then s
    else
      let s := s.cancelDeliveries g gsn
      let s := s.updPost g gsn fun p =>
        { p with targets := updAll (fun (t : Target) => late || t.st == .waiting) Target.end_ p.targets }
      s.settle.settleGroup g
def execGroupTimeout (g : Nat) (gsn : U32) (s : State) : Res := go (groupTimeout g gsn s)

/-! ### GROUP verb (Table 9.5) -/

/-- The name of a group's mode. -/
def State.groupModeText (s : State) (g : Nat) : String := (["FREE", "RELIABLE", "UNRELIABLE"] : List String).getD (s.num 0x1A0 g) ""
/-- A timeout of `n` tenths of a millisecond as text. -/
def tenthsText (n : Nat) : String := natText (n / 10) ++ (if n % 10 = 0 then "" else "." ++ natText (n % 10)) ++ "ms"
/-- The ports of a mask, by name. -/
def portNames (m : Nat) (pre : String) : String :=
  ((List.range 7).filter fun i => m.testBit i).foldl (fun t i => t ++ pre ++ " " ++ portName (i + 1)) ""
/-- The settings of a group. -/
def State.groupSettings (s : State) (g : Nat) : String :=
  natText g ++ " " ++ s.groupModeText g ++ " timeout " ++ tenthsText (s.num 0x1A5 g) ++
    (if s.on 0x1A6 g then " TICKET" else " BULK")
/-- The members of a group. -/
def State.groupMembers (s : State) (g : Nat) : String :=
  let conns := (List.range 64).filter fun c => (s.group g).conns.getLsbD c
  natText g ++ " " ++ s.groupModeText g ++ " members" ++
    (if s.num 0x1A1 g = 0 && conns.isEmpty then " NONE" else portNames (s.num 0x1A1 g) " PORT") ++
    conns.foldl (fun t c => t ++ " CONN " ++ natText c) ""
/-- The ports that may post. -/
def State.groupPosters (s : State) (g : Nat) : String :=
  natText g ++ " " ++ s.groupModeText g ++ " post" ++ (if s.num 0x1A4 g = 0 then " NONE" else portNames (s.num 0x1A4 g) "")
/-- R330: a form of the verb that changes group `g`: refused for its own arguments (`fault`, R68), then while the group has posts
outstanding. The group parameters are local (R496), so the forms run in STANDBY too. -/
def State.groupVerb (s : State) (ln : Ln) (g : Nat) (fault : State → Option Nat) (body : State → VerbRes) : State :=
  s.verb ln .engineer fun s =>
    if 16 ≤ g then refuse s 401
    else match fault s with
      | some c => refuse s c
      | none => if !(s.group g).posts.isEmpty then refuse s 302 else body s
/-- A form without arguments that can be at fault. -/
def noFault (_ : State) : Option Nat := none
/-- GROUP_MODE. -/
def groupMode (ln : Ln) (g : Nat) (m : GroupMode) (s : State) : State :=
  s.groupVerb ln g noFault fun s =>
    let ord : Int := match m with
      | .free => 0 | .reliable => 1 | .unreliable => 2
    let s := s.setRaw 0x1A0 g ord
    let s := if m == .free then (s.setRaw 0x1A1 g 0).updGroup g fun x => { x with conns := 0 } else s
    done s (s.groupSettings g)
def execGroupMode (ln : Ln) (g : Nat) (m : GroupMode) (s : State) : Res := go (groupMode ln g m s)
/-- A member that exists. -/
def memberOk : Member → Bool
  | .port p => 1 ≤ p && p ≤ 7
  | .conn c => c < 64
/-- Group `g` with a member added or removed. -/
def State.setMember (s : State) (g : Nat) (m : Member) (on : Bool) : State :=
  match m with
  | .port p =>
    let old := s.num 0x1A1 g
    let bit := 2 ^ (p - 1)
    s.setRaw 0x1A1 g (if on then if old.testBit (p - 1) then old else old + bit else if old.testBit (p - 1) then old - bit else old : Nat)
  | .conn c => s.updGroup g fun x => { x with conns := if on then x.conns ||| (1#64 <<< c) else x.conns &&& ~~~(1#64 <<< c) }
/-- Table 9.5: what is wrong with a member to be added: it does not exist, or is a connection that is not READY. -/
def State.addFault (m : Member) (s : State) : Option Nat :=
  if !memberOk m then some 401
  else match m with
    | .conn c => if s.isReady c then none else some 301
    | .port _ => none
/-- GROUP_ADD. -/
def groupAdd (ln : Ln) (g : Nat) (m : Member) (s : State) : State :=
  s.groupVerb ln g (State.addFault m) fun s =>
    let s := s.setMember g m true
    done s (s.groupMembers g)
def execGroupAdd (ln : Ln) (g : Nat) (m : Member) (s : State) : Res := go (groupAdd ln g m s)
/-- GROUP_REMOVE. -/
def groupRemove (ln : Ln) (g : Nat) (m : Member) (s : State) : State :=
  s.groupVerb ln g (fun _ => if memberOk m then none else some 401) fun s =>
    let s := s.setMember g m false
    done s (s.groupMembers g)
def execGroupRemove (ln : Ln) (g : Nat) (m : Member) (s : State) : Res := go (groupRemove ln g m s)
/-- GROUP_POST_PORTS: no port is `POST NONE`. -/
def groupPostPorts (ln : Ln) (g : Nat) (ports : List Nat) (s : State) : State :=
  s.groupVerb ln g (fun _ => if ports.any fun p => p < 1 || 7 < p then some 401 else none) fun s =>
    let m := sumOf (fun i => if ports.contains (i + 1) then 2 ^ i else 0) (List.range 7)
    let s := s.setRaw 0x1A4 g (m : Nat)
    done s (s.groupPosters g)
def execGroupPostPorts (ln : Ln) (g : Nat) (ports : List Nat) (s : State) : Res := go (groupPostPorts ln g ports s)
/-- GROUP_TIMEOUT_SET. -/
def groupTimeoutSet (ln : Ln) (g : Nat) (ms : Lit) (s : State) : State :=
  let arg := litArg { unit := some .ms, stepD := 10 } 5 1000 ms
  s.groupVerb ln g (fun _ => match arg with
    | .error c => some c
    | .ok _ => none) fun s =>
    let s := s.setRaw 0x1A5 g (match arg with
      | .error _ => 0
      | .ok v => v)
    done s (s.groupSettings g)
def execGroupTimeoutSet (ln : Ln) (g : Nat) (ms : Lit) (s : State) : Res := go (groupTimeoutSet ln g ms s)
/-- GROUP_CLASS. -/
def groupClass (ln : Ln) (g : Nat) (ticket : Bool) (s : State) : State :=
  s.groupVerb ln g noFault fun s =>
    let s := s.setRaw 0x1A6 g (if ticket then 1 else 0)
    done s (s.groupSettings g)
def execGroupClass (ln : Ln) (g : Nat) (ticket : Bool) (s : State) : Res := go (groupClass ln g ticket s)
/-- GROUP_SEND (R327, R330): a post from within the Keystone. A group that is FREE is not in use. -/
def groupSend (ln : Ln) (g : Nat) (msg : List Byte) (s : State) : State :=
  s.verb ln .engineer fun s =>
    if 16 ≤ g || msg.isEmpty || 180 < msg.length then refuse s 401
    else if !s.on 0x1A0 g then refuse s 301
    else
      let (s, gsn) := s.groupPost g none 0 msg
      done s ("gsn " ++ natText gsn.toNat)
def execGroupSend (ln : Ln) (g : Nat) (msg : List Byte) (s : State) : Res := go (groupSend ln g msg s)

end Sys2Proof.Machine
end

