-- ==== Sys2Proof/Machine/Mirror.lean ====
section
/-! DEFINITION. The mirror of a pair (R491, R492, R494–R499): the images of the state, heartbeats sent, epochs cut and epochs
applied. -/
namespace Sys2Proof.Machine

/-! ### Connections of the pair -/

/-- R491: the crown connection (0x0C00) or the mirror connection (0x0C01), when it is READY. -/
def State.pairConn (s : State) (pconn : Nat) : Option Nat := s.peerReady.find? fun c => (s.conn c).pconn.toNat = pconn
/-- The source of this Keystone that a port and a pconn name (R490). -/
def State.ownSource (s : State) (port : Nat) (pconn : BitVec 16) : Option Nat :=
  ((List.range 16).map (· + 1)).find? fun n =>
    (s.source n).conn.elim false fun c => (s.conn c).port = port && (s.source n).pconn == pconn

/-! ### Images (Table 15.3) -/

/-- TICKETS. -/
def Ticket.image (t : Ticket) : MirTicket :=
  { src := t.src, slot := t.slot, stamp := t.stamp, ended := t.final_.isSome, start := t.start, confirmed := t.confirmed
    committed := t.committed, reserved := t.reserved, preempted := t.detail.getLsbD 7, primedPlan := t.primedPlan
    shift := t.shift, port := t.port, pconn := t.pconn }
/-- PLANS: a plan that has been sent. -/
def planImage (n : Nat) (p : Plan) : Option MirPlan :=
  p.slot.map fun i =>
    { course := n, slot := i, ch := p.ch, prov := p.prov, primed := p.primed, committed := p.committed, start := p.start, dur := p.dur }
/-- RINGS. -/
def State.ringImage (s : State) (n : Nat) : Option MirRing :=
  let q := s.source n
  q.conn.map fun c =>
    { src := n, port := (s.conn c).port, pconn := q.pconn, next := q.next, fresh := q.fresh, gaps := q.gaps
      refused := q.refused, overruns := q.overruns }
/-- LINE: the last edge, with the phase accumulator at it. -/
def State.lineImage (s : State) : Option (Line × Tick × BitVec 48 × U32) :=
  if s.sync.running && s.sync.started then
    let phase := s.sync.phase.toNat - 50 * s.num 0x200 * ticksFrom s.sync.edge s.now
    some (s.sync.line, s.sync.edge, BitVec.ofNat 48 phase, s.sync.period)
  else none
/-- AIR. -/
def Manifold.image (b : Manifold) : MirAir :=
  { level := b.level, hard := b.hard, soft := b.soft, rhoNum := b.rhoNum, rhoDen := b.rhoDen, held := b.held }
/-- LOOPS. -/
def Loop.image (l : Loop) (mode : Nat) : MirLoop :=
  { mode := if mode = 0 then .off else if mode = 1 then .manual else .auto, active := l.active, i1 := l.i1, i2 := l.i2
    i := l.i, d := l.d, y := l.y, r := l.r, u := l.u, flags := l.flags }
/-- The lot change that waits for its line (R435), with its name. -/
def State.pendingLot (s : State) : Option (U32 × Line × List Byte) :=
  (s.committedOf .lot).map fun c =>
    (BitVec.ofInt 32 ((c.val 0xB28).getD 0), BitVec.ofInt 32 ((c.val 0xB29).getD 0), c.name)
/-- UNIT. -/
def State.unitImage (s : State) : MirUnit :=
  { state := s.ctl.state, causes := s.ctl.causes, courses := s.courses.map (·.state)
    fans := s.fld.fans.map fun f => (f.state, f.attempts.toNat)
    avgOutMoist := s.fld.avgOutMoist, avgOutTemp := s.fld.avgOutTemp, avgInMoist := s.fld.avgInMoist, avgValid := s.fld.avgValid
    moist := s.plumb.moist, band := s.plumb.band, crack := s.dry.crack, lot := s.pendingLot
    batchState := s.dry.batch.state, batchStep := s.dry.batch.step, batchSince := s.dry.batch.since }
/-- JOURNAL, with the frames from serial `from_` on. -/
def State.journalImage (s : State) (from_ : Nat) : MirJournal :=
  { oldest := s.led.journal.oldest, next := s.led.serial, nextSeq := s.led.journal.nextSeq, instance_ := s.led.journal.instance_
    lot := s.led.journal.lot, lotName := s.led.journal.lotName
    frames := (s.led.journal.frames.filter fun f => from_ ≤ f.num).map fun f => (f.serial, f.record) }
/-- The whole mirrored state (R498). -/
def State.image (s : State) : Mirror :=
  { tickets := (s.tk.tickets.filter fun t => !t.test && t.final_.isNone).map Ticket.image
    plans := (List.range 8).flatMap fun i => (s.course (i + 1)).plans.filterMap (planImage (i + 1))
    rings := ((List.range 16).map (· + 1)).filterMap s.ringImage
    line := s.lineImage
    air := s.air.map Manifold.image
    loops := s.dry.loops.mapIdx fun i l => l.image (s.num 0x7A0 i)
    unit := some s.unitImage
    params := (s.par.vals.filter fun v => !isLocal v.id).map fun v => (v.id, v.elem, v.raw)
    journal := some (s.journalImage s.led.journal.oldest.toNat) }

/-- Two images of one ticket. -/
def sameTicket (a b : MirTicket) : Bool :=
  a.port == b.port && a.pconn == b.pconn && a.slot.seq == b.slot.seq && a.stamp == b.stamp
/-- Two images of one plan slot. -/
def samePlan (a b : MirPlan) : Bool := a.course == b.course && a.slot == b.slot
/-- The entries that turn the tickets `old` into `new`: those placed or changed, and those ended (Table 15.3). -/
def ticketChanges (old new : List MirTicket) : List MirTicket :=
  new.filter (fun t => !old.contains t) ++ (old.filter fun t => !new.any (sameTicket t)).map fun t => { t with ended := true }
/-- The entries that turn the plans `old` into `new`. -/
def planChanges (old new : List MirPlan) : List MirPlan :=
  new.filter (fun p => !old.contains p) ++ (old.filter fun p => !new.any (samePlan p)).map fun p => { p with dropped := true }
/-- The journal frames that a chunk of a base carries are within 256 KiB, and leave room for the deltas beside them (R495). -/
def chunkRoom : Nat := 262144
/-- The first frames of a list that fit `room` bytes. -/
def framesFit : Nat → List Frame → List Frame
  | _, [] => []
  | room, f :: fs => if frameSize f.record ≤ room then f :: framesFit (room - frameSize f.record) fs else []
/-- R498: a base begins with this epoch. -/
def State.baseStarts (s : State) : Bool := s.crown.baseDue && s.crown.baseFrom.isNone
/-- R498: the serials that a base under way, or one that begins, has still to carry: from the first up to, and without, the second. -/
def State.baseSpan (s : State) : Option (Nat × Nat) :=
  match s.crown.baseFrom with
  | some n => some (n, s.crown.baseTo)
  | none => if s.crown.baseDue then some (s.led.journal.oldest.toNat, s.led.serial.toNat) else none
/-- The journal frames that a base has still to carry. -/
def State.baseLeft (s : State) : List Frame :=
  s.baseSpan.elim [] fun b => s.led.journal.frames.filter fun f => b.1 ≤ f.num && f.num < b.2
/-- The epoch that carries the changes since the cut before, and a chunk of a base that is under way (R495, R498). -/
def State.epochOf (s : State) (kind : Nat) : Epoch :=
  let old := s.crown.mirror
  let new := s.image
  let from_ := if s.baseStarts then s.led.serial.toNat else (s.crown.cutSeq.head?).elim s.led.serial.toNat (·.2.1)
  let chunk := framesFit chunkRoom s.baseLeft
  { kind := if kind = 0 && s.baseSpan.isSome then 1 else kind
    epoch := s.crown.epoch + 1
    cut := s.now
    gen := s.crown.gen
    tickets := ticketChanges old.tickets new.tickets
    plans := planChanges old.plans new.plans
    rings := new.rings
    line := new.line
    air := new.air
    loops := new.loops
    unit := new.unit
    params := (s.crown.changedParams.filter fun v => !isLocal v.id).map fun v => (v.id, v.elem, v.raw)
    journal := some (s.journalImage from_)
    base := s.baseSpan.map fun _ => (s.crown.baseOff, chunk.length == s.baseLeft.length)
    image := if s.baseStarts then some { new with journal := some (s.journalImage s.led.serial.toNat) } else none
    chunk := chunk.map fun f => (f.serial, f.record) }

/-! ### Heartbeats and epochs sent (R492, R495) -/

/-- Table 15.1: the heartbeat that this Keystone sends now. -/
def State.ownBeat (s : State) : Heartbeat :=
  { beat := s.crown.beat + 1
    gen := s.crown.gen
    state := BitVec.ofNat 8 (stateCode s.ctl.state)
    holds := s.crown.holds
    synced := s.crown.synced == .yes
    yielding := s.crown.yielding
    rebase := s.crown.rebase
    rank := s.num 0xD02
    tick := s.now
    epoch := s.crown.epoch }
/-- HEARTBEAT_SEND (R492): the crown holder at every pair tick that is a multiple of 400, the other 200 ticks later. -/
def heartbeatSend (s : State) : State :=
  let due := s.now.toNat % 400 = (if s.crown.holds then 0 else 200)
  if !s.awake || !s.paired || !due then s
  else match s.pairConn 0x0C00 with
    | none => s
    | some c =>
      let b := s.ownBeat
      let s : State := { s with crown.beat := b.beat }
      s.postEntry c { op := .write, ticket := true, length := 32, rkey := (s.conn c).remote, data := beatBytes b, id := b.beat }
def execHeartbeatSend (s : State) : Res := go (heartbeatSend s)

/-- A section of an epoch: type, a reserved byte of 0 (R9), entry count, length of the section with this header (assumption 62), entries. -/
def sectionBytes (typ count : Nat) (body : List Byte) : List Byte :=
  [BitVec.ofNat 8 typ, 0] ++ leBytes 2 count ++ leBytes 4 (8 + body.length) ++ body
/-- Table 15.3: a TICKETS entry: the 32-byte slot as taken, the stamp, and the rest, whose places are not given. -/
def ticketEntry (t : MirTicket) : List Byte := slotBytes t.slot ++ leBytes 6 t.stamp.toNat ++ padTo 10 (Config.ticketTail t)
/-- R498: a chunk of the base image: what the first one holds, whose layout is not given, then journal frames (R429). -/
def baseChunk (e : Epoch) : List Byte :=
  e.image.toList.flatMap Config.baseImage ++ e.chunk.flatMap fun f => journalFrame f.1 f.2
/-- Table 15.3: the sections that an epoch carries, each with its type and its number of entries. -/
def epochSections (e : Epoch) : List (Nat × Nat × List Byte) :=
  let all : List (Nat × Nat × List Byte) := [
    (0x01, e.tickets.length, e.tickets.flatMap ticketEntry),
    (0x02, e.plans.length, e.plans.flatMap fun p => padTo 16 (Config.planEntry p)),
    (0x03, e.rings.length, e.rings.flatMap fun r => padTo 16 (Config.ringEntry r)),
    (0x04, e.line.toList.length, e.line.toList.flatMap Config.lineEntry),
    (0x05, e.air.length, e.air.flatMap Config.airEntry),
    (0x06, e.loops.length, e.loops.flatMap Config.loopEntry ++ e.unit.toList.flatMap Config.batchEntry),
    (0x07, e.unit.toList.length, e.unit.toList.flatMap Config.unitEntry),
    (0x08, e.params.length, e.params.flatMap fun p => bankRecord p.1 p.2.1 0 p.2.2),
    (0x09, e.journal.elim 0 Config.journalCount,
      e.journal.toList.flatMap fun j => Config.journalHead j ++ j.frames.flatMap fun f => journalFrame f.1 f.2),
    (0x0A, e.base.toList.length, e.base.toList.flatMap fun b => leBytes 8 b.1 ++ baseChunk e)]
  all.filter fun q => match q.1 with
    | 0x01 => !e.tickets.isEmpty | 0x02 => !e.plans.isEmpty | 0x03 => !e.rings.isEmpty | 0x04 => e.line.isSome | 0x05 => !e.air.isEmpty
    | 0x06 => !e.loops.isEmpty | 0x07 => e.unit.isSome | 0x08 => !e.params.isEmpty | 0x09 => e.journal.isSome | _ => e.base.isSome
/-- Table 15.2: the header and the sections of an epoch. -/
def epochBody (e : Epoch) : List Byte :=
  let sections := epochSections e
  let sec := sections.flatMap fun q => sectionBytes q.1 q.2.1 q.2.2
  bytesOf "KYEP" ++ leBytes 2 1 ++ [BitVec.ofNat 8 e.kind, 0] ++ leBytes 4 e.epoch.toNat ++ leBytes 6 e.cut.toNat ++ [0, 0] ++
    leBytes 4 e.gen.toNat ++ leBytes 4 (48 + sec.length) ++ leBytes 2 sections.length ++ [0, 0] ++ sec
/-- Table 15.2: the trailer. -/
def epochTrailer (e : Epoch) (body : List Byte) : List Byte :=
  let t := bytesOf "KYET" ++ leBytes 4 e.epoch.toNat ++ leBytes 4 (body.length + 16)
  t ++ leBytes 4 (crc32 (body ++ t)).toNat
/-- R491, R495: where epoch `e` is written: in window 8, through the full key. -/
def epochOffset (e : U32) : Nat := 8 * 2 ^ 24 + 0x80000 * (e.toNat % 32)
/-- R495: an epoch is cut and written to the standby's ring, its trailer last. -/
def State.cutEpoch (s : State) (kind : Nat) : State :=
  match s.pairConn 0x0C01 with
  | none => s
  | some c =>
    let e := s.epochOf kind
    let s : State := { s with
      crown.epoch := e.epoch
      crown.lastSent := some e
      crown.mirror := s.image
      crown.cutSeq := ((e.epoch.toNat, s.led.serial.toNat, s.led.journal.nextSeq) :: s.crown.cutSeq).take 64
      crown.changedParams := []
      crown.baseDue := s.crown.baseDue && !s.baseStarts
      crown.baseFrom := if e.base.elim true (·.2) then none
        else some ((e.chunk.getLast?).elim (s.baseSpan.elim 0 (·.1)) fun f => f.1.toNat + 1)
      crown.baseTo := s.baseSpan.elim 0 (·.2)
      crown.baseOff := if e.base.elim true (·.2) then 0 else s.crown.baseOff + max 1 (baseChunk e).length }
    let body := epochBody e
    let trailer := epochTrailer e body
    let key := (s.conn c).remote
    let s := s.postEntry c
      { op := .write, length := body.length, rkey := key, offset := BitVec.ofNat 32 (epochOffset e.epoch), data := body, id := e.epoch }
    s.postEntry c
      { op := .writeNotice, length := 16, rkey := key, offset := BitVec.ofNat 32 (epochOffset e.epoch + body.length), data := trailer
        id := e.epoch }
/-- The Keystone cuts epochs now: it holds the crown of a pair, at a pair tick that is a multiple of 4,000 (R495). -/
def State.atCut (s : State) : Bool := s.awake && s.crown.holds && s.paired && s.now.toNat % 4000 = 0
/-- EPOCH_CUT (R495). At a cut for which CROWN YIELD waits, the epoch is that of YIELD_AT_CUT (R512). -/
def epochCut (s : State) : State := if s.atCut && !s.crown.yieldAsked then s.cutEpoch 0 else s
def execEpochCut (s : State) : Res := go (epochCut s)

/-! ### Epochs applied (R494, R496–R498) -/

/-- Entries replace those they match, and leave out those that have gone. -/
def mergeInto {α : Type} (same : α → α → Bool) (gone : α → Bool) (old new : List α) : List α :=
  new.foldl (fun l x =>
    let rest := l.filter fun y => !same x y
    if gone x then rest else rest ++ [x]) old
/-- R498: the epoch carries the first chunk of a base. -/
def epochStarts (e : Epoch) : Bool := e.base.elim false fun b => b.1 = 0
/-- A mirror with the sections of an epoch taken in; a base starts it afresh, and its chunks add journal frames in serial order. -/
def mirrorTake (m : Mirror) (e : Epoch) : Mirror :=
  let m : Mirror := if epochStarts e then e.image.getD {} else m
  let journal := e.journal.map fun j =>
    let all := m.journal.elim [] (·.frames) ++ j.frames
    let all := if e.chunk.isEmpty then all
      else sortBy (fun (a b : BitVec 64 × Record) => decide (a.1.toNat < b.1.toNat)) (all ++ e.chunk)
    { j with frames := all.filter fun f => j.oldest.toNat ≤ f.1.toNat }
  { tickets := mergeInto sameTicket (·.ended) m.tickets e.tickets
    plans := mergeInto samePlan (·.dropped) m.plans e.plans
    rings := mergeInto (fun (a b : MirRing) => a.port == b.port && a.pconn == b.pconn) (fun _ => false) m.rings e.rings
    line := if e.line.isSome then e.line else m.line
    air := if e.air.isEmpty then m.air else e.air
    loops := if e.loops.isEmpty then m.loops else e.loops
    unit := if e.unit.isSome then e.unit else m.unit
    params := mergeInto (fun (a b : Nat × Nat × Int) => a.1 == b.1 && a.2.1 == b.2.1) (fun _ => false) m.params e.params
    journal := if journal.isSome then journal else m.journal }
/-- R140: line sync runs in this state. -/
def lineRuns : UnitState → Bool
  | .ready | .run | .drain => true
  | _ => false
/-- The tick of line `j` after an edge at `edge` with the accumulator at `phase`. -/
def shadowEdge (edge : Tick) (phase rate j : Nat) : Tick :=
  tickPlus edge ((j * 200000000 - phase + 50 * rate - 1) / (50 * rate) : Nat)
/-- R494: the shadow of LINE SYNC follows the LINE section: it stands where the active's generator stands now. -/
def State.shadowFrom (s : State) (line : Line) (edge : Tick) (phase : BitVec 48) (period : U32) : State :=
  let rate := s.num 0x200
  let total := phase.toNat + 50 * rate * ticksFrom edge s.now
  let k := min 65536 (total / 200000000)
  let entry (j : Nat) : LineRec :=
    { line := line + BitVec.ofNat 32 j, edge := if j = 0 then edge else shadowEdge edge phase.toNat rate j, period := period }
  let new := ((List.range (k + 1)).map entry).reverse
  { s with
    sync.shadow := true
    sync.started := true
    sync.edgeDue := false
    sync.line := line + BitVec.ofNat 32 k
    sync.edge := (new.head?).elim edge (·.edge)
    sync.phase := BitVec.ofNat 48 (total % 200000000)
    sync.period := period
    sync.record := (new ++ s.sync.record.filter fun r => u32Before r.line line).take 65536 }
/-- R386, R218: the averages of the UNIT section are delivered: x is the latest outlet average, and keeps its last value while none is valid.
An active whose m stands above 0 has had one. -/
def State.takeAverages (s : State) (u : MirUnit) : State :=
  let valid := u.avgValid.getLsbD 0
  let had := valid || u.moist != 0
  { s with
    fld.avgOutMoist := u.avgOutMoist
    fld.avgOutTemp := u.avgOutTemp
    fld.avgInMoist := u.avgInMoist
    fld.avgValid := u.avgValid
    plumb.x := if had then u.avgOutMoist else s.plumb.x
    plumb.xSet := s.plumb.xSet || had
    plumb.lastAvg := if valid then s.now else s.plumb.lastAvg
    plumb.missNoted := s.plumb.missNoted && !valid }
/-- R215: the tables of the chutes whose drop, velocity range or gravity is among the changed parameters `ids` are built again. -/
def State.retable (s : State) (ids : List Nat) : State :=
  (List.range 8).foldl (fun s i =>
    let n := i + 1
    if ([0x381, plumbP 0 n, plumbP 3 n, plumbP 4 n] : List Nat).any ids.contains then s.buildTable n else s) s
/-- What an applied epoch changes in the standby at once: the parameters (R496) with the flight tables (R215), the averages (R386), the shadow
(R494). -/
def State.followEpoch (s : State) (e : Epoch) : State :=
  let params := e.image.elim [] (·.params) ++ e.params
  let moved := params.filter fun p => !isLocal p.1 && s.raw p.1 p.2.1 != p.2.2
  let s := (params.foldl (fun s p => if isLocal p.1 then s else s.setRaw p.1 p.2.1 p.2.2) s).retable (moved.map (·.1))
  let s : State := { s with crown.changedParams := [] }
  let s := e.unit.elim s s.takeAverages
  if lineRuns ((s.crown.mirror.unit).elim .held (·.state)) then
    match e.line with
    | some (l, t, ph, per) => s.shadowFrom l t ph per
    | none => s
  else { s with sync.shadow := false, sync.edgeDue := false }
/-- R497, R498: an epoch is discarded: nothing more is applied until a base. -/
def State.discardEpoch (s : State) : State :=
  let s := if s.crown.synced == .yes then s.event 0x9003 0x0D 0 0 else s
  { s with crown.synced := .no, crown.rebase := true, crown.baseEnd := false }
/-- R497: a whole epoch is applied. The standby is SYNCED from the first epoch applied after the last base chunk (R498). -/
def State.applyEpoch (s : State) (e : Epoch) : State :=
  let was := s.crown.synced
  let now_ : SyncState := if was == .yes then .yes else if s.crown.baseEnd && !epochStarts e then .yes else .base
  let s : State := { s with
    crown.ring := assocSet (e.epoch.toNat % 32) e s.crown.ring
    crown.mirror := mirrorTake s.crown.mirror e
    crown.epoch := e.epoch
    crown.gen := if laterGen s.crown.gen e.gen then e.gen else s.crown.gen
    crown.nvGen := if laterGen s.crown.gen e.gen then e.gen else s.crown.nvGen
    crown.lag := min 65535 (ticksFrom e.cut s.now / 4)
    crown.synced := now_
    crown.rebase := false
    crown.baseEnd := (s.crown.baseEnd && !epochStarts e) || e.base.elim false (·.2) }
  let s := s.followEpoch e
  if was != .yes && now_ == .yes then s.event 0x9002 0x0D 0 else s
/-- R497: whether an epoch is applied (`some true`), discarded (`some false`), or met while a base is awaited (`none`). -/
def State.judgeEpoch (s : State) (e : Epoch) : Option Bool :=
  if s.crown.rebase && !epochStarts e then none
  else some (e.sound && (epochStarts e || (s.crown.synced != .no && e.epoch == s.crown.epoch + 1)))

end Sys2Proof.Machine
end

