-- ==== Sys2Proof/Machine/Crown.lean ====
section
/-! DEFINITION. The crown (R489, R501–R519): taking it by silence, by handover and by verb, yielding it, stepping down, and how
the field bank and the transport judge it. -/
namespace Sys2Proof.Machine

/-! ### Generations and CROWN frames (R501, R502, R519) -/

/-- CROWN_RESEND (R519): every 64 ticks to a course that does not report the generation. -/
def crownResend (n : Nat) (s : State) : State :=
  let last := s.crown.crownSent.getD (ix n) 0
  if !s.awake || !s.crown.holds || !s.crown.resendAt.contains n || ticksFrom last s.now < 64 then s
  else
    let s := s.crownOn s.crown.gen s.crown.horizon false (.course n)
    { s with crown.crownSent := updAt (ix n) (fun _ => s.now) s.crown.crownSent }
def execCrownResend (n : Nat) (s : State) : Res := go (crownResend n s)

/-! ### Entry to STANDBY (R489, R493, R515) -/

/-- R493: the pair tick, from the last heartbeat. -/
def State.alignPair (s : State) : State :=
  match s.crown.peerBeat with
  | none => s
  | some b =>
    let pair := tickPlus b.tick ((Config.peerDelay + ticksFrom s.crown.path1 s.now : Nat) : Int)
    let move := pair - s.now
    { s with
      clk.delta := s.clk.delta + move
      crown.path1 := s.crown.path1 + move
      crown.path2 := if s.crown.path2 = 0 then 0 else s.crown.path2 + move }
/-- The unit enters STANDBY. -/
def State.enterStandby (s : State) : State := (s.alignPair.enter .standby).retargetLoops
/-- A pending operation of the line, which the new crown holder runs from now on. -/
def lineOp : PendOp → Bool
  | .state _ | .courseEnable _ | .courseDisable _ | .courseTest _ | .courseLearn _ | .fanStart _ | .fanStop _ | .loopMode _
  | .loopOff _ => true
  | _ => false
/-- The ledger of a Keystone without the crown: it writes nothing more, but for an ashlar whose HANDOVER is still to come
(R512). -/
def State.dropLedger (s : State) : State :=
  let s := match s.led.onTape with
    | some a => if s.crown.ledgerHandover then s else s.abandon a false
    | none => s
  { s.endLedgerVerbs (.err 301 "standby") with
    led.state := .empty
    led.forming := none
    led.closed := []
    led.fullDue := false }
/-- A crown holder becomes a standby that is not SYNCED: no drain or shutdown runs, and the outputs pass to the new holder
(Table 4.2). Its tickets are the new holder's. -/
def State.standDown (s : State) : State :=
  let s := ((s.learnDropAll "standby").cancelRun.cancelQueued).dropStateVerbs (.err 301 "standby")
  let s : State := { s with ctl.bringup := none, ctl.shutdown := none }
  let s := (s.finish lineOp (.err 301 "standby")).dropLedger
  let s : State := { s with
    crown.holds := false
    crown.yielding := false
    crown.yieldAt := none
    crown.yieldAsked := false
    crown.synced := .no
    crown.rebase := true
    crown.baseDue := false
    crown.baseFrom := none
    crown.baseOff := 0
    crown.mirror := {}
    crown.resendAt := []
    sync.running := false
    sync.driving := false
    sync.driveAt := none
    sync.firstDriven := none
    sync.edgeDue := false
    sync.shadow := false
    par.committed := []
    tk.tickets := []
    tk.sources := s.tk.sources.map fun q => { q with open_ := false, reserved := 0 }
    air := s.air.map fun b => { b with hard := 0, soft := 0 }
    courses := s.courses.map fun c =>
      { c with state := .off, plans := [], test := none, enQueued := false, drainVerb := false, dischargeAt := none }
    fld.released := false
    fld.fans := s.fld.fans.map fun f =>
      { f with state := .stopped, relay := false, opening := none, openSent := false, attempts := 0, tries := 0, startQueued := false }
    dry.batch := {} }
  s.enterStandby
/-- R515: a course reports a later generation. -/
def State.stepDown (s : State) (seen : U32) : State :=
  let s := s.event 0x9020 0x0D 0 s.crown.gen.toNat seen.toNat
  (State.standDown { s with crown.gen := seen, crown.nvGen := seen, crown.ledgerHandover := false }).finish (· == .crownYield)
    (.err 301 "standby")
/-- R512: the courses report the new generation: the handover is complete. -/
def State.yieldDone (s : State) (g : U32) : State :=
  (State.standDown { s with crown.gen := g, crown.nvGen := g }).finish (· == .crownYield) (.ok ("STANDBY generation " ++ natText g.toNat))
/-- R516, R519: a course reports the holder's own generation. -/
def State.ownGenSeen (s : State) (n : Nat) : State :=
  { s with
    crown.resendAt := s.crown.resendAt.filter (· != n)
    sync.ownGenSince := s.now
    sync.driving := s.sync.driving || (s.sync.running && s.sync.driveAt.isNone) }
/-- COURSE_STATUS (R141, R142, R245–R247, R267, R492, R512, R515, R516). A later generation ends a yield from READY, RUN or DRAIN; from HELD
and FAULT too the Keystone steps down under R515 (Table 4.2); in WAKING and COLLAPSE it changes no state. -/
def courseStatus (up : UpHdr) (f : StatusFrame) (s : State) : State :=
  let n := up.course
  if !s.awake || !s.hasCourse n then s
  else
    let s := s.takeStatus n up.gen f
    if s.ctl.state == .standby then
      if f.crownLive then { s with crown.path2 := s.now, crown.silentNoted := false } else s
    else if !s.crown.holds then s
    else if up.gen == s.crown.gen then s.ownGenSeen n
    else if laterGen s.crown.gen up.gen then
      if !s.inAny [.held, .ready, .run, .drain, .fault] then s
      else if s.crown.yieldAt.isSome && up.gen == s.crown.gen + 1 && s.inAny [.ready, .run, .drain] then s.yieldDone up.gen
      else s.stepDown up.gen
    else { s with crown.resendAt := s.crown.resendAt.filter (· != n) ++ [n] }
def execCourseStatus (up : UpHdr) (f : StatusFrame) (s : State) : Res := go (courseStatus up f s)
/-- LINE_SYNC_RELEASE (R516). -/
def lineSyncRelease (s : State) : State :=
  if s.crown.holds && s.sync.driving && 400 ≤ ticksFrom s.sync.ownGenSince s.now then { s with sync.driving := false } else s
def execLineSyncRelease (s : State) : Res := go (lineSyncRelease s)

/-! ### Takeover (R507–R509) -/

/-- A mirrored ticket as this Keystone takes it: placed, not yet committed. -/
def State.takenOver (s : State) (tid : Nat) (m : MirTicket) : Ticket :=
  let own := s.ownSource m.port m.pconn
  { tid := tid, src := own.getD m.src, port := m.port, pconn := m.pconn, slot := m.slot, stamp := m.stamp, band := s.plumb.band
    reqStart := tickPlus m.start (-(m.shift : Int)), computed := true, start := m.start, shift := m.shift
    dur := s.airTicks m.slot, lead := s.leadTicks m.slot, sets := s.chSets m.slot, primedPlan := m.primedPlan, confirmed := m.confirmed, placed := true
    order := tid, confOrder := if m.confirmed then tid else 0, detached := own.isNone, reserved := m.reserved && !m.confirmed
    hard := m.confirmed && !m.committed
    detail := (if m.shift = 0 then 0 else 4#16) ||| (if m.confirmed && m.slot.kind == .prov then 0x40#16 else 0) |||
      (if m.preempted then 0x80#16 else 0) }
/-- A mirrored plan as this Keystone takes it over in a handover. -/
def State.planTaken (s : State) (m : MirPlan) : Plan :=
  { slot := some m.slot, ch := m.ch, start := m.start, dur := m.dur, primed := m.primed, prov := m.prov
    lead := 4 * s.num (courseP 0x13 m.course) m.ch, ceil := s.num (courseP 0x14 m.course) m.ch
    profile := s.num (courseP 0x12 m.course) m.ch }
/-- R507 step 3: the mirrored unit: courses, fans, averages, moisture, crack index, batch, lot change. -/
def State.takeUnit (s : State) (u : MirUnit) : State :=
  let lot := u.lot.map fun l =>
    ({ bond := .lot, vals := [{ id := 0xB28, elem := 0, raw := l.1.toNat }, { id := 0xB29, elem := 0, raw := l.2.1.toNat }]
       at_ := s.now, name := l.2.2 } : Committed)
  let s := s.takeAverages u
  { s with
    ctl.causes := if u.state == .fault then s.ctl.causes ||| u.causes else s.ctl.causes
    par.committed := lot.toList
    courses := s.courses.mapIdx fun i c =>
      let st := u.courses.getD i .off
      { c with state := if st == .enabling then .off else st, drainAt := s.now, drainVerb := false, dischargeAt := none }
    fld.fans := s.fld.fans.mapIdx fun i f =>
      let x := u.fans.getD i (.stopped, 0)
      { f with state := x.1, attempts := BitVec.ofNat 8 x.2, tries := x.2, relay := x.1 == .running || x.1 == .starting || x.1 == .tachLost, since := s.now }
    plumb.moist := u.moist
    plumb.moistSet := s.plumb.xSet
    plumb.band := u.band
    plumb.bandPrev := u.band
    dry.crack := u.crack
    dry.batch.state := u.batchState
    dry.batch.step := u.batchStep
    dry.batch.since := u.batchSince }
/-- R355, R507 step 3: a loop resumes from its mirrored I, D, y₁ and r₁, and its first sample is a switch. -/
def Loop.resumed (l : Loop) (m : MirLoop) : Loop :=
  { l with
    active := m.active
    y := m.y
    r := m.r
    d := m.d
    i := m.i
    u := m.u
    i1 := m.i1
    i2 := m.i2
    flags := m.flags
    first := false
    switchDue := true
    frozen := false }
/-- R507: the mirrored air buckets; H and S follow the tickets that remain. -/
def Manifold.taken (b : Manifold) (m : MirAir) : Manifold :=
  { b with level := m.level, rhoNum := m.rhoNum, rhoDen := m.rhoDen, held := m.held, hard := 0, soft := 0 }
/-- R507 steps 2 and 3: line sync goes on from the shadow; its drivers are enabled with the first edge 40 ticks on (R494). -/
def State.takeLine (s : State) (u : UnitState) : State :=
  { s with
    sync.running := lineRuns u
    sync.driving := false
    sync.driveAt := if lineRuns u then some (tickPlus s.now (40 : Nat)) else none
    sync.firstDriven := none
    sync.edgeDue := s.sync.edgeDue && lineRuns u }
/-- R507 step 3: the unit state is entered, with the outputs it releases. -/
def State.takeState (s : State) (u : UnitState) : State :=
  let s := (s.enter u).retargetLoops
  if lineRuns u then
    let s := State.settleOutputs { s with fld.released := true }
    if u == .drain then State.zonesDrain { s with ctl.drainAt := s.now } else s
  else s.outputsOff
/-- The mirrored tickets, sources and plans become this Keystone's (R507, R509). -/
def State.takeTickets (s : State) (handover : Bool) : State :=
  let m := s.crown.mirror
  let s := m.rings.foldl (fun s r =>
    match s.ownSource r.port r.pconn with
    | none => s
    | some n => s.updSource n fun q =>
      { q with next := r.next, fresh := r.fresh, gaps := r.gaps, refused := r.refused, overruns := r.overruns, cons := q.prod
               overrun := false, stalled := false }) s
  let first := s.tk.nextTid
  let ts := m.tickets.mapIdx fun i t => s.takenOver (first + i) t
  let plansOf (n : Nat) : List Plan := if handover then (m.plans.filter fun p => p.course = n).map s.planTaken else []
  { s with
    tk.tickets := ts
    tk.nextTid := first + ts.length
    tk.nextOrder := max s.tk.nextOrder (first + ts.length)
    tk.sources := s.tk.sources.mapIdx fun i q =>
      { q with reserved := (ts.filter fun t => !t.detached && t.src = i + 1).length, tallySeen := false }
    courses := s.courses.mapIdx fun i c => { c with plans := plansOf (i + 1) } }
/-- R507 step 4: the outcome that a mirrored ticket ends with at a takeover. -/
def lostOutcome (h : Tick) (handover : Bool) (t : Ticket) : Option Outcome :=
  if !t.confirmed then some .lapsed else if !handover && tickBefore t.start h then some .droppedFailover else none
/-- R507 step 4. -/
def State.endLost (s : State) (handover : Bool) : State :=
  (s.tk.tickets.filterMap fun t => (lostOutcome s.crown.horizon handover t).map fun o => (t.tid, o)).foldl
    (fun s q =>
      let s := if q.2 == .droppedFailover then { s with crown.dropped := s.crown.dropped + 1 } else s
      s.endTicket q.1 q.2) s
/-- R507 step 5 for one course: PLAN for every remaining ticket, and COMMIT where committed; in a handover the course holds
both already. -/
def State.resendPlans (committed : List Nat) (handover : Bool) (s : State) (n : Nat) : State :=
  let s := planSend n (s.rebuild n)
  let due := s.tk.tickets.filter fun t => committed.contains t.tid && t.placed && chuteOf t.slot == n
  let order := sortBy (fun (a b : Ticket) => tickBefore a.start b.start) due
  let (s, x) := order.foldl (fun (a : State × Commits) t =>
    ((a.1.freeAir t).updTicket t.tid fun t => { t with hard := false, reserved := false }).commitTicket { t with hard := false } a.2)
    (s, ({} : Commits))
  let s := if handover then s
    else s.sends (.course n) (maskFrames .commit x.slots ++ x.exts.map fun e => .extend e.1 (roundDiv (e.2 : Int) 4).toNat)
  s.replan n
/-- R509, R201: the rings open, and the next tally reading only sets the starting values. -/
def State.openRings (s : State) : State :=
  { s with tk.sources := s.tk.sources.map fun q => { q with open_ := q.conn.isSome, tallySeen := false } }
/-- R507 step 7: the mirrored journal is the journal, the threaded cartridge is taken, and the journal is replayed. -/
def State.takeJournal (s : State) : State :=
  match s.crown.mirror.journal with
  | none => s
  | some j =>
    let run := (j.frames.getLast?).elim s.led.run fun f => f.2.run
    let s : State := { s with
      led.journal.frames := j.frames.map fun f => { serial := f.1, record := f.2 }
      led.journal.oldest := j.oldest
      led.journal.instance_ := j.instance_
      led.journal.nextSeq := j.nextSeq
      led.journal.lot := j.lot
      led.journal.lotName := j.lotName
      led.journal.sealed := false
      led.serial := j.next
      led.run := run
      led.lots := [{ run := run, line := 0, lot := j.lot }]
      led.replayed := false }
    let s := match s.led.cart with
      | some c =>
        if s.led.link.up && (s.led.threaded || c.instance_ == j.instance_) then
          let st := s.cartState c
          let s : State := { s with led.threaded := true, led.state := st }
          if st == .writable then s.takeCart c else s
        else s
      | none => s
    journalReplay none s
/-- R507: the takeover, and R512's differences for a handover. -/
def State.takeOver (s : State) (handover : Bool) : State :=
  let old := s.crown.gen
  let last := s.crown.epoch
  let u := s.crown.mirror.unit.getD {}
  let committed := (s.crown.mirror.tickets.mapIdx fun i t => (s.tk.nextTid + i, t.committed)).filterMap fun q =>
    if q.2 then some q.1 else none
  let s := s.holdCrown s.nextCrown
  let s := (s.takeUnit u).takeLine u.state
  let s : State := { s with
    dry.loops := s.dry.loops.mapIdx fun i l => (s.crown.mirror.loops[i]?).elim l l.resumed
    air := s.air.mapIdx fun i b => (s.crown.mirror.air[i]?).elim b b.taken }
  let s := (s.takeState u.state).offerCrown
  let s := (s.takeTickets handover).endLost handover
  let s := s.coursesUsed.foldl (State.resendPlans committed handover) s
  let s := (u.courses.zipIdx).foldl (fun s c => if c.1 == .enabling then s.beginEnable (c.2 + 1) else s) s
  let s := s.openRings.event 0x9010 0x0D 0 old.toNat s.crown.gen.toNat last.toNat
  let s := if handover then s.event 0x9011 0x0D 0 s.crown.gen.toNat else s
  let s := s.takeJournal
  { s with crown.mirror := {} }
/-- R518: the MRAM write of the new generation fails: the crown is not taken. -/
def State.crownNotWritten (s : State) : State := (s.holdCause 4).event 0x9031 0x0D 0 1
/-- R495, R497: the notice of an epoch's trailer has come, and no epoch has answered it. -/
def State.noticed (s : State) (e : Epoch) : Bool := s.crown.notices.any fun n => n.1 = e.epoch.toNat % 32
/-- The notice of the epoch's trailer is answered. -/
def State.noticeTaken (s : State) (e : Epoch) : State :=
  { s with crown.notices := s.crown.notices.filter fun n => n.1 != e.epoch.toNat % 32 }
/-- EPOCH_APPLY (R497, R498): the epoch whose trailer's notice has come is judged, whole. The YIELD epoch hands the crown to a SYNCED
standby (R512). -/
def epochApply (e : Epoch) (s : State) : State :=
  if !s.awake || s.ctl.state != .standby || (s.pairConn 0x0C01).isNone || !s.noticed e then s
  else
    let s := s.noticeTaken e
    match s.judgeEpoch e with
    | none => s
    | some false => s.discardEpoch
    | some true =>
      let s := s.applyEpoch e
      if e.kind = 2 && s.crown.synced == .yes then s.takeOver true else s
def execEpochApply (e : Epoch) (s : State) : Res := go (epochApply e s)
/-- R506: both paths have been silent for 2,400 ticks. -/
def State.peerSilent (s : State) : Bool := !s.path1Alive && !s.path2Alive
/-- CROWN_SILENCE_TAKEOVER (R506, R518). -/
def crownSilenceTakeover (mramOk : Bool) (s : State) : State :=
  if s.ctl.state != .standby || !s.peerSilent || !s.on 0xD03 || s.crown.silentNoted then s
  else if s.crown.synced == .yes then
    if mramOk then s.takeOver false else State.crownNotWritten { s with crown.silentNoted := true }
  else State.event { s with crown.silentNoted := true } 0x9031 0x0D 0 0
def execCrownSilenceTakeover (mramOk : Bool) (s : State) : Res := go (crownSilenceTakeover mramOk s)

/-! ### CROWN verbs (R512–R514) -/

/-- CROWN_SHOW. -/
def crownShow (ln : Ln) (s : State) : State :=
  s.verb ln .view fun s =>
    let role := (["SINGLE", "ACTIVE", "STANDBY"] : List String).getD s.roleOrd ""
    let peer := (["NONE", "SILENT", "PATH1", "PATH2", "LIVE"] : List String).getD s.peerOrd ""
    let synced := (["NO", "BASE", "YES"] : List String).getD (syncOrd s.crown.synced) ""
    (s, some (.multi
      ["role " ++ role ++ " generation " ++ natText s.crown.gen.toNat ++ " takes " ++ natText s.crown.takes.toNat,
       "peer " ++ peer ++ " synced " ++ synced,
       "epoch " ++ natText s.crown.epoch.toNat ++ " lag " ++ natText s.crown.lag ++ "us",
       "offset " ++ natText s.clk.delta.toNat]))
def execCrownShow (ln : Ln) (s : State) : Res := go (crownShow ln s)
/-- CROWN_YIELD (R512): it waits for the next cut. -/
def crownYield (ln : Ln) (s : State) : State :=
  s.verb ln .engineer fun s =>
    if !s.inAny [.ready, .run, .drain] || !s.peerSynced then refuse s 301
    else if s.crown.yieldAsked || s.crown.yielding then refuse s 302
    else s.startOp ln .crownYield "yielding" fun s => { s with crown.yieldAsked := true }
def execCrownYield (ln : Ln) (s : State) : Res := go (crownYield ln s)
/-- YIELD_AT_CUT (R512 steps 1–4). -/
def yieldAtCut (s : State) : State :=
  if !s.atCut || !s.crown.yieldAsked || !s.inAny [.ready, .run, .drain] then s
  else
    let s : State := { s with
      crown.yieldAsked := false
      crown.yielding := true
      tk.sources := s.tk.sources.map fun q => { q with open_ := false } }
    let s := s.coursesUsed.foldl (fun s n => s.commitDue n (tickPlus s.now (400 : Nat))) s
    let s := s.cutEpoch 2
    let s := (s.courseLinks ++ [LinkId.field]).foldl (fun s l => s.crownOn (s.crown.gen + 1) 0 true l) s
    State.ledgerHandover { s with crown.yieldAt := some s.now, crown.ledgerHandover := true }
def execYieldAtCut (s : State) : Res := go (yieldAtCut s)
/-- YIELD_TIMEOUT (R513): no course has reported the new generation within 5 ms. -/
def yieldTimeout (s : State) : State :=
  match s.crown.yieldAt with
  | none => s
  | some t =>
    if ticksFrom t s.now < msT 5 then s
    else
      let g := s.crown.gen + 2
      let s : State := { s with
        crown.gen := g
        crown.nvGen := g
        crown.horizon := tickPlus s.now (800 : Nat)
        crown.yielding := false
        crown.yieldAt := none
        crown.ledgerHandover := false }
      let s := (s.offerCrown.openRings).event 0x9012 0x0D 0 g.toNat
      s.finish (· == .crownYield) (.err 601 "standby did not take")
def execYieldTimeout (s : State) : Res := go (yieldTimeout s)
/-- R514: a standby that is not SYNCED takes the crown: HELD, outputs off, rings open as they stand. -/
def State.takeBare (s : State) : State :=
  let s := s.holdCrown s.nextCrown
  let s := (s.outputsOff.enterHeld).offerCrown
  ({ s.openRings with crown.mirror := {} } : State).event 0x9021 0x0D 0 s.crown.gen.toNat
/-- CROWN_TAKE (R514, R518). -/
def crownTake (ln : Ln) (mramOk : Bool) (s : State) : State :=
  s.verb ln .engineer fun s =>
    if s.ctl.state != .standby then refuse s 301
    else if !s.peerSilent then refuse s 301 "peer live"
    else if !mramOk then refuse s.crownNotWritten 601
    else if s.crown.synced == .yes then
      let s := s.takeOver false
      done s (stateText s.ctl.state ++ " generation " ++ natText s.crown.gen.toNat)
    else
      let s := s.takeBare
      done s ("HELD generation " ++ natText s.crown.gen.toNat)
def execCrownTake (ln : Ln) (mramOk : Bool) (s : State) : Res := go (crownTake ln mramOk s)

/-! ### The field bank and the transport (R505) -/

/-- The crown uplink is that of this Keystone, which drives it. -/
def State.drives (s : State) (x : DevCrown) (l : LinkId) : Bool :=
  s.crown.holds && s.ctl.state != .dark && x.gen == s.crown.gen && (s.linkOf l).up
/-- R503 for a device other than a course: a CROWN frame, and whether the device adopts its generation. `alive`: this Keystone
drives the device's crown uplink. -/
def DevCrown.judge (x : DevCrown) (now : Tick) (alive : Bool) (d : Dn) (gen : U32) (handover : Bool) : DevCrown × Bool :=
  let heard : DevCrown := { x with lastRx := x.lastRx.set d.up now }
  if handover then (if x.crownUp == some d.up then { heard with handover := some gen } else heard, false)
  else
    let silent (c : Nat) : Bool := !alive && 2400 < ticksFrom (x.lastRx.getD c 0) now
    let may := x.crownUp.elim true fun c => d.up == c || silent c || x.handover == some gen
    if laterGen x.gen gen && may then ({ heard with gen := gen, crownUp := some d.up, handover := none }, true) else (heard, false)
/-- FIELD_RX_CROWN (R503, R505). -/
def fieldRxCrown (d : Dn) (gen : U32) (handover : Bool) (s : State) : State :=
  { s with fld.crown := (s.fld.crown.judge s.now (s.drives s.fld.crown .field) d gen handover).1 }
def execFieldRxCrown (d : Dn) (gen : U32) (handover : Bool) (s : State) : Res := go (fieldRxCrown d gen handover s)
/-- TRANSPORT_RX_CROWN (R503, R505): a frame on the crown uplink ends its silence, and the transport may write again. -/
def transportRxCrown (d : Dn) (gen : U32) (handover : Bool) (s : State) : State :=
  let x := (s.led.crown.judge s.now (s.drives s.led.crown .ledger) d gen handover).1
  { s with led.crown := x, led.stopped := s.led.stopped && x.crownUp != some d.up }
def execTransportRxCrown (d : Dn) (gen : U32) (handover : Bool) (s : State) : Res := go (transportRxCrown d gen handover s)
/-- The crown uplink of a device has been silent for `n` ticks. -/
def State.crownSilent (s : State) (x : DevCrown) (l : LinkId) (n : Nat) : Bool :=
  !s.drives x l && x.crownUp.elim false fun c => n ≤ ticksFrom (x.lastRx.getD c 0) s.now
/-- FIELD_CROWN_SILENCE (R505): after 10 ms the bank sets its outputs off. -/
def fieldCrownSilence (s : State) : State := if s.crownSilent s.fld.crown .field (msT 10) then { s with fld.bankOff := true } else s
def execFieldCrownSilence (s : State) : Res := go (fieldCrownSilence s)
/-- TRANSPORT_CROWN_SILENCE (R505): after 400 ticks the transport stops writing at a block boundary; the tape stays threaded. -/
def transportCrownSilence (s : State) : State :=
  if s.crownSilent s.led.crown .ledger 400 then { s with led.stopped := true, led.streaming := false } else s
def execTransportCrownSilence (s : State) : Res := go (transportCrownSilence s)

end Sys2Proof.Machine
end

