-- ==== Sys2Proof/Machine/Wake.lean ====
section
/-! DEFINITION. Power-up, the self-test of WAKING and its exits, and the supply collapse (chapters 4, 13 and 16). -/
namespace Sys2Proof.Machine

/-! ### Power-up (R18, R468, Table 4.2) -/

/-- What DARK keeps: NOR and MRAM, the tape in the transport, and the parts with electronics of their own. -/
def State.dormant (s : State) (bus : Nat) : State :=
  let j := s.led.journal
  let ledger : Ledger :=
    { journal := j, serial := s.led.serial, run := s.led.run, lots := [{ run := s.led.run, lot := j.lot }]
      state := if s.led.state == .unloading && !s.led.threaded then .unloading else .empty
      cart := s.led.cart, threaded := s.led.threaded, counter := s.led.counter, crown := s.led.crown, stopped := s.led.stopped
      headsUp := s.led.headsUp }
  let ports : List Port := s.net.ports.map fun p => { module_ := p.module_, rxPower := p.rxPower }
  { clk := { refLocked := true }
    par := { bankA := s.par.bankA, bankB := s.par.bankB, user1 := s.par.user1, user2 := s.par.user2, factory := s.par.factory }
    ctl := { collapses := s.ctl.collapses, bus := bus, supplyA := s.ctl.supplyA, supplyB := s.ctl.supplyB, temp := s.ctl.temp
             coolRun := [true, true, true] }
    devs := s.devs
    rotation := s.rotation
    net := { ports := ports }
    fld := { nodeDevs := s.fld.nodeDevs, crown := s.fld.crown, power := .on }
    led := ledger
    mp := { storeA := s.mp.storeA, storeB := s.mp.storeB, lidOpen := s.mp.lidOpen, lidCount := s.mp.lidCount }
    crown := { nvGen := s.crown.nvGen, gen := s.crown.nvGen }
    evr := { store := s.evr.store, ceiling := s.evr.ceiling, clean := s.evr.clean, storedNext := s.evr.storedNext }
    freeCount := s.freeCount
    pending := s.pending }
/-- R468: a fresh key for every slot from 1 to 6: 128 bits for SEAL, a 256-bit seed for GROUT (Table 14.5). -/
def State.drawKeys (s : State) : State :=
  (List.range 6).foldl (fun s i =>
    (s.updSlot (i + 1) fun k => { k with key := s.randomBytes (if isSeal (i + 1) then 16 else 32) }).drew) s
/-- The configuration comes from bank `k` and counts as accepted. -/
def State.acceptBank (s : State) (k : BankId) (generation : U32) : State :=
  { s with
    par.source := if k == .a then .a else .b
    par.generation := generation
    par.accepted := true
    par.trusted := true }
/-- R119–R121: the configuration of the newer valid bank, cross-checked; else the defaults, not accepted. -/
def State.chooseConfig (s : State) : State :=
  match s.newerBank with
  | none => s.event 0x1040 0 0 2 0
  | some k =>
    let x := s.bank k
    match crossCheck .kept x.recs with
    | some (_, id) => s.event 0x1040 0 0 (bankNum k) id
    | none => (((s.loadRecs .kept x.recs).loadKeys x.recs).noteAbsent x.recs).acceptBank k x.generation
/-- R127: without a sound USER copy the FACTORY values or the CAL defaults are loaded, and the set is not accepted. -/
def State.calFallback (s : State) : State :=
  let src : CalSource := if s.factorySound then .factory else .default
  let t := if s.factorySound then s.loadRecs .cal s.par.factory.recs else s
  State.event { t with par.calSource := src, par.accepted := false, par.trusted := false } 0x1043 0 0 (calSourceOrd src)
/-- R127: the calibration; an invalid FACTORY bank is recorded at every WAKING. -/
def State.chooseCal (s : State) : State :=
  let sound := (s.newerUser).filter fun k => (crossCheck .cal (s.bank k).recs).isNone
  let s := match sound with
    | some k =>
      let x := s.bank k
      { s.loadRecs .cal x.recs with par.calSource := .user, par.calGeneration := x.generation }
    | none => s.calFallback
  if s.bankValid .factory then s else s.event 0x1043 0 0 (calSourceOrd s.par.calSource)
/-- The loops' set indices are taken at once. -/
def State.settleLoops (s : State) : State :=
  (List.range 16).foldl (fun s n =>
    let i := s.newIndices n true
    s.updLoop n fun l => { l with i1 := i.1, i2 := i.2 }) s
/-- The band, the ticket shares and the change counts as they start. -/
def State.settleStart (s : State) : State :=
  let ports := s.net.ports.mapIdx fun i p => { p with ticketUs := s.num (0x198 + i) }
  { s with
    par.counts := []
    plumb.band := s.num 0x385
    plumb.bandPrev := s.num 0x385
    net.ports := ports }
/-- What stands ready from the parameters at WAKING: flight tables (R215), the band (R220), the air buckets (R249, R252), the
zones' limits, the loops' indices (R349), the ports' TICKET windows. -/
def State.settle0 (s : State) : State :=
  let s := (s.buildTables.airAtWaking).noteHeats
  ((List.range 5).foldl (fun s i => s.limitsNow (i + 1)) s).settleLoops.settleStart
/-- An UNLOAD past its completion step is complete (R454). -/
def State.endUnload (s : State) : State := if s.led.state == .unloading then s.eject else s
/-- POWER_UP (Table 4.2): from DARK, at 19.2 V or above; after an image failure only once the supply has fallen below 17.0 V. An
UNLOAD that a collapse found past its completion step ends with the cartridge ejected (R454). -/
def powerUp (p : PowerOn) (s : State) : State :=
  if s.ctl.state != .dark || p.bus < 1920 || s.ctl.imageFail then s
  else
    let s := (((s.dormant p.bus).spoilBanks p.spoiled).checkBanks).drawKeys.enter .waking
    (s.chooseConfig.chooseCal).settle0.endUnload
def execPowerUp (p : PowerOn) (s : State) : Res := go (powerUp p s)

/-! ### The self-test (Table 4.4) -/

/-- Steps 2, 3, 4 and 8 lead to FAULT: the first that failed. -/
def State.faultStep (s : State) (t : SelfTest) : Option Nat :=
  if t.dramBad then some 2
  else if t.mramBad || t.recorderBad then some 3
  else if !s.mp.storeA.valid && !s.mp.storeB.valid then some 4
  else if t.storeBad then some 8
  else none
/-- Step 4 (R468, R484): a copy of the key store that is invalid is rewritten from the other; the lid is read. -/
def State.testKeys (s : State) (lid : Bool) : State :=
  let s := match s.mp.storeA.valid, s.mp.storeB.valid with
    | true, false => State.event { s with mp.storeB := s.mp.storeA } 0x8040 0 0 1
    | false, true => State.event { s with mp.storeA := s.mp.storeB } 0x8040 0 0 0
    | false, false => s.event 0x8041 0 0
    | true, true => s
  if !lid then { s with mp.lidOpen := false }
  else
    let s : State := { s with
      mp.lidCount := if s.mp.lidOpen then s.mp.lidCount else s.mp.lidCount + 1
      mp.lidOpen := true }
    s.event 0x8030 0 0 s.mp.lidCount.toNat
/-- Step 7: a course in use, the field bank or the transport is missing. -/
def State.linkMissing (s : State) (t : SelfTest) : Bool :=
  t.fieldAbsent || !s.fld.link.up || t.ledgerAbsent || !s.led.link.up ||
    s.coursesUsed.any fun n => t.coursesAbsent.contains n || !s.courseUp n
/-- WAKING ends in FAULT with cause [5] (Table 4.7). -/
def State.wakingFault (s : State) (step : Nat) : State := ((s.event 0x1012 0 0 step).setCause 5).goFault 5
/-- Table 4.2: what follows a self-test that gives neither DARK nor FAULT. A peer that holds the crown, or takes it, leaves STANDBY to
this Keystone (R501). With sys.start = READY and nothing amiss the bring-up runs (R148); else the unit is HELD. -/
def State.wakeTo (s : State) (clean : Bool) : State :=
  if !s.takesCrown then s.enterStandby
  else
    let s := s.crownAtWaking
    if clean && s.on 0x012 && s.par.trusted && s.readyRefusal.isNone then s.beginBringup true else s.enterHeld
/-- The self-test is under way: a bring-up or shutdown in WAKING follows it. -/
def State.testing (s : State) : Bool := s.ctl.state == .waking && s.ctl.bringup.isNone && s.ctl.shutdown.isNone
/-- WAKING_END (R146): the self-test ends; the gravest result applies. -/
def wakingEnd (t : SelfTest) (s : State) : State :=
  if !s.testing then s
  else if t.imagesBad then
    { s with
      ctl.state := .dark
      ctl.prev := .waking
      ctl.noImage := true
      ctl.imageFail := true
      raised := []
      made := []
      evr.heldEvents := [] }
  else
    let s := ((s.testKeys t.lidOpen).restoreStore t.recorderBad t.slotsBad).setHoldup t.holdup
    match s.faultStep t with
    | some n => s.wakingFault n
    | none =>
      let missing := s.linkMissing t
      let s := if missing then s.event 0x1012 0 0 7 else s
      s.wakeTo (!missing && s.ctl.holdupOk)
def execWakingEnd (t : SelfTest) (s : State) : Res := go (wakingEnd t s)
/-- WAKING_TIMEOUT (R165): the self-test exceeds 6 s. -/
def wakingTimeout (stage : Nat) (s : State) : State :=
  if s.testing && secT 6 ≤ s.clk.tick.toNat then s.wakingFault stage else s
def execWakingTimeout (stage : Nat) (s : State) : Res := go (wakingTimeout stage s)

/-! ### Supply collapse (R160–R163, R452–R454, R532) -/

/-- R133, R163: the saves that have not begun to write their crc are abandoned; `stepSix`: the one that has NOR has begun. -/
def State.collapseSaves (s : State) (stepSix : Bool) : State :=
  let keep (config : Bool) : Bool := stepSix && s.par.norFirst == some config
  let s := if keep true then s
    else State.finish { s with par.save := none } (· == PendOp.configSave) (.err 301 "aborted")
  let s := if keep false then s
    else State.finish { s with par.calSave := none } (fun o => o == .calSave || o == .calRestore) (.err 301 "aborted")
  { s with par.norFirst := if stepSix then s.par.norFirst else none }
/-- R163, R454: an UNLOAD whose completion step has begun finishes unthreading; every other tape operation is abandoned. -/
def State.collapseTape (s : State) (unthreading : Bool) : State :=
  if s.led.op == .unload && unthreading then
    State.finish { s with led.op := .none, led.threaded := false } (· == .ledgerUnload) (.ok "EMPTY")
  else
    let s := s.abortTape
    let s := if s.led.op == .load then { s with led.state := .empty } else s
    s.endLedgerVerbs (.err 301 "aborted")
/-- R163: the rekeys are abandoned. -/
def State.collapseRekeys (s : State) : State :=
  (List.range 6).foldl (fun (s : State) i => if s.rekeyDue (i + 1) then s.stopRekey (i + 1) else s) s
/-- R163: the sweeps that have not sent their last query are abandoned. -/
def State.collapseSweeps (s : State) : State :=
  ([1, 2] : List Nat).foldl (fun (s : State) r => if s.sweepPast r then s else s.abortSweep r) s
/-- The CONSOLE session ends (R38). -/
def State.endConsole (s : State) : State := { s with sessions := s.sessions.filter fun x => x.idx != 0 }
/-- R163: a pending operation that finishes within the sequence of Table 4.9: a save past step 6 (R133), the rest of which have ended by
here, and a COURSE DISABLE whose boost discharge has begun, since the courses drain. -/
def State.pastStep (s : State) (o : PendOp) : Bool :=
  match o with
  | .configSave | .calSave | .calRestore => true
  | .courseDisable n => (s.course n).dischargeAt.isSome
  | _ => false
/-- COLLAPSE is entered (R139, R144, R161, R163, R452, R532). -/
def State.enterCollapse (s : State) (offSpeed unthreading stepSix : Bool) : State :=
  let s := s.restoreStore false []
  let s : State := { s with
    ctl.collapses := s.ctl.collapses + 1
    ctl.collapseAt := s.now
    ctl.bringup := none
    ctl.shutdown := none
    par.staged := []
    crown.yieldAsked := false
    crown.yielding := false
    crown.yieldAt := none }
  let s := s.event 0x1020 0 0 s.ctl.collapses.toNat
  let s := if s.evr.frozen.isSome then s.thaw else s
  let s := (s.cancelRun.cancelQueued).dropStateVerbs (.err 301 "aborted")
  let s := ((s.collapseSaves stepSix).collapseTape unthreading).collapseRekeys
  let s := (s.collapseSweeps).batchHold
  let s := ((s.endSorting "collapse").ledgerCollapse offSpeed).stopLineSync
  let s := ((s.enter .collapse).retargetLoops).outputsOff
  (s.finish (fun o => !s.pastStep o) (.err 301 "aborted")).endConsole
/-- COLLAPSE_DECLARED (R160, R161): the bus has stayed below 17.0 V for 2 ms. `offSpeed`: the transport does not stream at a speed of
Table 13.3 (R453); `unthreading`: an UNLOAD under way has begun to unthread; `stepSix`: a save has begun to write its crc. -/
def collapseDeclared (offSpeed unthreading stepSix : Bool) (s : State) : State :=
  match s.ctl.belowSince with
  | none => s
  | some t =>
    if !s.awake || s.ctl.state == .collapse || ticksFrom t s.now < msT 2 then s
    else s.enterCollapse offSpeed unthreading stepSix
def execCollapseDeclared (offSpeed unthreading stepSix : Bool) (s : State) : Res :=
  go (collapseDeclared offSpeed unthreading stepSix s)

/-- Every event raised is taken into the ring (R525). -/
def State.takeRaised (s : State) : State := s.raised.foldl State.takeEvent { s with raised := [] }
/-- Every record generated is journalled (Table 13.4). -/
def State.journalMade (s : State) : State := s.made.foldl (fun s _ => recordJournal s) s
/-- Table 4.9, the seal: the recorder is flushed and its header marked CLEAN (R522), the journal is SEALED (R454). A collapse during
WAKING has no ledger step. -/
def State.sealMram (s : State) : State :=
  let s := s.flush
  { s with
    evr.storedNext := if s.evr.mramFailed then s.evr.storedNext else s.evr.next
    evr.clean := !s.evr.mramFailed
    led.journal.sealed := s.led.journal.sealed || (s.ctl.prev != .waking && !s.led.mramFailed) }
/-- R133: a save that has begun its completion step is finished within the hold-up time. -/
def State.finishSaves (s : State) : State :=
  let s := match s.par.save with
    | some w => if s.par.norFirst == some true then s.putBank w.target w.image true else s
    | none => s
  let s := match s.par.calSave with
    | some w => if s.par.norFirst == some false then s.putBank w.target w.image true else s
    | none => s
  { s with par.save := none, par.calSave := none, par.norFirst := none }
/-- COLLAPSE_SEQUENCE_END (R133, R161): the tape has stopped with its heads unloaded, the MRAM is sealed, and the unit is DARK. -/
def collapseSequenceEnd (s : State) : State :=
  if s.ctl.state != .collapse then s
  else
    let s := match s.led.onTape with
      | some a => s.breakOff a false
      | none => s
    let s := (s.takeRaised).journalMade
    let s := s.sealMram.finishSaves
    { s with
      ctl.state := .dark
      ctl.prev := .collapse
      ctl.since := s.now
      ctl.belowSince := none
      sessions := []
      orphans := []
      led.headsUp := true
      led.streaming := false }
def execCollapseSequenceEnd (s : State) : Res := go (collapseSequenceEnd s)

/-! ### Losses of links (R36, R261, Table 1.6) -/

/-- A course-protocol link of the Keystone is lost: Table 1.6. -/
def State.linkLost (s : State) (l : LinkId) : State :=
  match l with
  | .course n => (s.courseLost n).failBringup 601 ("course " ++ natText n ++ " link")
  | .field => s.loseField
  | .ledger => s.loseLedger
/-- PORT_LINK_LOSS (R36): the loss of any port or internal link of Table 1.6. -/
def portLinkLoss (l : LossLink) (s : State) : State :=
  if !s.awake then s
  else match l with
    | .port p => portLinkDown p s
    | .course n => if s.hasCourse n && (s.course n).link.up then s.linkLost (.course n) else s
    | .field => s.loseField
    | .ledger => s.loseLedger
    | .probeRing r => if 1 ≤ r && r ≤ 2 then s.event 0x6030 0x0A r (s.ring r).breakAt else s
def execPortLinkLoss (l : LossLink) (s : State) : Res := go (portLinkLoss l s)
/-- LINK_LANE_DOWN (R261): a direction loses symbol lock, or 8 frames in a row with a bad crc have come: the link is lost, and trains
again from step 1. -/
def linkLaneDown (l : LinkId) (s : State) : State :=
  let x := s.linkOf l
  if !s.awake || !s.hasLink l || !(x.up || x.training) then s
  else (if x.up then s.linkLost l else s).train l
def execLinkLaneDown (l : LinkId) (s : State) : Res := go (linkLaneDown l s)

end Sys2Proof.Machine
end

