-- ==== Sys2Proof/Machine/Show.lean ====
section
/-! DEFINITION. SHOW and HELP (R76, R77): multi-line replies for people; their layout is no part of the interface (R65), only what
they list. -/
namespace Sys2Proof.Machine

/-! ### Parameters listed -/

/-- Every key of a row: its members and elements. -/
def PDesc.keys (d : PDesc) : List PKey :=
  (List.range d.count).flatMap fun f => (List.range (max d.elems 1)).map fun e =>
    { desc := d, id := d.base + d.stride * f, fam := f + 1, elem := e }
/-- A segment of a parameter's own path, given the segment of the row. -/
def segIs (k : PKey) (p : String) (g : Seg) : Bool :=
  match g with
  | .name t => p == t
  | .idx n => if p == "#" then n = k.fam else if p == "@" then n = k.elem else p == natText n
/-- R76: the parameter lies in the subtree. -/
def inSubtree (path : List Seg) (k : PKey) : Bool :=
  path.length ≤ k.desc.path.length && (k.desc.path.zip path).all fun x => segIs k x.1 x.2
/-- The leaves of a subtree, each with its value. -/
def State.leaves (s : State) (path : List Seg) : List String :=
  ((paramTable.flatMap PDesc.keys).filter (inSubtree path)).map fun k => pathText k ++ " " ++ s.getText k

/-- R53, R76: the leaves that a path or an ID names: those of a subtree, or those of one parameter. -/
def State.leavesOf (s : State) (p : PRef) : List String :=
  match p with
  | .path segs => s.leaves segs
  | .id id e =>
    let ks := (paramTable.flatMap PDesc.keys).filter fun k => k.id = id && e.elim true fun i => k.desc.elems != 0 && k.elem = i
    ks.map fun k => pathText k ++ " " ++ s.getText k

/-! ### The subjects -/

/-- A tick as SHOW time prints it (Worked case 2.1). -/
def tickText (t : Tick) : String := "0x" ++ hexText 12 t.toNat
/-- A period with its fraction of 1/256, to two places (Worked case 2.1). -/
def periodText (p : U32) : String :=
  let h := p.toNat * 100 / 256
  natText (h / 100) ++ "." ++ digitsText 2 (h % 100)
/-- SHOW time: the fields of Table 1.3. -/
def State.showTime (s : State) : List String :=
  let p := s.pageNow
  ["tick   " ++ tickText p.tick, "line   " ++ natText p.line.toNat, "edge   " ++ tickText p.edge, "period " ++ periodText p.period,
   "crown  " ++ natText p.crown.toNat]
/-- UP or DOWN. -/
def upText (up : Bool) : String := if up then "UP" else "DOWN"
/-- SHOW partners: each port of Table 1.2 with its link state, and what has identified itself there. -/
def State.showPartners (s : State) : List String :=
  (([1, 2, 3, 4, 5, 6, 7] : List Nat).map fun p => portName p ++ " " ++ upText (s.port p).link) ++
    (List.range 8).map (fun i =>
      let c := s.course (i + 1)
      "COURSE " ++ natText (i + 1) ++ " " ++ upText c.link.up ++ " serial " ++ natText c.identSerial.toNat) ++
    ["FIELD " ++ upText s.fld.link.up, "LEDGER " ++ upText s.led.link.up]
/-- Table 17.2: the lights of the front panel. A light that the table gives no colour is off (assumption 62); the ALARM light flashes. -/
inductive Light where
  | off | green | amber | red
deriving DecidableEq, Repr
/-- PWR. -/
def State.powerLight (s : State) : Light :=
  if s.ctl.state == .dark then .off else if s.ctl.state == .collapse then .red
  else if 1920 ≤ s.ctl.bus && !s.ctl.inputLost.contains true then .green else .amber
/-- STATE. -/
def State.stateLight (s : State) : Light :=
  match s.ctl.state with
  | .run => .green
  | .ready | .drain | .waking | .held => .amber
  | .fault => .red
  | _ => .off
/-- CROWN. -/
def State.crownLight (s : State) : Light :=
  if !s.awake || !s.on 0x003 then .off else if s.crown.holds then .green
  else if s.ctl.state != .standby then .off else if s.crown.synced == .yes then .amber else .red
/-- The ports that are configured: those with a pairing secret (assumption 62). -/
def State.portsUsed (s : State) : List Nat := [1, 2, 3, 4, 5, 6, 7].filter fun p => s.isSet (secretId p)
/-- LINK. -/
def State.linkLight (s : State) : Light :=
  if !s.awake then .off
  else if !s.fld.link.up || s.coursesUsed.any (fun n => !(s.course n).link.up) then .red
  else if !s.led.link.up || s.portsUsed.any (fun p => !(s.port p).link) then .amber else .green
/-- LEDGER. -/
def State.ledgerLight (s : State) : Light :=
  match s.led.state with
  | .empty => .off
  | .writable => .green
  | .loading | .unloading | .closed | .full => .amber
  | .foreign | .fault => .red
/-- ALARM: an ALARM event has been recorded since WAKING. -/
def State.alarmLight (s : State) : Light := if s.ctl.alarmLed then .red else .off
/-- SHOW state (Table 4.10): state, causes, last transition with its tick. -/
def State.showState (s : State) : List String :=
  ["state " ++ stateText s.ctl.state,
   "causes" ++ (numsWhere 7 s.ctl.causes.getLsbD).foldl (fun t i => t ++ " " ++ causeText i) "",
   "from " ++ stateText s.ctl.prev ++ " at " ++ tickText s.ctl.since]
/-- SHOW tickets (Table 5.16): the line-wide counters and each open source. -/
def State.showTickets (s : State) : List String :=
  s.leaves [.name "ticket"] ++ (numsWhere 16 fun i => (s.source (i + 1)).open_).map fun i =>
    let q := s.source (i + 1)
    "source " ++ natText (i + 1) ++ " gaps " ++ natText q.gaps.toNat ++ " refused " ++ natText q.refused.toNat ++ " overruns " ++
      natText q.overruns.toNat
/-- SHOW ring N: both ring windows of ticket source N. -/
def State.showSource (s : State) (n : Nat) : List String :=
  let q := s.source n
  ["source " ++ natText n ++ (if q.open_ then " OPEN" else " CLOSED"),
   "tickets prod " ++ natText q.prod.toNat ++ " cons " ++ natText q.cons.toNat ++ " next " ++ natText q.next.toNat,
   "completions prod " ++ natText q.cprod.toNat ++ " cons " ++ natText q.ccons.toNat]
/-- SHOW ring r: a probe ring. -/
def State.showRing (s : State) (r : Nat) : List String := s.leaves [.name "probe", .idx r]
/-- SHOW plumb N: terms, band and table of chute N. -/
def State.showPlumb (s : State) (n : Nat) : List String :=
  let c := s.chute n
  s.leaves [.name "plumb", .idx n] ++ ["band " ++ natText s.plumb.band] ++
    (List.range 64).map fun i =>
      natText i ++ " t " ++ natText (c.t.getD i 0) ++ " s " ++ natText (c.s.getD i 0) ++ " r " ++ natText (c.r.getD i 0)
/-- The plan slots of a course in use. -/
def planText (p : Plan) : String :=
  "plan ch " ++ natText p.ch ++ " start " ++ tickText p.start ++ " ticks " ++ natText p.dur ++ if p.committed then " COMMITTED" else ""
/-- SHOW course N: state, boost, phases, plans. -/
def State.showCourse (s : State) (n : Nat) : List String :=
  let c := s.course n
  s.leaves [.name "course", .idx n] ++
    ["boost " ++ (if c.last.ready then "READY" else "NOT READY") ++ " " ++ natText c.last.bankV,
     "phases" ++ c.last.phases.foldl (fun t p => t ++ " " ++ natText p) ""] ++ c.plans.map planText
/-- SHOW air N: bucket, pressure, ρ. -/
def State.showAir (s : State) (m : Nat) : List String := s.leaves [.name "air", .idx m]
/-- The names of connection states (R277). -/
def connText : ConnState → String
  | .closed => "CLOSED" | .opening => "OPENING" | .ready => "READY" | .closing => "CLOSING" | .error => "ERROR"
/-- SHOW conns: every connection not CLOSED. -/
def State.showConns (s : State) : List String :=
  (numsWhere 64 fun i => (s.conn i).state != .closed).map fun i =>
    let c := s.conn i
    natText i ++ " " ++ portName c.port ++ " pconn 0x" ++ hexText 4 c.pconn.toNat ++ " " ++ connText c.state
/-- SHOW conn n: state, port, psn, epoch, queues, counters. -/
def State.showConn (s : State) (i : Nat) : List String :=
  let c := s.conn i
  let p := s.port c.port
  [natText i ++ " " ++ connText c.state ++ " " ++ portName c.port,
   "psn tx " ++ natText c.txPsn.toNat ++ " rx " ++ natText c.rxPsn.toNat ++ " epoch " ++ natText c.epoch.toNat,
   "send " ++ natText c.sq.length ++ " receive " ++ natText c.recvFree ++ " completions " ++ natText c.cqCount.toNat,
   "retransmitted " ++ natText c.retx.toNat ++ " drops " ++ natText p.drops.toNat ++ " fcs " ++ natText p.fcs.toNat ++ " authfail " ++
     natText p.authfail.toNat]
/-- SHOW windows: open windows and full keys, of one connection or of all. -/
def State.showWindows (s : State) (conn : Option Nat) : List String :=
  let mine (c : Nat) : Bool := conn.elim true (· == c)
  ((s.net.userWins.filter fun w => mine w.conn).map fun w =>
    "window " ++ natText w.index ++ "." ++ natText w.gen ++ " conn " ++ natText w.conn ++ " base 0x" ++ hexText 8 w.base ++ " length " ++
      natText w.length) ++
    (numsWhere 64 fun i => mine i && (s.conn i).fullOn).map fun i => "full key conn " ++ natText i ++ "." ++ natText (s.conn i).fullGen
/-- The status of a GROUP-DONE (Table 9.4). -/
def doneText : Nat → String
  | 0 => "DONE" | 1 => "BUSY" | _ => "EMPTY"
/-- SHOW group g: settings, members, last GROUP-DONE (Table 9.4). -/
def State.showGroup (s : State) (g : Nat) : List String :=
  let x := s.group g
  s.leaves [.name "port", .name "group", .idx g] ++
    ["members" ++ (numsWhere 64 x.conns.getLsbD).foldl (fun t i => t ++ " " ++ natText i) ""] ++
    x.lastDone.elim [] fun d =>
      ["done gsn " ++ natText d.gsn.toNat ++ " ppsn " ++ natText d.ppsn.toNat ++ " status " ++ doneText d.status,
       "targets 0x" ++ hexText 16 d.targets.toNat ++ " delivered 0x" ++ hexText 16 d.delivered.toNat ++ " uncertain 0x" ++
         hexText 16 d.uncertain.toNat]
/-- SHOW loop n. -/
def State.showLoop (s : State) (n : Nat) : List String :=
  ["loop " ++ natText n ++ " " ++ activeText (s.loop n)] ++ s.leaves [.name "dry", .name "loop", .idx n]
/-- SHOW dryer: the zones and the batch. -/
def State.showDryer (s : State) : List String := s.leaves [.name "dry", .name "zone"] ++ s.leaves [.name "dry", .name "batch"]
/-- SHOW fan N. -/
def State.showFan (s : State) (n : Nat) : List String := s.leaves [.name "fan", .idx n]
/-- SHOW io. -/
def State.showIo (s : State) : List String := s.leaves [.name "io"]
/-- SHOW cartridge: the header's fields, and the last complete sequence number and serial, as far as the headers allow. -/
def State.showCartridge (s : State) : List String :=
  match s.led.cart with
  | none => ["no cartridge"]
  | some c =>
    let full := c.tape.filter complete
    ["instance 0x" ++ hexText 12 c.instance_.toNat ++ " keyid " ++ hexOf c.keyid ++ if c.blank then " BLANK" else "",
     "last sequence " ++ natText ((full.getLast?).elim 0 (·.seq)) ++ " serial " ++
       natText (((full.filter (·.kind == .data)).getLast?).elim 0 fun a => a.serial.toNat + a.recs.length - 1)]
/-- SHOW ledger: state, buffer, speed, counters, the last VERIFY. -/
def State.showLedger (s : State) : List String :=
  let v := s.led.lastVerify
  s.leaves [.name "ledger"] ++
    ["verify sound " ++ natText (v.getD 0 0) ++ " complete " ++ natText (v.getD 1 0) ++ " skipped " ++ natText (v.getD 2 0) ++ " failed " ++
      natText (v.getD 3 0)]
/-- SHOW hardware: supplies, temperatures, fans, modules, hold-up. -/
def State.showHardware (s : State) : List String :=
  s.leaves [.name "sys", .name "supply"] ++ s.leaves [.name "sys", .name "temp"] ++ s.leaves [.name "sys", .name "cool"] ++
    s.leaves [.name "sys", .name "holdup"] ++
    (List.range 7).flatMap fun i => s.leaves [.name "port", .idx (i + 1), .name "module"] ++
      s.leaves [.name "port", .idx (i + 1), .name "rx_power"]

/-- What a subject lists; none when it names no part of the line (401). -/
def State.showLines (s : State) : ShowSubj → Option (List String)
  | .time => some s.showTime
  | .partners => some s.showPartners
  | .state => some s.showState
  | .tickets => some s.showTickets
  | .ring n => if 1 ≤ n && n ≤ 16 then some (s.showSource n ++ if n ≤ 2 then s.showRing n else []) else none
  | .plumb n => if 1 ≤ n && n ≤ 8 then some (s.showPlumb n) else none
  | .course n => if 1 ≤ n && n ≤ 8 then some (s.showCourse n) else none
  | .air n => if 1 ≤ n && n ≤ 8 then some (s.showAir n) else none
  | .conns => some s.showConns
  | .conn n => if n < 64 then some (s.showConn n) else none
  | .windows c => if c.elim true (· < 64) then some (s.showWindows c) else none
  | .group g => if g < 16 then some (s.showGroup g) else none
  | .loop n => if n < 16 then some (s.showLoop n) else none
  | .dryer => some s.showDryer
  | .fan n => if 1 ≤ n && n ≤ 8 then some (s.showFan n) else none
  | .io => some s.showIo
  | .cartridge => some s.showCartridge
  | .ledger => some s.showLedger
  | .hardware => some s.showHardware
  | .subtree p => if (s.leavesOf p).isEmpty then none else some (s.leavesOf p)
/-- R52: the detail of a 401 for what SHOW names. -/
def noSuch : ShowSubj → String
  | .subtree _ => "no such path"
  | _ => ""
/-- SHOW (R52, R53, R65, R76). -/
def showVerb (ln : Ln) (subj : ShowSubj) (s : State) : State :=
  s.verb ln .view fun s =>
    match s.showLines subj with
    | none => refuse s 401 (noSuch subj)
    | some l => (s, some (.multi l))
def execShowCmd (ln : Ln) (subj : ShowSubj) (s : State) : Res := go (showVerb ln subj s)

/-! ### HELP (R77) -/

/-- The name of a class. -/
def className : PClass → String
  | .live => "LIVE" | .kept => "KEPT" | .cal => "CAL" | .fact => "FACT"
/-- A type as HELP writes it. -/
def typeText : PType → String
  | .uint w => "u" ++ natText w
  | .sint w => "s" ++ natText w
  | .enum names => names.foldl (fun t n => t ++ (if t == "" then "enum " else "|") ++ n) ""
  | .fix sg w f => (if sg then "SQ" else "UQ") ++ natText (w - f) ++ "." ++ natText f
  | .str n => "string " ++ natText n
/-- The values a parameter may take, as HELP writes them; a string and an enumeration have their type say it. -/
def State.rangeText (s : State) (k : PKey) : String :=
  let d := k.desc
  match d.typ with
  | .str _ => ""
  | .enum _ => ""
  | _ =>
    if d.base = 0x020 then "range " ++ "|".intercalate (baudRates.map fun b => natText b.toNat)
    else if d.base = 0x302 then "range " ++ s.rawText k 0 ++ " or " ++ s.rawText k 100000 ++ " to " ++ s.rawText k d.hi
    else if d.base = 0x101 then "range " ++ s.rawText k d.lo ++ " to " ++ s.rawText k d.hi ++ " but the EtherTypes of R272"
    else "range " ++ s.rawText k d.lo ++ " to " ++ s.rawText k d.hi
/-- The default of a parameter, as HELP writes it: a string is unset. -/
def State.defaultText (s : State) (k : PKey) : String :=
  match k.desc.typ with
  | .str _ => if k.desc.acc == .ro then "" else "default unset"
  | _ => if k.desc.acc == .ro then "" else "default " ++ s.rawText k k.dflt
/-- HELP of a parameter: ID, type, class, range, default, bond and SET level. -/
def State.helpParam (s : State) (k : PKey) : List String :=
  let d := k.desc
  ([pathText k ++ " 0x" ++ hexText 4 k.id ++ " " ++ typeText d.typ ++ " " ++ className d.cls, s.rangeText k, s.defaultText k,
    "bond " ++ (if k.id = 0x002 then "geometry" else (bondOf k.id).elim "none" bondName),
    if d.acc == .ro then "read-only" else "SET " ++ levelText (setLevel d)] : List String).filter (· != "")
/-- The forms that `HELP <verb>` lists: a verb by all its words, or every verb that begins with the word given. -/
def verbsNamed (v : String) : List (String × String × Level) :=
  verbForms.filter fun f => f.1 == upper v || (upper v ++ " ").isPrefixOf f.1
/-- HELP (R77): the verbs; each form of a verb with its syntax and level; or a parameter's attributes. -/
def help (ln : Ln) (topic : HelpTopic) (s : State) : State :=
  s.verb ln .none fun s =>
    match topic with
    | .all => (s, some (.multi (verbForms.map (·.1))))
    | .verb v =>
      if (verbsNamed v).isEmpty then refuse s 401
      else (s, some (.multi ((verbsNamed v).flatMap fun x => [withContent x.1 x.2.1, "level " ++ levelText x.2.2])))
    | .param p =>
      match resolve p with
      | none => refuse s 401 "no such path"
      | some k => (s, some (.multi (s.helpParam k)))
def execHelp (ln : Ln) (topic : HelpTopic) (s : State) : Res := go (help ln topic s)

end Sys2Proof.Machine
end

