-- ==== Sys2Proof/Machine/Advance.lean ====
section
/-! DEFINITION. One tick of the clock (R18): what happens at a tick whatever is commanded. The table has no command for it; the step
takes it when no command waits (assumption 1). -/
namespace Sys2Proof.Machine

/-- R249: every bucket refills by one tick. -/
def State.refill (s : State) : State := { s with air := s.air.mapIdx fun i b => s.refillStep (i + 1) b }
/-- R20: the accumulator runs 50 clocks of 5 ns; a line is complete when it passes 200,000,000. -/
def State.phaseStep (s : State) : State :=
  if !(s.sync.running || s.sync.shadow) then s
  else
    let p := s.sync.phase.toNat + 50 * s.num 0x200
    { s with
      sync.phase := BitVec.ofNat 48 (p % 200000000)
      sync.edgeDue := s.sync.edgeDue || 200000000 ≤ p }
/-- Table 3.8: a committed geometry.N set takes effect, with its table (R215). -/
def State.geometrySettles (s : State) : State :=
  (List.range 8).foldl (fun s i => if (s.committedOf (.geometry (i + 1))).isSome then s.geometryNow (i + 1) else s) s
/-- R320: at a cycle boundary, every 200 ticks, each port takes its TICKET window. -/
def State.cycleStarts (s : State) : State :=
  if s.now.toNat % 200 != 0 then s
  else { s with net.ports := s.net.ports.mapIdx fun i p => { p with ticketUs := s.num (0x198 + i) } }
/-- R331: the shutdown of a port ends once its connections are CLOSED, or after 2 ms. -/
def State.portsSettle (s : State) : State :=
  (List.range 7).foldl (fun s i =>
    let p := i + 1
    match (s.port p).closingAt with
    | none => s
    | some t => if (s.connsOn p).isEmpty || msT 2 ≤ ticksFrom t s.now then s.portClosed p else s) s
/-- R493: after taking the crown the trim returns towards zero by 0.01 ppm a second. -/
def State.trimStep (s : State) : State :=
  if s.crown.holds && s.now.toNat % 4000000 = 0 then
    { s with clk.trim := if 0 < s.clk.trim then s.clk.trim - 1 else if s.clk.trim < 0 then s.clk.trim + 1 else 0 }
  else s
/-- What is set from here on is set within this tick (R210, R239). -/
def State.tickBegins (s : State) : State := { s with par.before := [] }
/-- The counter counts (R18), and the rotation among the sources moves on (R29). -/
def State.count (s : State) : State := { s with clk.tick := s.clk.tick + 1, rotation := s.rotation + 1 }
/-- R39: the lines at the head of a reply buffer that one SEND holds: whole lines, 1,440 bytes at most. -/
def packLines : Nat → List OutBytes → List Byte × List OutBytes
  | _, [] => ([], [])
  | room, l :: ls =>
    if l.bytes.length ≤ room then
      let p := packLines (room - l.bytes.length) ls
      (l.bytes ++ p.1, p.2)
    else ([], l :: ls)
/-- R39, R91: what a text session is to be sent goes out as a SEND on its connection, which is READY with room in its send queue. -/
def State.sendText1 (s : State) (x : Session) : State :=
  match x.conn with
  | none => s
  | some c =>
    if x.out.isEmpty || !s.isReady c || s.sqFull c then s
    else
      let p := packLines 1440 x.out
      ((s.updSession x.idx fun y => { y with out := p.2 }).postEntry c { op := .send, length := p.1.length, data := p.1 }).settle
/-- Table 2.8: CONSOLE sends ten bits for each byte, at the baud rate that the line was answered under; a changed rate holds for what is
answered in later ticks. -/
def Session.consoleSends (x : Session) (baud : Nat) : Session :=
  match x.out with
  | [] => { x with baud := baud, txPhase := 0 }
  | o :: os =>
    let ph := x.txPhase + o.baud
    if ph < 40000000 then { x with baud := baud, txPhase := ph }
    else { x with
      baud := baud
      txPhase := ph - 40000000
      out := if o.bytes.length ≤ 1 then os else { o with bytes := o.bytes.tail } :: os }
/-- The replies leave their sessions (R39, R91, Table 2.8). -/
def State.repliesLeave (s : State) : State :=
  (s.sessions.foldl State.sendText1 s).updSession 0 (·.consoleSends (s.num 0x020))
/-- The read-only scalars of the parameter page that are numbers: their IDs, in the order of the table. -/
def readOnlyIds : List Nat :=
  (paramTable.filter fun d => d.acc == .ro && d.elems == 0 && !isText d).flatMap fun d =>
    (List.range d.count).map fun m => d.base + d.stride * m
/-- R100: a change of a read-only scalar's value counts; changes within one tick count once (assumption 26). -/
def State.countLive (s : State) : State :=
  let vals := readOnlyIds.map fun id => s.live id 0
  let moved := ((readOnlyIds.zip (s.par.seen.zip vals)).filter fun p => p.2.1 != p.2.2).map (·.1)
  { s with par.seen := vals, par.counts := moved.foldl (fun l id => bumpCount id l) s.par.counts }
/-- One tick. In DARK nothing runs. -/
def State.tickOn (s : State) : State :=
  if !s.awake then s
  else
    let s := s.count.refill.outsFall.phaseStep.geometrySettles.tickBegins
    let s := s.cycleStarts.portsSettle.trimStep.pulses.repointerTick
    s.advanceBringup.echoesAgain.revokesEnd.repliesLeave.countLive

end Sys2Proof.Machine
end

