-- ==== Sys2Proof/Machine/Dispatch.lean ====
section
/-! DEFINITION. The dispatch of a command to its meaning, one arm per constructor of `Instr`. -/
namespace Sys2Proof.Machine

/-- The effect of a command on everything but the queue. -/
def exec (i : Instr) (s : State) : Host.Outcome State Fault Refusal :=
  match i with
  -- Power and clock (chapters 1, 4)
  | .powerUp bus => Sys2Proof.Machine.execPowerUp bus s
  | .wakingEnd t => Sys2Proof.Machine.execWakingEnd t s
  | .wakingTimeout stage => Sys2Proof.Machine.execWakingTimeout stage s
  | .journalReplay bad => Sys2Proof.Machine.execJournalReplay bad s
  | .lineSyncEdge => Sys2Proof.Machine.execLineSyncEdge s
  | .timePageUpdate => Sys2Proof.Machine.execTimePageUpdate s
  | .clockLockLoss => Sys2Proof.Machine.execClockLockLoss s
  | .portLinkLoss l => Sys2Proof.Machine.execPortLinkLoss l s
  -- Fjart (chapter 2)
  | .consoleChar b err => Sys2Proof.Machine.execConsoleChar b err s
  | .consoleBreak => Sys2Proof.Machine.execConsoleBreak s
  | .fjartLineRefused ses text => Sys2Proof.Machine.execFjartLineRefused ses text s
  | .tagRepeat ses text => Sys2Proof.Machine.execTagRepeat ses text s
  | .unsolicitedLineSend ses => Sys2Proof.Machine.execUnsolicitedLineSend ses s
  | .suppressionLine ses => Sys2Proof.Machine.execSuppressionLine ses s
  | .consoleIdleLogout => Sys2Proof.Machine.execConsoleIdleLogout s
  | .loginLockoutEnd ses => Sys2Proof.Machine.execLoginLockoutEnd ses s
  | .get ln ps => Sys2Proof.Machine.execGet ln ps s
  | .set ln ps => Sys2Proof.Machine.execSet ln ps s
  | .showCmd ln subj => Sys2Proof.Machine.execShowCmd ln subj s
  | .help ln topic => Sys2Proof.Machine.execHelp ln topic s
  | .mode ln m => Sys2Proof.Machine.execMode ln m s
  | .modeEvents ln l => Sys2Proof.Machine.execModeEvents ln l s
  | .login ln lv who => Sys2Proof.Machine.execLogin ln lv who s
  | .loginResponse ln resp => Sys2Proof.Machine.execLoginResponse ln resp s
  | .logout ln => Sys2Proof.Machine.execLogout ln s
  -- Parameters, bonds, banks (chapter 3)
  | .bondCommit ln b => Sys2Proof.Machine.execBondCommit ln b s
  | .bondDiscard ln b => Sys2Proof.Machine.execBondDiscard ln b s
  | .bondShow ln b => Sys2Proof.Machine.execBondShow ln b s
  | .bondEffect b => Sys2Proof.Machine.execBondEffect b s
  | .configSave ln => Sys2Proof.Machine.execConfigSave ln s
  | .configSaveAbort ln stepSix => Sys2Proof.Machine.execConfigSaveAbort ln stepSix s
  | .configSaveComplete r => Sys2Proof.Machine.execConfigSaveComplete r s
  | .configLoad ln src => Sys2Proof.Machine.execConfigLoad ln src s
  | .configAccept ln => Sys2Proof.Machine.execConfigAccept ln s
  | .configDiff ln src => Sys2Proof.Machine.execConfigDiff ln src s
  | .calShow ln p => Sys2Proof.Machine.execCalShow ln p s
  | .calSet ln ps => Sys2Proof.Machine.execCalSet ln ps s
  | .calSave ln => Sys2Proof.Machine.execCalSave ln s
  | .calSaveComplete r => Sys2Proof.Machine.execCalSaveComplete r s
  | .calRestoreFactory ln => Sys2Proof.Machine.execCalRestoreFactory ln s
  | .calRestoreConfirm ln word => Sys2Proof.Machine.execCalRestoreConfirm ln word s
  | .setRequest conn block => Sys2Proof.Machine.execSetRequest conn block s
  | .setRequestExec conn => Sys2Proof.Machine.execSetRequestExec conn s
  -- Unit states and supply (chapter 4)
  | .stateReady ln => Sys2Proof.Machine.execStateReady ln s
  | .stateRun ln => Sys2Proof.Machine.execStateRun ln s
  | .stateDrain ln => Sys2Proof.Machine.execStateDrain ln s
  | .stateHold ln => Sys2Proof.Machine.execStateHold ln s
  | .bringupComplete => Sys2Proof.Machine.execBringupComplete s
  | .bringupStepTimeout => Sys2Proof.Machine.execBringupStepTimeout s
  | .shutdownComplete => Sys2Proof.Machine.execShutdownComplete s
  | .shutdownStepTimeout => Sys2Proof.Machine.execShutdownStepTimeout s
  | .drainComplete => Sys2Proof.Machine.execDrainComplete s
  | .drainLimit => Sys2Proof.Machine.execDrainLimit s
  | .supplyBelowCollapse bus => Sys2Proof.Machine.execSupplyBelowCollapse bus s
  | .supplyDipEnd low bus => Sys2Proof.Machine.execSupplyDipEnd low bus s
  | .supplyLow bus => Sys2Proof.Machine.execSupplyLow bus s
  | .collapseDeclared offSpeed unthreading stepSix => Sys2Proof.Machine.execCollapseDeclared offSpeed unthreading stepSix s
  | .collapseSequenceEnd => Sys2Proof.Machine.execCollapseSequenceEnd s
  | .holdupMeasure pct => Sys2Proof.Machine.execHoldupMeasure pct s
  -- Tickets (chapter 5)
  | .ticketProdWrite src prod => Sys2Proof.Machine.execTicketProdWrite src prod s
  | .ticketProv src => Sys2Proof.Machine.execTicketProv src s
  | .ticketFirm src => Sys2Proof.Machine.execTicketFirm src s
  | .ticketConf src => Sys2Proof.Machine.execTicketConf src s
  | .ticketCancel src => Sys2Proof.Machine.execTicketCancel src s
  | .commitTick course => Sys2Proof.Machine.execCommitTick course s
  | .completionCconsWrite src ccons => Sys2Proof.Machine.execCompletionCconsWrite src ccons s
  | .ticketForget => Sys2Proof.Machine.execTicketForget s
  | .tallyRead => Sys2Proof.Machine.execTallyRead s
  | .recipeReport src => Sys2Proof.Machine.execRecipeReport src s
  -- Plumb model (chapter 6)
  | .moistureUpdate => Sys2Proof.Machine.execMoistureUpdate s
  | .outletAvgMissing => Sys2Proof.Machine.execOutletAvgMissing s
  | .courseLearn ln n src => Sys2Proof.Machine.execCourseLearn ln n src s
  | .courseLearnStop ln n => Sys2Proof.Machine.execCourseLearnStop ln n s
  | .learnResultRead n tid => Sys2Proof.Machine.execLearnResultRead n tid s
  | .learnLimit n => Sys2Proof.Machine.execLearnLimit n s
  -- Courses: the Keystone's side (chapter 7)
  | .courseEnable ln n => Sys2Proof.Machine.execCourseEnable ln n s
  | .courseEnableComplete n => Sys2Proof.Machine.execCourseEnableComplete n s
  | .courseDisable ln n => Sys2Proof.Machine.execCourseDisable ln n s
  | .courseDisableAbort ln n => Sys2Proof.Machine.execCourseDisableAbort ln n s
  | .courseDrainComplete n => Sys2Proof.Machine.execCourseDrainComplete n s
  | .courseTest ln n ch dur count period => Sys2Proof.Machine.execCourseTest ln n ch dur count period s
  | .courseTestComplete n => Sys2Proof.Machine.execCourseTestComplete n s
  | .linkTrain l => Sys2Proof.Machine.execLinkTrain l s
  | .linkLaneDown l => Sys2Proof.Machine.execLinkLaneDown l s
  | .courseSyncSend l => Sys2Proof.Machine.execCourseSyncSend l s
  | .planSend n => Sys2Proof.Machine.execPlanSend n s
  | .commitResend n => Sys2Proof.Machine.execCommitResend n s
  | .courseDownlinkResend l => Sys2Proof.Machine.execCourseDownlinkResend l s
  | .courseStatus up f => Sys2Proof.Machine.execCourseStatus up f s
  | .courseEnd up f => Sys2Proof.Machine.execCourseEnd up f s
  | .courseAck l seq => Sys2Proof.Machine.execCourseAck l seq s
  | .courseReadback l addr ws => Sys2Proof.Machine.execCourseReadback l addr ws s
  | .courseEchoReply l num clocks => Sys2Proof.Machine.execCourseEchoReply l num clocks s
  -- Courses: the course's side (chapter 7)
  | .courseRxSync d t => Sys2Proof.Machine.execCourseRxSync d t s
  | .courseRxConfig d addr ws => Sys2Proof.Machine.execCourseRxConfig d addr ws s
  | .courseRxQuery d addr groups => Sys2Proof.Machine.execCourseRxQuery d addr groups s
  | .courseRxEcho d t clk num => Sys2Proof.Machine.execCourseRxEcho d t clk num s
  | .courseRxEnable d => Sys2Proof.Machine.execCourseRxEnable d s
  | .courseRxDrain d abort => Sys2Proof.Machine.execCourseRxDrain d abort s
  | .courseRxPlan d p => Sys2Proof.Machine.execCourseRxPlan d p s
  | .courseRxConfirm d bank mask => Sys2Proof.Machine.execCourseRxConfirm d bank mask s
  | .courseRxCommit d bank mask => Sys2Proof.Machine.execCourseRxCommit d bank mask s
  | .courseRxDrop d bank mask => Sys2Proof.Machine.execCourseRxDrop d bank mask s
  | .courseRxExtend d slot dur => Sys2Proof.Machine.execCourseRxExtend d slot dur s
  | .courseRxCrown d gen horizon handover => Sys2Proof.Machine.execCourseRxCrown d gen horizon handover s
  | .courseRxIdle d => Sys2Proof.Machine.execCourseRxIdle d s
  | .courseStatusSend n => Sys2Proof.Machine.execCourseStatusSend n s
  | .coursePrimeStart n ch => Sys2Proof.Machine.execCoursePrimeStart n ch s
  | .coursePeakStart n ch reached => Sys2Proof.Machine.execCoursePeakStart n ch reached s
  | .coursePeakEnd n ch peak => Sys2Proof.Machine.execCoursePeakEnd n ch peak s
  | .courseReleaseStart n ch => Sys2Proof.Machine.execCourseReleaseStart n ch s
  | .boostPhaseFault n phase sense => Sys2Proof.Machine.execBoostPhaseFault n phase sense s
  | .boostOvervoltage n => Sys2Proof.Machine.execBoostOvervoltage n s
  | .courseFieldSupplyLow n v => Sys2Proof.Machine.execCourseFieldSupplyLow n v s
  | .courseFieldSupplyLoss n v => Sys2Proof.Machine.execCourseFieldSupplyLoss n v s
  | .courseUplinkSilence n => Sys2Proof.Machine.execCourseUplinkSilence n s
  | .courseOrphanDrain n => Sys2Proof.Machine.execCourseOrphanDrain n s
  | .courseLinkLoss n => Sys2Proof.Machine.execCourseLinkLoss n s
  -- Air (chapter 7)
  | .airPressureSample m => Sys2Proof.Machine.execAirPressureSample m s
  | .airQuietWindow m => Sys2Proof.Machine.execAirQuietWindow m s
  | .airHoldRelease m => Sys2Proof.Machine.execAirHoldRelease m s
  -- Ramalink connections (chapter 8)
  | .rlConnect port f => Sys2Proof.Machine.execRlConnect port f s
  | .connectTimeout conn => Sys2Proof.Machine.execConnectTimeout conn s
  | .rlWrite h data => Sys2Proof.Machine.execRlWrite h data s
  | .rlWriteWithNotice h data => Sys2Proof.Machine.execRlWriteWithNotice h data s
  | .rlReadReq h data => Sys2Proof.Machine.execRlReadReq h data s
  | .rlReadResp h data => Sys2Proof.Machine.execRlReadResp h data s
  | .rlSend h data => Sys2Proof.Machine.execRlSend h data s
  | .rlAtomicAdd h data => Sys2Proof.Machine.execRlAtomicAdd h data s
  | .rlAtomicResp h data => Sys2Proof.Machine.execRlAtomicResp h data s
  | .rlAck h => Sys2Proof.Machine.execRlAck h s
  | .rlNak h data => Sys2Proof.Machine.execRlNak h data s
  | .rlRekey h data => Sys2Proof.Machine.execRlRekey h data s
  | .rlRekeyAck h data => Sys2Proof.Machine.execRlRekeyAck h data s
  | .rlRekeyReq h data => Sys2Proof.Machine.execRlRekeyReq h data s
  | .rlDisconnect h data => Sys2Proof.Machine.execRlDisconnect h data s
  | .rlAuthFail port fcs => Sys2Proof.Machine.execRlAuthFail port fcs s
  | .rlStaleFrame port dconn => Sys2Proof.Machine.execRlStaleFrame port dconn s
  | .retransmitTimeout conn => Sys2Proof.Machine.execRetransmitTimeout conn s
  | .rnrResend conn => Sys2Proof.Machine.execRnrResend conn s
  | .keepalive conn => Sys2Proof.Machine.execKeepalive conn s
  | .connSilence conn => Sys2Proof.Machine.execConnSilence conn s
  | .portLinkDown port => Sys2Proof.Machine.execPortLinkDown port s
  | .portLinkUp port => Sys2Proof.Machine.execPortLinkUp port s
  | .connFlushDone conn => Sys2Proof.Machine.execConnFlushDone conn s
  | .rekeyPeriod conn => Sys2Proof.Machine.execRekeyPeriod conn s
  | .oldEpochExpire conn => Sys2Proof.Machine.execOldEpochExpire conn s
  | .egressGrant port => Sys2Proof.Machine.execEgressGrant port s
  | .egressGuardFault port => Sys2Proof.Machine.execEgressGuardFault port s
  | .workEntryPost conn w => Sys2Proof.Machine.execWorkEntryPost conn w s
  | .sfpModuleChange port m power => Sys2Proof.Machine.execSfpModuleChange port m power s
  | .rngHealthFail => Sys2Proof.Machine.execRngHealthFail s
  -- Ramalink windows and groups (chapter 9)
  | .windowOpen ln conn off len perm ticket => Sys2Proof.Machine.execWindowOpen ln conn off len perm ticket s
  | .windowOpenFull ln conn => Sys2Proof.Machine.execWindowOpenFull ln conn s
  | .windowRevoke ln conn index => Sys2Proof.Machine.execWindowRevoke ln conn index s
  | .windowRevokeFull ln conn => Sys2Proof.Machine.execWindowRevokeFull ln conn s
  | .rlGroupPost h g data => Sys2Proof.Machine.execRlGroupPost h g data s
  | .rlGroupResult h data => Sys2Proof.Machine.execRlGroupResult h data s
  | .groupRetry g => Sys2Proof.Machine.execGroupRetry g s
  | .groupTimeout g gsn => Sys2Proof.Machine.execGroupTimeout g gsn s
  | .groupMode ln g m => Sys2Proof.Machine.execGroupMode ln g m s
  | .groupAdd ln g m => Sys2Proof.Machine.execGroupAdd ln g m s
  | .groupRemove ln g m => Sys2Proof.Machine.execGroupRemove ln g m s
  | .groupPostPorts ln g ports => Sys2Proof.Machine.execGroupPostPorts ln g ports s
  | .groupTimeoutSet ln g ms => Sys2Proof.Machine.execGroupTimeoutSet ln g ms s
  | .groupClass ln g ticket => Sys2Proof.Machine.execGroupClass ln g ticket s
  | .groupSend ln g msg => Sys2Proof.Machine.execGroupSend ln g msg s
  | .linkShow ln port => Sys2Proof.Machine.execLinkShow ln port s
  | .linkReset ln port => Sys2Proof.Machine.execLinkReset ln port s
  | .linkResetOff ln port => Sys2Proof.Machine.execLinkResetOff ln port s
  | .linkResetTimeout port => Sys2Proof.Machine.execLinkResetTimeout port s
  -- Conditioning (chapter 10)
  | .loopSample n => Sys2Proof.Machine.execLoopSample n s
  | .crackUpdate => Sys2Proof.Machine.execCrackUpdate s
  | .loopInputBadTime n => Sys2Proof.Machine.execLoopInputBadTime n s
  | .zonePurgeEnd z => Sys2Proof.Machine.execZonePurgeEnd z s
  | .batchStepLimit => Sys2Proof.Machine.execBatchStepLimit s
  | .loopMode ln n auto value => Sys2Proof.Machine.execLoopMode ln n auto value s
  | .loopOff ln n => Sys2Proof.Machine.execLoopOff ln n s
  | .loopOffRampDone n => Sys2Proof.Machine.execLoopOffRampDone n s
  | .loopFlags ln n => Sys2Proof.Machine.execLoopFlags ln n s
  | .loopBatchStart ln => Sys2Proof.Machine.execLoopBatchStart ln s
  | .loopBatchNext ln => Sys2Proof.Machine.execLoopBatchNext ln s
  | .loopBatchHold ln => Sys2Proof.Machine.execLoopBatchHold ln s
  | .loopBatchResume ln => Sys2Proof.Machine.execLoopBatchResume ln s
  | .loopBatchAbort ln => Sys2Proof.Machine.execLoopBatchAbort ln s
  -- Field bank, fans, probe rings (chapter 11)
  | .fieldCycle inp => Sys2Proof.Machine.execFieldCycle inp s
  | .diSample levels => Sys2Proof.Machine.execDiSample levels s
  | .readbackMismatch dig ch => Sys2Proof.Machine.execReadbackMismatch dig ch s
  | .doCurrentLimit ch => Sys2Proof.Machine.execDoCurrentLimit ch s
  | .fieldFaultBit set => Sys2Proof.Machine.execFieldFaultBit set s
  | .fieldLinkLoss => Sys2Proof.Machine.execFieldLinkLoss s
  | .fieldPhantomLimit => Sys2Proof.Machine.execFieldPhantomLimit s
  | .fieldPhantomRetry => Sys2Proof.Machine.execFieldPhantomRetry s
  | .tachEdge n at_ => Sys2Proof.Machine.execTachEdge n at_ s
  | .fanStart ln n speed => Sys2Proof.Machine.execFanStart ln n speed s
  | .fanStartWindowEnd n => Sys2Proof.Machine.execFanStartWindowEnd n s
  | .fanRetryWaitEnd n => Sys2Proof.Machine.execFanRetryWaitEnd n s
  | .fanStop ln n => Sys2Proof.Machine.execFanStop ln n s
  | .fanCoastTimeout n => Sys2Proof.Machine.execFanCoastTimeout n s
  | .fanReset ln n => Sys2Proof.Machine.execFanReset ln n s
  | .probeSweepStart r => Sys2Proof.Machine.execProbeSweepStart r s
  | .probeMeasureWaitEnd r => Sys2Proof.Machine.execProbeMeasureWaitEnd r s
  | .probeSlotEnd r => Sys2Proof.Machine.execProbeSlotEnd r s
  | .probeReply r f => Sys2Proof.Machine.execProbeReply r f s
  | .probeRunStop ln r => Sys2Proof.Machine.execProbeRunStop ln r s
  | .probeNodeRead r pos fromRet f => Sys2Proof.Machine.execProbeNodeRead r pos fromRet f s
  | .probeNodeMeasure r pos fromRet f => Sys2Proof.Machine.execProbeNodeMeasure r pos fromRet f s
  | .probeNodeReplyForward r pos toRet f => Sys2Proof.Machine.execProbeNodeReplyForward r pos toRet f s
  | .probeConversionDone r pos c => Sys2Proof.Machine.execProbeConversionDone r pos c s
  -- Ledger (chapters 12, 13)
  | .recordJournal => Sys2Proof.Machine.execRecordJournal s
  | .stagingPage => Sys2Proof.Machine.execStagingPage s
  | .ledgerFlushTimer => Sys2Proof.Machine.execLedgerFlushTimer s
  | .tapeStart => Sys2Proof.Machine.execTapeStart s
  | .ashlarWriteEnd trailers => Sys2Proof.Machine.execAshlarWriteEnd trailers s
  | .blockReadback read ch => Sys2Proof.Machine.execBlockReadback read ch s
  | .ashlarVerified trailers rowsOk => Sys2Proof.Machine.execAshlarVerified trailers rowsOk s
  | .lotChangeEffect => Sys2Proof.Machine.execLotChangeEffect s
  | .cartridgeInserted c => Sys2Proof.Machine.execCartridgeInserted c s
  | .ledgerLoad ln => Sys2Proof.Machine.execLedgerLoad ln s
  | .ledgerLoadDone threaded verified => Sys2Proof.Machine.execLedgerLoadDone threaded verified s
  | .ledgerUnload ln close => Sys2Proof.Machine.execLedgerUnload ln close s
  | .ledgerUnloadDone => Sys2Proof.Machine.execLedgerUnloadDone s
  | .ledgerSeek ln t => Sys2Proof.Machine.execLedgerSeek ln t s
  | .ledgerSeekDone ok => Sys2Proof.Machine.execLedgerSeekDone ok s
  | .ledgerVerify ln first last => Sys2Proof.Machine.execLedgerVerify ln first last s
  | .ledgerVerifyDone => Sys2Proof.Machine.execLedgerVerifyDone s
  | .ledgerReplay ln serial count off len => Sys2Proof.Machine.execLedgerReplay ln serial count off len s
  | .ledgerReplayDone => Sys2Proof.Machine.execLedgerReplayDone s
  | .ledgerAbort ln completion => Sys2Proof.Machine.execLedgerAbort ln completion s
  | .ledgerLinkLoss => Sys2Proof.Machine.execLedgerLinkLoss s
  | .transportFault why => Sys2Proof.Machine.execTransportFault why s
  | .transportSupplyCollapse => Sys2Proof.Machine.execTransportSupplyCollapse s
  | .journalMramFail => Sys2Proof.Machine.execJournalMramFail s
  -- Memory protection (chapter 14)
  | .sealRead who key addr len altered => Sys2Proof.Machine.execSealRead who key addr len altered s
  | .sealWrite who key addr data altered => Sys2Proof.Machine.execSealWrite who key addr data altered s
  | .heldWriteTimeout => Sys2Proof.Machine.execHeldWriteTimeout s
  | .groutAccess key addr wr len => Sys2Proof.Machine.execGroutAccess key addr wr len s
  | .wrongKeyAccess who key addr => Sys2Proof.Machine.execWrongKeyAccess who key addr s
  | .eccUncorrectable who addr => Sys2Proof.Machine.execEccUncorrectable who addr s
  | .rekeyPeriodExpire slot => Sys2Proof.Machine.execRekeyPeriodExpire slot s
  | .rekeyBegin => Sys2Proof.Machine.execRekeyBegin s
  | .rekeyRngRetry => Sys2Proof.Machine.execRekeyRngRetry s
  | .repointLine altered => Sys2Proof.Machine.execRepointLine altered s
  | .sealShow ln slot => Sys2Proof.Machine.execSealShow ln slot s
  | .sealShowLedger ln => Sys2Proof.Machine.execSealShowLedger ln s
  | .sealRekey ln slot => Sys2Proof.Machine.execSealRekey ln slot s
  | .sealRekeyAbort ln slot => Sys2Proof.Machine.execSealRekeyAbort ln slot s
  | .sealRekeyClear ln slot => Sys2Proof.Machine.execSealRekeyClear ln slot s
  | .sealRekeyLedger ln => Sys2Proof.Machine.execSealRekeyLedger ln s
  | .sealRekeyLedgerImport ln wrapped => Sys2Proof.Machine.execSealRekeyLedgerImport ln wrapped s
  | .lidSwitch open_ => Sys2Proof.Machine.execLidSwitch open_ s
  | .jtagInstruction ir => Sys2Proof.Machine.execJtagInstruction ir s
  | .debugAccessBlocked engine addr wr => Sys2Proof.Machine.execDebugAccessBlocked engine addr wr s
  | .sealEngineFail => Sys2Proof.Machine.execSealEngineFail s
  -- Standby and the crown (chapter 15)
  | .heartbeatSend => Sys2Proof.Machine.execHeartbeatSend s
  | .heartbeatReceive b => Sys2Proof.Machine.execHeartbeatReceive b s
  | .epochCut => Sys2Proof.Machine.execEpochCut s
  | .epochApply e => Sys2Proof.Machine.execEpochApply e s
  | .crownSilenceTakeover mramOk => Sys2Proof.Machine.execCrownSilenceTakeover mramOk s
  | .crownResend n => Sys2Proof.Machine.execCrownResend n s
  | .lineSyncRelease => Sys2Proof.Machine.execLineSyncRelease s
  | .fieldCrownSilence => Sys2Proof.Machine.execFieldCrownSilence s
  | .transportCrownSilence => Sys2Proof.Machine.execTransportCrownSilence s
  | .crownShow ln => Sys2Proof.Machine.execCrownShow ln s
  | .crownYield ln => Sys2Proof.Machine.execCrownYield ln s
  | .yieldAtCut => Sys2Proof.Machine.execYieldAtCut s
  | .yieldTimeout => Sys2Proof.Machine.execYieldTimeout s
  | .crownTake ln mramOk => Sys2Proof.Machine.execCrownTake ln mramOk s
  | .peerLinkLoss => Sys2Proof.Machine.execPeerLinkLoss s
  -- Event recorder (chapter 16)
  | .eventRecord => Sys2Proof.Machine.execEventRecord s
  | .evFlush => Sys2Proof.Machine.execEvFlush s
  | .evRead ln start count min => Sys2Proof.Machine.execEvRead ln start count min s
  | .evFreeze ln => Sys2Proof.Machine.execEvFreeze ln s
  | .evThaw ln => Sys2Proof.Machine.execEvThaw ln s
  | .evAutoThaw => Sys2Proof.Machine.execEvAutoThaw s
  | .evClear ln range => Sys2Proof.Machine.execEvClear ln range s
  | .evMramFail ceiling => Sys2Proof.Machine.execEvMramFail ceiling s
  -- Environment (chapter 17) and rows added later
  | .coolingFanStop fan => Sys2Proof.Machine.execCoolingFanStop fan s
  | .overTemperature t => Sys2Proof.Machine.execOverTemperature t s
  | .supplyInputLost b => Sys2Proof.Machine.execSupplyInputLost b s
  | .supplyInputRestored b => Sys2Proof.Machine.execSupplyInputRestored b s
  | .referenceClockLock => Sys2Proof.Machine.execReferenceClockLock s
  | .rlAccept port f => Sys2Proof.Machine.execRlAccept port f s
  | .rlRefuse port dconn reason macOk => Sys2Proof.Machine.execRlRefuse port dconn reason macOk s
  | .peerConnectRetry conn => Sys2Proof.Machine.execPeerConnectRetry conn s
  | .keyStoreWriteComplete ok => Sys2Proof.Machine.execKeyStoreWriteComplete ok s
  | .conditionRecord => Sys2Proof.Machine.execConditionRecord s
  | .courseFieldSupplyReturn n v => Sys2Proof.Machine.execCourseFieldSupplyReturn n v s
  | .fieldRxCrown d gen handover => Sys2Proof.Machine.execFieldRxCrown d gen handover s
  | .transportRxCrown d gen handover => Sys2Proof.Machine.execTransportRxCrown d gen handover s
  | .randomSourceRecovered => Sys2Proof.Machine.execRandomSourceRecovered s
  | .cartridgeRemoved => Sys2Proof.Machine.execCartridgeRemoved s

end Sys2Proof.Machine
end

