-- ==== Sys2Proof/Machine/Step.lean ====
section
/-! DEFINITION. One step: the command at the front of the queue, or a tick when none waits. -/
namespace Sys2Proof.Machine

/-- The step: the command at the front of the queue runs on the state with the queue's rest; on an empty queue the clock advances
by one tick (assumption 1). -/
def step (s : State) : Host.Outcome State Fault Refusal :=
  match s.pending with
  | [] => .next s.tickOn
  | c :: rest => exec c { s with pending := rest }

/-- The state with the command that a word spells at the front of its queue. The table gives no row any bits, so no word spells
a command, and the state stands. -/
def State.withFetchWord (s : State) (nbits w : Nat) : State :=
  match Sys2Proof.decodeTableWord nbits w with
  | none => s
  | some c => { s with pending := c :: s.pending }

end Sys2Proof.Machine
end

