-- ==== Sys2Proof/Machine/Gcm.lean ====
section
/-! DEFINITION. AES-GCM with a 96-bit IV and a 128-bit tag (NIST SP 800-38D), as Ramalink frames (R294) and ashlars (R413) use
it. -/
namespace Sys2Proof.Machine

/-- The 16-byte blocks of a byte string, the last padded with zeros. -/
def blocks16 (l : List Byte) : List (List Byte) := (List.range ((l.length + 15) / 16)).map fun i => sliceB l (16 * i) 16
/-- The key stream block of counter `n`. -/
def gcmStream (key iv : List Byte) (n : Nat) : List Byte := aesEnc key (iv ++ beBytes 4 n)
/-- The text under the key stream from counter 2 on: ciphertext of plaintext, and back. -/
def gcmText (key iv text : List Byte) : List Byte :=
  (List.range ((text.length + 15) / 16)).flatMap fun i => xorB ((text.drop (16 * i)).take 16) (gcmStream key iv (i + 2))
/-- The tag over additional data and ciphertext. -/
def gcmTag (key iv aad cipher : List Byte) : List Byte :=
  let lens := beBytes 8 (8 * aad.length) ++ beBytes 8 (8 * cipher.length)
  xorB (ghash (aesEnc key (List.replicate 16 0)) (blocks16 aad ++ blocks16 cipher ++ [lens])) (gcmStream key iv 1)

end Sys2Proof.Machine
end

