-- ==== Sys2Proof/Machine/Tape.lean ====
section
/-! DEFINITION. What stands on tape (chapter 12): the tracks and servo wedges, the stone code and its precoder, the row blocks
and the product code, the interleave, the ashlar with its header, its encryption and its trailers, and the batches, as
functions of the cartridge that the state holds. Every reserved byte is 0 (R9). -/
namespace Sys2Proof.Machine

/-! ### Tracks and servo wedges (R395–R398) -/

/-- R396: the data band of a wrap, its wrap position, and the track of a channel. -/
def wrapBand (w : Nat) : Nat := w / 18
def wrapPos (w : Nat) : Nat := w % 18
def trackOf (w c : Nat) : Nat := 16 * w + c
/-- R396: the distance of a track from the reference-side edge of its data band, in nm. -/
def trackOffset (w c : Nat) : Nat := (18 * c + wrapPos w) * 7580
/-- R398: the servo number of quarter `q` of the stripe of wrap position `w` in servo band `b`. -/
def servoNumber (b w q : Nat) : BitVec 10 := BitVec.ofNat 10 (128 * b + 4 * w + q)
/-- R398: the Gray code that the wedge word carries. -/
def grayOf (v : BitVec 10) : BitVec 10 := v ^^^ (v >>> 1)
/-- R398: the servo number again: all right shifts of the code, XOR-ed. -/
def grayBack (g : BitVec 10) : BitVec 10 := (List.range 10).foldl (fun a i => a ^^^ (g >>> i)) 0
/-- Table 12.2: the 40-bit wedge word of wedge `i` under servo number `v`. -/
def wedgeWord (v : BitVec 10) (i : Nat) : BitVec 40 :=
  let low := (grayOf v).toNat + i % 65536 * 2 ^ 10 + i / 65536 % 8 * 2 ^ 26
  BitVec.ofNat 40 (low + (crc8 (leBytes 4 low)).toNat * 2 ^ 32)

/-! ### Modulation (R399, R400) -/

/-- The bits of a byte string, each byte most significant bit first. -/
def bitsOf (l : List Byte) : List Bool := l.flatMap fun b => (List.range 8).map fun i => b.getLsbD (7 - i)
/-- Table 12.4: the flag bit and the four slots of a word. -/
def stoneSlots (w : List Byte) : Bool × List Byte :=
  let full := w.filter (· != 0)
  if full.length = 4 then (true, w)
  else
    let z := w.zipIdx.foldl (fun a q => if q.1 = 0 then a + 2 ^ q.2 else a) 0
    (false, BitVec.ofNat 8 (z * 16 + 1) :: (full ++ List.replicate 3 0xFF#8).take 3)
/-- The non-zero bytes of a word put back into the positions whose bit in `z` is clear, from position `i` on. -/
def stonePut (z : Byte) : Nat → Nat → List Byte → List Byte
  | 0, _, _ => []
  | n + 1, i, l => if z.getLsbD (4 + i) then 0 :: stonePut z n (i + 1) l else l.headD 0 :: stonePut z n (i + 1) l.tail
/-- R399: the word that a flag bit and four slots decode to. -/
def stoneBack (f : Bool) (slots : List Byte) : List Byte :=
  if f then slots else stonePut (slots.headD 0) 4 0 slots.tail
/-- R399: the 33 channel bits of a word. -/
def stoneWord (w : List Byte) : List Bool := let r := stoneSlots w; r.1 :: bitsOf r.2
/-- The channel bits of a byte string whose length is a multiple of 4. -/
def stoneBits (l : List Byte) : List Bool := (List.range (l.length / 4)).flatMap fun i => stoneWord (sliceB l (4 * i) 4)
/-- R400: a sync mark with the 44-bit tail that `t` repeats. -/
def syncMark (t : List Bool) : List Bool :=
  true :: List.replicate 20 false ++ true :: (List.replicate 44 ()).zipIdx.map fun q => t.getD (q.2 % t.length) false
/-- Table 12.6: the three marks. -/
def syncA : List Bool := syncMark [true, true, true, true, false, false, false, false]
def syncB : List Bool := syncMark [true, true, false, false]
def syncT : List Bool := syncMark [true, false]
/-- R400: `n` channel bits of the preamble pattern. -/
def preamble (n : Nat) : List Bool := (List.range n).map fun i => i % 4 < 2
/-- The 1/(1 ⊕ D²) precoder: each bit written is the channel bit XOR the bit written two before it, which stand in `a` and `b`. -/
def precode : Bool → Bool → List Bool → List Bool
  | _, _, [] => []
  | a, b, x :: xs => let y := Bool.xor x a; y :: precode b y xs

/-! ### The product code (R403, R404) -/

/-- R404: the user bytes of row `r` of matrix `m`, of the stream of an ashlar. -/
def userRow (stream : List Byte) (m r : Nat) : List Byte := sliceB stream (19152 * m + 228 * r) 228
/-- R403: the 228 user columns of row `r`: user bytes, or C2 parity from row 84 on. -/
def matrixRow (stream : List Byte) (m r : Nat) : List Byte :=
  if r < 84 then userRow stream m r
  else (List.range 228).map fun c => (rsParity 12 ((List.range 84).map fun i => (userRow stream m i).getD c 0)).getD (r - 84) 0
/-- R403: the C1 codeword of row `r` of matrix `m`. -/
def codeword (stream : List Byte) (m r : Nat) : List Byte :=
  let l := matrixRow stream m r
  l ++ rsParity 20 l

/-! ### Row blocks and the interleave (R401, R402, R406) -/

/-- Table 12.7: the row header. -/
def rowHeader (seq m r ch : Nat) (fill rewrite : Bool) : List Byte :=
  let b := leBytes 3 seq ++ leBytes 1 m ++ leBytes 1 r ++ leBytes 1 (ch % 16 + (if fill then 16 else 0) + if rewrite then 64 else 0)
  b ++ leBytes 2 (crc16 b).toNat
/-- R401: a row block with its header and the 248 bytes of its codeword. -/
def rowBlock (header word : List Byte) : List Bool :=
  syncA ++ stoneBits (header ++ sliceB word 0 124) ++ syncB ++ stoneBits (header ++ sliceB word 124 124)
/-- R402: a FILL block. -/
def fillBlock (seq ch : Nat) : List Bool := rowBlock (rowHeader seq 0 0 ch true false) (List.replicate 248 0)
/-- R406: the channel and the slot in which row `r` of matrix `m` is first written. -/
def rowChannel (m r : Nat) : Nat := (r + 3 * m) % 16
def rowSlot (m r : Nat) : Nat := 128 * (r / 16) + (m + 8 * (r % 16)) % 128
/-- R406: the matrix and the row that stand first-written in slot `s` of channel `c`. -/
def slotMatrix (c s : Nat) : Nat := 39 * (8 * c + 128 - s % 128) % 128
def slotRow (c s : Nat) : Nat := 16 * (s / 128) + (c + 16 * 24 - 3 * slotMatrix c s) % 16

/-! ### Batches and the stream of an ashlar (R404, R411, R413, R416, R417) -/

/-- Table 12.10: a batch with its header. -/
def batchImage (l : List Record) (deflate : Bool) : List Byte :=
  let raw := l.flatMap recBytes
  let data := if deflate then Config.deflate raw else raw
  leBytes 4 data.length ++ leBytes 4 raw.length ++ [if deflate then 1 else 0, 0] ++ leBytes 2 l.length ++
    leBytes 4 (crc32 raw).toNat ++ data
/-- R416: the batches of records, back to back, as the ashlar's cuts divide them. -/
def batchImages : List (Nat × Bool) → List Record → List Byte
  | [], _ => []
  | (n, d) :: cs, l => batchImage (l.take n) d ++ batchImages cs (l.drop n)
/-- R413: the record area of an ashlar in clear. -/
def areaOf (a : Ashlar) : List Byte := padTo areaBytes (batchImages a.cuts a.recs)
/-- Table 12.9: the code of an ashlar's kind. -/
def kindCode : AshlarKind → Nat
  | .header => 0 | .data => 1 | .capstone => 2
/-- Table 12.9: the 4,096-byte header of an ashlar of a cartridge. -/
def ashlarHeader (c : Cartridge) (a : Ashlar) : List Byte :=
  let first (f : Record → Nat) := (a.recs.head?).elim 0 f
  let last (f : Record → Nat) := (a.recs.getLast?).elim 0 f
  let b := bytesOf "KYAS" ++ leBytes 2 1 ++ leBytes 1 (kindCode a.kind) ++ [BitVec.ofNat 8 ((if a.restart then 1 else 0) + if a.redo then 2 else 0)] ++
    leBytes 6 a.seq ++ leBytes 2 0 ++ leBytes 6 c.instance_.toNat ++ leBytes 2 a.wrap ++ leBytes 4 a.wedge ++ leBytes 4 0 ++
    leBytes 8 a.serial.toNat ++ leBytes 4 a.recs.length ++ leBytes 4 a.used ++ leBytes 4 a.batches ++
    leBytes 2 (first (·.run.toNat)) ++ leBytes 2 (last (·.run.toNat)) ++
    leBytes 4 (first (·.line.toNat)) ++ leBytes 4 (last (·.line.toNat)) ++
    leBytes 4 (first (·.lot.toNat)) ++ leBytes 4 (last (·.lot.toNat)) ++
    leBytes 6 a.prev ++ leBytes 2 0 ++ padTo 16 unitSerial ++ leBytes 4 Config.build.toNat ++ leBytes 4 a.config.toNat ++
    leBytes 24 0 ++ padTo 8 a.keyid ++ padTo 40 a.wrapped
  let b := padTo 4092 b
  b ++ leBytes 4 (crc32 b).toNat
/-- R413: the IV of an ashlar. -/
def ashlarIv (c : Cartridge) (a : Ashlar) : List Byte := beBytes 6 c.instance_.toNat ++ beBytes 6 a.seq
/-- R413: the encrypted record area. -/
def ashlarCipher (c : Cartridge) (a : Ashlar) : List Byte := gcmText c.ck (ashlarIv c a) (areaOf a)
/-- R413: the tag of an ashlar. -/
def ashlarTag (c : Cartridge) (a : Ashlar) : List Byte :=
  gcmTag c.ck (ashlarIv c a) (ashlarHeader c a) (ashlarCipher c a)
/-- R404: the stream of an ashlar: header and encrypted record area. -/
def ashlarStream (c : Cartridge) (a : Ashlar) : List Byte := ashlarHeader c a ++ ashlarCipher c a

/-! ### The ashlar on tape (R408, R409) -/

/-- The blocks that every channel writes before its trailer: its 768 first-written ones and as many copies as the channel
with the most of them; the others are filled up (R408). -/
def blocksOn (a : Ashlar) : Nat := 768 + a.perCh.foldl max 0
/-- Table 12.8: the trailer of a channel. -/
def trailerOf (c : Cartridge) (a : Ashlar) (ch : Nat) : List Byte :=
  let b := bytesOf "KYTR" ++ leBytes 6 a.seq ++ leBytes 6 c.instance_.toNat ++ leBytes 1 ch ++ [0] ++ leBytes 2 (blocksOn a) ++
    ashlarTag c a
  let b := padTo 128 b
  b ++ leBytes 4 (crc32 b).toNat
/-- R409: a trailer block. -/
def trailerBlock (c : Cartridge) (a : Ashlar) (ch : Nat) : List Bool :=
  let h := syncT ++ stoneBits (trailerOf c a ch)
  h ++ h
/-- The block of one row of an ashlar on a channel. -/
def blockOf (c : Cartridge) (a : Ashlar) (ch m r : Nat) (rewrite : Bool) : List Bool :=
  rowBlock (rowHeader a.seq m r ch false rewrite) (codeword (ashlarStream c a) m r)
/-- R406: the rows that channel `ch` writes, in slot order, when none is rewritten. -/
def plainBlocks (ch : Nat) : List (Nat × Nat × Bool) := (List.range 768).map fun i => (slotMatrix ch i, slotRow ch i, false)
/-- R408: the channel bits of an ashlar on channel `ch`, from its preamble to its trailer: matrix, row and REWRITE of its row
blocks as they were written, which without copies are the `plainBlocks`; where a copy stands among them is not fixed (R444). -/
def channelImage (c : Cartridge) (a : Ashlar) (ch : Nat) (blocks : List (Nat × Nat × Bool)) : List Bool :=
  preamble 2310 ++ (blocks.flatMap fun q => blockOf c a ch q.1 q.2.1 q.2.2) ++
    ((List.range (blocksOn a - blocks.length)).flatMap fun _ => fillBlock a.seq ch) ++ trailerBlock c a ch
/-- What the head writes of it, through the precoder, from rest. -/
def channelWritten (c : Cartridge) (a : Ashlar) (ch : Nat) (blocks : List (Nat × Nat × Bool)) : List Bool :=
  precode false false (channelImage c a ch blocks)

end Sys2Proof.Machine
end

