-- ==== Sys2Proof/Safety.lean ====
section
/-! DEFINITION. The terms in which claims about this machine are made: the invariant of a safe run, what two states agree on, and
when a session's Fjart line is taken and what a reply leaves. -/
namespace Sys2Proof.Machine

/-- The invariant of every run: the DRAM is in canonical form, so that equal memories are equal data. -/
abbrev State.Inv (s : State) : Prop := Memory.wf s.mp.dram = true

/-- The parts of the state, one a field of `State`, the queue apart. -/
inductive Part where
  /-- tick and reference; ch. 1. -/
  | clk_
  /-- LINE SYNC; ch. 1. -/
  | sync_
  /-- time page; Table 1.3. -/
  | page_
  /-- open Fjart sessions; R38. -/
  | sessions_
  /-- operations that run on after their session ended: its index and the operation; R90. -/
  | orphans_
  /-- parameters, bonds, banks; ch. 3. -/
  | par_
  /-- unit state and supply; ch. 4. -/
  | ctl_
  /-- tickets and rings; ch. 5. -/
  | tk_
  /-- plumb model; ch. 6. -/
  | plumb_
  /-- manifolds 1–8; R249. -/
  | air_
  /-- Keystone's view of courses 1–8; Table 7.4. -/
  | courses_
  /-- the courses 1–8; ch. 7. -/
  | devs_
  /-- rotation among the sources; R29, assumption 2. -/
  | rotation_
  /-- Ramalink; ch. 8, 9. -/
  | net_
  /-- conditioning; ch. 10. -/
  | dry_
  /-- field bank; ch. 11. -/
  | fld_
  /-- ledger; ch. 12, 13. -/
  | led_
  /-- memory protection; ch. 14. -/
  | mp_
  /-- crown and standby; ch. 15. -/
  | crown_
  /-- event recorder; ch. 16. -/
  | evr_
  /-- events raised and not yet taken into the ring, oldest first; R525. -/
  | raised_
  /-- records generated and not yet journalled, oldest first; R428. -/
  | made_
  /-- how many free values have been drawn; the MODEL's own, assumption 4. -/
  | freeCount_
deriving DecidableEq, Repr

/-- Two states agree on a part. -/
def Part.agree (p : Part) (s t : State) : Prop :=
  match p with
  | .clk_ => t.clk = s.clk
  | .sync_ => t.sync = s.sync
  | .page_ => t.page = s.page
  | .sessions_ => t.sessions = s.sessions
  | .orphans_ => t.orphans = s.orphans
  | .par_ => t.par = s.par
  | .ctl_ => t.ctl = s.ctl
  | .tk_ => t.tk = s.tk
  | .plumb_ => t.plumb = s.plumb
  | .air_ => t.air = s.air
  | .courses_ => t.courses = s.courses
  | .devs_ => t.devs = s.devs
  | .rotation_ => t.rotation = s.rotation
  | .net_ => t.net = s.net
  | .dry_ => t.dry = s.dry
  | .fld_ => t.fld = s.fld
  | .led_ => t.led = s.led
  | .mp_ => t.mp = s.mp
  | .crown_ => t.crown = s.crown
  | .evr_ => t.evr = s.evr
  | .raised_ => t.raised = s.raised
  | .made_ => t.made = s.made
  | .freeCount_ => t.freeCount = s.freeCount

/-- `t` differs from `s` in the listed parts at most, and the queue is as it was. -/
def State.SameBut (l : List Part) (s t : State) : Prop := t.pending = s.pending ∧ ∀ p : Part, p ∉ l → p.agree s t

/-- The session of `ln` takes the line and its verb runs: the line stands at the head of the session's input and it is the session's turn
(R42, R91), no fault of R57–R61 and R68 stops it, its header is that of its text (R62), and the session's level reaches the verb's (R79). -/
def State.Runs (s : State) (ln : Ln) (need : Level) : Prop :=
  s.fate ln.ses ln.text = .run ∧ ln = s.header ln.ses ln.text ∧ levelFault (s.levelOf ln) need = none
/-- The verb has put its operation pending: `~` and its text go to the session, then the operation starts (R66). -/
def State.started (s : State) (ln : Ln) (op : PendOp) (text : String) (f : State → State) : State :=
  (f (s.pend ln op text)).prompt ln.ses

/-- A frame of a connection that a port hears is accepted (R273, R276, R295, R300), and `u` is the state in which its meaning runs: an OPENING
connection has become READY, the fseq is taken, `first` is done and the acknowledgement that the frame carries is applied (R289). -/
def State.AcceptsWith (s : State) (h : RlHdr) (first : State → State) (u : State) : Prop :=
  s.hears h.port = true ∧ h.version = 1 ∧ s.stale h.port h.conn = false ∧
    ∃ v y, ((s.conn h.conn).state ≠ .opening ∧ v = s ∨
        (s.conn h.conn).state = .opening ∧ (s.conn h.conn).opening = false ∧ h.epoch = 1 ∧ v = s.connReady h.conn) ∧
      (v.conn h.conn).takeFrame v.now h.epoch h.fseq = some y ∧ u = (first (v.updConn h.conn fun _ => y)).takeAck h.conn h.ack
/-- The same of a frame that is addressed to the port (R270, R271) and of which nothing comes before its acknowledgement: any but a NAK. -/
def State.Accepts (s : State) (h : RlHdr) (u : State) : Prop := s.hearsFrame h.port h.eth = true ∧ s.AcceptsWith h id u
/-- The frame is accepted and carries the psn that comes next on a READY connection (R289). -/
def State.AcceptsNext (s : State) (h : RlHdr) (u : State) : Prop :=
  s.Accepts h u ∧ (u.conn h.conn).state = .ready ∧ h.psn = (u.conn h.conn).rxPsn

/-- The commands that may write the DRAM: the accesses of memory protection, the repointer, LEDGER REPLAY's delivery into SHARE, and a
partner's writes into its windows, and the answers to a READ or an ATOMIC-ADD of the Keystone's; POWER_UP finds it empty (Table 14.1, R280, R285, R307, R450, R471). -/
def writesMemory : Instr → Bool
  | .powerUp .. | .sealWrite .. | .groutAccess .. | .repointLine _ | .ledgerReplayDone | .rlWrite .. | .rlWriteWithNotice ..
  | .rlAtomicAdd .. | .rlReadResp .. | .rlAtomicResp .. => true
  | _ => false
/-- The commands that may change the unit state: those that Table 4.2 and Table 4.3 name, and those that bring a cause of Table 4.7. -/
def movesUnit : Instr → Bool
  | .powerUp .. | .wakingEnd .. | .wakingTimeout .. | .journalReplay _ => true
  | .stateReady _ | .stateRun _ | .stateDrain _ | .stateHold _ => true
  | .bringupComplete .. | .shutdownComplete .. | .shutdownStepTimeout .. | .drainComplete .. | .drainLimit .. => true
  | .collapseDeclared .. | .collapseSequenceEnd .. => true
  | .clockLockLoss .. | .fieldLinkLoss | .portLinkLoss .. | .linkLaneDown .. | .evMramFail _ | .journalMramFail => true
  | .sealRead .. | .sealWrite .. | .eccUncorrectable .. | .repointLine _ | .sealEngineFail => true
  | .rlWrite .. | .rlWriteWithNotice .. | .rlReadReq .. | .rlAtomicAdd .. | .rlReadResp .. | .rlAtomicResp .. => true
  | .recordJournal | .stagingPage | .ashlarVerified .. | .ledgerLoadDone .. | .ledgerReplayDone => true
  | .courseStatus .. | .epochApply _ | .crownSilenceTakeover _ | .crownTake .. => true
  | _ => false

end Sys2Proof.Machine
end

