-- ==== Sys2Proof/Certificates/Slice0/Obligations.lean ====
section
/-! DEFINITION. The statements for the provers. The completion statements say where each of the 292 commands has its own effect
and what it leaves; the others say what commands and steps can and cannot do. -/
open Sys2Proof Sys2Proof.Machine

/-- The supply of the Keystone. SUPPLY_BELOW_COLLAPSE starts the 2 ms of R160 once, and in DARK answers an image failure (Table
4.2); SUPPLY_DIP_END notes a dip that ended within 2 ms with its lowest voltage, and the bus counts as SUPPLY_LOW counts it;
SUPPLY_LOW notes each entry below 19.2 V once; HOLDUP_MEASURE keeps the measured energy, at most 200 %, and records one below the
need (R162); the two supply inputs are recorded as they are lost and restored (R545). Nothing else of the state changes. -/
def Obligations.SupplyCommandsComplete : Prop :=
  (∀ (bus : Nat) (s : State), bus < 1700 → s.ctl.state ≠ .dark →
    exec (.supplyBelowCollapse bus) s = .next { s with ctl.bus := bus, ctl.belowSince := some (s.ctl.belowSince.getD s.now) }) ∧
  (∀ (bus : Nat) (s : State), bus < 1700 → s.ctl.state = .dark →
    exec (.supplyBelowCollapse bus) s = .next { s with ctl.bus := bus, ctl.imageFail := false }) ∧
  (∀ (low bus : Nat) (s : State) (since : Tick), s.ctl.belowSince = some since → 1700 ≤ bus → ticksFrom since s.now < 8000 →
    s.ctl.state ≠ .collapse →
    exec (.supplyDipEnd low bus) s = .next ((State.event { s with ctl.belowSince := none } 0x1021 0 0 low).takeBus bus)) ∧
  (∀ (bus : Nat) (s : State), s.ctl.state ≠ .dark → 1700 ≤ bus → bus < 1920 →
    exec (.supplyLow bus) s = .next (s.takeBus bus) ∧
    s.takeBus bus = if s.ctl.lowNoted then { s with ctl.bus := bus }
      else State.event { s with ctl.bus := bus, ctl.lowNoted := true } 0x1022 0 0 bus) ∧
  (∀ (bus : Nat) (s : State), s.ctl.state ≠ .dark → 1920 ≤ bus →
    exec (.supplyLow bus) s = .next (s.takeBus bus) ∧ s.takeBus bus = { s with ctl.bus := bus, ctl.lowNoted := false }) ∧
  (∀ (pct : Nat) (s : State), s.ctl.state ≠ .dark → s.ctl.state ≠ .collapse → 100 ≤ pct →
    exec (.holdupMeasure pct) s = .next { s with ctl.holdup := min 200 pct, ctl.holdupOk := true }) ∧
  (∀ (pct : Nat) (s : State), s.ctl.state ≠ .dark → s.ctl.state ≠ .collapse → s.ctl.bringup = none → pct < 100 →
    exec (.holdupMeasure pct) s =
      .next (State.event { s with ctl.holdup := pct, ctl.holdupOk := false } 0x1030 0 0 pct)) ∧
  (∀ (b : Bool) (s : State), s.ctl.state ≠ .dark → s.ctl.belowSince = none → s.ctl.inputLost[b.toNat]? = some false →
    exec (.supplyInputLost b) s =
      .next (State.event { s with ctl.inputLost := s.ctl.inputLost.set b.toNat true } 0x1052 0 0 b.toNat)) ∧
  (∀ (b : Bool) (s : State), s.ctl.state ≠ .dark → s.ctl.inputLost[b.toNat]? = some true →
    exec (.supplyInputRestored b) s =
      .next (State.event { s with ctl.inputLost := s.ctl.inputLost.set b.toNat false } 0x1053 0 0 b.toNat))

/-- The STATE verbs where Table 4.3 lets them start. STATE READY from HELD begins the bring-up when no condition of Table 4.6
refuses it; STATE RUN from READY, STATE DRAIN from RUN and STATE HOLD from READY enter RUN and DRAIN and begin the shutdown.
Each answers `~` with its text and stays pending (R143). A cell of Table 4.3 that names the present state answers it at once. -/
def Obligations.StateVerbsStart : Prop :=
  (∀ (ln : Ln) (s : State), s.Runs ln .operate → s.pendFull ln = false → s.ctl.bringup = none → s.ctl.shutdown = none →
    s.ctl.state = .held → s.readyRefusal = none →
    ∃ t, exec (.stateReady ln) s = .next t ∧
      t = (s.lineTaken ln).started ln (.state .ready) "bringing up" (·.beginBringup false) ∧
      t.ctl.state = .held ∧ t.ctl.bringup = some { step := 1, since := s.now, auto := false } ∧ t.fld.released = true) ∧
  (∀ (ln : Ln) (s : State), s.Runs ln .operate → s.pendFull ln = false → s.ctl.bringup = none → s.ctl.shutdown = none →
    s.ctl.state = .ready → s.runRefusal = none →
    ∃ t, exec (.stateRun ln) s = .next t ∧ t = (s.lineTaken ln).started ln (.state .run) "starting" State.enterRun ∧
      t.ctl.state = .run) ∧
  (∀ (ln : Ln) (s : State), s.Runs ln .operate → s.pendFull ln = false → s.ctl.bringup = none → s.ctl.shutdown = none →
    s.ctl.state = .run →
    ∃ t, exec (.stateDrain ln) s = .next t ∧ t = (s.lineTaken ln).started ln (.state .drain) "draining" State.enterDrain ∧
      t.ctl.state = .drain) ∧
  (∀ (ln : Ln) (s : State), s.Runs ln .operate → s.pendFull ln = false → s.ctl.bringup = none → s.ctl.shutdown = none →
    s.ctl.state = .ready →
    ∃ t, exec (.stateHold ln) s = .next t ∧
      t = (s.lineTaken ln).started ln (.state .hold) "holding" (·.beginShutdown none) ∧ t.ctl.state = .ready) ∧
  (∀ (ln : Ln) (s : State), s.Runs ln .operate → s.ctl.bringup = none → s.ctl.shutdown = none →
    (s.ctl.state = .held → exec (.stateHold ln) s = .next ((s.lineTaken ln).replied ln (.ok "HELD"))) ∧
    (s.ctl.state = .ready → exec (.stateReady ln) s = .next ((s.lineTaken ln).replied ln (.ok "READY"))) ∧
    (s.ctl.state = .run → exec (.stateRun ln) s = .next ((s.lineTaken ln).replied ln (.ok "RUN"))))

/-- The bytes and lines that reach a session. A byte of CONSOLE_CHAR joins the line being entered, in TYPED mode with its echo, or
BEL beyond the 200th (R54), and a terminator hands the line over (R45); CONSOLE_BREAK counts as Ctrl-C, which in TYPED mode
empties the line (R89, Table 2.3). Of the line at the head of a session's input, when it is the session's turn (R42, R91),
FJART_LINE_REFUSED answers one that no verb sees with the first code of R68, and 103, 104 and 105 leave the tag unconsumed (R59),
or ignores one without tokens (R46); TAG_REPEAT sends the earlier reply again (R58). Nothing outside that session changes. -/
def Obligations.SessionLinesComplete : Prop :=
  (∀ (b : Byte) (err : Bool) (s : State) (x : Session), s.session? 0 = some x → x.mode = .typed → x.escape = false →
    (err = true ∨ ¬ b ∈ [13#8, 10#8, 0x1B#8, 0x03#8, 0x08#8, 0x7F#8, 0x15#8]) →
    ∃ t, exec (.consoleChar b err) s = .next t ∧
      t = (s.updSession 0 fun y => { y with lastCr := false }).updSession 0 (·.enterByte b err) ∧
      (x.enterByte b err).partialLine = x.partialLine ++ [b] ∧ (x.enterByte b err).spoiled = (x.spoiled || err) ∧
      (x.enterByte b err).sent = { out := .echo (if x.partialLine.length < 200 then [b] else [7#8]) } :: x.sent) ∧
  (∀ (s : State) (x : Session), s.session? 0 = some x → x.escape = false →
    exec (.consoleChar 13 false) s = .next (s.consoleEnd 13) ∧ exec (.consoleChar 10 false) s = .next (s.consoleEnd 10) ∧
    s.consoleEnd 13 = (State.updSession (s.updSession 0 fun y => ({ y with lastCr := true } : Session).clearLine) 0
      fun y => if y.mode == .typed then y.echo [13, 10] else y).receiveLine 0 x.partialLine x.spoiled) ∧
  (∀ (s : State) (x : Session), s.session? 0 = some x → x.mode = .typed → x.escape = false →
    exec .consoleBreak s =
      .next (((s.updSession 0 fun y => { y with lastCr := false }).updSession 0 (·.clearLine)).prompt 0)) ∧
  (∀ (ses : Nat) (s : State) (x : Session) (l : InLine) (rest : List InLine) (c : Nat) (ln : Ln), s.session? ses = some x →
    x.input = l :: rest → s.turn x = true → (x.repeats l.text = true → l.bad = true) →
    lineFault x.mode x.expects l.bad l.text = .error c → ln = { ses := ses, tag := x.replyTag l.text, text := l.text } →
    exec (.fjartLineRefused ses l.text) s = .next (
      if c = 103 ∨ c = 104 ∨ c = 105 then
        ((s.lineDropped ses).say ses { tag := ln.tag, out := .err c (if c = 105 then x.tagDetail else "") }).prompt ses
      else (s.lineTaken ln).replied ln (.err c ""))) ∧
  (∀ (ses : Nat) (s : State) (x : Session) (l : InLine) (rest : List InLine), s.session? ses = some x → x.input = l :: rest →
    s.turn x = true → (x.repeats l.text = true → l.bad = true) → lineFault x.mode x.expects l.bad l.text = .ignore →
    exec (.fjartLineRefused ses l.text) s = .next ((s.lineDropped ses).prompt ses)) ∧
  (∀ (ses : Nat) (s : State) (x : Session) (l : InLine) (rest : List InLine), s.session? ses = some x → x.input = l :: rest →
    s.turn x = true → x.repeats l.text = true → l.bad = false →
    exec (.tagRepeat ses l.text) s = .next ((s.lineDropped ses).updSession ses fun y => y.lastReply.foldl Session.say y)) ∧
  (∀ (ln : Ln) (ses : Nat) (s : State),
    s.lineTaken ln = s.updSession ln.ses (fun y => y.takeLine ln s.now s.nextServed) ∧
    s.lineDropped ses = s.updSession ses fun y => { y with input := y.input.tail, served := s.nextServed, idleSince := s.now })

/-- Event lines and idle sessions. UNSOLICITED_LINE_SEND sends the oldest queued event of a session when fewer than 20 lines
went out in the last second and the reply buffer has room, and drops and counts it otherwise (R69, R72, R91); SUPPRESSION_LINE
tells once how many were dropped (R72); CONSOLE_IDLE_LOGOUT logs CONSOLE out after its idle time (R87); LOGIN_LOCKOUT_END ends
the 60 s of a lock-out (R82). Nothing outside that session changes. -/
def Obligations.SessionTimersComplete : Prop :=
  (∀ (ses : Nat) (s : State) (x : Session) (r : EventRec) (rest : List EventRec), s.session? ses = some x → x.queue = r :: rest →
    exec (.unsolicitedLineSend ses) s = .next (s.updSession ses fun y =>
      if 20 ≤ (y.recent s.now).length ∨ 16384 ≤ s.backlog y then
        ({ y with queue := rest, sentAt := y.recent s.now } : Session).suppress (sevOf r.ev.code)
      else ({ y with queue := rest, sentAt := y.recent s.now ++ [s.now] } : Session).unsolicited
        (.event (sevOf r.ev.code) r.ev.code r.seq (eventText r.ev.code)))) ∧
  (∀ (ses : Nat) (s : State), exec (.suppressionLine ses) s = .next (s.updSession ses fun y =>
      if y.suppressed = 0 ∨ 20 ≤ (y.recent s.now).length ∨ 16384 ≤ s.backlog y then y
      else ({ y with sentAt := y.recent s.now ++ [s.now], suppressed := 0, suppressedSev := .info } : Session).unsolicited
        (.suppressed y.suppressedSev y.suppressed))) ∧
  (∀ (s : State), exec .consoleIdleLogout s = .next (s.updSession 0 fun y =>
      if s.num 0x022 ≠ 0 ∧ y.pend = [] ∧ secT (s.num 0x022) ≤ ticksFrom y.idleSince s.now then
        { y with level := .none, loginId := 0, name := [], freshAt := none } else y)) ∧
  (∀ (ses : Nat) (s : State), exec (.loginLockoutEnd ses) s = .next (s.updSession ses fun y =>
      { y with lockedUntil := if y.lockedUntil.elim false (tickBefore s.now) then y.lockedUntil else none }))

/-- The verbs of Fjart that read, where they run: GET answers the values of its parameters (R73), SHOW the lines of its subject
(R76), HELP what Table 2.7 or Table 3.2 say (R77), BOND SHOW the lines of a bond or of every open one (R108), CAL SHOW the
running, USER and FACTORY values (R130), CONFIG DIFF what differs from a bank (R125), EV READ the records held (R533). Nothing
else of the state changes but, by a GET that names the flags of a loop, those flags (R348). -/
def Obligations.ReadingVerbsComplete : Prop :=
  (∀ (ln : Ln) (ps : List PRef) (s u : State) (ks : List PKey), s.Runs ln .view → u = s.lineTaken ln → ps ≠ [] →
    ps.map resolve = ks.map some → u.tooLong ln.ses (" ".intercalate (ks.map u.getText)) = false →
    exec (.get ln ps) s = .next ((u.clearFlags ks).replied ln (.ok (" ".intercalate (ks.map u.getText))))) ∧
  (∀ (ln : Ln) (subj : ShowSubj) (s : State) (l : List String), s.Runs ln .view → (s.lineTaken ln).showLines subj = some l →
    exec (.showCmd ln subj) s = .next ((s.lineTaken ln).replied ln (.multi l))) ∧
  (∀ (ln : Ln) (s : State), s.Runs ln .none →
    exec (.help ln .all) s = .next ((s.lineTaken ln).replied ln (.multi (verbForms.map (·.1))))) ∧
  (∀ (ln : Ln) (v : String) (s : State), s.Runs ln .none → verbsNamed v ≠ [] →
    exec (.help ln (.verb v)) s = .next ((s.lineTaken ln).replied ln (.multi ((verbsNamed v).flatMap fun x =>
      [withContent x.1 x.2.1, "level " ++ levelText x.2.2])))) ∧
  (∀ (ln : Ln) (p : PRef) (k : PKey) (s : State), s.Runs ln .none → resolve p = some k →
    exec (.help ln (.param p)) s = .next ((s.lineTaken ln).replied ln (.multi ((s.lineTaken ln).helpParam k)))) ∧
  (∀ (ln : Ln) (b : Option Bond) (s u : State), s.Runs ln .view → u = s.lineTaken ln → s.ctl.state ≠ .standby →
    (∀ x, b = some x → x ∈ allBonds) →
    exec (.bondShow ln b) s = .next (u.replied ln (.multi ((b.elim u.openBonds ([·])).flatMap u.bondLines)))) ∧
  (∀ (ln : Ln) (p : Option PRef) (s u : State) (ks : List PKey), s.Runs ln .view → u = s.lineTaken ln → s.ctl.state ≠ .standby →
    (p = none ∧ ks = classKeys .cal ∨ ∃ r k, p = some r ∧ resolve r = some k ∧ k.desc.cls = .cal ∧ ks = [k]) →
    exec (.calShow ln p) s = .next (u.replied ln (.multi (ks.map fun k => pathText k ++ " " ++ u.rawText k (u.raw k.id k.elem) ++ " " ++
      u.rawText k (recsVal u.userRecs k.id k.elem) ++ " " ++ u.rawText k (recsVal u.par.factory.recs k.id k.elem))))) ∧
  (∀ (ln : Ln) (src : CfgSource) (s u : State) (r : List BankRec × U32), s.Runs ln .view → u = s.lineTaken ln → src ≠ .window →
    u.sourceRecs ln src = some r →
    exec (.configDiff ln (some src)) s = .next (u.replied ln (.multi (u.diffLines r.1)))) ∧
  (∀ (ln : Ln) (k : BankId) (s u : State) (r : List BankRec × U32), s.Runs ln .view → u = s.lineTaken ln → u.newerBank = some k →
    u.sourceRecs ln (if k = .a then .a else .b) = some r →
    exec (.configDiff ln none) s = .next (u.replied ln (.multi (u.diffLines r.1)))) ∧
  (∀ (ln : Ln) (start : Option Nat) (count : Option Nat) (sev : Option Severity) (s u : State), s.Runs ln .view →
    u = s.lineTaken ln → 1 ≤ count.getD 20 → count.getD 20 ≤ 1000 → (∀ q, start = some q → q < 2 ^ 32) →
    exec (.evRead ln start count sev) s = .next (u.replied ln (.multi ((u.evSelect start (count.getD 20) sev).map evLine ++
      ["next " ++ natText (u.evNext (u.evSelect start (count.getD 20) sev) (count.getD 20)).toNat]))))

/-- Modes and logins. MODE answers in the old mode, then the session changes to the new one and its next line may carry any tag
(R56, R78); MODE EVENTS sets the event level (R70); LOGIN VIEW grants VIEW; LOGIN at a level whose key is set issues a challenge
of random bytes (R80); ENGINEER without a key is granted on CONSOLE, with NOTE 0xA003 (R86); the right LOGIN RESPONSE within 60
s grants the level, another fails it (R81, R82); LOGOUT ends the login (R83). A grant at OPERATE or above takes the next login
id and records NOTE 0xA004. Nothing else of the state changes. -/
def Obligations.LoginVerbsComplete : Prop :=
  (∀ (ln : Ln) (m : SesMode) (s u : State), s.Runs ln .none → u = s.lineTaken ln → u.sessionPends ln = false →
    exec (.mode ln m) s = .next (((u.answer ln (.ok (modeText m))).updSession ln.ses (·.setMode m)).prompt ln.ses)) ∧
  (∀ (x : Session) (m : SesMode), (x.setMode m).mode = m ∧ (x.setMode m).anyTag = true) ∧
  (∀ (ln : Ln) (l : EvLevel) (s u : State), s.Runs ln .none → u = s.lineTaken ln → u.sessionPends ln = false →
    (ln.ses = 0 → l ≠ .none ∧ l ≠ .alarm) →
    exec (.modeEvents ln l) s =
      .next ((u.updSession ln.ses fun x => { x with evLevel := l }).replied ln (.ok ("EVENTS " ++ evLevelText l)))) ∧
  (∀ (ln : Ln) (who : List Byte) (s u : State) (x : Session), s.Runs ln .none → u = s.lineTaken ln → u.session? ln.ses = some x →
    x.locked u.now = false → who.length ≤ 16 →
    exec (.login ln .view who) s = .next ((u.grant ln.ses .view who).replied ln (.ok "VIEW"))) ∧
  (∀ (ln : Ln) (lv : Level) (who : List Byte) (s u : State) (x : Session) (k : List Byte) (v : U32), s.Runs ln .none →
    u = s.lineTaken ln → u.session? ln.ses = some x → x.locked u.now = false → who.length ≤ 16 → u.levelKey lv = some k →
    v = BitVec.ofNat 32 (beNat (u.randomBytes 4)) →
    exec (.login ln lv who) s = .next ((u.drew.updSession ln.ses fun y =>
      { y with challenge := some { level := lv, value := v, at_ := u.now }, asked := who }).replied ln
        (.ok ("challenge " ++ hexText 8 v.toNat)))) ∧
  (∀ (ln : Ln) (who : List Byte) (s u : State) (x : Session), s.Runs ln .none → u = s.lineTaken ln → ln.ses = 0 →
    u.session? 0 = some x → x.locked u.now = false → who.length ≤ 16 → u.levelKey .engineer = none →
    exec (.login ln .engineer who) s = .next (((u.event 0xA003 0x0E 0).grant 0 .engineer who).replied ln (.ok "ENGINEER"))) ∧
  (∀ (ln : Ln) (resp : U32) (s u : State) (x : Session) (c : Challenge) (k : List Byte), s.Runs ln .none → u = s.lineTaken ln →
    u.session? ln.ses = some x → x.locked u.now = false → x.challenge = some c → u.levelKey c.level = some k →
    exec (.loginResponse ln resp) s = .next (
      if loginResponse k c.level c.value = resp ∧ ticksFrom c.at_ u.now ≤ secT 60 then
        (u.grant ln.ses c.level x.asked).replied ln (.ok (levelText c.level))
      else (u.failLogin ln.ses c).replied ln (.err 201 ""))) ∧
  (∀ (ln : Ln) (s : State), s.Runs ln .none → exec (.logout ln) s = .next (((s.lineTaken ln).updSession ln.ses fun x =>
    { x with level := .none, loginId := 0, name := [], freshAt := none }).replied ln (.ok "")))

/-- Lines and requests that write parameters. A SET or CAL SET line that the judgement of R68, R74 and R106 finds without fault,
and whose reply fits (R46), is applied whole, and its reply gives the stored values; SET_REQUEST copies the block of a READY
connection (R101) or, with four waiting, answers 302 at once (R104); SET_REQUEST_EXEC runs the oldest copied block as one line
and writes its result (R102, R103). BOND COMMIT and BOND DISCARD commit and drop the staged values of an open bond (R110, R111,
R113); BOND_EFFECT brings a committed set into force at its effect point (R112). -/
def Obligations.WritingVerbsComplete : Prop :=
  (∀ (ln : Ln) (ps : List (PRef × Lit)) (s u : State) (p : SetPlan), s.Runs ln .view → u = s.lineTaken ln → ps ≠ [] →
    p = judgeLine (u.levelOf ln) false false ln.ses (ps.map fun q => (resolve q.1, ValIn.lit q.2)) u → p.fault = none →
    u.tooLong ln.ses (" ".intercalate (p.pairs.map (·.shown))) = false →
    exec (.set ln ps) s = .next ((u.applyLine ln.ses false p).replied ln (.ok (" ".intercalate (p.pairs.map (·.shown)))))) ∧
  (∀ (ln : Ln) (ps : List (PRef × Lit)) (s u : State) (p : SetPlan), s.Runs ln .engineer → u = s.lineTaken ln → ps ≠ [] →
    p = judgeLine (u.levelOf ln) true false ln.ses (ps.map fun q => (resolve q.1, ValIn.lit q.2)) u → p.fault = none →
    u.tooLong ln.ses (" ".intercalate (p.pairs.map (·.shown))) = false →
    exec (.calSet ln ps) s = .next ((u.applyLine ln.ses false p).replied ln (.ok (" ".intercalate (p.pairs.map (·.shown)))))) ∧
  (∀ (lv : Level) (ses : Nat) (k : PKey) (r : ValIn) (s : State) (v : PVal), s.valueIn k r = .ok v →
    (judgePairs lv false s ses 0 (s, {}) [(some k, r)]).2.pairs = [{ key := k, val := v, shown := s.storedText k v }]) ∧
  (∀ (c : Nat) (block : List Byte) (s : State), s.ctl.state ≠ .dark → (s.conn c).state = .ready →
    exec (.setRequest c block) s = .next (if (s.par.setReqs.filter fun q => q.1 == c).length < 4 then
        { s with par.setReqs := s.par.setReqs ++ [(c, padTo 64 block)] }
      else { s with par.results := assocSet c { s.setResult c with
        request := BitVec.ofNat 32 (leNat (sliceB (padTo 64 block) 0 4)), code := 302, pair := 0xFF } s.par.results })) ∧
  (∀ (c : Nat) (b : List Byte) (s t : State) (p : SetPlan), s.par.setReqs.find? (fun q => q.1 == c) = some (c, b) →
    p = s.requestPlan c b → p.fault = none → t = s.applyLine ((s.textSession? c).elim 0 (·.idx)) ((b.getD 5 0).getLsbD 0) p →
    exec (.setRequestExec c) s = .next { t with
      par.setReqs := t.par.setReqs.eraseP fun q => q.1 == c
      par.results := assocSet c { request := BitVec.ofNat 32 (leNat (sliceB b 0 4)), code := 0, pair := 0xFF,
                                  done := (s.setResult c).done + 1 } t.par.results }) ∧
  (∀ (ln : Ln) (b : Bond) (s u : State), s.Runs ln .engineer → u = s.lineTaken ln → b ∈ allBonds → s.ctl.state ≠ .standby →
    u.bondOpen b = true →
    (u.commitRefusal b = none → exec (.bondCommit ln (.one b)) s = .next ((u.commitBond b).replied ln (.ok (bondName b)))) ∧
    ∃ text, exec (.bondDiscard ln (.one b)) s = .next ((u.unstage (ownMembers b)).replied ln (.ok text))) ∧
  (∀ (ln : Ln) (s u : State), s.Runs ln .engineer → u = s.lineTaken ln → s.ctl.state ≠ .standby →
    exec (.bondDiscard ln .all) s = .next (State.replied { u with par.staged := [] } ln (.ok "ALL"))) ∧
  (∀ (ln : Ln) (s u : State), s.Runs ln .engineer → u = s.lineTaken ln → s.ctl.state ≠ .standby → u.openGeometry ≠ [] →
    (u.geometryRefusal = none → exec (.bondCommit ln .geometry) s = .next (u.commitGeometry.replied ln (.ok "geometry"))) ∧
    exec (.bondDiscard ln .geometry) s = .next ((u.unstage (0x002 :: (List.range 8).flatMap fun i =>
      ownMembers (.geometry (i + 1)))).replied ln (.ok "geometry"))) ∧
  (∀ (b : Bond) (s : State) (c : Committed), s.committedOf b = some c →
    (∀ n, b = .tach n → exec (.bondEffect b) s = .next (s.takeCommitted b)) ∧
    (b = .sync → s.sync.running = false ∨ c.at_ ≠ s.now ∧ s.sync.edge = s.now ∧ s.sync.started = true →
      exec (.bondEffect b) s = .next s.syncEffect) ∧
    (∀ z, b = .limits z → s.zoneIdle z = true → exec (.bondEffect b) s = .next (s.limitsNow z)) ∧
    (∀ n, b = .geometry n → c.at_ ≠ s.now → exec (.bondEffect b) s = .next (s.geometryNow n)) ∧
    (b = .lot → s.lotDue = true → exec (.bondEffect b) s = .next s.lotEffect))

/-- Banks of configuration. CONFIG SAVE with no bond open and none running takes a target of banks A and B, the next generation
and an image of the KEPT values, and stays pending (R114, R117); CONFIG SAVE ABORT ends it before step 6 and answers it 301
"aborted" (R118); CONFIG_SAVE_COMPLETE writes the bank and answers, or records 0x1045 and answers 601 (R117, R132); CONFIG LOAD in
HELD takes a valid bank as the running values (R123); CONFIG ACCEPT in HELD accepts the running values (R122). Both record NOTE
0x1042. The banks are checked before a save and at a load (R134). -/
def Obligations.ConfigBankCommandsComplete : Prop :=
  (∀ (ln : Ln) (s u : State), s.Runs ln .engineer → u = (s.lineTaken ln).checkBanks → u.openBonds = [] → s.par.save = none →
    s.pendFull ln = false →
    exec (.configSave ln) s = .next (u.started ln .configSave
      (u.norText ("writing bank " ++ bankText (u.saveTarget .a .b).1)) fun v => State.queueNor { v with
        par.save := some { target := (u.saveTarget .a .b).1, image := v.bankImage .kept (u.saveTarget .a .b).2 } } true)) ∧
  (∀ (ln : Ln) (six : Option Tick) (s u : State), s.Runs ln .engineer → u = s.lineTaken ln → s.par.save ≠ none →
    s.par.norFirst = some true → (∀ t, six = some t → tickLe t s.now = false) →
    exec (.configSaveAbort ln six) s = .next (((State.endNor { u with par.save := none }).finish (· == PendOp.configSave)
      (.err 301 "aborted")).replied ln (.ok "aborted"))) ∧
  (∀ (ln : Ln) (six : Option Tick) (s u : State), s.Runs ln .engineer → u = s.lineTaken ln → s.par.save ≠ none →
    s.par.norFirst ≠ some true →
    exec (.configSaveAbort ln six) s = .next ((State.finish { u with par.save := none } (· == PendOp.configSave)
      (.err 301 "aborted")).replied ln (.ok "aborted"))) ∧
  (∀ (r : NorResult) (s : State) (w : Save), s.par.save = some w → s.par.norFirst = some true →
    exec (.configSaveComplete r) s = .next (
      if r = .ok then ((State.endNor { (State.putBank { s with par.save := none } w.target w.image true) with
          par.source := if w.target = .a then .a else .b
          par.generation := w.image.generation }).finish (· == PendOp.configSave)
            (.ok (savedText w.target w.image.generation)))
      else ((State.event { s with par.save := none } 0x1045 0 0 (bankNum w.target)).endNor).finish (· == PendOp.configSave)
        (.err 601 ""))) ∧
  (∀ (ln : Ln) (src : CfgSource) (s u : State) (recs : List BankRec) (g : U32), s.Runs ln .engineer →
    u = (s.lineTaken ln).checkBanks → s.ctl.state = .held → u.openBonds = [] → u.sourceRecs ln src = some (recs, g) → (∀ r ∈ recs, r.kind ≠ 1) →
    crossCheck .kept recs = none →
    exec (.configLoad ln src) s = .next (((State.takeAll { (u.loadRecs .kept recs).loadKeys recs with
        par.source := src
        par.generation := g
        par.accepted := true } u).event 0x1042 0 0 (sourceOrd src) g.toNat 0 (u.loginOf ln)).replied ln
      (.ok ("loaded " ++ cfgText src ++ " generation " ++ natText g.toNat)))) ∧
  (∀ (ln : Ln) (s u : State), s.Runs ln .engineer → u = s.lineTaken ln → s.ctl.state = .held → u.openBonds = [] →
    u.checksHold = true →
    exec (.configAccept ln) s = .next ((State.event { u with par.accepted := true } 0x1042 0 0 (sourceOrd s.par.source)
      s.par.generation.toNat 0 (u.loginOf ln)).replied ln (.ok "accepted")))

/-- Banks of calibration. CAL SAVE outside STANDBY and COLLAPSE takes the older USER copy and an image of the CAL values (R129);
CAL_SAVE_COMPLETE writes the copy and answers, or records 0x1045 and answers 601 (R126, R132); CAL RESTORE FACTORY gives a confirm
word of six letters (R131); CAL RESTORE with that word within 30 s, in HELD or READY, makes the valid FACTORY values the running
ones and saves them to the older USER copy, with NOTE 0x1044. The banks are checked first (R134). -/
def Obligations.CalBankCommandsComplete : Prop :=
  (∀ (ln : Ln) (s u : State), s.Runs ln .engineer → u = (s.lineTaken ln).checkBanks → s.ctl.state ≠ .standby →
    s.ctl.state ≠ .collapse → s.par.calSave = none → s.pendFull ln = false →
    exec (.calSave ln) s = .next (u.started ln .calSave (u.norText "writing USER") fun v => State.queueNor { v with
      par.calSave := some { target := (u.saveTarget .u1 .u2).1, image := v.bankImage .cal (u.saveTarget .u1 .u2).2 } } false)) ∧
  (∀ (r : NorResult) (s : State) (w : Save), s.par.calSave = some w → s.par.norFirst = some false →
    exec (.calSaveComplete r) s = .next (
      if r = .ok then ((State.endNor { (State.putBank { s with par.calSave := none } w.target w.image true) with
          par.calSource := .user
          par.calGeneration := w.image.generation }).finish (fun o => o == .calSave || o == .calRestore)
            (.ok (savedText w.target w.image.generation)))
      else ((State.event { s with par.calSave := none } 0x1045 0 0 (bankNum w.target)).endNor).finish
        (fun o => o == .calSave || o == .calRestore) (.err 601 ""))) ∧
  (∀ (ln : Ln) (s u : State) (w : List Byte), s.Runs ln .engineer → u = s.lineTaken ln → s.ctl.state ≠ .standby →
    w = confirmWord (u.randomBytes 6) →
    exec (.calRestoreFactory ln) s = .next ((u.drew.updSession ln.ses fun x => { x with confirm := some (w, u.now) }).replied ln
      (.ok ("confirm " ++ textOf w)))) ∧
  (∀ (ln : Ln) (word : List Byte) (s u t v : State), s.Runs ln .engineer → u = s.lineTaken ln → u.confirms ln word = true →
    s.ctl.state = .held ∨ s.ctl.state = .ready → s.par.calSave = none → s.pendFull ln = false → u.checkBanks.factorySound = true →
    t = (u.checkBanks.spendWord ln).loadFactory →
    v = (t.event 0x1044 0x0E ln.ses (t.saveTarget .u1 .u2).2.toNat 0 0 (t.loginOf ln)).checkBanks → v.pendFull ln = false →
    exec (.calRestoreConfirm ln word) s = .next (v.started ln .calRestore (v.norText "writing USER") fun x => State.queueNor { x with
      par.calSave := some { target := (v.saveTarget .u1 .u2).1, image := x.bankImage .cal (v.saveTarget .u1 .u2).2 } } false)) ∧
  (∀ (u : State), u.factorySound = (u.bankValid .factory && (crossCheck .cal u.par.factory.recs).isNone) ∧
    u.loadFactory = ((u.corrFirst (u.loadRecs .cal u.par.factory.recs)).loadRecs .cal u.par.factory.recs).takeAll u)

/-- How a bring-up, a shutdown and a DRAIN go on. BRINGUP_COMPLETE in step 1, once a field cycle io.rb_time after the release has
found every output as commanded (R166), starts LINE SYNC and enables the courses in use, and with every course ON ends the
bring-up in READY (Table 4.5); BRINGUP_STEP_TIMEOUT after 2 s records 0x1013 and turns it into a shutdown (R164);
SHUTDOWN_COMPLETE with every course OFF ends the shutdown (Table 4.5), SHUTDOWN_STEP_TIMEOUT after 200 ms leads to FAULT (R164);
DRAIN_COMPLETE ends DRAIN when sorting and the zones are done (R152), DRAIN_LIMIT puts the late zones to manual with their heat
demand at 4 mA, names them in 0x1014 and ends it (R153). -/
def Obligations.UnitProgressComplete : Prop :=
  (∀ (s v : State) (b : Bringup) (t0 : Tick), s.ctl.bringup = some b → b.step = 1 → s.fld.bankOff = false →
    s.fld.cycleAt = some t0 → tickLe b.since t0 = true → msT (s.num 0x902) ≤ ticksFrom b.since t0 → s.badChannel = none →
    v = State.startLineSync { s with ctl.bringup := some { b with step := 3, since := s.now } } →
    exec .bringupComplete s = .next (v.coursesUsed.foldl (fun u n => u.beginEnable n) v)) ∧
  (∀ (s : State) (b : Bringup) (t0 : Tick) (c : Nat) (d : String), s.ctl.bringup = some b → b.step = 1 → s.fld.bankOff = false →
    s.fld.cycleAt = some t0 → tickLe b.since t0 = true → msT (s.num 0x902) ≤ ticksFrom b.since t0 → s.badChannel = some (c, d) →
    exec .bringupComplete s = .next ((s.event 0x1013 0 0 1 c).failBringup 601 d)) ∧
  (∀ (s : State) (b : Bringup), s.ctl.bringup = some b → b.step ≠ 1 → (∀ n ∈ s.coursesUsed, (s.course n).state = .on) →
    ∃ v, exec .bringupComplete s = .next v.resume ∧ v.ctl.state = .ready ∧
      v = ((State.enter { s with ctl.bringup := none } .ready).retargetLoops).finish (· == PendOp.state .ready) (.ok "READY")) ∧
  (∀ (s : State) (b : Bringup), s.ctl.bringup = some b → secT 2 ≤ ticksFrom b.since s.now →
    ∃ t, exec .bringupStepTimeout s = .next t ∧ t.ctl.state = s.ctl.state ∧
      t = (s.event 0x1013 0 0 b.step).beginShutdown (some (601, "step " ++ natText b.step))) ∧
  (∀ (s : State) (x : Shutdown), s.ctl.shutdown = some x → (∀ c ∈ s.courses, c.state = .off) →
    exec .shutdownComplete s = .next (s.endShutdown x.failWith)) ∧
  (∀ (s : State) (x : Shutdown), s.ctl.shutdown = some x → msT 200 ≤ ticksFrom x.since s.now →
    ∃ t, exec .shutdownStepTimeout s = .next t ∧ t.ctl.state = .fault ∧ t = (s.event 0x1013 0 0 x.step).goFault 5) ∧
  (∀ (s v : State), s.ctl.state = .drain → s.sortingDone = true → s.zonesDone = true →
    v = ((((s.zonesRest).enter .ready).retargetLoops).finish (· == PendOp.state .drain) (.ok "READY")).finish
      (· == PendOp.state .ready) (.ok "READY") → v.ctl.holdOut = false →
    v.ctl.state = .ready ∧ (v.ctl.runQueued = false → exec .drainComplete s = .next v) ∧
    (v.ctl.runQueued = true → State.runRefusal { v with ctl.runQueued := false } = none →
      exec .drainComplete s = .next (State.enterRun { v with ctl.runQueued := false }))) ∧
  (∀ (s : State), s.ctl.state = .drain → s.zonesDone = false → secT (s.num 0x014) ≤ s.drainTicks →
    exec .drainLimit s =
      .next (s.zonesLimit.2.foldl (fun (u : State) z => u.event 0x1014 7 z) s.zonesLimit.1).endDrain ∧
    s.zonesLimit.2 = (([1, 2, 3, 4, 5] : List Nat).filter fun z => (s.zone z).drain != .complete) ∧
    s.zonesLimit.1 = s.zonesLimit.2.foldl State.zoneLimit s) ∧
  (∀ (s : State) (z : Nat), 1 ≤ z → z ≤ 5 → z ≤ s.dry.zones.length → ((s.zoneLimit z).zone z).limited = true) ∧
  (∀ (s : State) (z : Nat), 1 ≤ z → z ≤ 4 → ((s.zoneLimit z).loop (3 * (z - 1))).active ≠ .off →
    ((s.zoneLimit z).loop (3 * (z - 1))).u = 0)

/-- Waking. POWER_UP leaves DARK at 19.2 V or above, unless images failed and the supply has not fallen since (Table 4.2): what
DARK keeps stays but for banks that a NOR fault has spoiled (R134), every key slot gets a fresh key (R468), the unit is WAKING,
and the banks are checked and taken (R119, R127, R134). WAKING_END with bad images leads back to DARK; with a failed step 2, 3, 4
or 8 to FAULT; else to STANDBY when the peer has the crown (R501), to the automatic bring-up (R148), or to HELD (Table 4.4).
WAKING_TIMEOUT after 6 s leads to FAULT (R165); JOURNAL_REPLAY rebuilds the staging buffer from an unsealed journal (R431). -/
def Obligations.WakingCommandsComplete : Prop :=
  (∀ (p : PowerOn) (s u : State), s.ctl.state = .dark → 1920 ≤ p.bus → s.ctl.imageFail = false →
    u = ((s.dormant p.bus).spoilBanks p.spoiled).checkBanks.drawKeys.enter .waking →
    exec (.powerUp p) s = .next (((u.chooseConfig.chooseCal).settle0).endUnload) ∧ u.ctl.state = .waking) ∧
  (∀ (r : SelfTest) (s : State), s.testing = true → r.imagesBad = true →
    exec (.wakingEnd r) s = .next { s with
      ctl.state := .dark
      ctl.prev := .waking
      ctl.noImage := true
      ctl.imageFail := true
      raised := []
      made := []
      evr.heldEvents := [] }) ∧
  (∀ (r : SelfTest) (s u : State), s.testing = true → r.imagesBad = false →
    u = ((s.testKeys r.lidOpen).restoreStore r.recorderBad r.slotsBad).setHoldup r.holdup →
    (∀ n, u.faultStep r = some n → ∃ t, exec (.wakingEnd r) s = .next t ∧ t = u.wakingFault n ∧ t.ctl.state = .fault) ∧
    (u.faultStep r = none →
      (u.linkMissing r = true → exec (.wakingEnd r) s = .next (State.wakeTo (u.event 0x1012 0 0 7) false)) ∧
      (u.linkMissing r = false → exec (.wakingEnd r) s = .next (u.wakeTo u.ctl.holdupOk)))) ∧
  (∀ (s : State) (clean : Bool), (s.takesCrown = false → s.wakeTo clean = s.enterStandby) ∧
    (s.takesCrown = true →
      (clean = true ∧ s.crownAtWaking.on 0x012 = true ∧ s.crownAtWaking.par.trusted = true ∧ s.crownAtWaking.readyRefusal = none →
        s.wakeTo clean = s.crownAtWaking.beginBringup true) ∧
      (clean = false → s.wakeTo clean = s.crownAtWaking.enterHeld))) ∧
  (∀ (stage : Nat) (s : State), s.testing = true → secT 6 ≤ s.clk.tick.toNat →
    ∃ t, exec (.wakingTimeout stage) s = .next t ∧ t = s.wakingFault stage ∧ t.ctl.state = .fault) ∧
  (∀ (bad : Option Nat) (s u v : State), s.ctl.state ∈ [.held, .ready, .run, .drain, .fault] → s.led.replayed = false →
    s.led.op ≠ .load → (s.led.cart = none ∨ s.led.state ≠ .empty) →
    ((∀ i, bad = some i → s.led.journal.frames.length ≤ i) ∧ v = s ∨
      ∃ i, bad = some i ∧ i < s.led.journal.frames.length ∧
        v = State.event { s with led.journal.frames := s.led.journal.frames.take i } 0x7041 0x0B 0
          (sumOf (fun (f : Frame) => frameSize f.record) (s.led.journal.frames.drop (i + 1)))) →
    u = (if v.led.journal.sealed then v else v.event 0x7040 0x0B 0) →
    exec (.journalReplay bad) s = .next ((State.reform (State.release { u with
      led.journal.frames := u.led.journal.frames.map fun f => { f with staged := true }
      led.serial := BitVec.ofNat 64 (max u.led.serial.toNat ((u.led.journal.frames.getLast?).elim 0 fun f => f.num + 1))
      led.journal.sealed := false
      led.replayed := true
      led.restartDue := true
      led.redoDue := u.led.redoDue || u.led.cart.elim false u.needsRedo })).fillMarks.format))

/-- Time and the reference clock. LINE_SYNC_EDGE with an edge due issues it: the line number advances, or the run begins with
its line, and the edge's tick is now (R20–R22); a sync set committed in an earlier tick takes effect with it (Table 3.8), and so
does the lot change of its line (R435, R436), which LOT_CHANGE_EFFECT brings about alone. TIME_PAGE_UPDATE writes the page of
Table 1.3 where its line of EXPORT has room for a write (R25, R474). CLOCK_LOCK_LOSS stops LINE SYNC and is cause [0] (R35),
REFERENCE_CLOCK_LOCK starts the 1 s that clears it (R154). -/
def Obligations.ClockCommandsComplete : Prop :=
  (∀ (s u : State), s.sync.running = true ∨ s.sync.shadow = true → s.sync.edgeDue = true →
    u = (if (s.committedOf .sync).elim false fun c => c.at_ != s.now then s.syncEffect else s).issueEdge →
    exec .lineSyncEdge s = .next (if u.lotDue then u.lotEffect else u)) ∧
  (∀ (s : State), s.issueEdge.sync.line = (if s.sync.started then s.sync.line + 1 else s.sync.line) ∧ s.issueEdge.sync.edge = s.now ∧
    s.issueEdge.sync.started = true ∧ s.issueEdge.sync.edgeDue = false ∧
    s.issueEdge.sync.record = ({ line := s.issueEdge.sync.line, edge := s.now, period := s.sync.period } :: s.sync.record).take 65536) ∧
  (∀ (s : State), s.lotDue = true → exec .lotChangeEffect s = .next s.lotEffect) ∧
  (∀ (s : State), s.ctl.state ≠ .dark → s.pageRoom = true →
    exec .timePageUpdate s = .next (State.advance { s with page := s.pageNow } 3 0 false)) ∧
  (∀ (s : State), s.ctl.state ≠ .dark → s.pageRoom = false → exec .timePageUpdate s = .next (s.noteHeld 3 0)) ∧
  (∀ (s : State), s.ctl.state ≠ .dark → s.clk.refLocked = true →
    exec .clockLockLoss s = .next (((State.event { s with clk.refLocked := false } 0x1011 0 0).stopLineSync).enterFault 0)) ∧
  (∀ (s : State), s.ctl.state ≠ .dark → s.clk.refLocked = false →
    exec .referenceClockLock s = .next { s with clk.refLocked := true, clk.lockedSince := s.now }) ∧
  (∀ (p : Nat) (s : State), s.ctl.state ≠ .dark → 1 ≤ p → p ≤ 7 → (s.port p).link = true →
    exec (.portLinkLoss (.port p)) s = .next ((s.linkGone p).noteLoss p)) ∧
  (∀ (n : Nat) (s : State), s.ctl.state ≠ .dark → s.hasCourse n = true → (s.course n).link.up = true →
    exec (.portLinkLoss (.course n)) s = .next ((s.courseLost n).failBringup 601 ("course " ++ natText n ++ " link"))) ∧
  (∀ (s : State), s.ctl.state ≠ .dark → exec (.portLinkLoss .field) s = .next s.loseField ∧
    exec (.portLinkLoss .ledger) s = .next s.loseLedger) ∧
  (∀ (r : Nat) (s : State), s.ctl.state ≠ .dark → 1 ≤ r → r ≤ 2 →
    exec (.portLinkLoss (.probeRing r)) s = .next (s.event 0x6030 0x0A r (s.ring r).breakAt))

/-- Collapse and the environment. COLLAPSE_DECLARED after 2 ms below 17.0 V enters COLLAPSE (R160, R161); COLLAPSE_SEQUENCE_END
breaks an ashlar off, takes in every event and record, seals the MRAM, finishes the saves past step 6 (R133), and the unit is
DARK, with no session open (R161, Table 4.9). COOLING_FAN_STOP records 0x1050 for a cooling fan that was turning; OVER_TEMPERATURE
keeps the temperature and records 0x1051 above 85 °C, at most once a minute (R539); CONDITION_RECORD makes a CONDITION record of
each zone with a loop not OFF at every multiple of 40,000,000 ticks (R421). -/
def Obligations.CollapseAndEnvironmentComplete : Prop :=
  (∀ (a b c : Bool) (s : State) (t0 : Tick), s.ctl.belowSince = some t0 → msT 2 ≤ ticksFrom t0 s.now → s.ctl.state ≠ .dark →
    s.ctl.state ≠ .collapse →
    ∃ t, exec (.collapseDeclared a b c) s = .next t ∧ t = s.enterCollapse a b c ∧ t.ctl.state = .collapse) ∧
  (∀ (s u : State), s.ctl.state = .collapse →
    u = (State.sealMram ((s.led.onTape.elim s fun a => s.breakOff a false).takeRaised.journalMade)).finishSaves →
    exec .collapseSequenceEnd s = .next { u with
      ctl.state := .dark
      ctl.prev := .collapse
      ctl.since := u.now
      ctl.belowSince := none
      sessions := []
      orphans := []
      led.headsUp := true
      led.streaming := false }) ∧
  (∀ (i : Nat) (s : State), s.ctl.state ≠ .dark → s.ctl.coolRun[i]? = some true →
    exec (.coolingFanStop (i + 1)) s = .next (State.event { s with
      ctl.coolRun := s.ctl.coolRun.set i false
      ctl.coolRpm := s.ctl.coolRpm.set i 0 } 0x1050 0 0 (i + 1))) ∧
  (∀ (c : Int) (s : State), s.ctl.state ≠ .dark →
    (c ≤ 85 ∨ (∃ a, s.ctl.overTempAt = some a ∧ ticksFrom a s.now < secT 60) →
      exec (.overTemperature c) s = .next { s with ctl.temp := c }) ∧
    (85 < c → (∀ a, s.ctl.overTempAt = some a → secT 60 ≤ ticksFrom a s.now) →
      exec (.overTemperature c) s =
        .next (State.event { s with ctl.temp := c, ctl.overTempAt := some s.now } 0x1051 0 0 c.toNat))) ∧
  (∀ (s : State), s.ctl.state ∈ [.held, .ready, .run, .drain, .fault] → s.now.toNat % 40000000 = 0 →
    exec .conditionRecord s = .next (([1, 2, 3, 4, 5] : List Nat).foldl (fun u z =>
      if ([0, 1, 2] : List Nat).any fun i => (u.loop (3 * (z - 1) + i)).active != .off then
        u.makeRecord 3 u.lineNow (u.conditionBody z)
      else u) s))

/-- The event recorder. EVENT_RECORD takes the oldest raised event in: it is held while the numbering is open (R522), counted
when it is INFO or NOTE during a freeze (R530), and recorded with the next seq otherwise (R525); EV_FLUSH moves the ring into
the store when a flush is due or at each multiple of 40,000,000 ticks (R526), never while frozen; EV FREEZE and EV THAW,
EV_AUTO_THAW 60 s later (R530–R532); EV CLEAR with a fresh login removes the records of its range but the protected ones and
records 0xA010 (R534); EV_MRAM_FAIL stops flushing and is cause [4] (R536). -/
def Obligations.RecorderCommandsComplete : Prop :=
  (∀ (s : State) (e : Event) (rest : List Event), s.ctl.state ≠ .dark → s.raised = e :: rest →
    (s.evr.fixed = false →
      exec .eventRecord s = .next { s with raised := rest, evr.heldEvents := s.evr.heldEvents ++ [e] }) ∧
    (s.evr.fixed = true → s.evr.frozen ≠ none → sevRank (sevOf e.code) < 2 →
      exec .eventRecord s = .next { s with raised := rest, evr.counts := updAt (e.code / 4096) (· + 1) s.evr.counts }) ∧
    (s.evr.fixed = true → s.evr.frozen = none ∨ 2 ≤ sevRank (sevOf e.code) →
      exec .eventRecord s = .next (State.record { s with raised := rest } e))) ∧
  (∀ (s : State) (e : Event), (s.record e).evr.next = s.evr.next + 1) ∧
  (∀ (s : State), s.ctl.state ≠ .dark → s.evr.fixed = true → s.evr.frozen = none →
    s.evr.flushDue = true ∨ s.now.toNat % 40000000 = 0 → exec .evFlush s = .next s.flush) ∧
  (∀ (ln : Ln) (s u : State), s.Runs ln .operate → u = s.lineTaken ln →
    exec (.evFreeze ln) s = .next (State.replied { u with
      evr.frozen := some u.now
      evr.counts := if u.evr.frozen = none then List.replicate 16 0 else u.evr.counts } ln (.ok "frozen 60s"))) ∧
  (∀ (ln : Ln) (s u : State), s.Runs ln .operate → u = s.lineTaken ln → s.evr.frozen ≠ none →
    exec (.evThaw ln) s = .next (u.thaw.replied ln (.ok (if ∀ n ∈ s.evr.counts, n = 0 then "thawed, nothing held"
      else "thawed, summary " ++ natText s.evr.next.toNat)))) ∧
  (∀ (s : State) (t0 : Tick), s.evr.frozen = some t0 → secT 60 ≤ ticksFrom t0 s.now → exec .evAutoThaw s = .next s.thaw) ∧
  (∀ (ln : Ln) (range : Option (Nat × Nat)) (s u : State) (r : State × Nat), s.Runs ln .engineer → u = s.lineTaken ln →
    u.fresh ln = true → s.evr.frozen = none →
    (∀ a b, range = some (a, b) → a < 2 ^ 32 ∧ b < 2 ^ 32 ∧ u32Before (BitVec.ofNat 32 b) (BitVec.ofNat 32 a) = false) →
    r = (u.spendFresh ln).clearRecs ln (range.map fun p => (BitVec.ofNat 32 p.1, BitVec.ofNat 32 p.2)) →
    exec (.evClear ln range) s =
      .next (r.1.replied ln (.ok ("cleared " ++ natText r.2 ++ ", record " ++ natText s.evr.next.toNat)))) ∧
  (∀ (ceiling : Bool) (s : State), s.ctl.state ≠ .dark → s.evr.mramFailed = false →
    exec (.evMramFail ceiling) s = .next (State.enterFault { s with
      evr.mramFailed := true
      evr.ceiling := if ceiling then s.evr.ceiling - 8192 else s.evr.ceiling } 4))

/-- Tickets taken. Where the unit takes tickets, the source is open, a slot waits, a completion entry is free and the source has
the turn (R29), TICKET_PROV, TICKET_FIRM, TICKET_CONF and TICKET_CANCEL take the next slot of their kind: cons advances and an
entry is reserved (R170, R171). A slot with a bad crc is refused with reason 1 and moves nothing else (R174); a sound one in
sequence moves next (R176) and is placed (R178), confirmed (R199) or cancelled (R185). In RUN a PROV or FIRM whose line has passed
and is in the record gets the start of R208; a CONF or CANCEL before the commit tick returns its own entry (R171, Table 5.8). -/
def Obligations.TicketsTakenComplete : Prop :=
  (∀ (src : Nat) (s u v : State) (k : TicketSlot) (idx : Nat) (gap : U32), s.takes = true → (s.source src).open_ = true →
    (s.source src).prod ≠ (s.source src).cons → (s.source src).free ≠ 0 → s.hasTurn src = true → k = s.slotAt src →
    idx = (s.source src).cons.toNat % 4096 →
    u = (let w := s.updSource src fun q => { q with cons := q.cons + 1, reserved := q.reserved + 1, stalled := false }
      { w with tk.taken := s.tk.taken + 1 }) →
    (k.crcOk = false →
      (k.kind = .prov → exec (.ticketProv src) s = .next (u.refuseSlot src k idx u.now 1)) ∧
      (k.kind = .firm → exec (.ticketFirm src) s = .next (u.refuseSlot src k idx u.now 1)) ∧
      (k.kind = .conf → exec (.ticketConf src) s = .next (u.refuseSlot src k idx u.now 1)) ∧
      (k.kind = .cancel → exec (.ticketCancel src) s = .next (u.refuseSlot src k idx u.now 1))) ∧
    (k.crcOk = true → (s.source src).judge k.seq = (false, gap) → v = u.noteSeq src k.seq gap false → v.badFormat k = false →
      (k.kind = .prov → v.on 0x600 = true → exec (.ticketProv src) s = .next (State.openRequest src k idx (gap != 0) v)) ∧
      (k.kind = .firm → exec (.ticketFirm src) s = .next (State.openRequest src k idx (gap != 0) v)) ∧
      (k.kind = .conf → exec (.ticketConf src) s = .next (State.applyConf src k idx (gap != 0) v)) ∧
      (k.kind = .cancel → exec (.ticketCancel src) s = .next (State.applyCancel src k idx (gap != 0) v)))) ∧
  (∀ (src idx : Nat) (k : TicketSlot) (gap : Bool) (s u : State) (t : Ticket) (e : LineRec) (d : Int) (l : Option (Nat × Nat))
      (r : Tick × Bool), s.ctl.state = .run → u32Before s.sync.line k.line = false → s.lineRec k.line = some e → s.canPlace k = true →
    t = (if s.replayedLine k.line then { s.takenTicket src k gap with detail := (s.takenTicket src k gap).detail ||| 0x200#16 }
      else s.takenTicket src k gap) →
    s.assignLearn src k = (u, d, l) → r = u.requested k t.band e d →
    State.openRequest src k idx gap s = ((u.countPlumb (chuteOf k) k t.band).keep { t with
      reqStart := r.1
      computed := true
      primedPlan := r.2
      learn := l
      dur := if (u.learnFor src k).isSome then 4 * u.num 0x397 else t.dur }).placeTicket t.tid) ∧
  (∀ (src idx : Nat) (k : TicketSlot) (gap : Bool) (s : State) (t : Ticket), s.target? src k = some t → t.endedEarly = false →
    t.final_ = none → t.inTime s.now = true →
    (t.confirmed = false → State.applyConf src k idx gap s = (s.returnEntry src).confirmTicket t) ∧
    State.applyCancel src k idx gap s = ((s.returnEntry src).endTicket t.tid .cancelled).rebuild (chuteOf t.slot))

/-- The rest of the ticket path. On a source with a connection TICKET_PROD_WRITE takes a prod at most 4,096 slots ahead (R170),
COMPLETION_CCONS_WRITE a ccons within the entries written (R172). COMMIT_TICK judges the tickets of a course whose commit tick has
come, but not after a handover (R185, R186, R512). TICKET_FORGET drops tickets 1 s after their entry (R175). TALLY_READ at each
multiple of 4,000,000 ticks reads the tallies and makes the records (R201). RECIPE_REPORT makes a RECIPE record of a sound block
and 0x2013 of another (R202). -/
def Obligations.TicketRingsComplete : Prop :=
  (∀ (src : Nat) (prod : U32) (s : State), (s.source src).conn ≠ none →
    (prod - (s.source src).cons).toNat ≤ 4096 →
    exec (.ticketProdWrite src prod) s = .next (s.updSource src fun q => { q with prod := prod })) ∧
  (∀ (src : Nat) (ccons : U32) (s : State), (s.source src).conn ≠ none →
    (ccons - (s.source src).ccons).toNat ≤ ((s.source src).cprod - (s.source src).ccons).toNat →
    exec (.completionCconsWrite src ccons) s =
      .next (s.updSource src fun q => { q with ccons := ccons, stalled := q.stalled && q.ccons == ccons })) ∧
  (∀ (n : Nat) (s : State), s.ctl.state ≠ .dark → s.ctl.state ≠ .standby → s.crown.yieldAt = none →
    exec (.commitTick n) s = .next (s.commitDue n s.now)) ∧
  (∀ (s : State), exec .ticketForget s = .next { s with tk.tickets := s.tk.tickets.filter fun t =>
      t.learn.isSome || !(t.entryAt.elim false fun e => secT 1 ≤ ticksFrom e s.now) }) ∧
  (∀ (s : State), s.ctl.state ∈ [.held, .ready, .run, .drain, .fault] → s.now.toNat % 4000000 = 0 →
    exec .tallyRead s = .next { s.tallySweep.tallyRecords with tk.confirmedSec := List.replicate 8 0 }) ∧
  (∀ (src : Nat) (s : State) (b : List Byte) (mask : Nat), (s.source src).open_ = true → b = readCells (s.source src).recipe 0 80 →
    mask = leNat (sliceB b 4 1) →
    exec (.recipeReport src) s = .next (
      if leNat (sliceB b 5 11) = 0 ∧ mask ≠ 0 ∧ mask < 2 ^ s.courseCount then
        s.makeRecord 5 (if s.sync.running then some (BitVec.ofNat 32 (leNat (sliceB b 0 4))) else none)
          (leBytes 1 src ++ leBytes 1 mask ++ List.replicate 6 0#8 ++ sliceB b 16 64)
      else s.event 0x2013 4 src))

/-- The plumb model and the drop test. MOISTURE_UPDATE at each multiple of 4,000,000 ticks filters the moisture and moves the
band, with INFO 0x2030 (R218, R219); OUTLET_AVG_MISSING records 0x2031 once three sweep periods have passed without an average
(R229). COURSE LEARN in RUN starts a sweep on a course that is ON and grants its source the learn window (R222), COURSE LEARN STOP
ends it without a result (R227), LEARN_RESULT_READ reads the byte of a learn ticket 1 s after its entry and counts it (R224),
LEARN_LIMIT applies what a sweep has at its limit (R227). -/
def Obligations.PlumbCommandsComplete : Prop :=
  (∀ (s : State) (m b : Nat), s.ctl.state ≠ .dark → s.now.toNat % 4000000 = 0 → s.plumb.xSet = true → m = s.filterMoist →
    b = s.newBand m s.plumb.band →
    exec .moistureUpdate s = .next (if b = s.plumb.band then { s with plumb.moist := m, plumb.moistSet := true }
      else State.event { s with
        plumb.moist := m
        plumb.moistSet := true
        plumb.band := b
        plumb.bandPrev := s.plumb.band
        plumb.bandAt := s.now } 0x2030 0 0 s.plumb.band b (roundDiv m (2 ^ 20)).toNat)) ∧
  (∀ (s : State), s.ctl.state ≠ .dark → s.plumb.missNoted = false → secT (3 * s.outletPeriod) ≤ ticksFrom s.plumb.lastAvg s.now →
    exec .outletAvgMissing s = .next (State.event { s with plumb.missNoted := true } 0x2031 0 0)) ∧
  (∀ (ln : Ln) (n src : Nat) (s u : State) (x : Learn), s.Runs ln .engineer → u = s.lineTaken ln → u.hasCourse n = true →
    1 ≤ src → src ≤ 16 → u.num 0x394 ≠ 0 → u.num 0x393 % u.num 0x394 = 0 → s.ctl.state = .run → (s.course n).state = .on →
    (s.source src).open_ = true → (s.chute n).learn = none →
    (∀ i < 8, ∀ y, (u.chute (i + 1)).learn = some y → y.src ≠ src) → s.pendFull ln = false →
    x = { src := src, since := u.now, cls := u.num 0x392, span := u.num 0x393, step := u.num 0x394 } → x.steps ≤ 255 →
    exec (.courseLearn ln n src) s = .next (u.started ln (.courseLearn n)
      ("learning chute " ++ natText n ++ " class " ++ natText x.cls ++ " steps " ++ natText x.steps) fun v =>
        ((v.grantLearn src true).updChute n fun c => { c with learn := some x, learnGen := nextGen c.learnGen }).updSource src
          fun q => { q with learnWin := [] })) ∧
  (∀ (ln : Ln) (n : Nat) (s u : State), s.Runs ln .engineer → u = s.lineTaken ln → u.hasCourse n = true →
    (u.chute n).learn ≠ none →
    exec (.courseLearnStop ln n) s = .next ((u.learnDrop n "stopped" 1).replied ln (.ok "stopped"))) ∧
  (∀ (n tid bin step : Nat) (s u v : State) (t : Ticket) (x : Learn) (a : Tick) (b : Byte), s.ticket? tid = some t →
    (s.chute n).learn = some x → t.learn = some (bin, step) → t.entryAt = some a → secT 1 ≤ ticksFrom a s.now →
    chuteOf t.slot = n → t.src = x.src → b = cellAt (s.source t.src).learnWin (t.slot.seq.toNat % 4096) →
    u = s.updTicket tid (fun k => { k with learn := none }) →
    v = (if t.final_ = some .fired ∧ (b = 1 ∨ b = 2) then u.countLearn n bin step (b = 1) else u) →
    exec (.learnResultRead n tid) s = .next (if (v.chute n).learn.elim false v.binsFull then v.learnApply n else v)) ∧
  (∀ (n : Nat) (s : State) (x : Learn), (s.chute n).learn = some x → secT (s.num 0x398) ≤ ticksFrom x.since s.now →
    exec (.learnLimit n) s = .next (s.learnApply n))

/-- The COURSE verbs and their ends. In READY or RUN, COURSE ENABLE of a course that is OFF begins its enable (R254), COURSE
DISABLE of one that is ON or enabling begins its drain (R255, R256); the same verb on a course that is there already answers at
once. COURSE_ENABLE_COMPLETE with the boost ready leaves the course ON, and with no boost phase left fails the enable with 0x3002
(R254, R267); COURSE DISABLE ABORT before the discharge puts the course ON again (R257); COURSE_DRAIN_COMPLETE leaves it OFF
(R256); COURSE TEST in READY places the first of its pulses, 4 ms ahead, and COURSE_TEST_COMPLETE records 0x3030 and answers
(R258). -/
def Obligations.CourseVerbsComplete : Prop :=
  (∀ (ln : Ln) (n : Nat) (s u : State), s.Runs ln .operate → u = s.lineTaken ln → u.hasCourse n = true →
    s.ctl.state ∈ [.ready, .run] →
    ((s.course n).state = .on → exec (.courseEnable ln n) s = .next (u.replied ln (.ok "ON"))) ∧
    ((s.course n).state = .off → s.pendFull ln = false → exec (.courseEnable ln n) s =
      .next (u.started ln (.courseEnable n) ("enabling course " ++ natText n) (·.beginEnable n))) ∧
    ((s.course n).state = .draining → s.pendFull ln = false → exec (.courseEnable ln n) s =
      .next (u.started ln (.courseEnable n) "queued" (·.updCourse n fun c => { c with enQueued := true }))) ∧
    ((s.course n).state = .off → exec (.courseDisable ln n) s = .next (u.replied ln (.ok "OFF"))) ∧
    ((s.course n).state ∈ [.on, .enabling] → s.pendFull ln = false → exec (.courseDisable ln n) s =
      .next (u.started ln (.courseDisable n) ("draining course " ++ natText n) (·.startDrain n true)))) ∧
  (∀ (ln : Ln) (n : Nat) (s u : State), s.Runs ln .operate → u = s.lineTaken ln → u.hasCourse n = true →
    (s.course n).state = .draining → (s.course n).drainVerb = true → (s.course n).dischargeAt = none →
    exec (.courseDisableAbort ln n) s = .next ((((((u.updCourse n fun c =>
      { c with state := .on, drainVerb := false, enQueued := false }).send (.course n) (.drain true)).finish
        (· == .courseDisable n) (.err 301 "aborted")).finish (· == .courseEnable n) (.ok "ON"))).replied ln (.ok "aborted"))) ∧
  (∀ (n : Nat) (s : State), (s.course n).state = .enabling → (s.course n).step = 3 →
    tickBefore (s.course n).enSince (s.course n).last.at_ = true →
    ((s.course n).last.n = 0 → exec (.courseEnableComplete n) s = .next ((s.event 0x3002 1 n 0).failEnable n 601 "no boost phase")) ∧
    ((s.course n).last.n ≠ 0 → (s.course n).last.ready = true → (s.course n).last.st = .on →
      exec (.courseEnableComplete n) s = .next ((s.updCourse n fun c => { c with state := .on, step := 0, drainVerb := false }).finish
        (· == .courseEnable n) (.ok "ON")))) ∧
  (∀ (n : Nat) (s : State), (s.course n).state = .draining →
    (tickBefore (s.course n).drainAt (s.course n).last.at_ = true ∧ (s.course n).last.st = .off) ∨ (s.course n).link.up = false →
    exec (.courseDrainComplete n) s = .next (s.courseOff n)) ∧
  (∀ (ln : Ln) (n ch d k p : Nat) (dur period : Option Lit) (count : Option Nat) (s u : State), s.Runs ln .engineer →
    u = s.lineTaken ln → testTime .us 200 20000 (u.num (courseP 0x15 n) ch) dur = .ok d → k = count.getD 1 →
    testTime .ms 1 10000 100 period = .ok p →
    u.hasCourse n = true → ch < u.num (courseP 0 n) → 200 ≤ d → d ≤ 20000 → 1 ≤ k → k ≤ 1000 → 1 ≤ p → p ≤ 10000 →
    d + u.num (courseP 0x11 n) ch ≤ 1000 * p → s.ctl.state = .ready → (s.course n).test = none → s.pendFull ln = false →
    exec (.courseTest ln n ch dur count period) s = .next (u.started ln (.courseTest n)
      ("testing course " ++ natText n ++ " ch " ++ natText ch) fun v =>
        (v.updCourse n fun c => { c with test := some { ch := ch, dur := d, count := k, period := p } }).placePulse n)) ∧
  (∀ (n : Nat) (s : State) (x : CourseTest), (s.course n).test = some x → x.count ≤ x.fired + x.denials.length →
    exec (.courseTestComplete n) s = .next ((((s.updCourse n fun c => { c with test := none }).event 0x3030 1 n x.ch x.fired x.count).finish
      (· == .courseTest n) (.ok ("fired " ++ natText x.fired ++ " of " ++ natText x.count ++ denialText x.denials)))))

/-- The frame layer of the course-protocol links. LINK_TRAIN trains a link of the unit that is not up, LINK_LANE_DOWN takes one
down and trains it again (R261); COURSE_SYNC_SEND at each multiple of 4,096 ticks sends SYNC, and with the delay measured ends the
training (R260, R261); the sixteenth valid frame in a row brings the direction up, and COURSE_ECHO_REPLY then collects the 16
round trips and writes the delay, or measures again where they do not agree (R261); COURSE_ACK frees the frames up to its seq
(R269); COMMIT_RESEND and COURSE_DOWNLINK_RESEND send unacknowledged frames again after 16 and 64 ticks (R264, R269); PLAN_SEND
sends waiting plans in order of fire start (R566). -/
def Obligations.LinkCommandsComplete : Prop :=
  (∀ (l : LinkId) (s : State), s.ctl.state ≠ .dark → s.hasLink l = true → (s.linkOf l).up = false →
    exec (.linkTrain l) s = .next (s.train l)) ∧
  (∀ (l : LinkId) (s : State), s.ctl.state ≠ .dark → s.hasLink l = true →
    ((s.linkOf l).up = true → exec (.linkLaneDown l) s = .next ((s.linkLost l).train l)) ∧
    ((s.linkOf l).up = false → (s.linkOf l).training = true → exec (.linkLaneDown l) s = .next (s.train l))) ∧
  (∀ (l : LinkId) (s : State), s.ctl.state ≠ .dark → s.ctl.state ≠ .standby → s.now.toNat % 4096 = 0 →
    ((s.linkOf l).training = true → tripsAgree (s.linkOf l).echoes = true → exec (.courseSyncSend l) s =
      .next (((((s.send l (.sync s.now)).updLink l fun x => { x with up := true, training := false, lastRx := (s.send l (.sync s.now)).now }).linkReturned l).send l
        (.query 0 2)))) ∧
    ((s.linkOf l).up = true → (s.linkOf l).training = false → exec (.courseSyncSend l) s = .next (s.send l (.sync s.now)))) ∧
  (∀ (l : LinkId) (s u : State), u = s.updLink l (fun x =>
      { x with lastRx := s.now, good := if x.training && x.good < 16 then x.good + 1 else x.good }) →
    s.heard l = (if (s.linkOf l).training = true ∧ (s.linkOf l).good = 15 then u.directionUp l else u) ∧
    (u.ctl.state = .standby → u.directionUp l = u.updLink l fun x => { x with up := true, training := false }) ∧
    (u.ctl.state ≠ .standby → u.directionUp l =
      (u.sends l (if u.crown.holds then [.crown u.crown.gen u.crown.horizon false] else [])).startEchoes l) ∧
    u.startEchoes l = (u.updLink l fun x => { x with echoes := [], echoAt := u.now }).sends l (echoFrames u.now)) ∧
  (∀ (l : LinkId) (num clocks : Nat) (s u : State), s.ctl.state ≠ .dark → (s.linkOf l).training = true →
    16 ≤ (s.linkOf l).good → num < 16 →
    u = (s.heard l).updLink l (fun x => { x with echoes := assocSet num clocks x.echoes }) →
    ((u.linkOf l).echoes.length < 16 → exec (.courseEchoReply l num clocks) s = .next u) ∧
    (16 ≤ (u.linkOf l).echoes.length → tripsAgree (u.linkOf l).echoes = true → exec (.courseEchoReply l num clocks) s =
      .next ((u.updLink l fun x => { x with delay := cableDelay (u.linkOf l).echoes }).send l
        (.config 8 (u.firstWords l (cableDelay (u.linkOf l).echoes))))) ∧
    (16 ≤ (u.linkOf l).echoes.length → tripsAgree (u.linkOf l).echoes = false → exec (.courseEchoReply l num clocks) s =
      .next (u.startEchoes l))) ∧
  (∀ (l : LinkId) (seq : BitVec 16) (s : State), s.ctl.state ≠ .dark →
    exec (.courseAck l seq) s = .next ((s.heard l).updLink l fun x => { x with sent := ackUpTo seq x.sent })) ∧
  (∀ (n : Nat) (s : State), s.ctl.state ≠ .dark →
    exec (.commitResend n) s = .next (s.updLink (.course n) fun x => { x with
      sent := x.sent.map fun f =>
        if isCommit f.kind = true ∧ f.resent = false ∧ 16 ≤ ticksFrom f.sentAt s.now then { f with resent := true, sentAt := s.now } else f })) ∧
  (∀ (l : LinkId) (s : State) (f : DownFrame), s.ctl.state ≠ .dark → f ∈ (s.linkOf l).sent → isCommit f.kind = false →
    64 ≤ ticksFrom f.sentAt s.now →
    exec (.courseDownlinkResend l) s = .next (s.updLink l fun x => { x with
      sent := x.sent.map fun f => if isCommit f.kind then f else { f with sentAt := s.now } })) ∧
  (∀ (n : Nat) (s : State), s.ctl.state ≠ .dark → s.ctl.state ≠ .standby → (s.course n).link.up = true →
    exec (.planSend n) s = .next ((sortBy (fun a b => tickBefore a.start b.start) ((s.course n).plans.filter fun p =>
      p.slot.isNone && !p.committed && tickDist s.now p.start ≤ 5000)).foldl (fun u p => u.sendPlan n p) s))

/-- What the courses send up, and the crown at the field bank and the transport. COURSE_STATUS is taken (R245–R247, R267); a
holder whose generation it reports notes it (R516), one that reads an earlier generation offers the crown again (R519), one that
reads a later one ends its yield or steps down (R512, R515), a standby notes that path 2 lives (R492). COURSE_END settles the
tickets of its fire (R248, R264, R566), whose start of RELEASE and rest of PEAK stand (R241, R246); COURSE_READBACK keeps the
words of an enable (R263); COURSE_LINK_LOSS after 400 ticks loses the course (R268); CROWN_RESEND (R519); FIELD_RX_CROWN and
TRANSPORT_RX_CROWN by R503. -/
def Obligations.UplinkCommandsComplete : Prop :=
  (∀ (up : UpHdr) (f : StatusFrame) (s u : State), s.ctl.state ≠ .dark → s.hasCourse up.course = true →
    u = s.takeStatus up.course up.gen f →
    (u.ctl.state = .standby → exec (.courseStatus up f) s =
      .next (if f.crownLive then { u with crown.path2 := u.now, crown.silentNoted := false } else u)) ∧
    (u.ctl.state ≠ .standby → u.crown.holds = true →
      (up.gen = u.crown.gen → exec (.courseStatus up f) s = .next { u with
        crown.resendAt := u.crown.resendAt.filter (· != up.course)
        sync.ownGenSince := u.now
        sync.driving := u.sync.driving || (u.sync.running && u.sync.driveAt.isNone) }) ∧
      (up.gen ≠ u.crown.gen → laterGen u.crown.gen up.gen = false → exec (.courseStatus up f) s =
        .next { u with crown.resendAt := u.crown.resendAt.filter (· != up.course) ++ [up.course] }) ∧
      (laterGen u.crown.gen up.gen = true → up.gen ≠ u.crown.gen →
        (u.ctl.state ∈ [.held, .ready, .run, .drain, .fault] → u.crown.yieldAt = none →
          exec (.courseStatus up f) s = .next (u.stepDown up.gen)) ∧
        (u.ctl.state ∈ [.ready, .run, .drain] → u.crown.yieldAt ≠ none → up.gen = u.crown.gen + 1 →
          exec (.courseStatus up f) s = .next (u.yieldDone up.gen)) ∧
        (u.ctl.state = .waking ∨ u.ctl.state = .collapse → exec (.courseStatus up f) s = .next u)))) ∧
  (∀ (up : UpHdr) (f : EndBody) (s u v : State) (p : Plan), s.ctl.state ≠ .dark → u = s.heard (.course up.course) →
    (u.course up.course).plans.find? (fun p => p.slot == some f.slot) = some p →
    v = u.updCourse up.course (fun c => { c with plans := c.plans.filter fun q => q.slot != some f.slot }) →
    exec (.courseEnd up f) s = .next (
      (if f.code = 0 then p.tids.foldl (fun w tid => w.endChannel p.ch f.primed tid)
        ((v.fireRan up.course p f).noteCut up.course p f.primed)
      else v.endRefused p (if f.code = 1 then .deniedBoost else if f.code = 2 then .deniedLate else .droppedFailover)).judgeDischarge
        up.course)) ∧
  (∀ (n : Nat) (p : Plan) (f : EndBody) (s : State), s.fireRan n p f =
    State.updCourse (s.updManifold n fun b => { b with samples := [], quietSince := s.now }) n fun c => { c with
      fires := c.fires + 1
      relAt := (p.ch, f.release) :: c.relAt.filter fun x => x.1 != p.ch
      peaksLeft := (s.peakOf n p :: c.peaksLeft).filter fun x => tickBefore s.now x.2 }) ∧
  (∀ (n addr : Nat) (ws : List U32) (s u v : State), s.ctl.state ≠ .dark →
    u = (s.heard (.course n)).updLink (.course n) (fun x => { x with kind := kindOfWords addr ws x.kind, present := x.present || addr = 4 }) →
    (u.course n).state = .enabling → (u.course n).step = 1 ∧ addr < 8 ∨ (u.course n).step = 2 ∧ 8 ≤ addr ∧ addr < 0x240 →
    v = u.updCourse n (fun c =>
      { c with wordsBack := (ws.mapIdx fun i w => (addr + i, w)).foldl (fun l p => assocSet p.1 p.2 l) c.wordsBack }) →
    exec (.courseReadback (.course n) addr ws) s =
      .next (if (u.course n).step = 1 then v.judgeIdentity n else v.judgeWords n addr ws)) ∧
  (∀ (l : LinkId) (addr : Nat) (ws : List U32) (s : State), s.ctl.state ≠ .dark → l = .field ∨ l = .ledger →
    exec (.courseReadback l addr ws) s = .next ((s.heard l).updLink l fun x =>
      { x with kind := kindOfWords addr ws x.kind, present := x.present || addr = 4 })) ∧
  (∀ (n : Nat) (s : State), s.ctl.state ≠ .dark → s.hasCourse n = true → (s.course n).link.up = true →
    400 ≤ ticksFrom (s.course n).link.lastRx s.now →
    exec (.courseLinkLoss n) s = .next ((s.courseLost n).failBringup 601 ("course " ++ natText n ++ " link"))) ∧
  (∀ (n : Nat) (s : State), s.ctl.state ≠ .dark → s.crown.holds = true → n ∈ s.crown.resendAt →
    64 ≤ ticksFrom (s.crown.crownSent.getD (ix n) 0) s.now →
    exec (.crownResend n) s = .next (let u := s.crownOn s.crown.gen s.crown.horizon false (.course n)
      { u with crown.crownSent := updAt (ix n) (fun _ => u.now) u.crown.crownSent })) ∧
  (∀ (d : Dn) (gen : U32) (ho : Bool) (s : State), exec (.fieldRxCrown d gen ho) s =
    .next { s with fld.crown := (s.fld.crown.judge s.now (s.drives s.fld.crown .field) d gen ho).1 }) ∧
  (∀ (d : Dn) (gen : U32) (ho : Bool) (s : State) (x : DevCrown),
    x = (s.led.crown.judge s.now (s.drives s.led.crown .ledger) d gen ho).1 →
    exec (.transportRxCrown d gen ho) s = .next { s with led.crown := x, led.stopped := s.led.stopped && x.crownUp != some d.up })

/-- Downlink frames at a powered course. SYNC aligns its counter (R260), CONFIG writes its words while it is OFF or enabling
(R262), QUERY and ECHO are answered (R261, R263), IDLE keeps the uplink alive (R268), ENABLE starts a course that is OFF (R254),
DRAIN and its abort (R256, R257), PLAN, CONFIRM, COMMIT, DROP and EXTEND act on its plans (R259, R264, R193, R240), CROWN is
judged by R503. A frame other than IDLE and CROWN needs the course's generation on its crown uplink, and one without is counted as
stale and does nothing else (R265); on an uplink that was lost only ENABLE ends the refusal of the plan frames (R268). Nothing
outside that course changes. -/
def Obligations.CourseFramesComplete : Prop :=
  ∀ (d : Dn) (s : State) (v : CourseDev), v = s.dev d.course → v.powered = true →
  exec (.courseRxIdle d) s = .next (s.updDev d.course fun x => { x with
    lastRx := x.lastRx.set d.up s.now
    lost := x.lost && !(x.crownUp == some d.up && d.gen == x.gen)
    stale := if x.obeys d then x.stale else x.stale + 1 }) ∧
  (∀ (gen : U32) (h : Tick), v.adopts s.now d.up gen = true → exec (.courseRxCrown d gen h false) s =
    .next (s.updDev d.course fun x => (x.hear s.now d).adopt s.now d.up gen h)) ∧
  (∀ (gen : U32) (h : Tick), v.crownUp = some d.up → exec (.courseRxCrown d gen h true) s =
    .next (s.updDev d.course fun x => { x.hear s.now d with handover := some gen })) ∧
  (v.obeys d = false → ∀ (addr groups clk num bank slot dur : Nat) (t : Tick) (ws : List U32) (p : PlanBody) (mask : BitVec 128) (abort : Bool),
    ∀ c ∈ [Instr.courseRxQuery d addr groups, .courseRxEcho d t clk num, .courseRxSync d t, .courseRxConfig d addr ws, .courseRxEnable d,
      .courseRxDrain d abort, .courseRxPlan d p, .courseRxConfirm d bank mask, .courseRxCommit d bank mask, .courseRxDrop d bank mask,
      .courseRxExtend d slot dur], exec c s = .next (s.updDev d.course fun x => { x.hear s.now d with stale := x.stale + 1 })) ∧
  (v.obeys d = true →
    (∀ (addr groups : Nat), addr % 4 = 0 → 1 ≤ groups → groups ≤ 64 → exec (.courseRxQuery d addr groups) s =
      .next (s.updDev d.course fun x => { x.hear s.now d with readbacks := (List.range groups).map fun g =>
        (addr + 4 * g, (List.range 4).map fun i => (x.hear s.now d).readWord (addr + 4 * g + i)) })) ∧
    (∀ (t : Tick) (clk num : Nat), exec (.courseRxEcho d t clk num) s =
      .next (s.updDev d.course fun x => { x.hear s.now d with echoReply := some (num, t, clk) })) ∧
    (∀ (t : Tick), exec (.courseRxSync d t) s = .next (s.updDev d.course fun x => { x.hear s.now d with
      aligned := true
      tickErr := tickDist s.now (tickPlus t (roundDiv (((x.word 8).toNat % 65536 : Nat) : Int) 50)) })) ∧
    (∀ (addr : Nat) (ws : List U32), v.state = .off ∨ v.state = .enabling → addr % 4 = 0 → exec (.courseRxConfig d addr ws) s =
      .next (s.updDev d.course fun x => (ws.mapIdx fun i w => (addr + i, w)).foldl (fun v p => v.putWord p.1 p.2) (x.hear s.now d))) ∧
    (v.state = .off → exec (.courseRxEnable d) s = .next (s.updDev d.course fun x => { x.hear s.now d with
      enableOnly := x.enableOnly.set d.up false
      state := .enabling
      phases := List.replicate 6 1
      clamp := false
      discharge := none })) ∧
    exec (.courseRxDrain d false) s = .next (s.updDev d.course fun x => (x.hear s.now d).drain s.now) ∧
    (v.state = .draining → v.discharge = none → v.waits d = false → exec (.courseRxDrain d true) s =
      .next (s.updDev d.course fun x => { x.hear s.now d with state := .on }))) ∧
  (v.obeys d = true → v.waits d = true → ∀ (bank slot dur : Nat) (p : PlanBody) (mask : BitVec 128),
    ∀ c ∈ [Instr.courseRxPlan d p, .courseRxConfirm d bank mask, .courseRxCommit d bank mask, .courseRxDrop d bank mask,
      .courseRxExtend d slot dur], exec c s = .next (s.updDev d.course (·.hear s.now d))) ∧
  (v.obeys d = true → v.waits d = false →
    (∀ (p : PlanBody), v.state = .on → p.slot < 512 → p.ch < (v.word 10).toNat % 128 → exec (.courseRxPlan d p) s =
      .next (s.updDev d.course fun x => { x.hear s.now d with plans := x.plans.filter (fun r => !(r.slot == p.slot && r.gen == x.gen)) ++
        [{ slot := p.slot, ch := p.ch, prov := p.prov, primed := p.primed, ceil := min 45 p.ceil, profile := p.profile
           start := p.start, dur := 4 * p.durUs, lead := 4 * p.leadUs, gen := x.gen }] })) ∧
    (∀ (bank : Nat) (mask : BitVec 128),
      exec (.courseRxConfirm d bank mask) s = .next (s.updDev d.course fun x => { x.hear s.now d with
        plans := updAll (x.named bank mask) (fun p => { p with prov := false }) x.plans }) ∧
      exec (.courseRxCommit d bank mask) s = .next (s.updDev d.course fun x => { x.hear s.now d with
        plans := updAll (x.named bank mask) (fun p => { p with committed := true, prov := false }) x.plans }) ∧
      exec (.courseRxDrop d bank mask) s = .next (s.updDev d.course fun x =>
        (x.hear s.now d).dropPlans s.now (fun p => x.named bank mask p && !p.committed) 384)) ∧
    (∀ (slot dur : Nat) (hit : DevPlan → Bool) (p : DevPlan),
      hit = (fun p => p.slot == slot && p.committed && tickBefore (v.tick s.now) (tickPlus p.start p.dur) &&
        (p.gen == v.gen || !v.plans.any fun q => q.slot == slot && q.gen == v.gen)) → v.plans.find? hit = some p →
      exec (.courseRxExtend d slot dur) s = .next (s.updDev d.course fun x => { x.hear s.now d with
        plans := updFirst hit (fun p => { p with dur := 4 * dur }) x.plans
        chans := x.chans.map fun c =>
          if (c.phase == .peak || c.phase == .hold) && c.slot == slot && c.gen == p.gen then { c with releaseAt := tickPlus p.start (4 * dur) } else c })))

/-- The channels of a course. COURSE_PRIME_START primes a channel that is OFF for its first plan between the priming start and the
fire start (R193, R195, R234); COURSE_PEAK_START at the fire start begins PEAK of a committed plan with the boost ready (R248),
and refuses an uncommitted one with code 2 (R264), one bounded by an older generation with 3 (R504) and every plan of that start
with 1 while the boost is not ready (R248); COURSE_PEAK_END goes on to HOLD (R232); COURSE_RELEASE_START at s + D releases within
150 µs and reports END (R233); what drives the channel in each phase is that of Table 7.1 (R232, R237, R243); COURSE_STATUS_SEND
reports the course after it has charged or discharged (R245, R254, R256). Nothing outside that course changes. -/
def Obligations.CourseChannelsComplete : Prop :=
  ∀ (n ch : Nat) (s : State) (v : CourseDev), v = s.dev n → v.powered = true →
  (∀ (p : DevPlan), (v.plansOn ch).find? (v.primes (v.tick s.now)) = some p → (v.chans.getD ch {}).isOff s.now = true →
    exec (.coursePrimeStart n ch) s = .next (s.updDev n fun x => x.updChan ch fun c => { c with
      phase := .prime, slot := p.slot, since := s.now, ceil := p.ceil, profile := p.profile, reached := false, gen := p.gen
      onSince := some s.now })) ∧
  (∀ (t : Tick) (p : DevPlan), v.primes t p = true ↔ p.primed = true ∧ p.lead ≠ 0 ∧ tickLe (tickPlus p.start (-p.lead)) t = true ∧
    tickBefore t p.start = true ∧ (p.prov = false ∨ v.ready = true)) ∧
  (∀ (p : DevPlan) (reached : Bool), v.planOn ch = some p → tickBefore (v.tick s.now) p.start = false →
    (p.committed = false → exec (.coursePeakStart n ch reached) s = .next (s.updDev n (·.refusePlan s.now 2 p))) ∧
    (p.committed = true → v.bounded s.now p = true →
      exec (.coursePeakStart n ch reached) s = .next (s.updDev n (·.refusePlan s.now 3 p))) ∧
    (p.committed = true → v.bounded s.now p = false → v.ready = true → exec (.coursePeakStart n ch reached) s =
      .next (s.updDev n fun x => x.updChan p.ch fun c => { c with
        phase := .peak
        reached := c.phase == .prime && c.slot == p.slot && reached
        slot := p.slot
        since := s.now
        releaseAt := tickPlus p.start p.dur
        ceil := p.ceil
        profile := p.profile
        gen := p.gen
        onSince := some (c.onSince.getD s.now) })) ∧
    (p.committed = true → v.bounded s.now p = false → v.ready = false → exec (.coursePeakStart n ch reached) s =
      .next (s.updDev n fun x => (x.plans.filter fun q => q.start == p.start && q.committed).foldl (fun v q => v.refusePlan s.now 1 q)
        (x.shed s.now)))) ∧
  (∀ (peak : Bool), (v.chans.getD ch {}).phase = .peak → peak = true ∨ v.peakMax ch ≤ ticksFrom (v.chans.getD ch {}).since s.now →
    exec (.coursePeakEnd n ch peak) s = .next (s.updDev n fun x => x.updChan ch fun c => { c with phase := .hold, since := s.now })) ∧
  (∀ (c : Channel), c = v.chans.getD ch {} → c.phase = .peak ∨ c.phase = .hold → tickLe c.releaseAt (v.tick s.now) = true →
    exec (.courseReleaseStart n ch) s = .next (s.updDev n fun x =>
      (CourseDev.updChan { x with plans := x.plans.filter fun p => !(p.slot == c.slot && p.gen == c.gen) } ch
        fun c => c.letGo s.now 600).sendEnd { slot := c.slot, code := 0, primed := c.reached, release := v.tick s.now })) ∧
  (∀ (t : Tick) (c : Channel), c = v.chans.getD ch {} →
    (c.phase = .off → v.drive t ch = .none) ∧
    (c.phase = .prime → v.drive t ch = .prime ((c.ceil : Int) * v.iPeak c.profile) 100) ∧
    (c.phase = .peak → v.drive t ch = .peak (v.iPeak c.profile) 1) ∧
    (c.phase = .hold → v.drive t ch = .hold (v.holdTarget c.profile (ticksFrom c.since t)).1 (v.holdTarget c.profile (ticksFrom c.since t)).2) ∧
    (c.phase = .release → tickLe c.zeroBy t = false → v.drive t ch = .clamp) ∧
    (c.phase = .release → tickLe c.zeroBy t = true → v.drive t ch = .none)) ∧
  exec (.courseStatusSend n) s = .next (s.updDev n fun x => { (x.settle s.now).shed s.now with
    statusAt := s.now
    statusSent := some (((x.settle s.now).shed s.now).statusOf s.now) })

/-- Faults of a course. BOOST_PHASE_FAULT marks a working phase LOST or SENSE, and with none left the course drains;
BOOST_OVERVOLTAGE clamps the bank and drains (R267); below 18.0 V the boost stops, priming for unconfirmed PROV plans ends (R195),
and a bank that was ready has some voltage below V_ready (a free value of the model, assumption 4); below 14.0 V only what the
device is stays (R267, R548), and at 19.2 V or more it starts again or recharges; COURSE_UPLINK_SILENCE after 400 ticks drops its
uncommitted plans and takes only ENABLE on that uplink (R268); COURSE_ORPHAN_DRAIN 2 s later drains it (R268). Nothing outside
that course changes but the count of free values drawn. -/
def Obligations.CourseFaultsComplete : Prop :=
  (∀ (n phase volts : Nat) (sense : Bool) (s : State) (v : CourseDev), v = s.dev n → v.powered = true →
    (v.phases.getD (ix phase) 0 = 1 → exec (.boostPhaseFault n phase sense) s = .next (s.updDev n fun x =>
      if CourseDev.working { x with phases := x.phases.set (ix phase) (if sense then 3 else 2) } = 0 then
        CourseDev.drain { x with phases := x.phases.set (ix phase) (if sense then 3 else 2) } s.now
      else { x with phases := x.phases.set (ix phase) (if sense then 3 else 2) })) ∧
    (v.state ≠ .off → exec (.boostOvervoltage n) s = .next (s.updDev n fun x => { x.drain s.now with clamp := true })) ∧
    (volts < 1800 → exec (.courseFieldSupplyLow n volts) s = .next (State.updDev { s with freeCount := s.freeCount + 1 } n fun x =>
      CourseDev.shed { x with
        fieldV := volts
        low := true
        bankV := if x.ready then (Config.freeWord s.freeCount).toNat % ((9 * x.setpoint + 9) / 10) else x.bankV } s.now)) ∧
    (1920 ≤ volts → exec (.courseFieldSupplyReturn n volts) s = .next (s.updDev n fun x => { x with fieldV := volts, low := false })) ∧
    (∀ (c : Nat), v.crownUp = some c → 400 ≤ ticksFrom (v.lastRx.getD c 0) s.now → v.lost = false →
      exec (.courseUplinkSilence n) s = .next (s.updDev n fun x =>
        { x.dropUncommitted s.now with lost := true, lostAt := s.now, enableOnly := x.enableOnly.set c true })) ∧
    (v.lost = true → secT 2 ≤ ticksFrom v.lostAt s.now →
      exec (.courseOrphanDrain n) s = .next (s.updDev n fun x => x.drain s.now))) ∧
  (∀ (n volts : Nat) (s : State), volts < 1400 → exec (.courseFieldSupplyLoss n volts) s = .next (s.updDev n fun x =>
    { kind := x.kind, serial := x.serial, fw := x.fw, hwRev := x.hwRev, fieldV := volts })) ∧
  (∀ (n volts : Nat) (s : State), 1920 ≤ volts → (s.dev n).powered = false → exec (.courseFieldSupplyReturn n volts) s =
    .next (s.updDev n fun x => { kind := x.kind, serial := x.serial, fw := x.fw, hwRev := x.hwRev, fieldV := volts, powered := true }))

/-- Accesses and text on an accepted Ramalink frame. A WRITE or WRITE-WITH-NOTICE that R308 grants stores its bytes in its window,
and the last frame of an entry with notice gives the notice (R285, R287); a READ-REQ is answered from its window (R286), an
ATOMIC-ADD adds and answers the old value (R288); a READ-RESP or ATOMIC-RESP stores its bytes at the address that the entry it
names gives and completes the entry (R280, R282, R285); a SEND takes a receive entry and its text enters the session (R39), or
waits with RNR. Each consumes its psn (R289). -/
def Obligations.AccessFramesComplete : Prop :=
  (∀ (h : RlHdr) (data : List Byte) (s u v : State) (t : Admitted), s.AcceptsNext h u → h.bad = false → rkeyBad h = false →
    data ≠ [] → data.length ≤ 1440 → (u.conn h.conn).skipEntry = false ∨ h.first = true →
    u.grantAccess h.conn h.rkey h.offset data.length .write = .ok t →
    (u.beginEntry h.conn h.first t.off).writeWindow h.conn t data = (v, true) →
    exec (.rlWrite h data) s = .next (v.consume h) ∧
    exec (.rlWriteWithNotice h data) s = .next (State.consume
      (if h.last then v.notice h.conn t.index (v.conn h.conn).entryStart (t.off + data.length) else v) h)) ∧
  (∀ (h : RlHdr) (data : List Byte) (s u v : State) (t : Admitted) (n : Nat) (l : List Byte), s.AcceptsNext h u → h.bad = false →
    rkeyBad h = false → data.length = 4 → n = leNat data → n ≠ 0 → n ≤ 1048576 →
    u.grantAccess h.conn h.rkey h.offset n .read = .ok t → u.readWindow h.conn t n = (v, some l) →
    exec (.rlReadReq h data) s = .next ((v.consume h).respond h.conn (respFrames v.now h.psn t l))) ∧
  (∀ (h : RlHdr) (data old : List Byte) (s u v w : State) (t : Admitted), s.AcceptsNext h u → h.bad = false → rkeyBad h = false →
    data.length = 8 → u.grantAccess h.conn h.rkey h.offset 8 .atomic = .ok t → u.readWindow h.conn t 8 = (v, some old) →
    v.writeWindow h.conn t (leBytes 8 (leNat old + leNat data)) = (w, true) →
    exec (.rlAtomicAdd h data) s = .next ((w.consume h).respond h.conn
      [{ op := .atomicResp, rkey := h.psn, first := true, last := true, cls := if t.ticket then .ticket else .bulk
         payload := old, queuedAt := w.now, wins := t.wins }])) ∧
  (∀ (h : RlHdr) (data : List Byte) (s u v : State) (i : Nat), s.AcceptsNext h u → h.bad = false → data ≠ [] → data.length ≤ 1440 →
    ((u.consume h).conn h.conn).requestOf .read h.rkey = some i →
    v = (u.consume h).storeAt (((u.consume h).conn h.conn).sq.getD i {}) h.offset.toNat data →
    exec (.rlReadResp h data) s = .next ((v.updConn h.conn fun x => { x with
      sq := updAt i (fun w => { w with
        got := w.got + data.length
        answered := w.length ≤ w.got + data.length }) x.sq }).settle)) ∧
  (∀ (w : WorkEntry) (off a : Nat) (data : List Byte) (s : State), w.local_ = some a →
    s.storeAt w off data = s.storeLocal (a + off) (data.take (w.length - off))) ∧
  (∀ (h : RlHdr) (data : List Byte) (s u v : State) (i : Nat), s.AcceptsNext h u → h.bad = false → data.length = 8 →
    ((u.consume h).conn h.conn).requestOf .atomicAdd h.rkey = some i →
    v = (u.consume h).storeAt (((u.consume h).conn h.conn).sq.getD i {}) 0 data →
    exec (.rlAtomicResp h data) s = .next ((v.updConn h.conn fun x => { x with
      sq := updAt i (fun w => { w with got := 8, data := data, answered := true }) x.sq }).settle)) ∧
  (∀ (h : RlHdr) (data : List Byte) (s u v : State), s.AcceptsNext h u → h.bad = false → h.first = true → h.last = true →
    data ≠ [] → data.length ≤ 1440 →
    v = (if u.textStuck h.conn then u else u.updConn h.conn fun x => { x with recvFree := u.num (0x190 + (x.port - 1)) }) →
    ((v.conn h.conn).recvFree ≠ 0 → exec (.rlSend h data) s =
      .next (((v.updConn h.conn fun x => { x with recvFree := x.recvFree - 1 }).sendText h.conn data).consume h)) ∧
    ((v.conn h.conn).recvFree = 0 → exec (.rlSend h data) s =
      .next (v.drew.queueNak h.conn 2 h.psn 0 (v.freeWord.toNat % 65536))))

/-- Control frames and frames dropped. An ACK does no more than its acceptance, and with ACKREQ is answered (R289); a NAK sends
again from the oldest frame (PSN-SEQ), waits (RNR), marks its entry (INTEGRITY), or ends the connection with 0x4101 (R291, R292);
REKEY moves to the next epoch and answers first under it, and from the last epoch ends the connection (R298), REKEY-ACK completes
the rekey with NOTE 0x4301 and REKEY-REQ starts one (R296, R297); DISCONNECT closes the connection after its ACK (R277).
RL_AUTH_FAIL counts the frame (R271, R295), RL_STALE_FRAME drops and counts it (R300). -/
def Obligations.ControlFramesComplete : Prop :=
  (∀ (h : RlHdr) (s u : State), s.Accepts h u → h.bad = false →
    exec (.rlAck h) s = .next (if h.ackreq = true ∧ (u.conn h.conn).state = .ready then u.queueAck h.conn else u)) ∧
  (∀ (h : RlHdr) (data : List Byte) (s u w : State) (code : Nat) (psn : U32), s.hearsFrame h.port h.eth = true →
    s.AcceptsWith h (·.nakMarks h data) u → (u.conn h.conn).state = .ready → h.bad = false → data.length = 16 →
    code = (data.getD 0 0).toNat → psn = BitVec.ofNat 32 (leNat (sliceB data 4 4)) → w = (if h.ackreq then u.queueAck h.conn else u) →
    (∀ v : State, v.nakMarks h data = if code = 0x30 then v.nakEntry h.conn psn 0x30 else v) ∧
    (code = 1 → exec (.rlNak h data) s = .next (w.updConn h.conn fun x => { x with resend := x.unacked })) ∧
    (code = 2 → exec (.rlNak h data) s = .next (w.nakRnr h.conn psn (leNat (sliceB data 12 2)))) ∧
    (code = 0x30 → exec (.rlNak h data) s = .next w.settle) ∧
    (∀ (v : State), 0x10 ≤ code → code ≤ 0x25 → v = w.nakEntry h.conn psn code → exec (.rlNak h data) s =
      .next ((v.event 0x4101 3 h.conn h.port code psn.toNat
        (((w.conn h.conn).unacked.find? fun (f : TxFrame) => f.psn == psn).elim 0 fun f => f.offset.toNat)).leave
          h.conn .error .violationReceived))) ∧
  (∀ (h : RlHdr) (data : List Byte) (s u : State), s.AcceptsNext h u → controlBad h data 4 = false →
    ((u.conn h.conn).epoch = 0xFFFFFFFF →
      exec (.rlRekey h data) s = .next ((u.consume h).leave h.conn .error .epochLimit)) ∧
    ((u.conn h.conn).epoch ≠ 0xFFFFFFFF → epochIn data = (u.conn h.conn).epoch + 1 →
      exec (.rlRekey h data) s = .next (((u.consume h).updConn h.conn fun x => x.nextEpoch u.now).controlFirst h.conn
        { op := .rekeyAck, first := true, last := true, payload := leBytes 16 (epochIn data).toNat })) ∧
    ((u.conn h.conn).rekeying = true → epochIn data = (u.conn h.conn).epoch + 1 →
      exec (.rlRekeyAck h data) s =
        .next (((u.consume h).updConn h.conn fun x => x.nextEpoch u.now).event 0x4301 3 h.conn (epochIn data).toNat))) ∧
  (∀ (h : RlHdr) (data : List Byte) (s u : State), s.AcceptsNext h u → controlBad h data 0 = false →
    exec (.rlRekeyReq h data) s = .next ((u.consume h).startRekey h.conn)) ∧
  (∀ (h : RlHdr) (data : List Byte) (s u : State), s.AcceptsNext h u → controlBad h data 1 = false →
    exec (.rlDisconnect h data) s = .next (((u.consume h).queueAck h.conn).leave h.conn .closing .peerClose)) ∧
  (∀ (p : Nat) (s : State), s.hears p = true →
    exec (.rlAuthFail p true) s = .next ((s.updPort p fun x => { x with drops := x.drops + 1 }).updPort p fun x => { x with fcs := x.fcs + 1 }) ∧
    exec (.rlAuthFail p false) s = .next (s.authFail p) ∧
    (∀ (dconn : Nat), s.stale p dconn = true →
      exec (.rlStaleFrame p dconn) s = .next (s.updPort p fun x => { x with drops := x.drops + 1 })))

/-- Opening connections. A CONNECT or ACCEPT that is not addressed to the port is ignored, one of another version dropped (R270,
R271, R273). A CONNECT that no step of R275 refuses makes the lowest CLOSED connection OPENING and answers ACCEPT; R276 ends an
attempt after 10 ms or at a REFUSE, after which either connection of the port waits 100 ms, and an ACCEPT makes this Keystone's
own attempt READY with the partner's numbers and keys; this Keystone opens PEER when its address is the lower (R491). A failed
random source raises ALARM 0x4203 and opens nothing (R302). That a REFUSE counts 100 ms from its arrival and a random source
recovers silently are readings (assumption 16). -/
def Obligations.OpeningCommandsComplete : Prop :=
  (∀ (p c : Nat) (f : ConnectFrame) (s : State), s.hearsFrame p f.eth = true → s.ctl.state ≠ .waking → s.ctl.state ≠ .collapse → s.net.rngOk = true →
    s.isSet (secretId p) = true → frameMac (s.secret p) f.header f.payload 48 = sliceB f.payload 48 16 → headerVersion f.header = 1 →
    (∀ d ∈ s.connsOn p, (s.conn d).state ≠ .opening ∨ (s.conn d).connect ≠ f.header ++ f.payload) →
    sliceB f.payload 8 16 ∉ (s.port p).nps → (s.connsOn p).length < s.num (portP 6 p) →
    c < 64 → (s.conn c).state = .closed → (∀ d < c, (s.conn d).state ≠ .closed) →
    exec (.rlConnect p f) s = .next (s.beginOpening p c f)) ∧
  (∀ (c : Nat) (s : State), (s.conn c).state = .opening → msT 10 ≤ ticksFrom (s.conn c).acceptAt s.now →
    exec (.connectTimeout c) s = .next (s.updConn c fun x => { reason := x.reason, fullGen := x.fullGen })) ∧
  (∀ (p : Nat) (f : ConnectFrame) (g : AcceptFrame) (s : State),
    (s.hearsFrame p f.eth = true → headerVersion f.header ≠ 1 → exec (.rlConnect p f) s = .next (s.dropFrame p)) ∧
    (s.hearsFrame p g.eth = true → headerVersion g.header ≠ 1 → exec (.rlAccept p g) s = .next (s.dropFrame p)) ∧
    (s.hearsFrame p f.eth = false → exec (.rlConnect p f) s = .next s) ∧ (s.hearsFrame p g.eth = false → exec (.rlAccept p g) s = .next s)) ∧
  (∀ (p c : Nat) (f : AcceptFrame) (s : State), s.hearsFrame p f.eth = true → headerVersion f.header = 1 →
    frameMac (s.secret p) f.header f.payload 48 = sliceB f.payload 48 16 →
    ((s.connsOn p).find? fun d => (s.conn d).opening && (s.conn d).state == .opening &&
      ((s.conn d).connect.drop 40).take 16 == sliceB f.payload 24 16) = some c →
    exec (.rlAccept p f) s = .next ((s.connReady c).updConn c fun x => { x with
      kconn := BitVec.ofNat 16 (leNat (sliceB f.payload 0 2))
      prq := leNat (sliceB f.payload 2 2)
      rxPsn := BitVec.ofNat 32 (leNat (sliceB f.payload 4 4))
      nk := sliceB f.payload 8 16
      prk := prkOf (s.secret p) (sliceB f.payload 24 16) (sliceB f.payload 8 16) })) ∧
  (∀ (p c dconn : Nat) (r : RefuseReason) (s t : State), s.hears p = true →
    ((s.connsOn p).find? fun d => (s.conn d).opening && (s.conn d).state == .opening && (s.conn d).pconn.toNat = dconn) = some c →
    t = s.updConn c Conn.closed →
    exec (.rlRefuse p dconn r true) s = .next { t with
      crown.peerRetry := s.crown.peerRetry.map fun _ => some (tickPlus s.now (msT 100 : Nat)) }) ∧
  (∀ (i c : Nat) (s v t : State) (np b hd : List Byte) (psn : U32), i ≤ 1 → s.hears 7 = true → s.ctl.state ≠ .collapse → s.paired = true → opensPeer = true →
    s.net.rngOk = true → s.isSet (secretId 7) = true → (∀ d ∈ s.connsOn 7, (s.conn d).pconn.toNat ≠ 0x0C00 + i) →
    (s.crown.peerRetry.getD i none = none ∨ ∃ t, s.crown.peerRetry.getD i none = some t ∧ tickBefore s.now t = false) →
    s.freeConn = some c → np = s.randomBytes 16 → psn = BitVec.ofNat 32 s.drew.freeWord.toNat → hd = plainHeader 0x30 0xFFFF 0 64 →
    b = leBytes 2 (0x0C00 + i) ++ leBytes 2 (s.num 0x196) ++ leBytes 4 psn.toNat ++ np ++ List.replicate 24 0#8 →
    v = (s.drew.drew.updConn c fun x => { x.closed with
      state := .opening
      reason := .none
      opening := true
      port := 7
      partner := Config.peerMac
      pconn := BitVec.ofNat 16 (0x0C00 + i)
      txPsn := psn
      connect := hd ++ (b ++ frameMac (s.secret 7) hd b 48)
      acceptAt := s.now }) →
    t = { v with crown.peerRetry := updAt i (fun _ => some (tickPlus v.now (msT 100 : Nat))) v.crown.peerRetry } →
    exec (.peerConnectRetry i) s = .next (t.portFrame 7 Config.peerMac .connect 0xFFFF 0 (b ++ frameMac (s.secret 7) hd b 48))) ∧
  (∀ s : State, s.awake = true → s.net.rngOk = true → exec .rngHealthFail s = .next (State.event { s with net.rngOk := false } 0x4203 0 0)) ∧
  (∀ s : State, s.awake = true → exec .randomSourceRecovered s = .next { s with net.rngOk := true })

/-- Timers of a connection. A retransmit timeout sends again from the oldest frame, and the last one of net.retry ends the
connection with RETRY (R289); an RNR's delay over, sending goes on (Table 8.11); 1 ms without a frame sends an ACK and the silence
limit ends the connection (R279); the flush leaves it CLOSED (R277); the period starts a rekey on a connection that the partner
opened and the old epoch ends (R296, R297). -/
def Obligations.ConnectionTimersComplete : Prop :=
  (∀ (c : Nat) (s : State) (f : TxFrame) (l : List TxFrame), (s.conn c).unacked = f :: l → (s.conn c).state = .ready → (s.conn c).resend = [] →
    (s.conn c).rnrUntil = none → usT (s.num (portP 7 (s.conn c).port)) ≤ ticksFrom f.queuedAt s.now →
    ((s.conn c).retries + 1 < s.num (portP 8 (s.conn c).port) → exec (.retransmitTimeout c) s =
      .next (s.updConn c fun x => { x with retries := x.retries + 1, resend := x.unacked })) ∧
    (s.num (portP 8 (s.conn c).port) ≤ (s.conn c).retries + 1 → exec (.retransmitTimeout c) s =
      .next (s.leave c .error .retry (some (.retry, 0))))) ∧
  (∀ (c : Nat) (s : State) (t : Tick), s.isReady c = true → (s.conn c).rnrUntil = some t → tickLe t s.now = true →
    exec (.rnrResend c) s = .next (s.updConn c fun x => { x with rnrUntil := none, resend := x.unacked })) ∧
  (∀ (c : Nat) (s : State), s.isReady c = true →
    (msT 1 ≤ ticksFrom (s.conn c).lastTx s.now → exec (.keepalive c) s = .next (s.queueAck c)) ∧
    (msT (s.num (portP 0xB (s.conn c).port)) ≤ ticksFrom (s.conn c).lastRx s.now →
      exec (.connSilence c) s = .next (s.leave c .error .silence)) ∧
    (secT (3600 * s.num (portP 0xC (s.conn c).port)) ≤ ticksFrom (s.conn c).epochSince s.now → (s.conn c).rekeying = false →
      (s.conn c).opening = false →
      (s.conn c).epoch ≠ 0xFFFFFFFF → exec (.rekeyPeriod c) s = .next ((s.updConn c fun x => { x with rekeying := true }).control c
        { op := .rekey, first := true, last := true, payload := leBytes 16 ((s.conn c).epoch + 1).toNat }))) ∧
  (∀ (c : Nat) (s : State), (s.conn c).state = .error ∨ (s.conn c).state = .closing →
    exec (.connFlushDone c) s = .next (s.updConn c fun x => { reason := x.reason, fullGen := x.fullGen })) ∧
  (∀ (c : Nat) (s : State) (t : Tick), (s.conn c).oldUntil = some t → tickBefore t s.now = true →
    exec (.oldEpochExpire c) s = .next (s.updConn c fun x => { x with oldUntil := none, oldSeen := [] }))

/-- Ports. A link lost ends the port's connections (R279) and is recorded by the port's kind (R36, R517); a link up of a port
that may run makes a supervisor port the used one where none is (R17) and ends a pending LINK RESET; a module that is removed or
not accepted takes the link down with 0x4011 (R301, R542); a frame in the MAC at the start of a guard is recorded and closes the
port (R334). EGRESS_GRANT sends the oldest control frame that fits, else the first head frame of the window's class that fits
(R314-R318); WORK_ENTRY_POST posts an entry on a READY connection (R280). The parameters of 0x4011 and the order of a lost
link's effects are readings (assumption 16). -/
def Obligations.PortCommandsComplete : Prop :=
  (∀ (p : Nat) (s : State), s.awake = true → 1 ≤ p → p ≤ 7 → (s.port p).link = true →
    exec (.portLinkDown p) s = .next ((s.linkGone p).noteLoss p) ∧
    (p = 7 → exec .peerLinkLoss s = .next ((s.linkGone 7).noteLoss 7))) ∧
  (∀ (p : Nat) (s u v : State), s.awake = true → 1 ≤ p → p ≤ 7 → (s.port p).link = false → (s.port p).off = false →
    (s.port p).closingAt = none → p = 6 ∨ (s.port p).module_ = .sr ∨ (s.port p).module_ = .lr →
    u = (s.updPort p fun x => { x with link := true, resetAt := none }) →
    v = (if isSup p ∧ s.net.supPort = none then { u with net.supPort := some p } else u) →
    ((s.port p).resetAt = none → exec (.portLinkUp p) s = .next v) ∧
    ((s.port p).resetAt ≠ none → exec (.portLinkUp p) s = .next (v.finish (· == PendOp.linkReset p) (.ok "UP")))) ∧
  (∀ (p : Nat) (m : ModuleKind) (w : Int) (s u : State), s.awake = true → 1 ≤ p → p ≤ 7 → p ≠ 6 →
    u = (s.updPort p fun x => { x with module_ := m, rxPower := w }) →
    (m = .sr ∨ m = .lr → exec (.sfpModuleChange p m w) s = .next u) ∧
    (m ≠ .sr → m ≠ .lr → (m ≠ .none ∨ (s.port p).module_ ≠ .none) → (s.port p).link = true → p ≠ 7 →
      exec (.sfpModuleChange p m w) s = .next ((u.linkGone p).event 0x4011 2 p 1))) ∧
  (∀ (p : Nat) (s : State), s.hears p = true → s.now.toNat % 200 = 192 →
    exec (.egressGuardFault p) s = .next ((s.event 0x4011 2 p 0).closePort p false)) ∧
  (∀ (p stop : Nat) (cls : FrameClass) (s : State) (o : Offer), s.hears p = true → s.macBusy p = false → s.now.toNat % 200 < 192 →
    (s.now.toNat % 200 < s.ticketWindow p ∧ stop = s.ticketWindow p ∧ cls = .ticket ∨
      s.ticketWindow p ≤ s.now.toNat % 200 ∧ stop = 192 ∧ cls = .bulk) →
    (oldestOffer ((s.controls p).filter fun o => (s.countHeld p stop (s.controls p ++ s.offers p cls)).fits p stop o.frame) = some o ∨
      oldestOffer ((s.controls p).filter fun o => (s.countHeld p stop (s.controls p ++ s.offers p cls)).fits p stop o.frame) = none ∧
      (s.offers p cls).find? (fun o => (s.countHeld p stop (s.controls p ++ s.offers p cls)).fits p stop o.frame) = some o) →
    exec (.egressGrant p) s = .next ((s.countHeld p stop (s.controls p ++ s.offers p cls)).transmit p o)) ∧
  (∀ (c : Nat) (w : WorkPost) (s : State) (e : WorkEntry), s.isReady c = true → s.sqFull c = false →
    e = { op := w.op, ticket := w.ticket, length := w.length, rkey := w.rkey, offset := w.offset, local_ := some w.local_,
          data := w.data, id := w.id } →
    (w.reserved = false → lengthOk w.op w.length = true → exec (.workEntryPost c w) s = .next (s.postEntry c e).settle) ∧
    (w.reserved = true ∨ lengthOk w.op w.length = false →
      exec (.workEntryPost c w) s = .next ((s.updConn c fun x => { x with sq := x.sq ++ [{ e with fate := some CqStatus.local_ }] }).settle)))

/-- The LINK verbs and header air. LINK RESET closes the port's connections and trains again, from OFF it trains at once, and LINK
RESET OFF closes it to OFF (R156-R158); 2 s without a link answer "DOWN, no signal" and leave the port enabled, LINK SHOW lists
(R331). A pressure sample is kept and one below p_low holds the refill with 0x3040 (R252, R253); the hold ends after valid samples
over 100 ms at p_low + 20 kPa (R253); a quiet window below the nominal pressure learns rho, one at or above it sets the level to
the size (R252). -/
def Obligations.LinkAndAirComplete : Prop :=
  (∀ (ln : Ln) (s u : State), s.Runs ln .view → u = s.lineTaken ln →
    exec (.linkShow ln none) s = .next (u.replied ln (.multi ([1, 2, 3, 4, 5, 6, 7].map u.portLine))) ∧
    (∀ (p : Nat), 1 ≤ p → p ≤ 7 → exec (.linkShow ln (some p)) s = .next (u.replied ln (.multi [u.portLine p])))) ∧
  (∀ (ln : Ln) (p : Nat) (s u : State), s.Runs ln .engineer → u = s.lineTaken ln → 1 ≤ p → p ≤ 7 → s.pendFull ln = false →
    (s.port p).closingAt = none →
    ((s.port p).off = true → exec (.linkReset ln p) s = .next (u.started ln (.linkReset p) ("resetting " ++ portName p) fun v =>
      v.updPort p fun y => { y with off := false, resetAt := some v.now })) ∧
    ((s.port p).off = false → (s.port p).resetAt = none → exec (.linkReset ln p) s =
      .next (u.started ln (.linkReset p) ("resetting " ++ portName p) (·.closePort p false))) ∧
    ((s.port p).off = false → exec (.linkResetOff ln p) s = .next (u.started ln (.linkOff p) ("closing " ++ portName p) fun v =>
      (v.finish (· == PendOp.linkReset p) (.err 301 "cancelled")).closePort p true))) ∧
  (∀ (p : Nat) (s : State) (t : Tick), (s.port p).resetAt = some t → secT 2 ≤ ticksFrom t s.now →
    exec (.linkResetTimeout p) s =
      .next ((s.updPort p fun x => { x with resetAt := none }).finish (· == PendOp.linkReset p) (.ok "DOWN, no signal"))) ∧
  (∀ (m : Nat) (s u : State) (p : Int), s.awake = true → s.airLearns m = true →
    (s.fld.ais.getD (s.num (airP 2 m) - 1) {}).valid = true → p = (s.fld.ais.getD (s.num (airP 2 m) - 1) {}).value →
    u = (s.updManifold m fun b => { b with
      pressure := roundDiv p 10
      samples := b.samples ++ [(s.now, p)]
      held := b.held || p < 10 * s.raw (airP 8 m)
      okSince := if 10 * s.raw (airP 8 m) + 2000 ≤ p then some (b.okSince.getD s.now) else none
      okAt := s.now }) →
    (p < 10 * s.raw (airP 8 m) → (s.manifold m).held = false →
      exec (.airPressureSample m) s = .next (u.event 0x3040 5 m (roundDiv p 10).toNat)) ∧
    (10 * s.raw (airP 8 m) ≤ p ∨ (s.manifold m).held = true → exec (.airPressureSample m) s = .next u)) ∧
  (∀ (m : Nat) (s : State), s.awake = true → s.airLearns m = true → s.fireUnderWay m = false →
    msT (s.num 0x580) ≤ ticksFrom (s.manifold m).quietSince s.now → 2 ≤ (s.manifold m).samples.length →
    ((∀ x ∈ (s.manifold m).samples, x.2 < 10 * s.raw (airP 7 m)) → exec (.airQuietWindow m) s =
      .next (s.updManifold m fun b => { s.learnRho m b with samples := [], quietSince := s.now })) ∧
    ((∀ x ∈ (s.manifold m).samples, 10 * s.raw (airP 7 m) ≤ x.2) → exec (.airQuietWindow m) s =
      .next (s.updManifold m fun b => { b with level := s.airSize m, samples := [], quietSince := s.now }))) ∧
  (∀ (m : Nat) (s : State) (t : Tick), s.awake = true → (s.manifold m).okSince = some t → msT 100 ≤ ticksFrom t (s.manifold m).okAt →
    (s.manifold m).held = true → exec (.airHoldRelease m) s =
      .next ((s.updManifold m fun b => { b with held := false, okSince := none }).event 0x3041 5 m (s.manifold m).pressure.toNat))

/-- The WINDOW verbs (Table 9.1, R307, R313, R332). WINDOW OPEN of an openable connection with an aligned range opens the lowest
free user entry with the next generation; WINDOW OPEN FULL gives a full key, on a CLS port outside RUN and DRAIN; the REVOKE forms
take them away, and answer when the last access admitted has ended (R310). WINDOW OPEN's generation is per entry (R305). The text
of the replies is a reading (assumption 16). -/
def Obligations.WindowVerbsComplete : Prop :=
  (∀ (ln : Ln) (c off len i : Nat) (perm : Perm) (ticket : Bool) (s u v : State) (g : Nat), s.Runs ln .engineer → u = s.lineTaken ln → c < 64 →
    (s.conn c).state = .ready → (s.conn c).port ≠ 7 → off % 64 = 0 → len % 64 = 0 → 64 ≤ len → len ≤ 2 ^ 24 → off + len ≤ 2 ^ 26 →
    u.sealGate 2 = none → u.freeWindow = some i → g = nextGen (s.net.userGen.getD (i - 48) 0) →
    v = { u.updConn c fun x => { x with revoked := x.revoked.filter (· != i) } with
      net.userGen := updAt (i - 48) (fun _ => g) u.net.userGen
      net.userWins := u.net.userWins ++ [{ index := i, gen := g, conn := c, base := off, length := len, perm := perm, ticket := ticket }] } →
    exec (.windowOpen ln c off len perm ticket) s = .next (v.replied ln (.ok ("index 0x" ++ hexText 2 i ++ " generation " ++ natText g ++
      " handle 0x" ++ (hexText 2 g ++ "00" ++ hexText 2 i))))) ∧
  (∀ (ln : Ln) (c : Nat) (s u : State) (g : Nat), s.Runs ln .engineer → u = s.lineTaken ln → c < 64 → (s.conn c).state = .ready →
    (s.conn c).port ≠ 7 → isCls (s.conn c).port = false ∨ (s.ctl.state ≠ .run ∧ s.ctl.state ≠ .drain) → g = nextGen (s.conn c).fullGen →
    exec (.windowOpenFull ln c) s = .next ((u.updConn c fun x => { x with fullOn := true, fullGen := g }).replied ln
      (.ok ("index 0xFFFF generation " ++ natText g ++ " handle 0x" ++ (hexText 2 g ++ "FFFF"))))) ∧
  (∀ (ln : Ln) (c i : Nat) (s u v : State) (w : UserWin), s.Runs ln .engineer → u = s.lineTaken ln → w ∈ s.net.userWins → w.index = i → w.conn = c →
    v = { u.updConn c fun x => { x with revoked := i :: x.revoked.filter (· != i) } with
      net.userWins := s.net.userWins.filter fun w => !(w.index = i && w.conn = c) } →
    (v.accessRuns c i = false → exec (.windowRevoke ln c i) s = .next (v.replied ln (.ok ("index 0x" ++ hexText 2 i)))) ∧
    (v.accessRuns c i = true → exec (.windowRevoke ln c i) s = .next (State.prompt { v with
      net.revoking := v.net.revoking ++ [{ conn := c, index := i, ln := ln, text := "index 0x" ++ hexText 2 i }] } ln.ses))) ∧
  (∀ (ln : Ln) (c : Nat) (s u v : State), s.Runs ln .engineer → u = s.lineTaken ln → c < 64 → (s.conn c).fullOn = true → (s.conn c).port ≠ 7 →
    v = u.updConn c (fun x => { x with fullOn := false }) →
    (v.accessRuns c 0xFFFF = false → exec (.windowRevokeFull ln c) s = .next (v.replied ln (.ok "index 0xFFFF"))) ∧
    (v.accessRuns c 0xFFFF = true → exec (.windowRevokeFull ln c) s = .next (State.prompt { v with
      net.revoking := v.net.revoking ++ [{ conn := c, index := 0xFFFF, ln := ln, text := "index 0xFFFF" }] } ln.ses)))

/-- Multicast groups. A post on a port that may post is taken with the next gsn and its targets (R321, R323); an answer settles
its target, a retry or the timeout the deliveries (R325-R327). The forms of GROUP change an idle group and answer its settings;
GROUP SEND posts from within (R330). The gsn of a BUSY record is a free value, and the replies' text is a reading (assumption 17).
-/
def Obligations.GroupCommandsComplete : Prop :=
  (∀ (hdr h : RlHdr) (g : Nat) (data : List Byte) (s u : State), h = { hdr with conn := hdr.rkey.toNat % 65536 } →
    h.eth.dest = .port ∨ h.eth.dest = .group g → s.takesTag h.port h.eth = true → s.AcceptsWith h id u →
    (u.conn h.conn).state = .ready → h.psn = (u.conn h.conn).rxPsn → h.bad = false → g < 16 → s.on 0x1A0 g = true →
    s.isReady h.conn = true → (s.conn h.conn).port = h.port → h.rkey.toNat < 65536 → h.offset = 0 → h.first = true → h.last = true →
    data ≠ [] → data.length ≤ 1440 → (u.num 0x1A4 g).testBit (h.port - 1) = true →
    exec (.rlGroupPost hdr g data) s = .next ((u.consume h).groupPost g (some h.conn) h.psn data).1) ∧
  (∀ (h : RlHdr) (data : List Byte) (s u v : State) (gsn : U32) (g : Nat) (p : Post), s.AcceptsNext h u → controlBad h data 6 = false →
    h.first = true → h.last = true → (data.getD 5 0).toNat ≤ 1 → gsn = BitVec.ofNat 32 (leNat (sliceB data 0 4)) →
    g = (data.getD 4 0).toNat → g < 16 → v = u.consume h → v.post? g gsn = some p →
    (∃ t ∈ p.targets, t.conn = h.conn ∧ t.st = .sent) →
    exec (.rlGroupResult h data) s = .next ((v.updTarget g gsn h.conn fun t => t.answered ((data.getD 5 0).toNat = 0)
      (v.num 0x1A0 g = 1 && ticksFrom p.at_ v.now < v.groupLimit g) v.now).settleGroup g)) ∧
  (∀ (g : Nat) (s : State), exec (.groupRetry g) s = .next (((s.kick g true).finishPosts g).settleGroup g)) ∧
  (∀ (g : Nat) (gsn : U32) (s : State) (p : Post), s.post? g gsn = some p → s.groupLimit g ≤ ticksFrom p.at_ s.now →
    exec (.groupTimeout g gsn) s = .next ((((s.cancelDeliveries g gsn).updPost g gsn fun p => { p with
      targets := updAll (fun (t : Target) => s.groupLimit g + msT 1 ≤ ticksFrom (((s.post? g gsn).getD {}).at_) s.now || t.st == .waiting)
        Target.end_ p.targets }).settle).settleGroup g)) ∧
  (∀ (ln : Ln) (g : Nat) (s u : State), s.Runs ln .engineer → u = s.lineTaken ln → g < 16 → (s.group g).posts = [] →
    (∀ v, v = u.setRaw 0x1A0 g 1 → exec (.groupMode ln g .reliable) s = .next (v.replied ln (.ok (v.groupSettings g)))) ∧
    (∀ v, v = u.setRaw 0x1A0 g 2 → exec (.groupMode ln g .unreliable) s = .next (v.replied ln (.ok (v.groupSettings g)))) ∧
    (∀ v, v = ((u.setRaw 0x1A0 g 0).setRaw 0x1A1 g 0).updGroup g (fun x => { x with conns := 0 }) →
      exec (.groupMode ln g .free) s = .next (v.replied ln (.ok (v.groupSettings g)))) ∧
    (∀ m v, memberOk m = true → (∀ c, m = .conn c → (s.conn c).state = .ready) → v = u.setMember g m true →
      exec (.groupAdd ln g m) s = .next (v.replied ln (.ok (v.groupMembers g)))) ∧
    (∀ m v, memberOk m = true → v = u.setMember g m false →
      exec (.groupRemove ln g m) s = .next (v.replied ln (.ok (v.groupMembers g)))) ∧
    (∀ (ports : List Nat) (n : Nat) v, (∀ p ∈ ports, 1 ≤ p ∧ p ≤ 7) →
      n = sumOf (fun i => if ports.contains (i + 1) then 2 ^ i else 0) (List.range 7) → v = u.setRaw 0x1A4 g (n : Nat) →
      exec (.groupPostPorts ln g ports) s = .next (v.replied ln (.ok (v.groupPosters g)))) ∧
    (∀ (ms : Lit) (n : Int) v, litArg { unit := some .ms, stepD := 10 } 5 1000 ms = .ok n → v = u.setRaw 0x1A5 g n →
      exec (.groupTimeoutSet ln g ms) s = .next (v.replied ln (.ok (v.groupSettings g)))) ∧
    (∀ (ticket : Bool) v, v = u.setRaw 0x1A6 g (if ticket then 1 else 0) →
      exec (.groupClass ln g ticket) s = .next (v.replied ln (.ok (v.groupSettings g))))) ∧
  (∀ (ln : Ln) (g : Nat) (msg : List Byte) (s u v : State) (gsn : U32), s.Runs ln .engineer → u = s.lineTaken ln → g < 16 → msg ≠ [] →
    msg.length ≤ 180 → u.on 0x1A0 g = true → u.groupPost g none 0 msg = (v, gsn) →
    exec (.groupSend ln g msg) s = .next (v.replied ln (.ok ("gsn " ++ natText gsn.toNat))))

/-- Conditioning that runs by itself. At its sample tick (R342) a loop takes its batch step, limits and plenum rules, then
computes its output by the law (Table 10.2), where a loop that is OFF takes its plenum rules too (R339, R341, R342), keeps it
while its source is invalid (R362), or ramps down (R361); an input bad for bad_time sets cause INPUT (R362); the crack index moves
once a second towards the objects seen (R352); a purged and cool zone completes its drain (R358); a step past its limit holds the
batch (R356); an off ramp that has reached u_lo stops the loop (R361). The plenum of a zone is that of its plenum loop's source,
and a batch is judged at every loop's sample: readings (assumption 18). -/
def Obligations.LoopEventsComplete : Prop :=
  (∀ (n : Nat) (s u v : State), s.awake = true → n < 16 → s.now.toNat % (4000 * s.num 0x7A2 n) = 250 * n → u = s.batchSample.takeLimits n →
    v = (if isPlenum n = true ∧ (u.loop n).active ≠ .tracking then u.plenumRules n else u) →
    ((v.loop n).active = .off ∨ (v.loop n).active = .tracking → exec (.loopSample n) s = .next v) ∧
    ((v.loop n).active = .stopping → exec (.loopSample n) s = .next (v.rampLoop n)) ∧
    ((v.loop n).active = .manual ∨ (v.loop n).active = .auto → v.measure n = none → exec (.loopSample n) s =
      .next ((if v.badLong n then v.setInhibit (loopZone n) causeInput true else v).freezeLoop n)) ∧
    (∀ (y : Int) (clip est : Bool), (v.loop n).active = .manual ∨ (v.loop n).active = .auto → v.measure n = some (y, clip, est) →
      exec (.loopSample n) s = .next (v.sampleLoop n y clip est))) ∧
  (∀ (n : Nat) (s : State) (z : Nat) (f : Zone → Zone), z = loopZone n → f = (fun k => { k with lowSince := none }) → isDrying n = true →
    (s.sourceVal (s.num 0x7A3 n) = none → s.plenumRules n = (s.noteHeat z).updZone z f) ∧
    s.lowAnew n = s.updZone z f) ∧
  (∀ (n : Nat) (s : State) (t : Tick), isDrying n = true → (s.loop n).badSince = some t → secT (s.num 0x7BC n) ≤ ticksFrom t s.now →
    exec (.loopInputBadTime n) s = .next (s.updZone (loopZone n) fun x => { x with inhibit := x.inhibit ||| (1#8 <<< causeInput) })) ∧
  (∀ s : State, s.inAny [.held, .ready, .run, .drain, .fault] = true → s.now.toNat % 4000000 = 0 →
    exec .crackUpdate s = .next { s with
      dry.crackPrev := s.dry.crack
      dry.crackAt := s.now
      dry.crackCount := BitVec.ofNat 32 s.crackSeen
      dry.crack := ((s.dry.crack : Int) + roundDiv (((s.crackSeen : Int) * 2 ^ 20 - s.dry.crack) * 17331) (2 ^ 20)).toNat }) ∧
  (∀ (z : Nat) (s : State), s.zoneDrained z = true → exec (.zonePurgeEnd z) s = .next (s.zoneComplete z)) ∧
  (∀ (s u : State), s.dry.batch.state = .running → s.inAny [.run, .drain] = true → s.stepExit = false →
    secT (60 * s.num 0x7F3 (stepNum s.dry.batch.step)) ≤ ticksFrom s.dry.batch.since s.now → u = { s with dry.batch.state := .held } →
    exec .batchStepLimit s = .next ((u.setInhibits causeBatch true).event 0x5041 0 0 (stepNum s.dry.batch.step))) ∧
  (∀ (n : Nat) (s u : State), (s.loop n).active = .stopping → (s.loop n).u ≤ s.uLo n → (s.loop n).queued = none →
    u = (((s.loopOffNow n).updLoop n fun l => { l with queued := none }).finish (· == PendOp.loopOff n) (.ok "OFF")) →
    exec (.loopOffRampDone n) s = .next u)

/-- The LOOP verb. LOOP n MANUAL or AUTO puts a wired loop into the mode that Table 10.3 gives (R360); LOOP n OFF in RUN or
DRAIN starts its off ramp (R361), in READY it is off at once; LOOP n FLAGS answers the flags and clears them (R348); LOOP BATCH
START, NEXT, HOLD, RESUME and ABORT (R357) move the batch. The texts of the replies and HOLD's event are readings (assumption
18). -/
def Obligations.LoopVerbsComplete : Prop :=
  (∀ (ln : Ln) (n : Nat) (auto : Bool) (value : Option Lit) (s u : State) (v : Option Int), s.Runs ln .operate → u = s.lineTaken ln →
    manualValue auto value = .ok v → n < 16 → s.inAny [.ready, .run, .drain] = true → u.on 0x7A3 n = true → u.on 0x7A6 n = true →
    (u.loop n).active ≠ .stopping →
    exec (.loopMode ln n auto value) s = .next ((u.enableLoop n auto v).replied ln (.ok ((u.enableLoop n auto v).loopReply n auto)))) ∧
  (∀ (ln : Ln) (n : Nat) (s u : State), s.Runs ln .operate → u = s.lineTaken ln → n < 16 → (u.loop n).active ≠ .stopping →
    (s.inAny [.run, .drain] = true → (u.loop n).active ≠ .off → s.pendFull ln = false →
      exec (.loopOff ln n) s = .next (u.started ln (.loopOff n) ("stopping loop " ++ natText n) fun v => (v.setRaw 0x7A0 n 0).stopLoop n)) ∧
    (s.ctl.state = .ready → exec (.loopOff ln n) s = .next (((u.setRaw 0x7A0 n 0).retargetLoop n).replied ln (.ok "OFF")))) ∧
  (∀ (ln : Ln) (n : Nat) (s u : State), s.Runs ln .operate → u = s.lineTaken ln → n < 16 → s.inAny [.ready, .run, .drain] = true →
    exec (.loopFlags ln n) s = .next ((u.updLoop n fun l => { l with flags := 0 }).replied ln (.ok (flagText (u.loop n).flags)))) ∧
  (∀ (ln : Ln) (s u : State), s.Runs ln .operate → u = s.lineTaken ln →
    (∀ v, s.ctl.state = .run → u.batchMode = true → s.dry.batch.state = .idle → v = State.batchEnter { u with dry.batch.state := .running } .fill →
      exec (.loopBatchStart ln) s = .next (v.replied ln (.ok (batchText v.dry.batch.state ++ " " ++ stepText v.dry.batch.step)))) ∧
    (∀ v, s.inAny [.ready, .run, .drain] = true → s.dry.batch.state = .running → v = { u with dry.batch.next_ := true } →
      exec (.loopBatchNext ln) s = .next (v.replied ln (.ok (batchText v.dry.batch.state ++ " " ++ stepText v.dry.batch.step)))) ∧
    (∀ v, s.inAny [.ready, .run, .drain] = true → s.dry.batch.state = .running → v = u.batchHold →
      exec (.loopBatchHold ln) s = .next (v.replied ln (.ok (batchText v.dry.batch.state ++ " " ++ stepText v.dry.batch.step)))) ∧
    (∀ v, s.inAny [.run, .drain] = true → s.dry.batch.state = .held → v = u.batchResume →
      exec (.loopBatchResume ln) s = .next (v.replied ln (.ok (batchText v.dry.batch.state ++ " " ++ stepText v.dry.batch.step)))) ∧
    (∀ v, s.inAny [.ready, .run, .drain] = true → s.dry.batch.state ≠ .idle → v = (u.setInhibits causeBatch true).batchIdle →
      exec (.loopBatchAbort ln) s = .next (v.replied ln (.ok (batchText v.dry.batch.state ++ " " ++ stepText v.dry.batch.step)))))

/-- The field bank. FIELD_CYCLE at a multiple of 1,000 ticks exchanges inputs, readbacks, fans and outputs in this order (R366)
and has then sent the 4 mA demand of each fan about to open (R377); DI_SAMPLE filters each input (R367), and a cycle brings the states after the last sample before it (R366); a
mismatch that stands io.rb_time sets its bit with 0x6020, a match clears it (R368); an output in its current limit is held off
(R369); a phantom limit switches the bank's Keystone side off and a second later on (R540). TACH_EDGE takes an edge's speed
(R376). The bank's fault bit is recorded and fails a bring-up (R149, R373), and the FIELD link lost enters FAULT (R392). The order
within a cycle is a reading (assumption 19). -/
def Obligations.FieldCommandsComplete : Prop :=
  (∀ (inp : FieldIn) (s s1 s2 s3 s4 s5 s6 : State), s.awake = true → s.ctl.state ≠ .standby → s.fld.link.up = true → s.now.toNat % 1000 = 0 →
    s1 = { s.bankHeard with
      fld.loadV := inp.loadV
      fld.bankOff := s.bankHeard.fld.bankOff && !s.bankHeard.fld.released
      fld.cycleAt := some s.bankHeard.now } →
    s2 = (List.range 8).foldl (fun s i => s.takeAi i (inp.ai.getD i 0)) s1.takeDi → s3 = s2.takeReadbacks inp →
    s4 = (List.range 8).foldl (fun s i => s.takeFan i inp) s3 → s5 = (List.range 8).foldl (fun s i => s.openDue (i + 1)) s4 →
    s6 = (List.range 8).foldl (fun s i => s.classify (i + 1)) s5 →
    exec (.fieldCycle inp) s = .next s6.judgeFans.settleOutputs.demandSent) ∧
  (∀ s : State, s.demandSent = { s with fld.fans := s.fld.fans.map fun f => { f with openSent := f.opening.isSome } }) ∧
  (∀ (levels : BitVec 24) (s : State), s.awake = true → s.now.toNat % 400 = 0 → s.fld.power = .on ∨ s.on 0x003 = true →
    exec (.diSample levels) s = .next { s with
      fld.di := s.fld.di.mapIdx fun i d => d.sample (s.num 0x910 i) (levels.getLsbD i)
      fld.diAt := s.now }) ∧
  (∀ (s : State) (i : Nat), i < 24 → (s.takeDi.fld.diSet.getLsbD i =
    if s.fld.diAt = s.now then (s.fld.di.getD i {}).was else (s.fld.di.getD i {}).state)) ∧
  (∀ (ch : Nat) (s : State) (u : State) (t : Tick), msT (s.num 0x902) ≤ ticksFrom t s.now →
    ((s.fld.dos.getD (ix ch) {}).since = some t →
      u = { s with fld.dos := updAt (ix ch) (fun d => { d with mis := !(s.fld.dos.getD (ix ch) {}).mis, since := none }) s.fld.dos } →
      exec (.readbackMismatch true ch) s = .next (if (s.fld.dos.getD (ix ch) {}).mis then u else u.event 0x6020 9 0 0 ch)) ∧
    ((s.fld.aos.getD (ix ch) {}).since = some t →
      u = { s with fld.aos := updAt (ix ch) (fun a => { a with mis := !(s.fld.aos.getD (ix ch) {}).mis, since := none }) s.fld.aos } →
      exec (.readbackMismatch false ch) s = .next (if (s.fld.aos.getD (ix ch) {}).mis then u else u.event 0x6020 9 0 1 ch))) ∧
  (∀ (ch : Nat) (s : State), exec (.doCurrentLimit ch) s =
    .next { s with fld.dos := updAt (ix ch) (fun d => if d.out then { d with heldOff := true } else d) s.fld.dos }) ∧
  (∀ s : State, s.awake = true →
    (s.fld.power = .on → exec .fieldPhantomLimit s = .next { s with fld.power := .tripped, fld.powerOffAt := s.now }) ∧
    (s.fld.power = .tripped → secT 1 ≤ ticksFrom s.fld.powerOffAt s.now → exec .fieldPhantomRetry s = .next { s with fld.power := .on })) ∧
  (∀ (n : Nat) (at_ : Tick) (s : State) (e : List Tick) (sum k p : Nat), s.awake = true → s.fld.link.up = true → 1 ≤ n → n ≤ 8 → tickLe at_ s.now = true →
    (∀ t l, (s.fan n).edges = t :: l → tickBefore t at_ = true) → e = (at_ :: (s.fan n).edges).take 6 →
    meanPeriod (s.num (fanP 0 n)) e = (sum, k) → k ≠ 0 → p = (periodsOf e).headD 0 * s.num (fanP 0 n) →
    exec (.tachEdge n at_) s = .next (s.updFan n fun f => { f with
      edges := e
      rpm := rpmOf (s.num (fanP 0 n)) sum k
      periods := f.periods + 1
      good := if (s.fan n).tLost ≤ 2 * p ∧ p ≤ 2 * (s.fan n).tLost then f.good + 1 else 0 })) ∧
  (∀ (s u : State), s.awake = true → s.fld.link.up = true →
    (s.ctl.state ≠ .standby → s.fld.fault = false → exec (.fieldFaultBit true) s =
      .next ((State.event { s with fld.fault := true } 0x6010 9 0).failBringup 601 "field fault")) ∧
    (s.ctl.state ≠ .standby → s.fld.fault = true → exec (.fieldFaultBit false) s = .next (State.event { s with fld.fault := false } 0x6011 9 0)) ∧
    (u = s.updLink .field (fun x => { x with up := false, training := false, sent := [] }) →
      exec .fieldLinkLoss s = .next (((u.event 0x6012 9 0).fieldLost).enterFault 1)))

/-- Fans. FAN n START from STOPPED with its drive at rest begins the first attempt, FAN n STOP the stop sequence, FAN n RESET
returns a fan in FAN-STALL or DRIVE-FAULT to STOPPED (R378-R380). A start window that ends with the drive up makes the fan
RUNNING, one without it fails the attempt (R378); after the back-off the next attempt begins (R378); a coast past fan.N.coast is
recorded and ends at rest (R380); a fan that leaves RUNNING or TACH-LOST opens its relay only after a field cycle that sent the 4
mA demand (R377). -/
def Obligations.FanCommandsComplete : Prop :=
  (∀ (ln : Ln) (n : Nat) (s u : State), s.Runs ln .operate → u = s.lineTaken ln → 1 ≤ n → n ≤ 8 →
    (s.inAny [.ready, .run, .drain] = true → (s.fan n).state = .stopped → (s.fan n).opening = none → (s.fan n).runIn = false → s.pendFull ln = false →
      exec (.fanStart ln n none) s = .next (u.started ln (.fanStart n) ("starting fan " ++ natText n) (·.fanBegin n)) ∧
      (∀ (l : Lit) (v : Int), litArg { unit := some .pct, stepD := 100 } 0 10000 l = .ok v →
        exec (.fanStart ln n (some l)) s = .next (u.started ln (.fanStart n) ("starting fan " ++ natText n) fun w =>
          (w.setRaw (fanP 6 n) 0 v).fanBegin n))) ∧
    ((s.fan n).state = .running ∨ (s.fan n).state = .tachLost ∨ (s.fan n).state = .starting → (s.fan n).opening = none → s.pendFull ln = false →
      exec (.fanStop ln n) s = .next (u.started ln (.fanStop n) ("stopping fan " ++ natText n) (·.fanStopSeq n))) ∧
    ((s.fan n).state = .fanStall ∨ (s.fan n).state = .driveFault →
      exec (.fanReset ln n) s = .next ((u.fanOpen n .stopped).replied ln (.ok "STOPPED")))) ∧
  (∀ (n : Nat) (s : State), (s.fan n).state = .starting → (s.fan n).opening = none → 400000 * s.num (fanP 5 n) ≤ ticksFrom (s.fan n).since s.now →
    exec (.fanStartWindowEnd n) s = .next (if s.fanUp n then s.fanRunning n else s.fanFail n)) ∧
  (∀ (n : Nat) (s : State), (s.fan n).state = .retryWait → secT (backOff (s.fan n).tries) ≤ ticksFrom (s.fan n).since s.now →
    exec (.fanRetryWaitEnd n) s = .next (s.fanAttempt n)) ∧
  (∀ (n : Nat) (s : State), (s.fan n).state = .coasting → secT (s.num (fanP 0xC n)) ≤ ticksFrom (s.fan n).since s.now →
    exec (.fanCoastTimeout n) s = .next ((s.event 0x6006 8 n).fanStopped n)) ∧
  (∀ (n : Nat) (s : State),
    (∀ st, s.fanLeave n st = (s.updFan n fun f => { f with opening := some st, openSent := false }).judgeFans) ∧
    ((s.fan n).state = .running ∨ (s.fan n).state = .tachLost → (s.fan n).relay = true → s.fld.link.up = true → (s.fan n).opening = none →
      s.coastFan n = s.fanLeave n .coasting) ∧
    (∀ st, (s.fan n).opening = some st → (s.fan n).openSent = false → s.openDue n = s))

/-- The probe rings. A sweep starts at its tick with a MEASURE out of OUT (R386), waits 100,000 ticks, then reads position by
position: a slot that got its reply goes on, a slot without one ends a sweep that an abort has marked (R391), a second READ is the
retry, then the sweep turns to RET, and ends (R387); a good reply counts (R388), a MEASURE back at RET closes the ring (R389);
STOP breaks a sweep off or marks its end (R391). A node answers a READ with hop 1 and forwards any other, forwards and obeys
MEASURE, forwards replies, and ends its conversion (R385). -/
def Obligations.ProbeCommandsComplete : Prop :=
  (∀ (r : Nat) (s u : State), 1 ≤ r → r ≤ 2 → s.awake = true → s.inAny [.standby, .collapse] = false → s.fld.link.up = true → s.on (ringP 2 r) = false →
    s.now.toNat % secT (s.num (ringP 0 r)) = 2000000 * (r - 1) →
    ((s.ring r).sweep = none → u = (s.updRing r fun x => { x with
        sweep := some { number := x.number, startAt := s.now, n := s.num (ringP 1 r) }
        number := x.number + 1
        closed := false }) →
      exec (.probeSweepStart r) s = .next (u.sendMeasure r false)) ∧
    ((s.ring r).sweep ≠ none → exec (.probeSweepStart r) s = .next (s.updRing r fun x => { x with overruns := x.overruns + 1 }))) ∧
  (∀ (r : Nat) (s : State) (w : Sweep), (s.ring r).sweep = some w → w.phase = .measOut ∨ w.phase = .measRet → 100000 ≤ ticksFrom w.slotAt s.now →
    exec (.probeMeasureWaitEnd r) s = .next (if w.k + w.j < w.n then s.sendRead r 1 else s.finishSweep r)) ∧
  (∀ (r : Nat) (s : State) (w : Sweep), (s.ring r).sweep = some w → w.phase = .fromOut ∨ w.phase = .fromRet → 2000 ≤ ticksFrom w.slotAt s.now →
    exec (.probeSlotEnd r) s = .next (
      if w.got then (s.updSweep r fun w => if w.phase == .fromOut then { w with k := w.k + 1 } else { w with j := w.j + 1 }).nextRead r
      else if w.stopAt.isSome then s.abortSweep r
      else if w.attempt = 1 then s.sendRead r 2
      else if w.phase == .fromOut then s.sendMeasure r true
      else s.finishSweep r)) ∧
  (∀ (r : Nat) (f : List Byte) (s : State) (w : Sweep), (s.ring r).sweep = some w → w.phase = .fromOut → w.got = false → ticksFrom w.slotAt s.now < 2000 →
    f.length = 16 → byteAt f 0 = 0xA5 → byteAt f 1 = 0x81 → byteAt f 2 = w.k + 1 → byteAt f 3 = w.number.toNat →
    leNat (sliceB f 14 2) = (crc16 (f.take 14)).toNat →
    exec (.probeReply r f) s = .next ((s.takeReply r w.k false f).updSweep r fun w => { w with got := true })) ∧
  (∀ (r : Nat) (f : List Byte) (s : State) (w : Sweep), (s.ring r).sweep = some w → f.length = 8 → byteAt f 1 = 3 → byteAt f 4 = w.number.toNat →
    queryOk f = true → w.phase = .measOut →
    exec (.probeReply r f) s = .next (s.updRing r fun x => { x with closed := true })) ∧
  (∀ (ln : Ln) (r : Nat) (s u : State), s.Runs ln .operate → u = s.lineTaken ln → 1 ≤ r → r ≤ 2 →
    exec (.probeRunStop ln r) s = .next (((u.stopSweep r).setRaw (ringP 2 r) 0 1).replied ln (.ok "STOP"))) ∧
  (∀ (r pos : Nat) (b : Bool) (f : List Byte) (s : State),
    (byteAt f 2 = 1 → queryOk f = true → exec (.probeNodeRead r pos b f) s = .next (s.updNode r pos fun d => { d.emit b (d.reply f) with stale := true })) ∧
    (byteAt f 2 ≠ 1 → exec (.probeNodeRead r pos b f) s = .next (s.updNode r pos fun d => d.emit (!b) (f.set 2 (f.getD 2 0 - 1)))) ∧
    (∀ u, queryOk f = true → u = (s.updNode r pos fun d => { d.emit (!b) f with converting := some s.now, stale := false }) →
      exec (.probeNodeMeasure r pos b f) s = .next u) ∧
    exec (.probeNodeReplyForward r pos b f) s = .next (s.updNode r pos fun d => d.emit b f)) ∧
  (∀ (r pos : Nat) (c : Conversion) (s : State), exec (.probeConversionDone r pos c) s = .next (s.updNode r pos fun d =>
    if d.converting = none then d
    else { d with moist := c.moist, temp := c.temp, mInvalid := c.mInvalid, tInvalid := c.tInvalid, selfTest := c.selfTest, converting := none }))

/-- Writing the ledger. RECORD_JOURNAL gives the oldest record the next serial and its frame (R428, R434); STAGING_PAGE stages the
next frame where staging has room, and the formatter goes on (R430); the flush timer closes the ashlar being formed (R431);
TAPE_START puts the oldest closed ashlar on tape (R443); a block that does not come, or whose header or C1 row fails (R405), is
written again (R444) and the end of the ashlar waits for its verify (R443, R445). A failed journal MRAM enters FAULT (R458); a
lost link and a transport's fault put a loaded ledger into FAULT with 0x7070 (R456, R457, R546). The wedge count of an ashlar is a
reading (assumption 20). -/
def Obligations.LedgerWritingComplete : Prop :=
  (∀ (r : Record) (l : List Record) (s : State), s.made = r :: l → s.journals = true → s.led.full = false →
    exec .recordJournal s = .next (State.fillMarks { s with
      made := l
      led.journal.frames := s.led.journal.frames ++ [{ serial := s.led.serial, record := r }]
      led.serial := s.led.serial + 1 })) ∧
  (∀ (f : Frame) (s : State), s.awake = true → s.led.replayed = true → s.led.journal.frames.find? (fun f => !f.staged) = some f →
    s.led.stagingUsed + frameSize f.record ≤ stagingRoom →
    exec .stagingPage s = .next (State.fillMarks { s with led.journal.frames := stageFirst s.led.journal.frames }).format) ∧
  (∀ (a : Ashlar) (s : State), s.formats = true → s.led.forming = some a → secT (s.num 0xB16) ≤ ticksFrom a.firstAt s.now →
    exec .ledgerFlushTimer s = .next s.closeForming) ∧
  (∀ (s : State), s.writes = true → s.led.onTape = none → s.led.streaming = false → s.capstoneDue = none → s.nextReady = true →
    exec .tapeStart s = .next (State.putOnTape { s with led.speed := startSpeed s.led.fill })) ∧
  (∀ (read : Option RowRead) (ch : Nat) (a b : Ashlar) (s : State), blockFails read = true → s.awake = true → ch < 16 → s.led.onTape = some a → a.perCh.foldl (· + ·) 0 < 256 →
    b = { a with perCh := updAt ch (· + 1) a.perCh } → wedgesOf b - 1 ≤ zoneLeft a.wrap a.wedge →
    exec (.blockReadback read ch) s =
      .next { s with led.onTape := some b, led.rewrites := s.led.rewrites + 1, led.blocksDue := s.led.blocksDue + 1 }) ∧
  (∀ (ch : Nat) (s : State), (∀ x, blockFails (some x) = false → exec (.blockReadback (some x) ch) s = .next s) ∧ blockFails none = true) ∧
  (∀ (a b : List Byte) (h : RowId) (q : List Byte × Nat), headerOf a = some h ∨ headerOf b = some h →
    rsDecode 20 (sliceB a 8 124 ++ sliceB b 8 124) [] = some q →
    (blockFails (some { partA := some a, partB := some b }) = true ↔ 4 < q.2)) ∧
  (∀ (trailers : Nat) (a b : Ashlar) (s u v : State), s.awake = true → s.led.onTape = some a →
    b = { a with trailers := min 16 trailers, sound := true } → u = s.stood b a.wrap (wedgeOn a.wrap a.wedge (wedgesPast b)) →
    v = { u with led.awaiting := u.led.awaiting ++ [b] } →
    exec (.ashlarWriteEnd trailers) s = .next (
      if v.writes && v.nextReady then State.putOnTape { v with led.speed := stepSpeed v.led.speed v.led.fill }
      else { v with led.streaming := false })) ∧
  (∀ (trailers : Nat) (ok : Bool) (a : Ashlar) (l : List Ashlar) (s u : State), s.awake = true → s.led.journal.sealed = false → s.led.awaiting = a :: l →
    u = State.setTape { s with led.awaiting := l } a.seq (min 16 trailers) ok →
    (12 ≤ trailers → ok = true → a.kind = .capstone → exec (.ashlarVerified trailers ok) s = .next (u.capVerified a.reason).ledgerHandover) ∧
    (12 ≤ trailers → ok = true → a.kind ≠ .capstone → exec (.ashlarVerified trailers ok) s = .next (u.markVerified a).release.ledgerHandover) ∧
    (∀ v, trailers < 12 ∨ ok = false →
      v = State.event { u with led.redo := u.led.redo + 1 } 0x7012 0x0B 0 (a.seq % 2 ^ 32) (min 16 trailers) →
      exec (.ashlarVerified trailers ok) s = .next (v.redoAshlar a).ledgerHandover)) ∧
  (∀ (s : State), s.awake = true →
    (s.led.mramFailed = false → exec .journalMramFail s = .next (State.enterFault { s with led.mramFailed := true } 4)) ∧
    (∀ u, s.led.link.up = true → u = s.updLink .ledger (fun x => { x with up := false, training := false, sent := [] }) →
      exec .ledgerLinkLoss s = .next { u.ledgerFault 0 with led.linkFault := true }) ∧
    (∀ why, 1 ≤ why → why ≤ 3 → exec (.transportFault why) s = .next (s.ledgerFault why)) ∧
    exec .transportSupplyCollapse s = .next (State.ledgerFault { s with led.headsUp := true, led.streaming := false } 3))

/-- Cartridges and the LEDGER verbs. A cartridge comes and goes by hand (R438, R457); LOAD, UNLOAD, SEEK, VERIFY and REPLAY
start where nothing refuses them and stay pending (R438, R442, R447-R450), and each DONE gives its record and reply; LEDGER
ABORT before the completion step breaks the operation off (R451). -/
def Obligations.LedgerVerbsComplete : Prop :=
  (∀ (c : Cartridge) (s u : State), s.led.cart = none → u = { s with
        led.cart := some c
        led.state := if s.led.state = .fault ∧ s.led.linkFault = false then .empty else s.led.state } →
    (s.on 0xB18 = false → exec (.cartridgeInserted c) s = .next u) ∧
    (s.awake = true → s.on 0xB18 = true → s.led.state = .empty → s.led.op = .none → s.led.link.up = true →
      s.inAny [.held, .ready, .run, .drain, .fault] = true → exec (.cartridgeInserted c) s = .next u.beginLoad)) ∧
  (∀ (s : State), s.led.cart ≠ none → s.led.threaded = false → s.led.op = .none → s.led.linkFault = false →
    exec .cartridgeRemoved s = .next { s with led.cart := none, led.threaded := false, led.state := .empty }) ∧
  (∀ (ln : Ln) (s u : State), s.Runs ln .operate → u = s.lineTaken ln → s.pendFull ln = false →
    (s.inAny [.held, .ready, .run, .drain, .fault] = true → s.led.state = .empty → s.led.op = .none → s.led.cart ≠ none → s.led.link.up = true →
      exec (.ledgerLoad ln) s = .next (u.started ln .ledgerLoad "loading" State.beginLoad)) ∧
    (∀ close, s.ctl.state ≠ .standby → s.led.op = .none →
      s.led.state = .writable ∨ s.led.state = .closed ∨ s.led.state = .full ∨ s.led.state = .foreign →
      exec (.ledgerUnload ln close) s = .next (u.started ln .ledgerUnload "unloading" (·.beginUnload close))) ∧
    (s.tapeRefusal = none →
      (∀ t, exec (.ledgerSeek ln t) s = .next (u.started ln .ledgerSeek "seeking" fun v => { v.beginTape .seek with led.seekTo := t })) ∧
      (∀ first last, exec (.ledgerVerify ln first last) s = .next (u.started ln .ledgerVerify "verifying" fun v => { v.beginTape .verify with
        led.verifyFrom := first.getD 2
        led.verifyTo := last.getD (v.led.cart.elim 0 fun c => seqAfter c - 1) })) ∧
      (∀ serial count off len, shareRange off len = true → 0 < count → count < 2 ^ 32 →
        exec (.ledgerReplay ln serial count off len) s = .next (u.started ln .ledgerReplay "replaying" fun v =>
          { v.beginTape .replay with led.replay := some { serial := serial, count := count, off := off, len := len } })))) ∧
  (∀ (v : Bool) (c : Cartridge) (s : State), s.awake = true → s.led.cart = some c → s.led.op = .load → c.blank = false →
    exec (.ledgerLoadDone true v) s = .next (s.endLoad (s.cartState c) c)) ∧
  (∀ (s : State), s.awake = true → s.led.op = .unload → s.led.closed = [] → s.led.onTape = none → s.led.awaiting = [] → s.capstoneDue = none →
    (s.eject.finish (· == PendOp.ledgerUnload) (.ok "EMPTY")).led.loadQueued = false →
    exec .ledgerUnloadDone s = .next (s.eject.finish (· == PendOp.ledgerUnload) (.ok "EMPTY"))) ∧
  (∀ (c : Cartridge) (n w i : Nat) (s : State), s.awake = true → s.led.op = .seek → s.led.cart = some c → seekPlace c s.led.seekTo = some (n, w, i) →
    exec (.ledgerSeekDone true) s = .next (State.finish { s with led.op := .none } (· == PendOp.ledgerSeek)
      (.ok ("ashlar " ++ natText n ++ " wrap " ++ natText w ++ " wedge " ++ natText i)))) ∧
  (∀ (s : State) (n : List Nat), s.awake = true → s.led.op = .verify → n = verifyCounts s.verifyRange →
    exec .ledgerVerifyDone s = .next (State.finish { s with led.op := .none, led.lastVerify := n } (· == PendOp.ledgerVerify)
      (.ok ("sound " ++ natText (n.getD 0 0) ++ " complete " ++ natText (n.getD 1 0) ++ " skipped " ++ natText (n.getD 2 0) ++ " failed " ++
        natText (n.getD 3 0) ++ ", last serial " ++ natText (lastSerial s.verifyRange))))) ∧
  (∀ (q : ReplayReq) (c : Cartridge) (s : State) (asked out : List (Nat × Record)), s.awake = true → s.led.op = .replay → s.led.replay = some q →
    s.led.cart = some c → ticksFrom s.led.opAt s.now < secT 120 →
    asked = ((tapeRecords c).filter fun p => q.serial ≤ p.1).take q.count → out = fitRecords q.len asked →
    ∃ o, exec .ledgerReplayDone s = .next ((s.sealWrite 2 q.off (out.flatMap fun p => recBytes p.2) none false false).1.replayEnds o)) ∧
  (∀ (ln : Ln) (six : Option Tick) (s u : State), s.Runs ln .operate → u = s.lineTaken ln →
    s.led.op = .seek ∨ s.led.op = .verify ∨ s.led.op = .unload → (∀ t, six = some t → tickLe t s.now = false) →
    exec (.ledgerAbort ln six) s = .next (u.abortTape.replied ln (.ok "aborted")))

/-- Protected memory and the case. A read or write with the key of its address takes effect: SEAL ranges through the engine,
GROUT and plain ranges plainly (R460, R462, R465-R467), where a bus error
of STAGING makes its reader recover (R477); a wrong key is refused with 0x8013 (R460); an uncorrectable ECC error
poisons a SEAL line, the four lines of a metadata line, or enters FAULT (R479); a write held 10 ms is refused (R485); a path
that is not sealed gets zeros and is recorded once per engine (R482); a JTAG instruction is accepted or refused (R483); the lid
is recorded (R484); the engine's failure enters FAULT (R487). -/
def Obligations.SealAccessesComplete : Prop :=
  (∀ (who key addr len : Nat) (s : State), s.awake = true → keyFor addr = some key → pastEnd addr len = false →
    (isSeal key = true → ∀ altered u, u = State.answerRead (s.sealRead key (addr - lineAddr key 0) len (some who) altered.isSome) →
      exec (.sealRead who key addr len altered) s = .next (if key = 1 ∧ u.mp.busError ≠ none then u.stagingError who else u)) ∧
    (isSeal key = false → exec (.sealRead who key addr len none) s =
      .next { s with mp.busError := none, mp.readData := readCells s.mp.dram addr len })) ∧
  (∀ (who key addr : Nat) (data : List Byte) (altered : Bool) (s : State), s.awake = true → keyFor addr = some key →
    pastEnd addr data.length = false →
    (∀ t e, isSeal key = true → s.sealWrite key (addr - lineAddr key 0) data (some who) (who = 0 && key = 3) altered = (t, e) →
      exec (.sealWrite who key addr data altered) s = .next (t.busAnswer e)) ∧
    (isSeal key = false → exec (.sealWrite who key addr data altered) s = .next ((s.writeDram addr data).busAnswer none))) ∧
  (∀ (key addr : Nat) (s : State), s.awake = true → keyFor addr = some key → isGrout key = true →
    (∀ data n, pastEnd addr data.length = false → exec (.groutAccess key addr (some data) n) s = .next ((s.writeDram addr data).busAnswer none)) ∧
    (∀ n, pastEnd addr n = false → exec (.groutAccess key addr none n) s =
      .next { s with mp.busError := none, mp.readData := readCells s.mp.dram addr n })) ∧
  (∀ (who key addr : Nat) (s : State), s.awake = true → keyFor addr ≠ some key → exec (.wrongKeyAccess who key addr) s =
    .next (State.event { s with mp.busError := some .key } 0x8013 0 0 (s.requester (some who)) (addr % 2 ^ 32) ((key * 2 ^ 36 + addr) / 2 ^ 32))) ∧
  (∀ (who addr : Nat) (s : State), s.awake = true →
    (∀ slot line u, slotAt addr = some slot → isSeal slot = true → line = (addr - lineAddr slot 0) / 64 → u = s.poisonLine slot line →
      exec (.eccUncorrectable who addr) s = .next (State.event { u with mp.busError := some .poison } 0x8012 0x0C slot line who)) ∧
    (∀ slot line, slotAt addr = none → metaOwner addr = some (slot, line) → exec (.eccUncorrectable who addr) s =
      .next ((((s.poisonLine slot (line / 4 * 4)).poisonLine slot (line / 4 * 4 + 1)).poisonLine slot (line / 4 * 4 + 2)).poisonLine slot (line / 4 * 4 + 3))) ∧
    (slotAt addr = none → metaOwner addr = none → exec (.eccUncorrectable who addr) s = .next (s.enterFault 3))) ∧
  (∀ (s u : State) (late : List Held), s.awake = true → late ≠ [] →
    late = (s.mp.heldWrites.filter fun h => s.mp.running != some h.slot && msT 10 ≤ ticksFrom h.at_ s.now) →
    u = { s with mp.heldWrites := s.mp.heldWrites.filter (fun h => !late.contains h), mp.busError := some .held } →
    exec .heldWriteTimeout s = .next (late.foldl (fun (s : State) h => s.event 0x8071 0x0C h.slot h.line) u)) ∧
  (∀ (engine addr : Nat) (wr : Bool) (s u : State), s.awake = true → slotAt addr ≠ none ∨ isMeta addr = true →
    u = (if wr then s else { s with mp.readData := List.replicate 64 0 }) →
    (engine ∈ s.mp.blocked → exec (.debugAccessBlocked engine addr wr) s = .next u) ∧
    (engine ∉ s.mp.blocked → exec (.debugAccessBlocked engine addr wr) s =
      .next (State.event { u with mp.blocked := engine :: s.mp.blocked } 0x8060 0 0 engine))) ∧
  (∀ (s : State), s.awake = true →
    (∀ ir, exec (.jtagInstruction ir) s = .next { s with mp.jtagLast := some (ir != .other || s.on 0xC32) }) ∧
    (s.mp.lidOpen = false → exec (.lidSwitch true) s =
      .next (State.event { s with mp.lidOpen := true, mp.lidCount := s.mp.lidCount + 1 } 0x8030 0 0 (s.mp.lidCount + 1).toNat)) ∧
    (s.mp.lidOpen = true → exec (.lidSwitch false) s = .next (State.event { s with mp.lidOpen := false } 0x8031 0 0)) ∧
    (s.mp.engineFailed = false → exec .sealEngineFail s = .next ((State.event { s with mp.engineFailed := true } 0x8072 0 0).enterFault 6)))

/-- Keys. SEAL REKEY and SEAL REKEY CLEAR of a region queue it and stay pending (R472, R473), ABORT stops it after the line in
progress, cancels what waits, and answers where it comes late or finds nothing (R156-R159, R473); the repointer takes the next of
its queue when the random source works (R472, R485), moves line by line and ends past the last (R471); a period that has expired
queues a rekey (R472). SEAL SHOW lists; SHOW LEDGER with a fresh login answers the wrapped key with 0x8050 (R480); REKEY LEDGER
and its IMPORT write the key store, whose end gives 0x8051 (R481). -/
def Obligations.SealKeysComplete : Prop :=
  (∀ (ln : Ln) (slot : Nat) (s u : State), s.Runs ln .engineer → u = s.lineTaken ln → 1 ≤ slot → slot ≤ 6 →
    (s.pendFull ln = false → exec (.sealRekey ln slot) s = .next (u.started ln (.sealRekey slot)
      (if u.rekeyStops slot then "queued" else "repointing " ++ regionName slot) fun v =>
      if v.rekeyJoins slot then v else v.queueRekey { slot := slot })) ∧
    (s.pendFull ln = false → slot = 2 ∨ slot = 4 ∨ (slot ≤ 4 ∧ s.ctl.state = .held) →
      exec (.sealRekeyClear ln slot) s = .next (u.started ln (.sealClear slot)
        (if u.rekeyStops slot then "queued" else "repointing " ++ regionName slot) fun v =>
        if (v.mp.running == some slot && v.mp.stopping.isNone && (v.slot slot).clearing) || v.mp.queue.any (fun r => r.slot == slot && r.clear) then v
        else v.queueRekey { slot := slot, clear := true })) ∧
    (u.rekeyDue slot = true → u.rekeyStops slot = false → s.mp.running ≠ some slot ∨ (u.slot slot).boundary + 1 < linesOf slot →
      exec (.sealRekeyAbort ln slot) s = .next ((u.abortRekey slot).replied ln (.ok "aborted"))) ∧
    (u.rekeyStops slot = true → u.rekeyWaits slot = true →
      exec (.sealRekeyAbort ln slot) s = .next ((u.cancelRekey slot).replied ln (.ok "enable cancelled"))) ∧
    (u.rekeyStops slot = true → u.rekeyWaits slot = false →
      exec (.sealRekeyAbort ln slot) s = .next (u.replied ln (.ok "already stopping"))) ∧
    (u.rekeyDue slot = false → exec (.sealRekeyAbort ln slot) s = .next (u.replied ln (.err 301 "nothing to abort")))) ∧
  (∀ (r : RekeyReq) (l : List RekeyReq) (s : State), s.awake = true → s.mp.running = none → s.mp.queue = r :: l → s.net.rngOk = true →
    exec .rekeyBegin s = .next (State.takeRekey { s with mp.queue := l } r) ∧
    exec .rekeyRngRetry s = .next (State.takeRekey { s with mp.queue := l } r)) ∧
  (∀ (slot : Nat) (s : State), s.awake = true → 1 ≤ slot → slot ≤ 6 → 0 < s.num 0xC09 slot →
    secT (3600 * s.num 0xC09 slot) ≤ ticksFrom (s.slot slot).changedAt s.now → s.rekeyDue slot = false →
    exec (.rekeyPeriodExpire slot) s = .next { s with mp.queue := s.mp.queue ++ [{ slot := slot }] }) ∧
  (∀ (slot line : Nat) (altered : Bool) (s t : State), s.awake = true → s.mp.running = some slot → line = (s.slot slot).boundary →
    t = s.moveLine slot line altered →
    (line + 1 < linesOf slot → t.mp.stopping = none → exec (.repointLine altered) s = .next t) ∧
    (line + 1 < linesOf slot → t.mp.stopping ≠ none → exec (.repointLine altered) s = .next (t.repointerStopped slot)) ∧
    (linesOf slot ≤ line + 1 → exec (.repointLine altered) s = .next (t.finishRekey slot))) ∧
  (∀ (ln : Ln) (s u : State), s.Runs ln .view → u = s.lineTaken ln →
    exec (.sealShow ln none) s = .next (u.replied ln (.multi ([1, 2, 3, 4, 5, 6].map u.slotLine ++
      ["cache hits " ++ natText s.mp.hits.toNat ++ " misses " ++ natText s.mp.misses.toNat])))) ∧
  (∀ (ln : Ln) (s u v : State), s.Runs ln .engineer → u = s.lineTaken ln → u.fresh ln = true →
    (u.isSet 0xC40 = true → v = (u.spendFresh ln).event 0x8050 0 0 0 0 0 (u.loginOf ln) →
      exec (.sealShowLedger ln) s = .next (v.replied ln (.multi ["keyid " ++ hexOf (keyidOf v.ulk), "wrapped " ++ hexOf (keyWrap (v.key 0xC40) v.ulk)]))) ∧
    (s.led.state = .empty → s.mp.storeBusy = none → s.pendFull ln = false →
      (s.net.rngOk = true → exec (.sealRekeyLedger ln) s = .next (u.drew.started ln .sealLedger "writing key store" fun w =>
        { w.spendFresh ln with mp.storeBusy := some (w.loginOf ln, u.randomBytes 32) })) ∧
      (∀ wrapped key, u.isSet 0xC40 = true → wrapped.length = 40 → keyUnwrap (u.key 0xC40) wrapped = some key →
        exec (.sealRekeyLedgerImport ln wrapped) s = .next (u.started ln .sealLedger "writing key store" fun w =>
          { w.spendFresh ln with mp.storeBusy := some (w.loginOf ln, key) })))) ∧
  (∀ (login : Nat) (key id : List Byte) (s u : State), s.mp.storeBusy = some (login, key) → s.storeBNewer = false → id = keyidOf key →
    u = { s with mp.storeBusy := none, mp.storeB := { valid := true, generation := s.mp.storeA.generation + 1, ulk := key } } →
    exec (.keyStoreWriteComplete true) s = .next ((u.event 0x8051 0 0 (leNat (sliceB id 0 4)) (leNat (sliceB id 4 4)) 0 login).finish
      (· == PendOp.sealLedger) (.ok ("keyid " ++ hexOf id))))

/-- The pair and the crown. HEARTBEAT_SEND posts the next heartbeat at its pair tick (R492) and HEARTBEAT_RECEIVE marks path 1
alive (R492, R493, R501); EPOCH_CUT sends an epoch at a cut (R495), a standby applies it once the notice of its trailer has come
(R497, R498); silence on both paths takes the crown when SYNCED (R506); the CROWN verbs (R512-R514) show, yield and take it;
YIELD_AT_CUT and YIELD_TIMEOUT carry a yield on (R512, R513); the bank and the transport judge CROWN frames and silence (R503,
R505); LINE SYNC is released without an own generation (R516). -/
def Obligations.CrownCommandsComplete : Prop :=
  (∀ (c : Nat) (s u : State), s.awake = true → s.paired = true → s.now.toNat % 400 = (if s.crown.holds then 0 else 200) → s.pairConn 0x0C00 = some c →
    u = { s with crown.beat := s.crown.beat + 1 } →
    exec .heartbeatSend s = .next (u.postEntry c { op := .write, ticket := true, length := 32, rkey := (s.conn c).remote, data := beatBytes s.ownBeat, id := s.crown.beat + 1 })) ∧
  (∀ (b : Heartbeat) (s u : State), s.awake = true → b.crcOk = true → u = { s with crown.peerBeat := some b, crown.path1 := s.now, crown.heard := true } →
    (s.crown.holds = true → exec (.heartbeatReceive b) s = .next { u with crown.peerApplied := b.epoch, crown.baseDue := s.crown.baseDue || (b.rebase && s.crown.baseFrom.isNone) }) ∧
    (s.crown.holds = false → s.ctl.state = .standby → exec (.heartbeatReceive b) s = .next (u.followPeer b))) ∧
  (∀ (s : State), s.awake = true → s.crown.holds = true → s.paired = true → s.now.toNat % 4000 = 0 → s.crown.yieldAsked = false →
    exec .epochCut s = .next (s.cutEpoch 0)) ∧
  (∀ (e : Epoch) (s : State), s.awake = true → s.ctl.state = .standby → s.pairConn 0x0C01 ≠ none → s.noticed e = true → (s.noticeTaken e).judgeEpoch e = some true →
    e.kind ≠ 2 → exec (.epochApply e) s = .next ((s.noticeTaken e).applyEpoch e)) ∧
  (∀ (s : State), s.ctl.state = .standby → s.peerSilent = true → s.on 0xD03 = true → s.crown.silentNoted = false →
    (s.crown.synced = .yes → exec (.crownSilenceTakeover true) s = .next (s.takeOver false)) ∧
    (s.crown.synced ≠ .yes → ∀ ok, exec (.crownSilenceTakeover ok) s = .next (State.event { s with crown.silentNoted := true } 0x9031 0x0D 0 0))) ∧
  (∀ (s : State), s.crown.holds = true → s.sync.driving = true → 400 ≤ ticksFrom s.sync.ownGenSince s.now →
    exec .lineSyncRelease s = .next { s with sync.driving := false }) ∧
  (∀ (d : Dn) (g : U32) (handover : Bool) (s : State) (x : DevCrown),
    (x = (s.fld.crown.judge s.now (s.drives s.fld.crown .field) d g handover).1 → exec (.fieldRxCrown d g handover) s = .next { s with fld.crown := x }) ∧
    (x = (s.led.crown.judge s.now (s.drives s.led.crown .ledger) d g handover).1 → exec (.transportRxCrown d g handover) s =
      .next { s with led.crown := x, led.stopped := s.led.stopped && x.crownUp != some d.up })) ∧
  (∀ (s : State), (s.crownSilent s.fld.crown .field (msT 10) = true → exec .fieldCrownSilence s = .next { s with fld.bankOff := true }) ∧
    (s.crownSilent s.led.crown .ledger 400 = true → exec .transportCrownSilence s = .next { s with led.stopped := true, led.streaming := false })) ∧
  (∀ (ln : Ln) (s u : State),  u = s.lineTaken ln →
    (s.Runs ln .view → ∃ o, exec (.crownShow ln) s = .next (u.replied ln (.multi o))) ∧
    (s.Runs ln .engineer → s.inAny [.ready, .run, .drain] = true → u.peerSynced = true → s.crown.yieldAsked = false → s.crown.yielding = false → s.pendFull ln = false →
      exec (.crownYield ln) s = .next (u.started ln .crownYield "yielding" fun v => { v with crown.yieldAsked := true })) ∧
    (s.Runs ln .engineer → s.ctl.state = .standby → u.peerSilent = true →
      (s.crown.synced = .yes → exec (.crownTake ln true) s = .next ((u.takeOver false).replied ln
        (.ok (stateText (u.takeOver false).ctl.state ++ " generation " ++ natText (u.takeOver false).crown.gen.toNat)))) ∧
      (s.crown.synced ≠ .yes → exec (.crownTake ln true) s = .next (u.takeBare.replied ln (.ok ("HELD generation " ++ natText u.takeBare.crown.gen.toNat)))))) ∧
  (∀ (s u v : State), s.atCut = true → s.crown.yieldAsked = true → s.ctl.state ∈ [.ready, .run, .drain] → u = { s with
      crown.yieldAsked := false
      crown.yielding := true
      tk.sources := s.tk.sources.map fun q => { q with open_ := false } } →
    v = (u.coursesUsed.foldl (fun s n => s.commitDue n (tickPlus s.now (400 : Nat))) u).cutEpoch 2 →
    ∀ w, w = (v.courseLinks ++ [LinkId.field]).foldl (fun s l => s.crownOn (s.crown.gen + 1) 0 true l) v →
    exec .yieldAtCut s = .next (State.ledgerHandover { w with crown.yieldAt := some w.now, crown.ledgerHandover := true })) ∧
  (∀ (s u : State) (t : Tick) (g : U32), s.crown.yieldAt = some t → msT 5 ≤ ticksFrom t s.now → g = s.crown.gen + 2 → u = { s with
      crown.gen := g
      crown.nvGen := g
      crown.horizon := tickPlus s.now (800 : Nat)
      crown.yielding := false
      crown.yieldAt := none
      crown.ledgerHandover := false } →
    exec .yieldTimeout s = .next ((u.offerCrown.openRings.event 0x9012 0x0D 0 g.toNat).finish (· == PendOp.crownYield) (.err 601 "standby did not take")))

/-- A step runs the command at the front of the queue: with `c` in front, the step is `exec c` on the state with the queue's
rest. -/
def Obligations.StepRunsTheFrontCommand : Prop :=
  ∀ (c : Instr) (rest : List Instr) (s : State), s.pending = c :: rest → step s = exec c { s with pending := rest }

/-- On an empty queue a step is one tick (the model's choice, assumption 1): outside DARK the tick counter advances by one and
wraps after 2^48 - 1 (R18, R19), in DARK it stands; the queue stays empty and the bytes of the DRAM stay as they were. -/
def Obligations.AnEmptyQueueTicks : Prop :=
  ∀ s : State, s.pending = [] → ∃ t, step s = .next t ∧ t.pending = [] ∧ t.mp.dram = s.mp.dram ∧ t.par.factory = s.par.factory ∧
    (s.ctl.state ≠ .dark → t.clk.tick = s.clk.tick + 1) ∧ (s.ctl.state = .dark → t.clk.tick = s.clk.tick)

/-- What reset leaves, of what the spec gives: the unit is DARK (Table 4.1), its display dark (R135), with nothing waiting and no
session open, the tick counter at 0 (R18), line sync stopped (R20), the crown not held (R489), the outputs of the field bank off
(R136), no line of memory keyed or listed, no event raised; and the invariant holds. That reset is DARK, never powered, is the
model's choice (assumption 3). -/
def Obligations.ResetHolds : Prop :=
  State.reset.Inv ∧ State.reset.pending = [] ∧ State.reset.ctl.state = .dark ∧ State.reset.frontDisplay = "" ∧ State.reset.sessions = [] ∧
  State.reset.clk.tick = 0 ∧
  State.reset.sync.running = false ∧ State.reset.crown.holds = false ∧ State.reset.fld.released = false ∧
  State.reset.mp.dram = [] ∧ State.reset.mp.lines = [] ∧ State.reset.raised = [] ∧ State.reset.made = [] ∧
  State.reset.tk.tickets = [] ∧ (∀ c ∈ State.reset.courses, c.state = .off) ∧ (∀ f ∈ State.reset.fld.fans, f.state = .stopped)

/-- THE MEMORY KEEPS ITS CANONICAL FORM: from every state whose DRAM is in canonical form (addresses strictly rising, no entry
that equals what an unlisted byte reads as), whatever command stands in front, or none, a step that answers a next state leaves
it in canonical form, so that equal memories are equal data. -/
def Obligations.EveryStepKeepsTheInvariant : Prop :=
  ∀ (s t : State), s.Inv → step s = .next t → t.Inv

/-- NO COMMAND MOVES THE CLOCK OR THE QUEUE: whatever a command does, the commands that wait stay as they are and in their
order, and the tick counter, which advances with time alone, stays (R18), but for POWER_UP, on which it begins anew at 0. -/
def Obligations.CommandsKeepQueueAndTick : Prop :=
  ∀ (c : Instr) (s t : State), exec c s = .next t → t.pending = s.pending ∧ ((∀ p, c ≠ .powerUp p) → t.clk.tick = s.clk.tick)

/-- ONLY THESE WRITE MEMORY: every command but POWER_UP, the accesses of memory protection, the repointer, LEDGER REPLAY's
delivery, a partner's writes and its answers to the Keystone's own READ and ATOMIC-ADD leaves every byte of the DRAM as it was. -/
def Obligations.OnlyTheseWriteMemory : Prop :=
  ∀ (c : Instr) (s t : State), exec c s = .next t → writesMemory c = false → t.mp.dram = s.mp.dram

/-- ONLY THESE MOVE THE UNIT: the unit state of Table 4.1 changes only under a command that Table 4.2 or Table 4.3 names or one
that can bring a cause of FAULT (Table 4.7), whatever the state, the session and the operands; no other of the 292 commands
enters or leaves a state. -/
def Obligations.OnlyTheseMoveTheUnit : Prop :=
  ∀ (c : Instr) (s t : State), exec c s = .next t → movesUnit c = false → t.ctl.state = s.ctl.state

/-- THE FACTORY BANK STANDS: no command and no tick writes the FACTORY bank of calibration, which Olondand alone writes (R126).
Only a NOR fault that POWER_UP brings with it can make the bank invalid (R134): its crc then fails, and its records stand. -/
def Obligations.TheFactoryBankStands : Prop :=
  ∀ (s t : State), step s = .next t → t.par.factory = s.par.factory ∨
    ∃ (p : PowerOn) (rest : List Instr), s.pending = .powerUp p :: rest ∧ .factory ∈ p.spoiled ∧
      { t.par.factory with crc := s.par.factory.crc } = s.par.factory

/-- R203, R204. When prod runs more than 4,096 ahead of cons, cons becomes prod - 4,096 and the slots skipped are neither taken
nor answered: status bit [2] is set, their number is added to ticket.src.N.overruns and 0x2010, a FAULT, is recorded; when it
moves more than 2^31 ahead, prod counts as unchanged and 0x2011, a FAULT, is recorded. When ccons moves past cprod or backwards
the write is ignored and 0x2011 recorded. -/
def Obligations.RingsThatRunAhead : Prop :=
  (∀ (src n : Nat) (prod : U32) (s : State), (s.source src).conn ≠ none → n = (prod - (s.source src).cons).toNat →
    (4096 < n → n ≤ 2 ^ 31 → exec (.ticketProdWrite src prod) s = .next ((s.updSource src fun q => { q with
        prod := prod
        cons := prod - 4096
        overrun := true
        overruns := q.overruns + BitVec.ofNat 32 (n - 4096) }).event 0x2010 4 src (n - 4096))) ∧
    (2 ^ 31 < n → exec (.ticketProdWrite src prod) s = .next (s.event 0x2011 4 src 0))) ∧
  (∀ (src : Nat) (ccons : U32) (s : State), (s.source src).conn ≠ none →
    ((s.source src).cprod - (s.source src).ccons).toNat < (ccons - (s.source src).ccons).toNat →
    exec (.completionCconsWrite src ccons) s = .next (s.event 0x2011 4 src 1)) ∧
  sevOf 0x2010 = .fault ∧ sevOf 0x2011 = .fault

/-- R484. While the Keystone is powered the lid switch is read: each opening adds 1 to seal.lid.count and records 0x8030, an
ALARM, each closing records 0x8031, a NOTE; nothing else changes, no key and no state of the unit. A switch that reads as it did
changes nothing, and in DARK it is not read. -/
def Obligations.TheLidIsRecorded : Prop :=
  (∀ (s : State), s.ctl.state ≠ .dark → s.mp.lidOpen = false →
    exec (.lidSwitch true) s = .next { s with
      mp.lidOpen := true
      mp.lidCount := s.mp.lidCount + 1
      raised := s.raised ++ [{ code := 0x8030, kind := 0, index := 0, p0 := s.mp.lidCount + 1, p1 := 0, p2 := 0, p3 := 0 }] } ∧
    exec (.lidSwitch false) s = .next s) ∧
  (∀ (s : State), s.ctl.state ≠ .dark → s.mp.lidOpen = true →
    exec (.lidSwitch false) s = .next { s with
      mp.lidOpen := false
      raised := s.raised ++ [{ code := 0x8031, kind := 0, index := 0, p0 := 0, p1 := 0, p2 := 0, p3 := 0 }] } ∧
    exec (.lidSwitch true) s = .next s) ∧
  (∀ (b : Bool) (s : State), s.ctl.state = .dark → exec (.lidSwitch b) s = .next s) ∧
  sevOf 0x8030 = .alarm ∧ sevOf 0x8031 = .note

/-- R460. An access that names an address with a key ID that is not the address's, another region's, 0 for a keyed range, or a
reserved slot, is refused with a bus error and 0x8013, a FAULT, records the requester and the address; nothing of the memory is
read or written. No key ID reaches the metadata area. -/
def Obligations.AWrongKeyIsRefused : Prop :=
  (∀ (who key addr : Nat) (s t : State), s.ctl.state ≠ .dark → keyFor addr ≠ some key →
    t = State.event { s with mp.busError := some .key } 0x8013 0 0 who (addr % 2 ^ 32) ((key * 2 ^ 36 + addr) / 2 ^ 32) →
    (∀ len altered, exec (.sealRead who key addr len altered) s = .next t) ∧
    (∀ data altered, exec (.sealWrite who key addr data altered) s = .next t) ∧
    exec (.wrongKeyAccess who key addr) s = .next t) ∧
  (∀ (key addr len : Nat) (wr : Option (List Byte)) (s : State), s.ctl.state ≠ .dark → keyFor addr ≠ some key →
    ∃ who t, exec (.groutAccess key addr wr len) s = .next t ∧ t.mp.busError = some .key ∧ t.mp.dram = s.mp.dram ∧
      t.mp.readData = s.mp.readData ∧
      t.raised = s.raised ++ [{ code := 0x8013, kind := 0, index := 0, p0 := BitVec.ofNat 32 who, p1 := BitVec.ofNat 32 (addr % 2 ^ 32)
                                p2 := BitVec.ofNat 32 ((key * 2 ^ 36 + addr) / 2 ^ 32), p3 := 0 }]) ∧
  (∀ (slot addr : Nat) (r : Nat × Nat), regionOf slot = some r → r.1 ≤ addr → addr < r.1 + r.2 → keyFor addr = some slot) ∧
  (∀ (key addr : Nat), keyFor addr = some key → key ≤ 6) ∧
  (∀ (key addr : Nat), 0x3F0000000 ≤ addr → addr < 0x400000000 → keyFor addr ≠ some key) ∧
  sevOf 0x8013 = .fault

/-- R486. When the key-store write of SEAL REKEY LEDGER fails, the command answers 601, and the copy that was in force stays in
force with its ULK. -/
def Obligations.AFailedKeyStoreWrite : Prop :=
  ∀ (s u : State) (login : Nat) (key : List Byte), s.mp.storeBusy = some (login, key) →
    u = (if s.storeBNewer then { s with mp.storeBusy := none, mp.storeA := { valid := false, generation := s.mp.storeB.generation + 1, ulk := key } }
      else { s with mp.storeBusy := none, mp.storeB := { valid := false, generation := s.mp.storeA.generation + 1, ulk := key } }) →
    exec (.keyStoreWriteComplete false) s = .next (u.finish (· == PendOp.sealLedger) (.err 601 "")) ∧
    (u.finish (· == PendOp.sealLedger) (.err 601 "")).ulk = s.ulk ∧
    (s.storeBNewer = true → (u.finish (· == PendOp.sealLedger) (.err 601 "")).mp.storeB = s.mp.storeB) ∧
    (s.storeBNewer = false → (u.finish (· == PendOp.sealLedger) (.err 601 "")).mp.storeA = s.mp.storeA)

/-- R518. When the MRAM write of a new generation fails, a standby does not take the crown, by silence or by CROWN TAKE: it sets
cause [4], which stands until it applies at the next entry to HELD, and records 0x9031, a FAULT. A cause [4] that is set makes
an entry to HELD enter FAULT. -/
def Obligations.AFailedGenerationWrite : Prop :=
  (∀ (s : State), s.ctl.state = .standby → s.peerSilent = true → s.on 0xD03 = true → s.crown.silentNoted = false → s.crown.synced = .yes →
    exec (.crownSilenceTakeover false) s = .next { s with
      crown.silentNoted := true
      ctl.causes := s.ctl.causes ||| (1#32 <<< 4)
      raised := s.raised ++ [{ code := 0x9031, kind := 0x0D, index := 0, p0 := 1, p1 := 0, p2 := 0, p3 := 0 }] }) ∧
  (∀ (ln : Ln) (s u : State), s.Runs ln .engineer → u = s.lineTaken ln → s.ctl.state = .standby → u.peerSilent = true →
    exec (.crownTake ln false) s = .next (State.replied { u with
      ctl.causes := s.ctl.causes ||| (1#32 <<< 4)
      raised := s.raised ++ [{ code := 0x9031, kind := 0x0D, index := 0, p0 := 1, p1 := 0, p2 := 0, p3 := 0 }] } ln (.err 601 ""))) ∧
  (∀ (s : State), s.ctl.state = .standby → s.ctl.causes.getLsbD 4 = true → s.enterHeld.ctl.state = .fault) ∧
  sevOf 0x9031 = .fault

/-- R19. Tick a is before tick b when (b - a) mod 2^48 lies between 1 and 2^47 - 1; so no tick is before itself, and of two
ticks at most one is before the other; the wrap of the counter makes no difference: adding the same number of ticks to both
changes nothing. -/
def Obligations.TicksCompareModulo : Prop :=
  ∀ a b d : Tick, (tickBefore a b = true ↔ 1 ≤ ((b.toNat : Int) - a.toNat) % 2 ^ 48 ∧ ((b.toNat : Int) - a.toNat) % 2 ^ 48 ≤ 2 ^ 47 - 1) ∧
    (tickBefore a b = true → tickBefore b a = false) ∧ tickBefore a a = false ∧ tickBefore (a + d) (b + d) = tickBefore a b

/-- WHAT IS WRITTEN READS BACK. A write to a range of no protected region, or of a GROUT region, with its key answers no error,
changes the bytes written and no other byte of the DRAM, and a read of the same range then returns them (R459, R465). A write of
a whole sound SEAL line with its key does the same, and its line's counter advances by 1 (R462, R463). -/
def Obligations.WrittenBytesReadBack : Prop :=
  (∀ (who key addr : Nat) (data : List Byte) (s : State), s.Inv → s.ctl.state ≠ .dark → keyFor addr = some key → isSeal key = false →
    pastEnd addr data.length = false →
    ∃ t u, exec (.sealWrite who key addr data false) s = .next t ∧ t.mp.busError = none ∧
      (∀ a, a < addr ∨ addr + data.length ≤ a → cellAt t.mp.dram a = cellAt s.mp.dram a) ∧
      exec (.sealRead who key addr data.length none) t = .next u ∧ u.mp.busError = none ∧ u.mp.readData = data) ∧
  (∀ (who key addr line : Nat) (data : List Byte) (s : State), s.Inv → s.ctl.state ≠ .dark → keyFor addr = some key → isSeal key = true →
    addr = lineAddr key line → pastEnd addr 64 = false → data.length = 64 → s.sealGate key = none → (s.lineMeta key line).ctr ≠ ctrMax →
    ∃ t u, exec (.sealWrite who key addr data false) s = .next t ∧ t.mp.busError = none ∧
      (∀ a, a < addr ∨ addr + 64 ≤ a → cellAt t.mp.dram a = cellAt s.mp.dram a) ∧
      (t.lineMeta key line).ctr = (s.lineMeta key line).ctr + 1 ∧ (t.lineMeta key line).poison = false ∧
      exec (.sealRead who key addr 64 none) t = .next u ∧ u.mp.busError = none ∧ u.mp.readData = data)

/-- A POISONED LINE GIVES NOTHING AWAY (R475). A read of bytes of a poisoned line answers a bus error and no byte, and counts no
further alarm; a partial write to it by another than the Keystone's own writer of EXPORT structures (R478) is refused with a bus
error. Neither changes a byte of the DRAM, a line's counter or POISON, nor records an event, but for a read of the ledger writer
(Table 14.7; assumption 21). -/
def Obligations.APoisonedLineAnswersNoByte : Prop :=
  ∀ (who key addr line off : Nat) (s : State), s.ctl.state ≠ .dark → keyFor addr = some key → isSeal key = true →
    addr = lineAddr key line + off → s.sealGate key = none → (s.lineMeta key line).poison = true →
    (∀ (len : Nat) (altered : Option (List Byte)), 0 < len → off + len ≤ 64 → pastEnd addr len = false →
      ∃ t, exec (.sealRead who key addr len altered) s = .next t ∧ t.mp.busError = some .poison ∧ t.mp.readData = [] ∧
        t.mp.dram = s.mp.dram ∧ t.mp.lines = s.mp.lines ∧ t.mp.slots = s.mp.slots ∧ (¬ (who = 2 ∧ key = 1) → t.raised = s.raised)) ∧
    (∀ (data : List Byte) (altered : Bool), 0 < data.length → data.length < 64 → off + data.length ≤ 64 → pastEnd addr data.length = false →
      ¬ (who = 0 ∧ key = 3) →
      ∃ t, exec (.sealWrite who key addr data altered) s = .next t ∧ t.mp.busError = some .poison ∧
        t.mp.dram = s.mp.dram ∧ t.mp.lines = s.mp.lines ∧ t.mp.slots = s.mp.slots ∧ t.raised = s.raised)

/-- R50. The rounding to the nearest step that a type can hold: no integer lies nearer to n/d than the answer, a whole quotient
is itself, and a quotient half way between two integers goes away from zero; a negative value rounds as its opposite does. -/
def Obligations.RoundsToTheNearest : Prop :=
  ∀ (n : Int) (d : Nat), 0 < d → (∀ m : Int, |n - d * roundDiv n d| ≤ |n - d * m|) ∧
    (∀ m : Int, 2 * |n - d * m| = d → |m| ≤ |roundDiv n d|) ∧ roundDiv (-n) d = - roundDiv n d

/-- The codes of the tape. The stone code (R399, Table 12.4): whatever four bytes a word holds, its encoding has four slots, none
of them zero, and decodes to the same four bytes. The product code (R405): a word that a decoder of p check bytes restores is a
codeword of the received word's length; it differs from the received word, outside the erasures, in no more bytes than the errors
counted and the erasures together, and twice the errors and the erasures are at most p (10 errors or 20 erasures of C1, 6 or 12 of
C2). -/
def Obligations.TheTapeCodesReadBack : Prop :=
  (∀ b0 b1 b2 b3 : Byte, let r := stoneSlots [b0, b1, b2, b3];
    r.2.length = 4 ∧ (∀ x ∈ r.2, x ≠ 0) ∧ stoneBack r.1 r.2 = [b0, b1, b2, b3]) ∧
  (∀ (p : Nat) (w c : List Byte) (erased : List Nat) (k : Nat), rsDecode p w erased = some (c, k) →
    c.length = w.length ∧ (∀ x ∈ syndromes p c, x = 0) ∧ 2 * k + erased.length ≤ p ∧
    ((List.range w.length).filter fun j => !erased.contains j && c.getD j 0 != w.getD j 0).length ≤ k + erased.length)

/-- The interleave (R406): row r of matrix m is first written on channel (r + 3m) mod 16, in slot 128 × q + ((m + 8j) mod 128)
with q = r ÷ 16 and j = r mod 16; the inversion that the manual gives finds m and r again; and each slot of each channel holds
exactly one first-written block. -/
def Obligations.EachSlotHoldsOneRow : Prop :=
  (∀ m r : Nat, m < 128 → r < 96 →
    rowChannel m r = (r + 3 * m) % 16 ∧ rowSlot m r = 128 * (r / 16) + (m + 8 * (r % 16)) % 128 ∧ rowSlot m r < 768 ∧
    (let c : Int := rowChannel m r;
      let u : Int := rowSlot m r % 128;
      (m : Int) = 39 * (8 * c - u) % 128 ∧ ((r % 16 : Nat) : Int) = (c - 3 * m) % 16 ∧ r / 16 = rowSlot m r / 128) ∧
    slotMatrix (rowChannel m r) (rowSlot m r) = m ∧ slotRow (rowChannel m r) (rowSlot m r) = r) ∧
  (∀ c s : Nat, c < 16 → s < 768 →
    ∃! q : Nat × Nat, (q.1 < 128 ∧ q.2 < 96) ∧ rowChannel q.1 q.2 = c ∧ rowSlot q.1 q.2 = s)
end

