-- ==== Sys2Proof/Laws/State.lean ====
section
/-! SUPPORT. The fields of the state after each of its updates, one lemma a field and an update, so that no proof unfolds an
update of the record. -/
namespace Sys2Proof.Machine

@[simp] theorem State.updCourse_clk (s : State) (i : Nat) (f : Course → Course) : (s.updCourse i f).clk = s.clk := rfl
@[simp] theorem State.updCourse_sync (s : State) (i : Nat) (f : Course → Course) : (s.updCourse i f).sync = s.sync := rfl
@[simp] theorem State.updCourse_page (s : State) (i : Nat) (f : Course → Course) : (s.updCourse i f).page = s.page := rfl
@[simp] theorem State.updCourse_sessions (s : State) (i : Nat) (f : Course → Course) : (s.updCourse i f).sessions = s.sessions := rfl
@[simp] theorem State.updCourse_orphans (s : State) (i : Nat) (f : Course → Course) : (s.updCourse i f).orphans = s.orphans := rfl
@[simp] theorem State.updCourse_par (s : State) (i : Nat) (f : Course → Course) : (s.updCourse i f).par = s.par := rfl
@[simp] theorem State.updCourse_ctl (s : State) (i : Nat) (f : Course → Course) : (s.updCourse i f).ctl = s.ctl := rfl
@[simp] theorem State.updCourse_tk (s : State) (i : Nat) (f : Course → Course) : (s.updCourse i f).tk = s.tk := rfl
@[simp] theorem State.updCourse_plumb (s : State) (i : Nat) (f : Course → Course) : (s.updCourse i f).plumb = s.plumb := rfl
@[simp] theorem State.updCourse_air (s : State) (i : Nat) (f : Course → Course) : (s.updCourse i f).air = s.air := rfl
@[simp] theorem State.updCourse_devs (s : State) (i : Nat) (f : Course → Course) : (s.updCourse i f).devs = s.devs := rfl
@[simp] theorem State.updCourse_rotation (s : State) (i : Nat) (f : Course → Course) : (s.updCourse i f).rotation = s.rotation := rfl
@[simp] theorem State.updCourse_net (s : State) (i : Nat) (f : Course → Course) : (s.updCourse i f).net = s.net := rfl
@[simp] theorem State.updCourse_dry (s : State) (i : Nat) (f : Course → Course) : (s.updCourse i f).dry = s.dry := rfl
@[simp] theorem State.updCourse_fld (s : State) (i : Nat) (f : Course → Course) : (s.updCourse i f).fld = s.fld := rfl
@[simp] theorem State.updCourse_led (s : State) (i : Nat) (f : Course → Course) : (s.updCourse i f).led = s.led := rfl
@[simp] theorem State.updCourse_mp (s : State) (i : Nat) (f : Course → Course) : (s.updCourse i f).mp = s.mp := rfl
@[simp] theorem State.updCourse_crown (s : State) (i : Nat) (f : Course → Course) : (s.updCourse i f).crown = s.crown := rfl
@[simp] theorem State.updCourse_evr (s : State) (i : Nat) (f : Course → Course) : (s.updCourse i f).evr = s.evr := rfl
@[simp] theorem State.updCourse_raised (s : State) (i : Nat) (f : Course → Course) : (s.updCourse i f).raised = s.raised := rfl
@[simp] theorem State.updCourse_made (s : State) (i : Nat) (f : Course → Course) : (s.updCourse i f).made = s.made := rfl
@[simp] theorem State.updCourse_freeCount (s : State) (i : Nat) (f : Course → Course) : (s.updCourse i f).freeCount = s.freeCount := rfl
@[simp] theorem State.updCourse_pending (s : State) (i : Nat) (f : Course → Course) : (s.updCourse i f).pending = s.pending := rfl

@[simp] theorem State.updDev_clk (s : State) (i : Nat) (f : CourseDev → CourseDev) : (s.updDev i f).clk = s.clk := rfl
@[simp] theorem State.updDev_sync (s : State) (i : Nat) (f : CourseDev → CourseDev) : (s.updDev i f).sync = s.sync := rfl
@[simp] theorem State.updDev_page (s : State) (i : Nat) (f : CourseDev → CourseDev) : (s.updDev i f).page = s.page := rfl
@[simp] theorem State.updDev_sessions (s : State) (i : Nat) (f : CourseDev → CourseDev) : (s.updDev i f).sessions = s.sessions := rfl
@[simp] theorem State.updDev_orphans (s : State) (i : Nat) (f : CourseDev → CourseDev) : (s.updDev i f).orphans = s.orphans := rfl
@[simp] theorem State.updDev_par (s : State) (i : Nat) (f : CourseDev → CourseDev) : (s.updDev i f).par = s.par := rfl
@[simp] theorem State.updDev_ctl (s : State) (i : Nat) (f : CourseDev → CourseDev) : (s.updDev i f).ctl = s.ctl := rfl
@[simp] theorem State.updDev_tk (s : State) (i : Nat) (f : CourseDev → CourseDev) : (s.updDev i f).tk = s.tk := rfl
@[simp] theorem State.updDev_plumb (s : State) (i : Nat) (f : CourseDev → CourseDev) : (s.updDev i f).plumb = s.plumb := rfl
@[simp] theorem State.updDev_air (s : State) (i : Nat) (f : CourseDev → CourseDev) : (s.updDev i f).air = s.air := rfl
@[simp] theorem State.updDev_courses (s : State) (i : Nat) (f : CourseDev → CourseDev) : (s.updDev i f).courses = s.courses := rfl
@[simp] theorem State.updDev_rotation (s : State) (i : Nat) (f : CourseDev → CourseDev) : (s.updDev i f).rotation = s.rotation := rfl
@[simp] theorem State.updDev_net (s : State) (i : Nat) (f : CourseDev → CourseDev) : (s.updDev i f).net = s.net := rfl
@[simp] theorem State.updDev_dry (s : State) (i : Nat) (f : CourseDev → CourseDev) : (s.updDev i f).dry = s.dry := rfl
@[simp] theorem State.updDev_fld (s : State) (i : Nat) (f : CourseDev → CourseDev) : (s.updDev i f).fld = s.fld := rfl
@[simp] theorem State.updDev_led (s : State) (i : Nat) (f : CourseDev → CourseDev) : (s.updDev i f).led = s.led := rfl
@[simp] theorem State.updDev_mp (s : State) (i : Nat) (f : CourseDev → CourseDev) : (s.updDev i f).mp = s.mp := rfl
@[simp] theorem State.updDev_crown (s : State) (i : Nat) (f : CourseDev → CourseDev) : (s.updDev i f).crown = s.crown := rfl
@[simp] theorem State.updDev_evr (s : State) (i : Nat) (f : CourseDev → CourseDev) : (s.updDev i f).evr = s.evr := rfl
@[simp] theorem State.updDev_raised (s : State) (i : Nat) (f : CourseDev → CourseDev) : (s.updDev i f).raised = s.raised := rfl
@[simp] theorem State.updDev_made (s : State) (i : Nat) (f : CourseDev → CourseDev) : (s.updDev i f).made = s.made := rfl
@[simp] theorem State.updDev_freeCount (s : State) (i : Nat) (f : CourseDev → CourseDev) : (s.updDev i f).freeCount = s.freeCount := rfl
@[simp] theorem State.updDev_pending (s : State) (i : Nat) (f : CourseDev → CourseDev) : (s.updDev i f).pending = s.pending := rfl

@[simp] theorem State.updConn_clk (s : State) (i : Nat) (f : Conn → Conn) : (s.updConn i f).clk = s.clk := rfl
@[simp] theorem State.updConn_sync (s : State) (i : Nat) (f : Conn → Conn) : (s.updConn i f).sync = s.sync := rfl
@[simp] theorem State.updConn_page (s : State) (i : Nat) (f : Conn → Conn) : (s.updConn i f).page = s.page := rfl
@[simp] theorem State.updConn_sessions (s : State) (i : Nat) (f : Conn → Conn) : (s.updConn i f).sessions = s.sessions := rfl
@[simp] theorem State.updConn_orphans (s : State) (i : Nat) (f : Conn → Conn) : (s.updConn i f).orphans = s.orphans := rfl
@[simp] theorem State.updConn_par (s : State) (i : Nat) (f : Conn → Conn) : (s.updConn i f).par = s.par := rfl
@[simp] theorem State.updConn_ctl (s : State) (i : Nat) (f : Conn → Conn) : (s.updConn i f).ctl = s.ctl := rfl
@[simp] theorem State.updConn_tk (s : State) (i : Nat) (f : Conn → Conn) : (s.updConn i f).tk = s.tk := rfl
@[simp] theorem State.updConn_plumb (s : State) (i : Nat) (f : Conn → Conn) : (s.updConn i f).plumb = s.plumb := rfl
@[simp] theorem State.updConn_air (s : State) (i : Nat) (f : Conn → Conn) : (s.updConn i f).air = s.air := rfl
@[simp] theorem State.updConn_courses (s : State) (i : Nat) (f : Conn → Conn) : (s.updConn i f).courses = s.courses := rfl
@[simp] theorem State.updConn_devs (s : State) (i : Nat) (f : Conn → Conn) : (s.updConn i f).devs = s.devs := rfl
@[simp] theorem State.updConn_rotation (s : State) (i : Nat) (f : Conn → Conn) : (s.updConn i f).rotation = s.rotation := rfl
@[simp] theorem State.updConn_dry (s : State) (i : Nat) (f : Conn → Conn) : (s.updConn i f).dry = s.dry := rfl
@[simp] theorem State.updConn_fld (s : State) (i : Nat) (f : Conn → Conn) : (s.updConn i f).fld = s.fld := rfl
@[simp] theorem State.updConn_led (s : State) (i : Nat) (f : Conn → Conn) : (s.updConn i f).led = s.led := rfl
@[simp] theorem State.updConn_mp (s : State) (i : Nat) (f : Conn → Conn) : (s.updConn i f).mp = s.mp := rfl
@[simp] theorem State.updConn_crown (s : State) (i : Nat) (f : Conn → Conn) : (s.updConn i f).crown = s.crown := rfl
@[simp] theorem State.updConn_evr (s : State) (i : Nat) (f : Conn → Conn) : (s.updConn i f).evr = s.evr := rfl
@[simp] theorem State.updConn_raised (s : State) (i : Nat) (f : Conn → Conn) : (s.updConn i f).raised = s.raised := rfl
@[simp] theorem State.updConn_made (s : State) (i : Nat) (f : Conn → Conn) : (s.updConn i f).made = s.made := rfl
@[simp] theorem State.updConn_freeCount (s : State) (i : Nat) (f : Conn → Conn) : (s.updConn i f).freeCount = s.freeCount := rfl
@[simp] theorem State.updConn_pending (s : State) (i : Nat) (f : Conn → Conn) : (s.updConn i f).pending = s.pending := rfl
@[simp] theorem State.updConn_net_ports (s : State) (i : Nat) (f : Conn → Conn) : (s.updConn i f).net.ports = s.net.ports := rfl
@[simp] theorem State.updConn_net_supPort (s : State) (i : Nat) (f : Conn → Conn) : (s.updConn i f).net.supPort = s.net.supPort := rfl
@[simp] theorem State.updConn_net_rngOk (s : State) (i : Nat) (f : Conn → Conn) : (s.updConn i f).net.rngOk = s.net.rngOk := rfl
@[simp] theorem State.updConn_net_userWins (s : State) (i : Nat) (f : Conn → Conn) : (s.updConn i f).net.userWins = s.net.userWins := rfl
@[simp] theorem State.updConn_net_userGen (s : State) (i : Nat) (f : Conn → Conn) : (s.updConn i f).net.userGen = s.net.userGen := rfl
@[simp] theorem State.updConn_net_cfgGen (s : State) (i : Nat) (f : Conn → Conn) : (s.updConn i f).net.cfgGen = s.net.cfgGen := rfl
@[simp] theorem State.updConn_net_peerGen (s : State) (i : Nat) (f : Conn → Conn) : (s.updConn i f).net.peerGen = s.net.peerGen := rfl
@[simp] theorem State.updConn_net_groups (s : State) (i : Nat) (f : Conn → Conn) : (s.updConn i f).net.groups = s.net.groups := rfl

@[simp] theorem State.updPort_clk (s : State) (i : Nat) (f : Port → Port) : (s.updPort i f).clk = s.clk := rfl
@[simp] theorem State.updPort_sync (s : State) (i : Nat) (f : Port → Port) : (s.updPort i f).sync = s.sync := rfl
@[simp] theorem State.updPort_page (s : State) (i : Nat) (f : Port → Port) : (s.updPort i f).page = s.page := rfl
@[simp] theorem State.updPort_sessions (s : State) (i : Nat) (f : Port → Port) : (s.updPort i f).sessions = s.sessions := rfl
@[simp] theorem State.updPort_orphans (s : State) (i : Nat) (f : Port → Port) : (s.updPort i f).orphans = s.orphans := rfl
@[simp] theorem State.updPort_par (s : State) (i : Nat) (f : Port → Port) : (s.updPort i f).par = s.par := rfl
@[simp] theorem State.updPort_ctl (s : State) (i : Nat) (f : Port → Port) : (s.updPort i f).ctl = s.ctl := rfl
@[simp] theorem State.updPort_tk (s : State) (i : Nat) (f : Port → Port) : (s.updPort i f).tk = s.tk := rfl
@[simp] theorem State.updPort_plumb (s : State) (i : Nat) (f : Port → Port) : (s.updPort i f).plumb = s.plumb := rfl
@[simp] theorem State.updPort_air (s : State) (i : Nat) (f : Port → Port) : (s.updPort i f).air = s.air := rfl
@[simp] theorem State.updPort_courses (s : State) (i : Nat) (f : Port → Port) : (s.updPort i f).courses = s.courses := rfl
@[simp] theorem State.updPort_devs (s : State) (i : Nat) (f : Port → Port) : (s.updPort i f).devs = s.devs := rfl
@[simp] theorem State.updPort_rotation (s : State) (i : Nat) (f : Port → Port) : (s.updPort i f).rotation = s.rotation := rfl
@[simp] theorem State.updPort_dry (s : State) (i : Nat) (f : Port → Port) : (s.updPort i f).dry = s.dry := rfl
@[simp] theorem State.updPort_fld (s : State) (i : Nat) (f : Port → Port) : (s.updPort i f).fld = s.fld := rfl
@[simp] theorem State.updPort_led (s : State) (i : Nat) (f : Port → Port) : (s.updPort i f).led = s.led := rfl
@[simp] theorem State.updPort_mp (s : State) (i : Nat) (f : Port → Port) : (s.updPort i f).mp = s.mp := rfl
@[simp] theorem State.updPort_crown (s : State) (i : Nat) (f : Port → Port) : (s.updPort i f).crown = s.crown := rfl
@[simp] theorem State.updPort_evr (s : State) (i : Nat) (f : Port → Port) : (s.updPort i f).evr = s.evr := rfl
@[simp] theorem State.updPort_raised (s : State) (i : Nat) (f : Port → Port) : (s.updPort i f).raised = s.raised := rfl
@[simp] theorem State.updPort_made (s : State) (i : Nat) (f : Port → Port) : (s.updPort i f).made = s.made := rfl
@[simp] theorem State.updPort_freeCount (s : State) (i : Nat) (f : Port → Port) : (s.updPort i f).freeCount = s.freeCount := rfl
@[simp] theorem State.updPort_pending (s : State) (i : Nat) (f : Port → Port) : (s.updPort i f).pending = s.pending := rfl
@[simp] theorem State.updPort_net_conns (s : State) (i : Nat) (f : Port → Port) : (s.updPort i f).net.conns = s.net.conns := rfl
@[simp] theorem State.updPort_net_supPort (s : State) (i : Nat) (f : Port → Port) : (s.updPort i f).net.supPort = s.net.supPort := rfl
@[simp] theorem State.updPort_net_rngOk (s : State) (i : Nat) (f : Port → Port) : (s.updPort i f).net.rngOk = s.net.rngOk := rfl
@[simp] theorem State.updPort_net_userWins (s : State) (i : Nat) (f : Port → Port) : (s.updPort i f).net.userWins = s.net.userWins := rfl
@[simp] theorem State.updPort_net_userGen (s : State) (i : Nat) (f : Port → Port) : (s.updPort i f).net.userGen = s.net.userGen := rfl
@[simp] theorem State.updPort_net_cfgGen (s : State) (i : Nat) (f : Port → Port) : (s.updPort i f).net.cfgGen = s.net.cfgGen := rfl
@[simp] theorem State.updPort_net_peerGen (s : State) (i : Nat) (f : Port → Port) : (s.updPort i f).net.peerGen = s.net.peerGen := rfl
@[simp] theorem State.updPort_net_groups (s : State) (i : Nat) (f : Port → Port) : (s.updPort i f).net.groups = s.net.groups := rfl

@[simp] theorem State.updSource_clk (s : State) (i : Nat) (f : Source → Source) : (s.updSource i f).clk = s.clk := rfl
@[simp] theorem State.updSource_sync (s : State) (i : Nat) (f : Source → Source) : (s.updSource i f).sync = s.sync := rfl
@[simp] theorem State.updSource_page (s : State) (i : Nat) (f : Source → Source) : (s.updSource i f).page = s.page := rfl
@[simp] theorem State.updSource_sessions (s : State) (i : Nat) (f : Source → Source) : (s.updSource i f).sessions = s.sessions := rfl
@[simp] theorem State.updSource_orphans (s : State) (i : Nat) (f : Source → Source) : (s.updSource i f).orphans = s.orphans := rfl
@[simp] theorem State.updSource_par (s : State) (i : Nat) (f : Source → Source) : (s.updSource i f).par = s.par := rfl
@[simp] theorem State.updSource_ctl (s : State) (i : Nat) (f : Source → Source) : (s.updSource i f).ctl = s.ctl := rfl
@[simp] theorem State.updSource_plumb (s : State) (i : Nat) (f : Source → Source) : (s.updSource i f).plumb = s.plumb := rfl
@[simp] theorem State.updSource_air (s : State) (i : Nat) (f : Source → Source) : (s.updSource i f).air = s.air := rfl
@[simp] theorem State.updSource_courses (s : State) (i : Nat) (f : Source → Source) : (s.updSource i f).courses = s.courses := rfl
@[simp] theorem State.updSource_devs (s : State) (i : Nat) (f : Source → Source) : (s.updSource i f).devs = s.devs := rfl
@[simp] theorem State.updSource_rotation (s : State) (i : Nat) (f : Source → Source) : (s.updSource i f).rotation = s.rotation := rfl
@[simp] theorem State.updSource_net (s : State) (i : Nat) (f : Source → Source) : (s.updSource i f).net = s.net := rfl
@[simp] theorem State.updSource_dry (s : State) (i : Nat) (f : Source → Source) : (s.updSource i f).dry = s.dry := rfl
@[simp] theorem State.updSource_fld (s : State) (i : Nat) (f : Source → Source) : (s.updSource i f).fld = s.fld := rfl
@[simp] theorem State.updSource_led (s : State) (i : Nat) (f : Source → Source) : (s.updSource i f).led = s.led := rfl
@[simp] theorem State.updSource_mp (s : State) (i : Nat) (f : Source → Source) : (s.updSource i f).mp = s.mp := rfl
@[simp] theorem State.updSource_crown (s : State) (i : Nat) (f : Source → Source) : (s.updSource i f).crown = s.crown := rfl
@[simp] theorem State.updSource_evr (s : State) (i : Nat) (f : Source → Source) : (s.updSource i f).evr = s.evr := rfl
@[simp] theorem State.updSource_raised (s : State) (i : Nat) (f : Source → Source) : (s.updSource i f).raised = s.raised := rfl
@[simp] theorem State.updSource_made (s : State) (i : Nat) (f : Source → Source) : (s.updSource i f).made = s.made := rfl
@[simp] theorem State.updSource_freeCount (s : State) (i : Nat) (f : Source → Source) : (s.updSource i f).freeCount = s.freeCount := rfl
@[simp] theorem State.updSource_pending (s : State) (i : Nat) (f : Source → Source) : (s.updSource i f).pending = s.pending := rfl
@[simp] theorem State.updSource_tk_tickets (s : State) (i : Nat) (f : Source → Source) : (s.updSource i f).tk.tickets = s.tk.tickets := rfl
@[simp] theorem State.updSource_tk_nextTid (s : State) (i : Nat) (f : Source → Source) : (s.updSource i f).tk.nextTid = s.tk.nextTid := rfl
@[simp] theorem State.updSource_tk_nextOrder (s : State) (i : Nat) (f : Source → Source) : (s.updSource i f).tk.nextOrder = s.tk.nextOrder := rfl
@[simp] theorem State.updSource_tk_taken (s : State) (i : Nat) (f : Source → Source) : (s.updSource i f).tk.taken = s.tk.taken := rfl
@[simp] theorem State.updSource_tk_late (s : State) (i : Nat) (f : Source → Source) : (s.updSource i f).tk.late = s.tk.late := rfl
@[simp] theorem State.updSource_tk_stalls (s : State) (i : Nat) (f : Source → Source) : (s.updSource i f).tk.stalls = s.tk.stalls := rfl
@[simp] theorem State.updSource_tk_deniedSpec (s : State) (i : Nat) (f : Source → Source) : (s.updSource i f).tk.deniedSpec = s.tk.deniedSpec := rfl
@[simp] theorem State.updSource_tk_confirmedSec (s : State) (i : Nat) (f : Source → Source) : (s.updSource i f).tk.confirmedSec = s.tk.confirmedSec := rfl
@[simp] theorem State.updSource_tk_seen (s : State) (i : Nat) (f : Source → Source) : (s.updSource i f).tk.seen = s.tk.seen := rfl

@[simp] theorem State.updTicket_clk (s : State) (i : Nat) (f : Ticket → Ticket) : (s.updTicket i f).clk = s.clk := rfl
@[simp] theorem State.updTicket_sync (s : State) (i : Nat) (f : Ticket → Ticket) : (s.updTicket i f).sync = s.sync := rfl
@[simp] theorem State.updTicket_page (s : State) (i : Nat) (f : Ticket → Ticket) : (s.updTicket i f).page = s.page := rfl
@[simp] theorem State.updTicket_sessions (s : State) (i : Nat) (f : Ticket → Ticket) : (s.updTicket i f).sessions = s.sessions := rfl
@[simp] theorem State.updTicket_orphans (s : State) (i : Nat) (f : Ticket → Ticket) : (s.updTicket i f).orphans = s.orphans := rfl
@[simp] theorem State.updTicket_par (s : State) (i : Nat) (f : Ticket → Ticket) : (s.updTicket i f).par = s.par := rfl
@[simp] theorem State.updTicket_ctl (s : State) (i : Nat) (f : Ticket → Ticket) : (s.updTicket i f).ctl = s.ctl := rfl
@[simp] theorem State.updTicket_plumb (s : State) (i : Nat) (f : Ticket → Ticket) : (s.updTicket i f).plumb = s.plumb := rfl
@[simp] theorem State.updTicket_air (s : State) (i : Nat) (f : Ticket → Ticket) : (s.updTicket i f).air = s.air := rfl
@[simp] theorem State.updTicket_courses (s : State) (i : Nat) (f : Ticket → Ticket) : (s.updTicket i f).courses = s.courses := rfl
@[simp] theorem State.updTicket_devs (s : State) (i : Nat) (f : Ticket → Ticket) : (s.updTicket i f).devs = s.devs := rfl
@[simp] theorem State.updTicket_rotation (s : State) (i : Nat) (f : Ticket → Ticket) : (s.updTicket i f).rotation = s.rotation := rfl
@[simp] theorem State.updTicket_net (s : State) (i : Nat) (f : Ticket → Ticket) : (s.updTicket i f).net = s.net := rfl
@[simp] theorem State.updTicket_dry (s : State) (i : Nat) (f : Ticket → Ticket) : (s.updTicket i f).dry = s.dry := rfl
@[simp] theorem State.updTicket_fld (s : State) (i : Nat) (f : Ticket → Ticket) : (s.updTicket i f).fld = s.fld := rfl
@[simp] theorem State.updTicket_led (s : State) (i : Nat) (f : Ticket → Ticket) : (s.updTicket i f).led = s.led := rfl
@[simp] theorem State.updTicket_mp (s : State) (i : Nat) (f : Ticket → Ticket) : (s.updTicket i f).mp = s.mp := rfl
@[simp] theorem State.updTicket_crown (s : State) (i : Nat) (f : Ticket → Ticket) : (s.updTicket i f).crown = s.crown := rfl
@[simp] theorem State.updTicket_evr (s : State) (i : Nat) (f : Ticket → Ticket) : (s.updTicket i f).evr = s.evr := rfl
@[simp] theorem State.updTicket_raised (s : State) (i : Nat) (f : Ticket → Ticket) : (s.updTicket i f).raised = s.raised := rfl
@[simp] theorem State.updTicket_made (s : State) (i : Nat) (f : Ticket → Ticket) : (s.updTicket i f).made = s.made := rfl
@[simp] theorem State.updTicket_freeCount (s : State) (i : Nat) (f : Ticket → Ticket) : (s.updTicket i f).freeCount = s.freeCount := rfl
@[simp] theorem State.updTicket_pending (s : State) (i : Nat) (f : Ticket → Ticket) : (s.updTicket i f).pending = s.pending := rfl
@[simp] theorem State.updTicket_tk_sources (s : State) (i : Nat) (f : Ticket → Ticket) : (s.updTicket i f).tk.sources = s.tk.sources := rfl
@[simp] theorem State.updTicket_tk_nextTid (s : State) (i : Nat) (f : Ticket → Ticket) : (s.updTicket i f).tk.nextTid = s.tk.nextTid := rfl
@[simp] theorem State.updTicket_tk_nextOrder (s : State) (i : Nat) (f : Ticket → Ticket) : (s.updTicket i f).tk.nextOrder = s.tk.nextOrder := rfl
@[simp] theorem State.updTicket_tk_taken (s : State) (i : Nat) (f : Ticket → Ticket) : (s.updTicket i f).tk.taken = s.tk.taken := rfl
@[simp] theorem State.updTicket_tk_late (s : State) (i : Nat) (f : Ticket → Ticket) : (s.updTicket i f).tk.late = s.tk.late := rfl
@[simp] theorem State.updTicket_tk_stalls (s : State) (i : Nat) (f : Ticket → Ticket) : (s.updTicket i f).tk.stalls = s.tk.stalls := rfl
@[simp] theorem State.updTicket_tk_deniedSpec (s : State) (i : Nat) (f : Ticket → Ticket) : (s.updTicket i f).tk.deniedSpec = s.tk.deniedSpec := rfl
@[simp] theorem State.updTicket_tk_confirmedSec (s : State) (i : Nat) (f : Ticket → Ticket) : (s.updTicket i f).tk.confirmedSec = s.tk.confirmedSec := rfl
@[simp] theorem State.updTicket_tk_seen (s : State) (i : Nat) (f : Ticket → Ticket) : (s.updTicket i f).tk.seen = s.tk.seen := rfl

@[simp] theorem State.updFan_clk (s : State) (i : Nat) (f : Fan → Fan) : (s.updFan i f).clk = s.clk := rfl
@[simp] theorem State.updFan_sync (s : State) (i : Nat) (f : Fan → Fan) : (s.updFan i f).sync = s.sync := rfl
@[simp] theorem State.updFan_page (s : State) (i : Nat) (f : Fan → Fan) : (s.updFan i f).page = s.page := rfl
@[simp] theorem State.updFan_sessions (s : State) (i : Nat) (f : Fan → Fan) : (s.updFan i f).sessions = s.sessions := rfl
@[simp] theorem State.updFan_orphans (s : State) (i : Nat) (f : Fan → Fan) : (s.updFan i f).orphans = s.orphans := rfl
@[simp] theorem State.updFan_par (s : State) (i : Nat) (f : Fan → Fan) : (s.updFan i f).par = s.par := rfl
@[simp] theorem State.updFan_ctl (s : State) (i : Nat) (f : Fan → Fan) : (s.updFan i f).ctl = s.ctl := rfl
@[simp] theorem State.updFan_tk (s : State) (i : Nat) (f : Fan → Fan) : (s.updFan i f).tk = s.tk := rfl
@[simp] theorem State.updFan_plumb (s : State) (i : Nat) (f : Fan → Fan) : (s.updFan i f).plumb = s.plumb := rfl
@[simp] theorem State.updFan_air (s : State) (i : Nat) (f : Fan → Fan) : (s.updFan i f).air = s.air := rfl
@[simp] theorem State.updFan_courses (s : State) (i : Nat) (f : Fan → Fan) : (s.updFan i f).courses = s.courses := rfl
@[simp] theorem State.updFan_devs (s : State) (i : Nat) (f : Fan → Fan) : (s.updFan i f).devs = s.devs := rfl
@[simp] theorem State.updFan_rotation (s : State) (i : Nat) (f : Fan → Fan) : (s.updFan i f).rotation = s.rotation := rfl
@[simp] theorem State.updFan_net (s : State) (i : Nat) (f : Fan → Fan) : (s.updFan i f).net = s.net := rfl
@[simp] theorem State.updFan_dry (s : State) (i : Nat) (f : Fan → Fan) : (s.updFan i f).dry = s.dry := rfl
@[simp] theorem State.updFan_led (s : State) (i : Nat) (f : Fan → Fan) : (s.updFan i f).led = s.led := rfl
@[simp] theorem State.updFan_mp (s : State) (i : Nat) (f : Fan → Fan) : (s.updFan i f).mp = s.mp := rfl
@[simp] theorem State.updFan_crown (s : State) (i : Nat) (f : Fan → Fan) : (s.updFan i f).crown = s.crown := rfl
@[simp] theorem State.updFan_evr (s : State) (i : Nat) (f : Fan → Fan) : (s.updFan i f).evr = s.evr := rfl
@[simp] theorem State.updFan_raised (s : State) (i : Nat) (f : Fan → Fan) : (s.updFan i f).raised = s.raised := rfl
@[simp] theorem State.updFan_made (s : State) (i : Nat) (f : Fan → Fan) : (s.updFan i f).made = s.made := rfl
@[simp] theorem State.updFan_freeCount (s : State) (i : Nat) (f : Fan → Fan) : (s.updFan i f).freeCount = s.freeCount := rfl
@[simp] theorem State.updFan_pending (s : State) (i : Nat) (f : Fan → Fan) : (s.updFan i f).pending = s.pending := rfl
@[simp] theorem State.updFan_fld_link (s : State) (i : Nat) (f : Fan → Fan) : (s.updFan i f).fld.link = s.fld.link := rfl
@[simp] theorem State.updFan_fld_di (s : State) (i : Nat) (f : Fan → Fan) : (s.updFan i f).fld.di = s.fld.di := rfl
@[simp] theorem State.updFan_fld_dos (s : State) (i : Nat) (f : Fan → Fan) : (s.updFan i f).fld.dos = s.fld.dos := rfl
@[simp] theorem State.updFan_fld_ais (s : State) (i : Nat) (f : Fan → Fan) : (s.updFan i f).fld.ais = s.fld.ais := rfl
@[simp] theorem State.updFan_fld_aos (s : State) (i : Nat) (f : Fan → Fan) : (s.updFan i f).fld.aos = s.fld.aos := rfl
@[simp] theorem State.updFan_fld_released (s : State) (i : Nat) (f : Fan → Fan) : (s.updFan i f).fld.released = s.fld.released := rfl
@[simp] theorem State.updFan_fld_fault (s : State) (i : Nat) (f : Fan → Fan) : (s.updFan i f).fld.fault = s.fld.fault := rfl
@[simp] theorem State.updFan_fld_loadV (s : State) (i : Nat) (f : Fan → Fan) : (s.updFan i f).fld.loadV = s.fld.loadV := rfl
@[simp] theorem State.updFan_fld_rings (s : State) (i : Nat) (f : Fan → Fan) : (s.updFan i f).fld.rings = s.fld.rings := rfl
@[simp] theorem State.updFan_fld_nodeDevs (s : State) (i : Nat) (f : Fan → Fan) : (s.updFan i f).fld.nodeDevs = s.fld.nodeDevs := rfl
@[simp] theorem State.updFan_fld_avgOutMoist (s : State) (i : Nat) (f : Fan → Fan) : (s.updFan i f).fld.avgOutMoist = s.fld.avgOutMoist := rfl
@[simp] theorem State.updFan_fld_avgOutTemp (s : State) (i : Nat) (f : Fan → Fan) : (s.updFan i f).fld.avgOutTemp = s.fld.avgOutTemp := rfl
@[simp] theorem State.updFan_fld_avgInMoist (s : State) (i : Nat) (f : Fan → Fan) : (s.updFan i f).fld.avgInMoist = s.fld.avgInMoist := rfl
@[simp] theorem State.updFan_fld_avgValid (s : State) (i : Nat) (f : Fan → Fan) : (s.updFan i f).fld.avgValid = s.fld.avgValid := rfl
@[simp] theorem State.updFan_fld_power (s : State) (i : Nat) (f : Fan → Fan) : (s.updFan i f).fld.power = s.fld.power := rfl
@[simp] theorem State.updFan_fld_powerOffAt (s : State) (i : Nat) (f : Fan → Fan) : (s.updFan i f).fld.powerOffAt = s.fld.powerOffAt := rfl
@[simp] theorem State.updFan_fld_crown (s : State) (i : Nat) (f : Fan → Fan) : (s.updFan i f).fld.crown = s.fld.crown := rfl
@[simp] theorem State.updFan_fld_bankOff (s : State) (i : Nat) (f : Fan → Fan) : (s.updFan i f).fld.bankOff = s.fld.bankOff := rfl

@[simp] theorem State.updRing_clk (s : State) (i : Nat) (f : Ring → Ring) : (s.updRing i f).clk = s.clk := rfl
@[simp] theorem State.updRing_sync (s : State) (i : Nat) (f : Ring → Ring) : (s.updRing i f).sync = s.sync := rfl
@[simp] theorem State.updRing_page (s : State) (i : Nat) (f : Ring → Ring) : (s.updRing i f).page = s.page := rfl
@[simp] theorem State.updRing_sessions (s : State) (i : Nat) (f : Ring → Ring) : (s.updRing i f).sessions = s.sessions := rfl
@[simp] theorem State.updRing_orphans (s : State) (i : Nat) (f : Ring → Ring) : (s.updRing i f).orphans = s.orphans := rfl
@[simp] theorem State.updRing_par (s : State) (i : Nat) (f : Ring → Ring) : (s.updRing i f).par = s.par := rfl
@[simp] theorem State.updRing_ctl (s : State) (i : Nat) (f : Ring → Ring) : (s.updRing i f).ctl = s.ctl := rfl
@[simp] theorem State.updRing_tk (s : State) (i : Nat) (f : Ring → Ring) : (s.updRing i f).tk = s.tk := rfl
@[simp] theorem State.updRing_plumb (s : State) (i : Nat) (f : Ring → Ring) : (s.updRing i f).plumb = s.plumb := rfl
@[simp] theorem State.updRing_air (s : State) (i : Nat) (f : Ring → Ring) : (s.updRing i f).air = s.air := rfl
@[simp] theorem State.updRing_courses (s : State) (i : Nat) (f : Ring → Ring) : (s.updRing i f).courses = s.courses := rfl
@[simp] theorem State.updRing_devs (s : State) (i : Nat) (f : Ring → Ring) : (s.updRing i f).devs = s.devs := rfl
@[simp] theorem State.updRing_rotation (s : State) (i : Nat) (f : Ring → Ring) : (s.updRing i f).rotation = s.rotation := rfl
@[simp] theorem State.updRing_net (s : State) (i : Nat) (f : Ring → Ring) : (s.updRing i f).net = s.net := rfl
@[simp] theorem State.updRing_dry (s : State) (i : Nat) (f : Ring → Ring) : (s.updRing i f).dry = s.dry := rfl
@[simp] theorem State.updRing_led (s : State) (i : Nat) (f : Ring → Ring) : (s.updRing i f).led = s.led := rfl
@[simp] theorem State.updRing_mp (s : State) (i : Nat) (f : Ring → Ring) : (s.updRing i f).mp = s.mp := rfl
@[simp] theorem State.updRing_crown (s : State) (i : Nat) (f : Ring → Ring) : (s.updRing i f).crown = s.crown := rfl
@[simp] theorem State.updRing_evr (s : State) (i : Nat) (f : Ring → Ring) : (s.updRing i f).evr = s.evr := rfl
@[simp] theorem State.updRing_raised (s : State) (i : Nat) (f : Ring → Ring) : (s.updRing i f).raised = s.raised := rfl
@[simp] theorem State.updRing_made (s : State) (i : Nat) (f : Ring → Ring) : (s.updRing i f).made = s.made := rfl
@[simp] theorem State.updRing_freeCount (s : State) (i : Nat) (f : Ring → Ring) : (s.updRing i f).freeCount = s.freeCount := rfl
@[simp] theorem State.updRing_pending (s : State) (i : Nat) (f : Ring → Ring) : (s.updRing i f).pending = s.pending := rfl
@[simp] theorem State.updRing_fld_link (s : State) (i : Nat) (f : Ring → Ring) : (s.updRing i f).fld.link = s.fld.link := rfl
@[simp] theorem State.updRing_fld_di (s : State) (i : Nat) (f : Ring → Ring) : (s.updRing i f).fld.di = s.fld.di := rfl
@[simp] theorem State.updRing_fld_dos (s : State) (i : Nat) (f : Ring → Ring) : (s.updRing i f).fld.dos = s.fld.dos := rfl
@[simp] theorem State.updRing_fld_ais (s : State) (i : Nat) (f : Ring → Ring) : (s.updRing i f).fld.ais = s.fld.ais := rfl
@[simp] theorem State.updRing_fld_aos (s : State) (i : Nat) (f : Ring → Ring) : (s.updRing i f).fld.aos = s.fld.aos := rfl
@[simp] theorem State.updRing_fld_released (s : State) (i : Nat) (f : Ring → Ring) : (s.updRing i f).fld.released = s.fld.released := rfl
@[simp] theorem State.updRing_fld_fault (s : State) (i : Nat) (f : Ring → Ring) : (s.updRing i f).fld.fault = s.fld.fault := rfl
@[simp] theorem State.updRing_fld_loadV (s : State) (i : Nat) (f : Ring → Ring) : (s.updRing i f).fld.loadV = s.fld.loadV := rfl
@[simp] theorem State.updRing_fld_fans (s : State) (i : Nat) (f : Ring → Ring) : (s.updRing i f).fld.fans = s.fld.fans := rfl
@[simp] theorem State.updRing_fld_nodeDevs (s : State) (i : Nat) (f : Ring → Ring) : (s.updRing i f).fld.nodeDevs = s.fld.nodeDevs := rfl
@[simp] theorem State.updRing_fld_avgOutMoist (s : State) (i : Nat) (f : Ring → Ring) : (s.updRing i f).fld.avgOutMoist = s.fld.avgOutMoist := rfl
@[simp] theorem State.updRing_fld_avgOutTemp (s : State) (i : Nat) (f : Ring → Ring) : (s.updRing i f).fld.avgOutTemp = s.fld.avgOutTemp := rfl
@[simp] theorem State.updRing_fld_avgInMoist (s : State) (i : Nat) (f : Ring → Ring) : (s.updRing i f).fld.avgInMoist = s.fld.avgInMoist := rfl
@[simp] theorem State.updRing_fld_avgValid (s : State) (i : Nat) (f : Ring → Ring) : (s.updRing i f).fld.avgValid = s.fld.avgValid := rfl
@[simp] theorem State.updRing_fld_power (s : State) (i : Nat) (f : Ring → Ring) : (s.updRing i f).fld.power = s.fld.power := rfl
@[simp] theorem State.updRing_fld_powerOffAt (s : State) (i : Nat) (f : Ring → Ring) : (s.updRing i f).fld.powerOffAt = s.fld.powerOffAt := rfl
@[simp] theorem State.updRing_fld_crown (s : State) (i : Nat) (f : Ring → Ring) : (s.updRing i f).fld.crown = s.fld.crown := rfl
@[simp] theorem State.updRing_fld_bankOff (s : State) (i : Nat) (f : Ring → Ring) : (s.updRing i f).fld.bankOff = s.fld.bankOff := rfl

@[simp] theorem State.updLoop_clk (s : State) (i : Nat) (f : Loop → Loop) : (s.updLoop i f).clk = s.clk := rfl
@[simp] theorem State.updLoop_sync (s : State) (i : Nat) (f : Loop → Loop) : (s.updLoop i f).sync = s.sync := rfl
@[simp] theorem State.updLoop_page (s : State) (i : Nat) (f : Loop → Loop) : (s.updLoop i f).page = s.page := rfl
@[simp] theorem State.updLoop_sessions (s : State) (i : Nat) (f : Loop → Loop) : (s.updLoop i f).sessions = s.sessions := rfl
@[simp] theorem State.updLoop_orphans (s : State) (i : Nat) (f : Loop → Loop) : (s.updLoop i f).orphans = s.orphans := rfl
@[simp] theorem State.updLoop_par (s : State) (i : Nat) (f : Loop → Loop) : (s.updLoop i f).par = s.par := rfl
@[simp] theorem State.updLoop_ctl (s : State) (i : Nat) (f : Loop → Loop) : (s.updLoop i f).ctl = s.ctl := rfl
@[simp] theorem State.updLoop_tk (s : State) (i : Nat) (f : Loop → Loop) : (s.updLoop i f).tk = s.tk := rfl
@[simp] theorem State.updLoop_plumb (s : State) (i : Nat) (f : Loop → Loop) : (s.updLoop i f).plumb = s.plumb := rfl
@[simp] theorem State.updLoop_air (s : State) (i : Nat) (f : Loop → Loop) : (s.updLoop i f).air = s.air := rfl
@[simp] theorem State.updLoop_courses (s : State) (i : Nat) (f : Loop → Loop) : (s.updLoop i f).courses = s.courses := rfl
@[simp] theorem State.updLoop_devs (s : State) (i : Nat) (f : Loop → Loop) : (s.updLoop i f).devs = s.devs := rfl
@[simp] theorem State.updLoop_rotation (s : State) (i : Nat) (f : Loop → Loop) : (s.updLoop i f).rotation = s.rotation := rfl
@[simp] theorem State.updLoop_net (s : State) (i : Nat) (f : Loop → Loop) : (s.updLoop i f).net = s.net := rfl
@[simp] theorem State.updLoop_fld (s : State) (i : Nat) (f : Loop → Loop) : (s.updLoop i f).fld = s.fld := rfl
@[simp] theorem State.updLoop_led (s : State) (i : Nat) (f : Loop → Loop) : (s.updLoop i f).led = s.led := rfl
@[simp] theorem State.updLoop_mp (s : State) (i : Nat) (f : Loop → Loop) : (s.updLoop i f).mp = s.mp := rfl
@[simp] theorem State.updLoop_crown (s : State) (i : Nat) (f : Loop → Loop) : (s.updLoop i f).crown = s.crown := rfl
@[simp] theorem State.updLoop_evr (s : State) (i : Nat) (f : Loop → Loop) : (s.updLoop i f).evr = s.evr := rfl
@[simp] theorem State.updLoop_raised (s : State) (i : Nat) (f : Loop → Loop) : (s.updLoop i f).raised = s.raised := rfl
@[simp] theorem State.updLoop_made (s : State) (i : Nat) (f : Loop → Loop) : (s.updLoop i f).made = s.made := rfl
@[simp] theorem State.updLoop_freeCount (s : State) (i : Nat) (f : Loop → Loop) : (s.updLoop i f).freeCount = s.freeCount := rfl
@[simp] theorem State.updLoop_pending (s : State) (i : Nat) (f : Loop → Loop) : (s.updLoop i f).pending = s.pending := rfl
@[simp] theorem State.updLoop_dry_zones (s : State) (i : Nat) (f : Loop → Loop) : (s.updLoop i f).dry.zones = s.dry.zones := rfl
@[simp] theorem State.updLoop_dry_batch (s : State) (i : Nat) (f : Loop → Loop) : (s.updLoop i f).dry.batch = s.dry.batch := rfl
@[simp] theorem State.updLoop_dry_crack (s : State) (i : Nat) (f : Loop → Loop) : (s.updLoop i f).dry.crack = s.dry.crack := rfl
@[simp] theorem State.updLoop_dry_crackPrev (s : State) (i : Nat) (f : Loop → Loop) : (s.updLoop i f).dry.crackPrev = s.dry.crackPrev := rfl
@[simp] theorem State.updLoop_dry_crackAt (s : State) (i : Nat) (f : Loop → Loop) : (s.updLoop i f).dry.crackAt = s.dry.crackAt := rfl
@[simp] theorem State.updLoop_dry_crackCount (s : State) (i : Nat) (f : Loop → Loop) : (s.updLoop i f).dry.crackCount = s.dry.crackCount := rfl

@[simp] theorem State.updZone_clk (s : State) (i : Nat) (f : Zone → Zone) : (s.updZone i f).clk = s.clk := rfl
@[simp] theorem State.updZone_sync (s : State) (i : Nat) (f : Zone → Zone) : (s.updZone i f).sync = s.sync := rfl
@[simp] theorem State.updZone_page (s : State) (i : Nat) (f : Zone → Zone) : (s.updZone i f).page = s.page := rfl
@[simp] theorem State.updZone_sessions (s : State) (i : Nat) (f : Zone → Zone) : (s.updZone i f).sessions = s.sessions := rfl
@[simp] theorem State.updZone_orphans (s : State) (i : Nat) (f : Zone → Zone) : (s.updZone i f).orphans = s.orphans := rfl
@[simp] theorem State.updZone_par (s : State) (i : Nat) (f : Zone → Zone) : (s.updZone i f).par = s.par := rfl
@[simp] theorem State.updZone_ctl (s : State) (i : Nat) (f : Zone → Zone) : (s.updZone i f).ctl = s.ctl := rfl
@[simp] theorem State.updZone_tk (s : State) (i : Nat) (f : Zone → Zone) : (s.updZone i f).tk = s.tk := rfl
@[simp] theorem State.updZone_plumb (s : State) (i : Nat) (f : Zone → Zone) : (s.updZone i f).plumb = s.plumb := rfl
@[simp] theorem State.updZone_air (s : State) (i : Nat) (f : Zone → Zone) : (s.updZone i f).air = s.air := rfl
@[simp] theorem State.updZone_courses (s : State) (i : Nat) (f : Zone → Zone) : (s.updZone i f).courses = s.courses := rfl
@[simp] theorem State.updZone_devs (s : State) (i : Nat) (f : Zone → Zone) : (s.updZone i f).devs = s.devs := rfl
@[simp] theorem State.updZone_rotation (s : State) (i : Nat) (f : Zone → Zone) : (s.updZone i f).rotation = s.rotation := rfl
@[simp] theorem State.updZone_net (s : State) (i : Nat) (f : Zone → Zone) : (s.updZone i f).net = s.net := rfl
@[simp] theorem State.updZone_fld (s : State) (i : Nat) (f : Zone → Zone) : (s.updZone i f).fld = s.fld := rfl
@[simp] theorem State.updZone_led (s : State) (i : Nat) (f : Zone → Zone) : (s.updZone i f).led = s.led := rfl
@[simp] theorem State.updZone_mp (s : State) (i : Nat) (f : Zone → Zone) : (s.updZone i f).mp = s.mp := rfl
@[simp] theorem State.updZone_crown (s : State) (i : Nat) (f : Zone → Zone) : (s.updZone i f).crown = s.crown := rfl
@[simp] theorem State.updZone_evr (s : State) (i : Nat) (f : Zone → Zone) : (s.updZone i f).evr = s.evr := rfl
@[simp] theorem State.updZone_raised (s : State) (i : Nat) (f : Zone → Zone) : (s.updZone i f).raised = s.raised := rfl
@[simp] theorem State.updZone_made (s : State) (i : Nat) (f : Zone → Zone) : (s.updZone i f).made = s.made := rfl
@[simp] theorem State.updZone_freeCount (s : State) (i : Nat) (f : Zone → Zone) : (s.updZone i f).freeCount = s.freeCount := rfl
@[simp] theorem State.updZone_pending (s : State) (i : Nat) (f : Zone → Zone) : (s.updZone i f).pending = s.pending := rfl
@[simp] theorem State.updZone_dry_loops (s : State) (i : Nat) (f : Zone → Zone) : (s.updZone i f).dry.loops = s.dry.loops := rfl
@[simp] theorem State.updZone_dry_batch (s : State) (i : Nat) (f : Zone → Zone) : (s.updZone i f).dry.batch = s.dry.batch := rfl
@[simp] theorem State.updZone_dry_crack (s : State) (i : Nat) (f : Zone → Zone) : (s.updZone i f).dry.crack = s.dry.crack := rfl
@[simp] theorem State.updZone_dry_crackPrev (s : State) (i : Nat) (f : Zone → Zone) : (s.updZone i f).dry.crackPrev = s.dry.crackPrev := rfl
@[simp] theorem State.updZone_dry_crackAt (s : State) (i : Nat) (f : Zone → Zone) : (s.updZone i f).dry.crackAt = s.dry.crackAt := rfl
@[simp] theorem State.updZone_dry_crackCount (s : State) (i : Nat) (f : Zone → Zone) : (s.updZone i f).dry.crackCount = s.dry.crackCount := rfl

@[simp] theorem State.updManifold_clk (s : State) (i : Nat) (f : Manifold → Manifold) : (s.updManifold i f).clk = s.clk := rfl
@[simp] theorem State.updManifold_sync (s : State) (i : Nat) (f : Manifold → Manifold) : (s.updManifold i f).sync = s.sync := rfl
@[simp] theorem State.updManifold_page (s : State) (i : Nat) (f : Manifold → Manifold) : (s.updManifold i f).page = s.page := rfl
@[simp] theorem State.updManifold_sessions (s : State) (i : Nat) (f : Manifold → Manifold) : (s.updManifold i f).sessions = s.sessions := rfl
@[simp] theorem State.updManifold_orphans (s : State) (i : Nat) (f : Manifold → Manifold) : (s.updManifold i f).orphans = s.orphans := rfl
@[simp] theorem State.updManifold_par (s : State) (i : Nat) (f : Manifold → Manifold) : (s.updManifold i f).par = s.par := rfl
@[simp] theorem State.updManifold_ctl (s : State) (i : Nat) (f : Manifold → Manifold) : (s.updManifold i f).ctl = s.ctl := rfl
@[simp] theorem State.updManifold_tk (s : State) (i : Nat) (f : Manifold → Manifold) : (s.updManifold i f).tk = s.tk := rfl
@[simp] theorem State.updManifold_plumb (s : State) (i : Nat) (f : Manifold → Manifold) : (s.updManifold i f).plumb = s.plumb := rfl
@[simp] theorem State.updManifold_courses (s : State) (i : Nat) (f : Manifold → Manifold) : (s.updManifold i f).courses = s.courses := rfl
@[simp] theorem State.updManifold_devs (s : State) (i : Nat) (f : Manifold → Manifold) : (s.updManifold i f).devs = s.devs := rfl
@[simp] theorem State.updManifold_rotation (s : State) (i : Nat) (f : Manifold → Manifold) : (s.updManifold i f).rotation = s.rotation := rfl
@[simp] theorem State.updManifold_net (s : State) (i : Nat) (f : Manifold → Manifold) : (s.updManifold i f).net = s.net := rfl
@[simp] theorem State.updManifold_dry (s : State) (i : Nat) (f : Manifold → Manifold) : (s.updManifold i f).dry = s.dry := rfl
@[simp] theorem State.updManifold_fld (s : State) (i : Nat) (f : Manifold → Manifold) : (s.updManifold i f).fld = s.fld := rfl
@[simp] theorem State.updManifold_led (s : State) (i : Nat) (f : Manifold → Manifold) : (s.updManifold i f).led = s.led := rfl
@[simp] theorem State.updManifold_mp (s : State) (i : Nat) (f : Manifold → Manifold) : (s.updManifold i f).mp = s.mp := rfl
@[simp] theorem State.updManifold_crown (s : State) (i : Nat) (f : Manifold → Manifold) : (s.updManifold i f).crown = s.crown := rfl
@[simp] theorem State.updManifold_evr (s : State) (i : Nat) (f : Manifold → Manifold) : (s.updManifold i f).evr = s.evr := rfl
@[simp] theorem State.updManifold_raised (s : State) (i : Nat) (f : Manifold → Manifold) : (s.updManifold i f).raised = s.raised := rfl
@[simp] theorem State.updManifold_made (s : State) (i : Nat) (f : Manifold → Manifold) : (s.updManifold i f).made = s.made := rfl
@[simp] theorem State.updManifold_freeCount (s : State) (i : Nat) (f : Manifold → Manifold) : (s.updManifold i f).freeCount = s.freeCount := rfl
@[simp] theorem State.updManifold_pending (s : State) (i : Nat) (f : Manifold → Manifold) : (s.updManifold i f).pending = s.pending := rfl

@[simp] theorem State.updChute_clk (s : State) (i : Nat) (f : Chute → Chute) : (s.updChute i f).clk = s.clk := rfl
@[simp] theorem State.updChute_sync (s : State) (i : Nat) (f : Chute → Chute) : (s.updChute i f).sync = s.sync := rfl
@[simp] theorem State.updChute_page (s : State) (i : Nat) (f : Chute → Chute) : (s.updChute i f).page = s.page := rfl
@[simp] theorem State.updChute_sessions (s : State) (i : Nat) (f : Chute → Chute) : (s.updChute i f).sessions = s.sessions := rfl
@[simp] theorem State.updChute_orphans (s : State) (i : Nat) (f : Chute → Chute) : (s.updChute i f).orphans = s.orphans := rfl
@[simp] theorem State.updChute_par (s : State) (i : Nat) (f : Chute → Chute) : (s.updChute i f).par = s.par := rfl
@[simp] theorem State.updChute_ctl (s : State) (i : Nat) (f : Chute → Chute) : (s.updChute i f).ctl = s.ctl := rfl
@[simp] theorem State.updChute_tk (s : State) (i : Nat) (f : Chute → Chute) : (s.updChute i f).tk = s.tk := rfl
@[simp] theorem State.updChute_air (s : State) (i : Nat) (f : Chute → Chute) : (s.updChute i f).air = s.air := rfl
@[simp] theorem State.updChute_courses (s : State) (i : Nat) (f : Chute → Chute) : (s.updChute i f).courses = s.courses := rfl
@[simp] theorem State.updChute_devs (s : State) (i : Nat) (f : Chute → Chute) : (s.updChute i f).devs = s.devs := rfl
@[simp] theorem State.updChute_rotation (s : State) (i : Nat) (f : Chute → Chute) : (s.updChute i f).rotation = s.rotation := rfl
@[simp] theorem State.updChute_net (s : State) (i : Nat) (f : Chute → Chute) : (s.updChute i f).net = s.net := rfl
@[simp] theorem State.updChute_dry (s : State) (i : Nat) (f : Chute → Chute) : (s.updChute i f).dry = s.dry := rfl
@[simp] theorem State.updChute_fld (s : State) (i : Nat) (f : Chute → Chute) : (s.updChute i f).fld = s.fld := rfl
@[simp] theorem State.updChute_led (s : State) (i : Nat) (f : Chute → Chute) : (s.updChute i f).led = s.led := rfl
@[simp] theorem State.updChute_mp (s : State) (i : Nat) (f : Chute → Chute) : (s.updChute i f).mp = s.mp := rfl
@[simp] theorem State.updChute_crown (s : State) (i : Nat) (f : Chute → Chute) : (s.updChute i f).crown = s.crown := rfl
@[simp] theorem State.updChute_evr (s : State) (i : Nat) (f : Chute → Chute) : (s.updChute i f).evr = s.evr := rfl
@[simp] theorem State.updChute_raised (s : State) (i : Nat) (f : Chute → Chute) : (s.updChute i f).raised = s.raised := rfl
@[simp] theorem State.updChute_made (s : State) (i : Nat) (f : Chute → Chute) : (s.updChute i f).made = s.made := rfl
@[simp] theorem State.updChute_freeCount (s : State) (i : Nat) (f : Chute → Chute) : (s.updChute i f).freeCount = s.freeCount := rfl
@[simp] theorem State.updChute_pending (s : State) (i : Nat) (f : Chute → Chute) : (s.updChute i f).pending = s.pending := rfl

@[simp] theorem State.updSlot_clk (s : State) (i : Nat) (f : KeySlot → KeySlot) : (s.updSlot i f).clk = s.clk := rfl
@[simp] theorem State.updSlot_sync (s : State) (i : Nat) (f : KeySlot → KeySlot) : (s.updSlot i f).sync = s.sync := rfl
@[simp] theorem State.updSlot_page (s : State) (i : Nat) (f : KeySlot → KeySlot) : (s.updSlot i f).page = s.page := rfl
@[simp] theorem State.updSlot_sessions (s : State) (i : Nat) (f : KeySlot → KeySlot) : (s.updSlot i f).sessions = s.sessions := rfl
@[simp] theorem State.updSlot_orphans (s : State) (i : Nat) (f : KeySlot → KeySlot) : (s.updSlot i f).orphans = s.orphans := rfl
@[simp] theorem State.updSlot_par (s : State) (i : Nat) (f : KeySlot → KeySlot) : (s.updSlot i f).par = s.par := rfl
@[simp] theorem State.updSlot_ctl (s : State) (i : Nat) (f : KeySlot → KeySlot) : (s.updSlot i f).ctl = s.ctl := rfl
@[simp] theorem State.updSlot_tk (s : State) (i : Nat) (f : KeySlot → KeySlot) : (s.updSlot i f).tk = s.tk := rfl
@[simp] theorem State.updSlot_plumb (s : State) (i : Nat) (f : KeySlot → KeySlot) : (s.updSlot i f).plumb = s.plumb := rfl
@[simp] theorem State.updSlot_air (s : State) (i : Nat) (f : KeySlot → KeySlot) : (s.updSlot i f).air = s.air := rfl
@[simp] theorem State.updSlot_courses (s : State) (i : Nat) (f : KeySlot → KeySlot) : (s.updSlot i f).courses = s.courses := rfl
@[simp] theorem State.updSlot_devs (s : State) (i : Nat) (f : KeySlot → KeySlot) : (s.updSlot i f).devs = s.devs := rfl
@[simp] theorem State.updSlot_rotation (s : State) (i : Nat) (f : KeySlot → KeySlot) : (s.updSlot i f).rotation = s.rotation := rfl
@[simp] theorem State.updSlot_net (s : State) (i : Nat) (f : KeySlot → KeySlot) : (s.updSlot i f).net = s.net := rfl
@[simp] theorem State.updSlot_dry (s : State) (i : Nat) (f : KeySlot → KeySlot) : (s.updSlot i f).dry = s.dry := rfl
@[simp] theorem State.updSlot_fld (s : State) (i : Nat) (f : KeySlot → KeySlot) : (s.updSlot i f).fld = s.fld := rfl
@[simp] theorem State.updSlot_led (s : State) (i : Nat) (f : KeySlot → KeySlot) : (s.updSlot i f).led = s.led := rfl
@[simp] theorem State.updSlot_crown (s : State) (i : Nat) (f : KeySlot → KeySlot) : (s.updSlot i f).crown = s.crown := rfl
@[simp] theorem State.updSlot_evr (s : State) (i : Nat) (f : KeySlot → KeySlot) : (s.updSlot i f).evr = s.evr := rfl
@[simp] theorem State.updSlot_raised (s : State) (i : Nat) (f : KeySlot → KeySlot) : (s.updSlot i f).raised = s.raised := rfl
@[simp] theorem State.updSlot_made (s : State) (i : Nat) (f : KeySlot → KeySlot) : (s.updSlot i f).made = s.made := rfl
@[simp] theorem State.updSlot_freeCount (s : State) (i : Nat) (f : KeySlot → KeySlot) : (s.updSlot i f).freeCount = s.freeCount := rfl
@[simp] theorem State.updSlot_pending (s : State) (i : Nat) (f : KeySlot → KeySlot) : (s.updSlot i f).pending = s.pending := rfl
@[simp] theorem State.updSlot_mp_dram (s : State) (i : Nat) (f : KeySlot → KeySlot) : (s.updSlot i f).mp.dram = s.mp.dram := rfl
@[simp] theorem State.updSlot_mp_lines (s : State) (i : Nat) (f : KeySlot → KeySlot) : (s.updSlot i f).mp.lines = s.mp.lines := rfl
@[simp] theorem State.updSlot_mp_queue (s : State) (i : Nat) (f : KeySlot → KeySlot) : (s.updSlot i f).mp.queue = s.mp.queue := rfl
@[simp] theorem State.updSlot_mp_running (s : State) (i : Nat) (f : KeySlot → KeySlot) : (s.updSlot i f).mp.running = s.mp.running := rfl
@[simp] theorem State.updSlot_mp_heldWrites (s : State) (i : Nat) (f : KeySlot → KeySlot) : (s.updSlot i f).mp.heldWrites = s.mp.heldWrites := rfl
@[simp] theorem State.updSlot_mp_hits (s : State) (i : Nat) (f : KeySlot → KeySlot) : (s.updSlot i f).mp.hits = s.mp.hits := rfl
@[simp] theorem State.updSlot_mp_misses (s : State) (i : Nat) (f : KeySlot → KeySlot) : (s.updSlot i f).mp.misses = s.mp.misses := rfl
@[simp] theorem State.updSlot_mp_cache (s : State) (i : Nat) (f : KeySlot → KeySlot) : (s.updSlot i f).mp.cache = s.mp.cache := rfl
@[simp] theorem State.updSlot_mp_partial_ (s : State) (i : Nat) (f : KeySlot → KeySlot) : (s.updSlot i f).mp.partial_ = s.mp.partial_ := rfl
@[simp] theorem State.updSlot_mp_lidOpen (s : State) (i : Nat) (f : KeySlot → KeySlot) : (s.updSlot i f).mp.lidOpen = s.mp.lidOpen := rfl
@[simp] theorem State.updSlot_mp_lidCount (s : State) (i : Nat) (f : KeySlot → KeySlot) : (s.updSlot i f).mp.lidCount = s.mp.lidCount := rfl
@[simp] theorem State.updSlot_mp_storeA (s : State) (i : Nat) (f : KeySlot → KeySlot) : (s.updSlot i f).mp.storeA = s.mp.storeA := rfl
@[simp] theorem State.updSlot_mp_storeB (s : State) (i : Nat) (f : KeySlot → KeySlot) : (s.updSlot i f).mp.storeB = s.mp.storeB := rfl
@[simp] theorem State.updSlot_mp_storeBusy (s : State) (i : Nat) (f : KeySlot → KeySlot) : (s.updSlot i f).mp.storeBusy = s.mp.storeBusy := rfl
@[simp] theorem State.updSlot_mp_engineFailed (s : State) (i : Nat) (f : KeySlot → KeySlot) : (s.updSlot i f).mp.engineFailed = s.mp.engineFailed := rfl
@[simp] theorem State.updSlot_mp_blocked (s : State) (i : Nat) (f : KeySlot → KeySlot) : (s.updSlot i f).mp.blocked = s.mp.blocked := rfl
@[simp] theorem State.updSlot_mp_busError (s : State) (i : Nat) (f : KeySlot → KeySlot) : (s.updSlot i f).mp.busError = s.mp.busError := rfl
@[simp] theorem State.updSlot_mp_readData (s : State) (i : Nat) (f : KeySlot → KeySlot) : (s.updSlot i f).mp.readData = s.mp.readData := rfl
@[simp] theorem State.updSlot_mp_jtagLast (s : State) (i : Nat) (f : KeySlot → KeySlot) : (s.updSlot i f).mp.jtagLast = s.mp.jtagLast := rfl

@[simp] theorem State.updGroup_clk (s : State) (i : Nat) (f : Group → Group) : (s.updGroup i f).clk = s.clk := rfl
@[simp] theorem State.updGroup_sync (s : State) (i : Nat) (f : Group → Group) : (s.updGroup i f).sync = s.sync := rfl
@[simp] theorem State.updGroup_page (s : State) (i : Nat) (f : Group → Group) : (s.updGroup i f).page = s.page := rfl
@[simp] theorem State.updGroup_sessions (s : State) (i : Nat) (f : Group → Group) : (s.updGroup i f).sessions = s.sessions := rfl
@[simp] theorem State.updGroup_orphans (s : State) (i : Nat) (f : Group → Group) : (s.updGroup i f).orphans = s.orphans := rfl
@[simp] theorem State.updGroup_par (s : State) (i : Nat) (f : Group → Group) : (s.updGroup i f).par = s.par := rfl
@[simp] theorem State.updGroup_ctl (s : State) (i : Nat) (f : Group → Group) : (s.updGroup i f).ctl = s.ctl := rfl
@[simp] theorem State.updGroup_tk (s : State) (i : Nat) (f : Group → Group) : (s.updGroup i f).tk = s.tk := rfl
@[simp] theorem State.updGroup_plumb (s : State) (i : Nat) (f : Group → Group) : (s.updGroup i f).plumb = s.plumb := rfl
@[simp] theorem State.updGroup_air (s : State) (i : Nat) (f : Group → Group) : (s.updGroup i f).air = s.air := rfl
@[simp] theorem State.updGroup_courses (s : State) (i : Nat) (f : Group → Group) : (s.updGroup i f).courses = s.courses := rfl
@[simp] theorem State.updGroup_devs (s : State) (i : Nat) (f : Group → Group) : (s.updGroup i f).devs = s.devs := rfl
@[simp] theorem State.updGroup_rotation (s : State) (i : Nat) (f : Group → Group) : (s.updGroup i f).rotation = s.rotation := rfl
@[simp] theorem State.updGroup_dry (s : State) (i : Nat) (f : Group → Group) : (s.updGroup i f).dry = s.dry := rfl
@[simp] theorem State.updGroup_fld (s : State) (i : Nat) (f : Group → Group) : (s.updGroup i f).fld = s.fld := rfl
@[simp] theorem State.updGroup_led (s : State) (i : Nat) (f : Group → Group) : (s.updGroup i f).led = s.led := rfl
@[simp] theorem State.updGroup_mp (s : State) (i : Nat) (f : Group → Group) : (s.updGroup i f).mp = s.mp := rfl
@[simp] theorem State.updGroup_crown (s : State) (i : Nat) (f : Group → Group) : (s.updGroup i f).crown = s.crown := rfl
@[simp] theorem State.updGroup_evr (s : State) (i : Nat) (f : Group → Group) : (s.updGroup i f).evr = s.evr := rfl
@[simp] theorem State.updGroup_raised (s : State) (i : Nat) (f : Group → Group) : (s.updGroup i f).raised = s.raised := rfl
@[simp] theorem State.updGroup_made (s : State) (i : Nat) (f : Group → Group) : (s.updGroup i f).made = s.made := rfl
@[simp] theorem State.updGroup_freeCount (s : State) (i : Nat) (f : Group → Group) : (s.updGroup i f).freeCount = s.freeCount := rfl
@[simp] theorem State.updGroup_pending (s : State) (i : Nat) (f : Group → Group) : (s.updGroup i f).pending = s.pending := rfl
@[simp] theorem State.updGroup_net_conns (s : State) (i : Nat) (f : Group → Group) : (s.updGroup i f).net.conns = s.net.conns := rfl
@[simp] theorem State.updGroup_net_ports (s : State) (i : Nat) (f : Group → Group) : (s.updGroup i f).net.ports = s.net.ports := rfl
@[simp] theorem State.updGroup_net_supPort (s : State) (i : Nat) (f : Group → Group) : (s.updGroup i f).net.supPort = s.net.supPort := rfl
@[simp] theorem State.updGroup_net_rngOk (s : State) (i : Nat) (f : Group → Group) : (s.updGroup i f).net.rngOk = s.net.rngOk := rfl
@[simp] theorem State.updGroup_net_userWins (s : State) (i : Nat) (f : Group → Group) : (s.updGroup i f).net.userWins = s.net.userWins := rfl
@[simp] theorem State.updGroup_net_userGen (s : State) (i : Nat) (f : Group → Group) : (s.updGroup i f).net.userGen = s.net.userGen := rfl
@[simp] theorem State.updGroup_net_cfgGen (s : State) (i : Nat) (f : Group → Group) : (s.updGroup i f).net.cfgGen = s.net.cfgGen := rfl
@[simp] theorem State.updGroup_net_peerGen (s : State) (i : Nat) (f : Group → Group) : (s.updGroup i f).net.peerGen = s.net.peerGen := rfl

@[simp] theorem State.updSession_clk (s : State) (i : Nat) (f : Session → Session) : (s.updSession i f).clk = s.clk := rfl
@[simp] theorem State.updSession_sync (s : State) (i : Nat) (f : Session → Session) : (s.updSession i f).sync = s.sync := rfl
@[simp] theorem State.updSession_page (s : State) (i : Nat) (f : Session → Session) : (s.updSession i f).page = s.page := rfl
@[simp] theorem State.updSession_orphans (s : State) (i : Nat) (f : Session → Session) : (s.updSession i f).orphans = s.orphans := rfl
@[simp] theorem State.updSession_par (s : State) (i : Nat) (f : Session → Session) : (s.updSession i f).par = s.par := rfl
@[simp] theorem State.updSession_ctl (s : State) (i : Nat) (f : Session → Session) : (s.updSession i f).ctl = s.ctl := rfl
@[simp] theorem State.updSession_tk (s : State) (i : Nat) (f : Session → Session) : (s.updSession i f).tk = s.tk := rfl
@[simp] theorem State.updSession_plumb (s : State) (i : Nat) (f : Session → Session) : (s.updSession i f).plumb = s.plumb := rfl
@[simp] theorem State.updSession_air (s : State) (i : Nat) (f : Session → Session) : (s.updSession i f).air = s.air := rfl
@[simp] theorem State.updSession_courses (s : State) (i : Nat) (f : Session → Session) : (s.updSession i f).courses = s.courses := rfl
@[simp] theorem State.updSession_devs (s : State) (i : Nat) (f : Session → Session) : (s.updSession i f).devs = s.devs := rfl
@[simp] theorem State.updSession_rotation (s : State) (i : Nat) (f : Session → Session) : (s.updSession i f).rotation = s.rotation := rfl
@[simp] theorem State.updSession_net (s : State) (i : Nat) (f : Session → Session) : (s.updSession i f).net = s.net := rfl
@[simp] theorem State.updSession_dry (s : State) (i : Nat) (f : Session → Session) : (s.updSession i f).dry = s.dry := rfl
@[simp] theorem State.updSession_fld (s : State) (i : Nat) (f : Session → Session) : (s.updSession i f).fld = s.fld := rfl
@[simp] theorem State.updSession_led (s : State) (i : Nat) (f : Session → Session) : (s.updSession i f).led = s.led := rfl
@[simp] theorem State.updSession_mp (s : State) (i : Nat) (f : Session → Session) : (s.updSession i f).mp = s.mp := rfl
@[simp] theorem State.updSession_crown (s : State) (i : Nat) (f : Session → Session) : (s.updSession i f).crown = s.crown := rfl
@[simp] theorem State.updSession_evr (s : State) (i : Nat) (f : Session → Session) : (s.updSession i f).evr = s.evr := rfl
@[simp] theorem State.updSession_raised (s : State) (i : Nat) (f : Session → Session) : (s.updSession i f).raised = s.raised := rfl
@[simp] theorem State.updSession_made (s : State) (i : Nat) (f : Session → Session) : (s.updSession i f).made = s.made := rfl
@[simp] theorem State.updSession_freeCount (s : State) (i : Nat) (f : Session → Session) : (s.updSession i f).freeCount = s.freeCount := rfl
@[simp] theorem State.updSession_pending (s : State) (i : Nat) (f : Session → Session) : (s.updSession i f).pending = s.pending := rfl

@[simp] theorem State.raise_clk (s : State) (e : Event) : (s.raise e).clk = s.clk := rfl
@[simp] theorem State.raise_sync (s : State) (e : Event) : (s.raise e).sync = s.sync := rfl
@[simp] theorem State.raise_page (s : State) (e : Event) : (s.raise e).page = s.page := rfl
@[simp] theorem State.raise_sessions (s : State) (e : Event) : (s.raise e).sessions = s.sessions := rfl
@[simp] theorem State.raise_orphans (s : State) (e : Event) : (s.raise e).orphans = s.orphans := rfl
@[simp] theorem State.raise_par (s : State) (e : Event) : (s.raise e).par = s.par := rfl
@[simp] theorem State.raise_ctl (s : State) (e : Event) : (s.raise e).ctl = s.ctl := rfl
@[simp] theorem State.raise_tk (s : State) (e : Event) : (s.raise e).tk = s.tk := rfl
@[simp] theorem State.raise_plumb (s : State) (e : Event) : (s.raise e).plumb = s.plumb := rfl
@[simp] theorem State.raise_air (s : State) (e : Event) : (s.raise e).air = s.air := rfl
@[simp] theorem State.raise_courses (s : State) (e : Event) : (s.raise e).courses = s.courses := rfl
@[simp] theorem State.raise_devs (s : State) (e : Event) : (s.raise e).devs = s.devs := rfl
@[simp] theorem State.raise_rotation (s : State) (e : Event) : (s.raise e).rotation = s.rotation := rfl
@[simp] theorem State.raise_net (s : State) (e : Event) : (s.raise e).net = s.net := rfl
@[simp] theorem State.raise_dry (s : State) (e : Event) : (s.raise e).dry = s.dry := rfl
@[simp] theorem State.raise_fld (s : State) (e : Event) : (s.raise e).fld = s.fld := rfl
@[simp] theorem State.raise_led (s : State) (e : Event) : (s.raise e).led = s.led := rfl
@[simp] theorem State.raise_mp (s : State) (e : Event) : (s.raise e).mp = s.mp := rfl
@[simp] theorem State.raise_crown (s : State) (e : Event) : (s.raise e).crown = s.crown := rfl
@[simp] theorem State.raise_evr (s : State) (e : Event) : (s.raise e).evr = s.evr := rfl
@[simp] theorem State.raise_made (s : State) (e : Event) : (s.raise e).made = s.made := rfl
@[simp] theorem State.raise_freeCount (s : State) (e : Event) : (s.raise e).freeCount = s.freeCount := rfl
@[simp] theorem State.raise_pending (s : State) (e : Event) : (s.raise e).pending = s.pending := rfl

@[simp] theorem State.event_clk (s : State) (c k i p0 p1 p2 p3 : Nat) : (s.event c k i p0 p1 p2 p3).clk = s.clk := rfl
@[simp] theorem State.event_sync (s : State) (c k i p0 p1 p2 p3 : Nat) : (s.event c k i p0 p1 p2 p3).sync = s.sync := rfl
@[simp] theorem State.event_page (s : State) (c k i p0 p1 p2 p3 : Nat) : (s.event c k i p0 p1 p2 p3).page = s.page := rfl
@[simp] theorem State.event_sessions (s : State) (c k i p0 p1 p2 p3 : Nat) : (s.event c k i p0 p1 p2 p3).sessions = s.sessions := rfl
@[simp] theorem State.event_orphans (s : State) (c k i p0 p1 p2 p3 : Nat) : (s.event c k i p0 p1 p2 p3).orphans = s.orphans := rfl
@[simp] theorem State.event_par (s : State) (c k i p0 p1 p2 p3 : Nat) : (s.event c k i p0 p1 p2 p3).par = s.par := rfl
@[simp] theorem State.event_ctl (s : State) (c k i p0 p1 p2 p3 : Nat) : (s.event c k i p0 p1 p2 p3).ctl = s.ctl := rfl
@[simp] theorem State.event_tk (s : State) (c k i p0 p1 p2 p3 : Nat) : (s.event c k i p0 p1 p2 p3).tk = s.tk := rfl
@[simp] theorem State.event_plumb (s : State) (c k i p0 p1 p2 p3 : Nat) : (s.event c k i p0 p1 p2 p3).plumb = s.plumb := rfl
@[simp] theorem State.event_air (s : State) (c k i p0 p1 p2 p3 : Nat) : (s.event c k i p0 p1 p2 p3).air = s.air := rfl
@[simp] theorem State.event_courses (s : State) (c k i p0 p1 p2 p3 : Nat) : (s.event c k i p0 p1 p2 p3).courses = s.courses := rfl
@[simp] theorem State.event_devs (s : State) (c k i p0 p1 p2 p3 : Nat) : (s.event c k i p0 p1 p2 p3).devs = s.devs := rfl
@[simp] theorem State.event_rotation (s : State) (c k i p0 p1 p2 p3 : Nat) : (s.event c k i p0 p1 p2 p3).rotation = s.rotation := rfl
@[simp] theorem State.event_net (s : State) (c k i p0 p1 p2 p3 : Nat) : (s.event c k i p0 p1 p2 p3).net = s.net := rfl
@[simp] theorem State.event_dry (s : State) (c k i p0 p1 p2 p3 : Nat) : (s.event c k i p0 p1 p2 p3).dry = s.dry := rfl
@[simp] theorem State.event_fld (s : State) (c k i p0 p1 p2 p3 : Nat) : (s.event c k i p0 p1 p2 p3).fld = s.fld := rfl
@[simp] theorem State.event_led (s : State) (c k i p0 p1 p2 p3 : Nat) : (s.event c k i p0 p1 p2 p3).led = s.led := rfl
@[simp] theorem State.event_mp (s : State) (c k i p0 p1 p2 p3 : Nat) : (s.event c k i p0 p1 p2 p3).mp = s.mp := rfl
@[simp] theorem State.event_crown (s : State) (c k i p0 p1 p2 p3 : Nat) : (s.event c k i p0 p1 p2 p3).crown = s.crown := rfl
@[simp] theorem State.event_evr (s : State) (c k i p0 p1 p2 p3 : Nat) : (s.event c k i p0 p1 p2 p3).evr = s.evr := rfl
@[simp] theorem State.event_made (s : State) (c k i p0 p1 p2 p3 : Nat) : (s.event c k i p0 p1 p2 p3).made = s.made := rfl
@[simp] theorem State.event_freeCount (s : State) (c k i p0 p1 p2 p3 : Nat) : (s.event c k i p0 p1 p2 p3).freeCount = s.freeCount := rfl
@[simp] theorem State.event_pending (s : State) (c k i p0 p1 p2 p3 : Nat) : (s.event c k i p0 p1 p2 p3).pending = s.pending := rfl

@[simp] theorem State.makeRecord_clk (s : State) (n : Nat) (l : Option Line) (b : List Byte) : (s.makeRecord n l b).clk = s.clk := rfl
@[simp] theorem State.makeRecord_sync (s : State) (n : Nat) (l : Option Line) (b : List Byte) : (s.makeRecord n l b).sync = s.sync := rfl
@[simp] theorem State.makeRecord_page (s : State) (n : Nat) (l : Option Line) (b : List Byte) : (s.makeRecord n l b).page = s.page := rfl
@[simp] theorem State.makeRecord_sessions (s : State) (n : Nat) (l : Option Line) (b : List Byte) : (s.makeRecord n l b).sessions = s.sessions := rfl
@[simp] theorem State.makeRecord_orphans (s : State) (n : Nat) (l : Option Line) (b : List Byte) : (s.makeRecord n l b).orphans = s.orphans := rfl
@[simp] theorem State.makeRecord_par (s : State) (n : Nat) (l : Option Line) (b : List Byte) : (s.makeRecord n l b).par = s.par := rfl
@[simp] theorem State.makeRecord_ctl (s : State) (n : Nat) (l : Option Line) (b : List Byte) : (s.makeRecord n l b).ctl = s.ctl := rfl
@[simp] theorem State.makeRecord_tk (s : State) (n : Nat) (l : Option Line) (b : List Byte) : (s.makeRecord n l b).tk = s.tk := rfl
@[simp] theorem State.makeRecord_plumb (s : State) (n : Nat) (l : Option Line) (b : List Byte) : (s.makeRecord n l b).plumb = s.plumb := rfl
@[simp] theorem State.makeRecord_air (s : State) (n : Nat) (l : Option Line) (b : List Byte) : (s.makeRecord n l b).air = s.air := rfl
@[simp] theorem State.makeRecord_courses (s : State) (n : Nat) (l : Option Line) (b : List Byte) : (s.makeRecord n l b).courses = s.courses := rfl
@[simp] theorem State.makeRecord_devs (s : State) (n : Nat) (l : Option Line) (b : List Byte) : (s.makeRecord n l b).devs = s.devs := rfl
@[simp] theorem State.makeRecord_rotation (s : State) (n : Nat) (l : Option Line) (b : List Byte) : (s.makeRecord n l b).rotation = s.rotation := rfl
@[simp] theorem State.makeRecord_net (s : State) (n : Nat) (l : Option Line) (b : List Byte) : (s.makeRecord n l b).net = s.net := rfl
@[simp] theorem State.makeRecord_dry (s : State) (n : Nat) (l : Option Line) (b : List Byte) : (s.makeRecord n l b).dry = s.dry := rfl
@[simp] theorem State.makeRecord_fld (s : State) (n : Nat) (l : Option Line) (b : List Byte) : (s.makeRecord n l b).fld = s.fld := rfl
@[simp] theorem State.makeRecord_led (s : State) (n : Nat) (l : Option Line) (b : List Byte) : (s.makeRecord n l b).led = s.led := rfl
@[simp] theorem State.makeRecord_mp (s : State) (n : Nat) (l : Option Line) (b : List Byte) : (s.makeRecord n l b).mp = s.mp := rfl
@[simp] theorem State.makeRecord_crown (s : State) (n : Nat) (l : Option Line) (b : List Byte) : (s.makeRecord n l b).crown = s.crown := rfl
@[simp] theorem State.makeRecord_evr (s : State) (n : Nat) (l : Option Line) (b : List Byte) : (s.makeRecord n l b).evr = s.evr := rfl
@[simp] theorem State.makeRecord_raised (s : State) (n : Nat) (l : Option Line) (b : List Byte) : (s.makeRecord n l b).raised = s.raised := rfl
@[simp] theorem State.makeRecord_freeCount (s : State) (n : Nat) (l : Option Line) (b : List Byte) : (s.makeRecord n l b).freeCount = s.freeCount := rfl
@[simp] theorem State.makeRecord_pending (s : State) (n : Nat) (l : Option Line) (b : List Byte) : (s.makeRecord n l b).pending = s.pending := rfl

@[simp] theorem State.drew_clk (s : State) : s.drew.clk = s.clk := rfl
@[simp] theorem State.drew_sync (s : State) : s.drew.sync = s.sync := rfl
@[simp] theorem State.drew_page (s : State) : s.drew.page = s.page := rfl
@[simp] theorem State.drew_sessions (s : State) : s.drew.sessions = s.sessions := rfl
@[simp] theorem State.drew_orphans (s : State) : s.drew.orphans = s.orphans := rfl
@[simp] theorem State.drew_par (s : State) : s.drew.par = s.par := rfl
@[simp] theorem State.drew_ctl (s : State) : s.drew.ctl = s.ctl := rfl
@[simp] theorem State.drew_tk (s : State) : s.drew.tk = s.tk := rfl
@[simp] theorem State.drew_plumb (s : State) : s.drew.plumb = s.plumb := rfl
@[simp] theorem State.drew_air (s : State) : s.drew.air = s.air := rfl
@[simp] theorem State.drew_courses (s : State) : s.drew.courses = s.courses := rfl
@[simp] theorem State.drew_devs (s : State) : s.drew.devs = s.devs := rfl
@[simp] theorem State.drew_rotation (s : State) : s.drew.rotation = s.rotation := rfl
@[simp] theorem State.drew_net (s : State) : s.drew.net = s.net := rfl
@[simp] theorem State.drew_dry (s : State) : s.drew.dry = s.dry := rfl
@[simp] theorem State.drew_fld (s : State) : s.drew.fld = s.fld := rfl
@[simp] theorem State.drew_led (s : State) : s.drew.led = s.led := rfl
@[simp] theorem State.drew_mp (s : State) : s.drew.mp = s.mp := rfl
@[simp] theorem State.drew_crown (s : State) : s.drew.crown = s.crown := rfl
@[simp] theorem State.drew_evr (s : State) : s.drew.evr = s.evr := rfl
@[simp] theorem State.drew_raised (s : State) : s.drew.raised = s.raised := rfl
@[simp] theorem State.drew_made (s : State) : s.drew.made = s.made := rfl
@[simp] theorem State.drew_pending (s : State) : s.drew.pending = s.pending := rfl

@[simp] theorem State.say_clk (s : State) (i : Nat) (o : OutLine) : (s.say i o).clk = s.clk := rfl
@[simp] theorem State.say_sync (s : State) (i : Nat) (o : OutLine) : (s.say i o).sync = s.sync := rfl
@[simp] theorem State.say_page (s : State) (i : Nat) (o : OutLine) : (s.say i o).page = s.page := rfl
@[simp] theorem State.say_orphans (s : State) (i : Nat) (o : OutLine) : (s.say i o).orphans = s.orphans := rfl
@[simp] theorem State.say_par (s : State) (i : Nat) (o : OutLine) : (s.say i o).par = s.par := rfl
@[simp] theorem State.say_ctl (s : State) (i : Nat) (o : OutLine) : (s.say i o).ctl = s.ctl := rfl
@[simp] theorem State.say_tk (s : State) (i : Nat) (o : OutLine) : (s.say i o).tk = s.tk := rfl
@[simp] theorem State.say_plumb (s : State) (i : Nat) (o : OutLine) : (s.say i o).plumb = s.plumb := rfl
@[simp] theorem State.say_air (s : State) (i : Nat) (o : OutLine) : (s.say i o).air = s.air := rfl
@[simp] theorem State.say_courses (s : State) (i : Nat) (o : OutLine) : (s.say i o).courses = s.courses := rfl
@[simp] theorem State.say_devs (s : State) (i : Nat) (o : OutLine) : (s.say i o).devs = s.devs := rfl
@[simp] theorem State.say_rotation (s : State) (i : Nat) (o : OutLine) : (s.say i o).rotation = s.rotation := rfl
@[simp] theorem State.say_net (s : State) (i : Nat) (o : OutLine) : (s.say i o).net = s.net := rfl
@[simp] theorem State.say_dry (s : State) (i : Nat) (o : OutLine) : (s.say i o).dry = s.dry := rfl
@[simp] theorem State.say_fld (s : State) (i : Nat) (o : OutLine) : (s.say i o).fld = s.fld := rfl
@[simp] theorem State.say_led (s : State) (i : Nat) (o : OutLine) : (s.say i o).led = s.led := rfl
@[simp] theorem State.say_mp (s : State) (i : Nat) (o : OutLine) : (s.say i o).mp = s.mp := rfl
@[simp] theorem State.say_crown (s : State) (i : Nat) (o : OutLine) : (s.say i o).crown = s.crown := rfl
@[simp] theorem State.say_evr (s : State) (i : Nat) (o : OutLine) : (s.say i o).evr = s.evr := rfl
@[simp] theorem State.say_raised (s : State) (i : Nat) (o : OutLine) : (s.say i o).raised = s.raised := rfl
@[simp] theorem State.say_made (s : State) (i : Nat) (o : OutLine) : (s.say i o).made = s.made := rfl
@[simp] theorem State.say_freeCount (s : State) (i : Nat) (o : OutLine) : (s.say i o).freeCount = s.freeCount := rfl
@[simp] theorem State.say_pending (s : State) (i : Nat) (o : OutLine) : (s.say i o).pending = s.pending := rfl

@[simp] theorem State.answer_clk (s : State) (ln : Ln) (o : Out) : (s.answer ln o).clk = s.clk := rfl
@[simp] theorem State.answer_sync (s : State) (ln : Ln) (o : Out) : (s.answer ln o).sync = s.sync := rfl
@[simp] theorem State.answer_page (s : State) (ln : Ln) (o : Out) : (s.answer ln o).page = s.page := rfl
@[simp] theorem State.answer_orphans (s : State) (ln : Ln) (o : Out) : (s.answer ln o).orphans = s.orphans := rfl
@[simp] theorem State.answer_par (s : State) (ln : Ln) (o : Out) : (s.answer ln o).par = s.par := rfl
@[simp] theorem State.answer_ctl (s : State) (ln : Ln) (o : Out) : (s.answer ln o).ctl = s.ctl := rfl
@[simp] theorem State.answer_tk (s : State) (ln : Ln) (o : Out) : (s.answer ln o).tk = s.tk := rfl
@[simp] theorem State.answer_plumb (s : State) (ln : Ln) (o : Out) : (s.answer ln o).plumb = s.plumb := rfl
@[simp] theorem State.answer_air (s : State) (ln : Ln) (o : Out) : (s.answer ln o).air = s.air := rfl
@[simp] theorem State.answer_courses (s : State) (ln : Ln) (o : Out) : (s.answer ln o).courses = s.courses := rfl
@[simp] theorem State.answer_devs (s : State) (ln : Ln) (o : Out) : (s.answer ln o).devs = s.devs := rfl
@[simp] theorem State.answer_rotation (s : State) (ln : Ln) (o : Out) : (s.answer ln o).rotation = s.rotation := rfl
@[simp] theorem State.answer_net (s : State) (ln : Ln) (o : Out) : (s.answer ln o).net = s.net := rfl
@[simp] theorem State.answer_dry (s : State) (ln : Ln) (o : Out) : (s.answer ln o).dry = s.dry := rfl
@[simp] theorem State.answer_fld (s : State) (ln : Ln) (o : Out) : (s.answer ln o).fld = s.fld := rfl
@[simp] theorem State.answer_led (s : State) (ln : Ln) (o : Out) : (s.answer ln o).led = s.led := rfl
@[simp] theorem State.answer_mp (s : State) (ln : Ln) (o : Out) : (s.answer ln o).mp = s.mp := rfl
@[simp] theorem State.answer_crown (s : State) (ln : Ln) (o : Out) : (s.answer ln o).crown = s.crown := rfl
@[simp] theorem State.answer_evr (s : State) (ln : Ln) (o : Out) : (s.answer ln o).evr = s.evr := rfl
@[simp] theorem State.answer_raised (s : State) (ln : Ln) (o : Out) : (s.answer ln o).raised = s.raised := rfl
@[simp] theorem State.answer_made (s : State) (ln : Ln) (o : Out) : (s.answer ln o).made = s.made := rfl
@[simp] theorem State.answer_freeCount (s : State) (ln : Ln) (o : Out) : (s.answer ln o).freeCount = s.freeCount := rfl
@[simp] theorem State.answer_pending (s : State) (ln : Ln) (o : Out) : (s.answer ln o).pending = s.pending := rfl

@[simp] theorem State.pend_clk (s : State) (ln : Ln) (op : PendOp) (text : String) : (s.pend ln op text).clk = s.clk := rfl
@[simp] theorem State.pend_sync (s : State) (ln : Ln) (op : PendOp) (text : String) : (s.pend ln op text).sync = s.sync := rfl
@[simp] theorem State.pend_page (s : State) (ln : Ln) (op : PendOp) (text : String) : (s.pend ln op text).page = s.page := rfl
@[simp] theorem State.pend_orphans (s : State) (ln : Ln) (op : PendOp) (text : String) : (s.pend ln op text).orphans = s.orphans := rfl
@[simp] theorem State.pend_par (s : State) (ln : Ln) (op : PendOp) (text : String) : (s.pend ln op text).par = s.par := rfl
@[simp] theorem State.pend_ctl (s : State) (ln : Ln) (op : PendOp) (text : String) : (s.pend ln op text).ctl = s.ctl := rfl
@[simp] theorem State.pend_tk (s : State) (ln : Ln) (op : PendOp) (text : String) : (s.pend ln op text).tk = s.tk := rfl
@[simp] theorem State.pend_plumb (s : State) (ln : Ln) (op : PendOp) (text : String) : (s.pend ln op text).plumb = s.plumb := rfl
@[simp] theorem State.pend_air (s : State) (ln : Ln) (op : PendOp) (text : String) : (s.pend ln op text).air = s.air := rfl
@[simp] theorem State.pend_courses (s : State) (ln : Ln) (op : PendOp) (text : String) : (s.pend ln op text).courses = s.courses := rfl
@[simp] theorem State.pend_devs (s : State) (ln : Ln) (op : PendOp) (text : String) : (s.pend ln op text).devs = s.devs := rfl
@[simp] theorem State.pend_rotation (s : State) (ln : Ln) (op : PendOp) (text : String) : (s.pend ln op text).rotation = s.rotation := rfl
@[simp] theorem State.pend_net (s : State) (ln : Ln) (op : PendOp) (text : String) : (s.pend ln op text).net = s.net := rfl
@[simp] theorem State.pend_dry (s : State) (ln : Ln) (op : PendOp) (text : String) : (s.pend ln op text).dry = s.dry := rfl
@[simp] theorem State.pend_fld (s : State) (ln : Ln) (op : PendOp) (text : String) : (s.pend ln op text).fld = s.fld := rfl
@[simp] theorem State.pend_led (s : State) (ln : Ln) (op : PendOp) (text : String) : (s.pend ln op text).led = s.led := rfl
@[simp] theorem State.pend_mp (s : State) (ln : Ln) (op : PendOp) (text : String) : (s.pend ln op text).mp = s.mp := rfl
@[simp] theorem State.pend_crown (s : State) (ln : Ln) (op : PendOp) (text : String) : (s.pend ln op text).crown = s.crown := rfl
@[simp] theorem State.pend_evr (s : State) (ln : Ln) (op : PendOp) (text : String) : (s.pend ln op text).evr = s.evr := rfl
@[simp] theorem State.pend_raised (s : State) (ln : Ln) (op : PendOp) (text : String) : (s.pend ln op text).raised = s.raised := rfl
@[simp] theorem State.pend_made (s : State) (ln : Ln) (op : PendOp) (text : String) : (s.pend ln op text).made = s.made := rfl
@[simp] theorem State.pend_freeCount (s : State) (ln : Ln) (op : PendOp) (text : String) : (s.pend ln op text).freeCount = s.freeCount := rfl
@[simp] theorem State.pend_pending (s : State) (ln : Ln) (op : PendOp) (text : String) : (s.pend ln op text).pending = s.pending := rfl

@[simp] theorem State.prompt_clk (s : State) (i : Nat) : (s.prompt i).clk = s.clk := rfl
@[simp] theorem State.prompt_sync (s : State) (i : Nat) : (s.prompt i).sync = s.sync := rfl
@[simp] theorem State.prompt_page (s : State) (i : Nat) : (s.prompt i).page = s.page := rfl
@[simp] theorem State.prompt_orphans (s : State) (i : Nat) : (s.prompt i).orphans = s.orphans := rfl
@[simp] theorem State.prompt_par (s : State) (i : Nat) : (s.prompt i).par = s.par := rfl
@[simp] theorem State.prompt_ctl (s : State) (i : Nat) : (s.prompt i).ctl = s.ctl := rfl
@[simp] theorem State.prompt_tk (s : State) (i : Nat) : (s.prompt i).tk = s.tk := rfl
@[simp] theorem State.prompt_plumb (s : State) (i : Nat) : (s.prompt i).plumb = s.plumb := rfl
@[simp] theorem State.prompt_air (s : State) (i : Nat) : (s.prompt i).air = s.air := rfl
@[simp] theorem State.prompt_courses (s : State) (i : Nat) : (s.prompt i).courses = s.courses := rfl
@[simp] theorem State.prompt_devs (s : State) (i : Nat) : (s.prompt i).devs = s.devs := rfl
@[simp] theorem State.prompt_rotation (s : State) (i : Nat) : (s.prompt i).rotation = s.rotation := rfl
@[simp] theorem State.prompt_net (s : State) (i : Nat) : (s.prompt i).net = s.net := rfl
@[simp] theorem State.prompt_dry (s : State) (i : Nat) : (s.prompt i).dry = s.dry := rfl
@[simp] theorem State.prompt_fld (s : State) (i : Nat) : (s.prompt i).fld = s.fld := rfl
@[simp] theorem State.prompt_led (s : State) (i : Nat) : (s.prompt i).led = s.led := rfl
@[simp] theorem State.prompt_mp (s : State) (i : Nat) : (s.prompt i).mp = s.mp := rfl
@[simp] theorem State.prompt_crown (s : State) (i : Nat) : (s.prompt i).crown = s.crown := rfl
@[simp] theorem State.prompt_evr (s : State) (i : Nat) : (s.prompt i).evr = s.evr := rfl
@[simp] theorem State.prompt_raised (s : State) (i : Nat) : (s.prompt i).raised = s.raised := rfl
@[simp] theorem State.prompt_made (s : State) (i : Nat) : (s.prompt i).made = s.made := rfl
@[simp] theorem State.prompt_freeCount (s : State) (i : Nat) : (s.prompt i).freeCount = s.freeCount := rfl
@[simp] theorem State.prompt_pending (s : State) (i : Nat) : (s.prompt i).pending = s.pending := rfl

@[simp] theorem State.spendFresh_clk (s : State) (ln : Ln) : (s.spendFresh ln).clk = s.clk := rfl
@[simp] theorem State.spendFresh_sync (s : State) (ln : Ln) : (s.spendFresh ln).sync = s.sync := rfl
@[simp] theorem State.spendFresh_page (s : State) (ln : Ln) : (s.spendFresh ln).page = s.page := rfl
@[simp] theorem State.spendFresh_orphans (s : State) (ln : Ln) : (s.spendFresh ln).orphans = s.orphans := rfl
@[simp] theorem State.spendFresh_par (s : State) (ln : Ln) : (s.spendFresh ln).par = s.par := rfl
@[simp] theorem State.spendFresh_ctl (s : State) (ln : Ln) : (s.spendFresh ln).ctl = s.ctl := rfl
@[simp] theorem State.spendFresh_tk (s : State) (ln : Ln) : (s.spendFresh ln).tk = s.tk := rfl
@[simp] theorem State.spendFresh_plumb (s : State) (ln : Ln) : (s.spendFresh ln).plumb = s.plumb := rfl
@[simp] theorem State.spendFresh_air (s : State) (ln : Ln) : (s.spendFresh ln).air = s.air := rfl
@[simp] theorem State.spendFresh_courses (s : State) (ln : Ln) : (s.spendFresh ln).courses = s.courses := rfl
@[simp] theorem State.spendFresh_devs (s : State) (ln : Ln) : (s.spendFresh ln).devs = s.devs := rfl
@[simp] theorem State.spendFresh_rotation (s : State) (ln : Ln) : (s.spendFresh ln).rotation = s.rotation := rfl
@[simp] theorem State.spendFresh_net (s : State) (ln : Ln) : (s.spendFresh ln).net = s.net := rfl
@[simp] theorem State.spendFresh_dry (s : State) (ln : Ln) : (s.spendFresh ln).dry = s.dry := rfl
@[simp] theorem State.spendFresh_fld (s : State) (ln : Ln) : (s.spendFresh ln).fld = s.fld := rfl
@[simp] theorem State.spendFresh_led (s : State) (ln : Ln) : (s.spendFresh ln).led = s.led := rfl
@[simp] theorem State.spendFresh_mp (s : State) (ln : Ln) : (s.spendFresh ln).mp = s.mp := rfl
@[simp] theorem State.spendFresh_crown (s : State) (ln : Ln) : (s.spendFresh ln).crown = s.crown := rfl
@[simp] theorem State.spendFresh_evr (s : State) (ln : Ln) : (s.spendFresh ln).evr = s.evr := rfl
@[simp] theorem State.spendFresh_raised (s : State) (ln : Ln) : (s.spendFresh ln).raised = s.raised := rfl
@[simp] theorem State.spendFresh_made (s : State) (ln : Ln) : (s.spendFresh ln).made = s.made := rfl
@[simp] theorem State.spendFresh_freeCount (s : State) (ln : Ln) : (s.spendFresh ln).freeCount = s.freeCount := rfl
@[simp] theorem State.spendFresh_pending (s : State) (ln : Ln) : (s.spendFresh ln).pending = s.pending := rfl

end Sys2Proof.Machine
end

