-- ==== Sys2Proof/Laws/Kept.lean ====
section
/-! SUPPORT. The part of the state that nearly every operation keeps, and its lemmas over folds. -/
namespace Sys2Proof.Machine

/-- What nearly every operation leaves as it is: the queue, the tick, the FACTORY bank and the DRAM. -/
def State.kept (s : State) : List Instr × Tick × Bank × List Host.Cell := (s.pending, s.clk.tick, s.par.factory, s.mp.dram)
@[simp] theorem State.kept_fold (s : State) : (s.pending, s.clk.tick, s.par.factory, s.mp.dram) = s.kept := rfl
@[simp] theorem State.kept_mk (a b c d e f g h i j k l m n o p q r t u v w x y) :
    (State.mk a b c d e f g h i j k l m n o p q r t u v w x y).kept = (y, a.tick, f.factory, r.dram) := rfl
theorem foldl_kept {α : Type} (g : State → α → State) (h : ∀ s x, (g s x).kept = s.kept) (l : List α) (s : State) :
    (l.foldl g s).kept = s.kept := by
  induction l generalizing s with
  | nil => rfl
  | cons x xs ih => exact (ih (g s x)).trans (h s x)
@[simp] theorem elim_kept {α : Type} (v : Option α) (s : State) (f : α → State) :
    (v.elim s f).kept = v.elim s.kept fun a => (f a).kept := by cases v <;> rfl
@[simp] theorem elim_same {α β : Type} (v : Option α) (b : β) : (v.elim b fun _ => b) = b := by cases v <;> rfl
theorem foldl_kept_fst {α β : Type} (g : State × β → α → State × β) (h : ∀ a x, (g a x).1.kept = a.1.kept) (l : List α)
    (a : State × β) : (l.foldl g a).1.kept = a.1.kept := by
  induction l generalizing a with
  | nil => rfl
  | cons x xs ih => exact (ih (g a x)).trans (h a x)
end Sys2Proof.Machine
end

