-- ==== Sys2Proof/Laws/Unit.lean ====
section
/-! SUPPORT. The unit state, and its lemmas over folds: which operations leave it as it is. -/
namespace Sys2Proof.Machine

/-- The unit state (Table 4.1) of the unit's control. -/
def UnitCtl.unit (c : UnitCtl) : UnitState := c.state
/-- The unit state (Table 4.1). -/
def State.unit (s : State) : UnitState := s.ctl.unit
theorem State.unit_eq (s : State) : s.unit = s.ctl.state := rfl
@[simp] theorem State.unit_fold (s : State) : s.ctl.unit = s.unit := rfl
@[simp] theorem State.unit_mk (a b c d e f g h i j k l m n o p q r t u v w x y) :
    (State.mk a b c d e f g h i j k l m n o p q r t u v w x y).unit = g.unit := rfl
@[simp] theorem UnitCtl.unit_mk (s : State) (b c d e f g h i j k l m n o p q r s1 t u v w x y z z26 z27) :
    (UnitCtl.mk s.ctl.state b c d e f g h i j k l m n o p q r s1 t u v w x y z z26 z27).unit = s.unit := rfl
theorem foldl_unit {α : Type} (g : State → α → State) (h : ∀ s x, (g s x).unit = s.unit) (l : List α) (s : State) :
    (l.foldl g s).unit = s.unit := by
  induction l generalizing s with
  | nil => rfl
  | cons x xs ih => exact (ih (g s x)).trans (h s x)
@[simp] theorem elim_unit {α : Type} (v : Option α) (s : State) (f : α → State) :
    (v.elim s f).unit = v.elim s.unit fun a => (f a).unit := by cases v <;> rfl
theorem foldl_unit_fst {α β : Type} (g : State × β → α → State × β) (h : ∀ a x, (g a x).1.unit = a.1.unit) (l : List α)
    (a : State × β) : (l.foldl g a).1.unit = a.1.unit := by
  induction l generalizing a with
  | nil => rfl
  | cons x xs ih => exact (ih (g a x)).trans (h a x)


end Sys2Proof.Machine
end

