-- ==== Sys2Proof/Laws/UnitCore.lean ====
section
/-! SUPPORT. Where the state’s own operations, parameters, clock, recorder, plumb model and air leave the unit state as it is (`State.unit`). -/
namespace Sys2Proof.Machine

/-! ### Ops.lean -/
@[simp] theorem State.updCourse_unit (s : State) (n : Nat) (f : Course → Course) : (s.updCourse n f).unit = s.unit := by
  simp [State.updCourse]
@[simp] theorem State.updDev_unit (s : State) (n : Nat) (f : CourseDev → CourseDev) : (s.updDev n f).unit = s.unit := by
  simp [State.updDev]
@[simp] theorem State.updConn_unit (s : State) (c : Nat) (f : Conn → Conn) : (s.updConn c f).unit = s.unit := by
  simp [State.updConn]
@[simp] theorem State.updPort_unit (s : State) (p : Nat) (f : Port → Port) : (s.updPort p f).unit = s.unit := by
  simp [State.updPort]
@[simp] theorem State.updSource_unit (s : State) (n : Nat) (f : Source → Source) : (s.updSource n f).unit = s.unit := by
  simp [State.updSource]
@[simp] theorem State.updTicket_unit (s : State) (t : Nat) (f : Ticket → Ticket) : (s.updTicket t f).unit = s.unit := by
  simp [State.updTicket]
@[simp] theorem State.updFan_unit (s : State) (n : Nat) (f : Fan → Fan) : (s.updFan n f).unit = s.unit := by
  simp [State.updFan]
@[simp] theorem State.updRing_unit (s : State) (r : Nat) (f : Ring → Ring) : (s.updRing r f).unit = s.unit := by
  simp [State.updRing]
@[simp] theorem State.updLoop_unit (s : State) (n : Nat) (f : Loop → Loop) : (s.updLoop n f).unit = s.unit := by
  simp [State.updLoop]
@[simp] theorem State.updZone_unit (s : State) (z : Nat) (f : Zone → Zone) : (s.updZone z f).unit = s.unit := by
  simp [State.updZone]
@[simp] theorem State.updManifold_unit (s : State) (m : Nat) (f : Manifold → Manifold) : (s.updManifold m f).unit = s.unit := by
  simp [State.updManifold]
@[simp] theorem State.updChute_unit (s : State) (n : Nat) (f : Chute → Chute) : (s.updChute n f).unit = s.unit := by
  simp [State.updChute]
@[simp] theorem State.updSlot_unit (s : State) (i : Nat) (f : KeySlot → KeySlot) : (s.updSlot i f).unit = s.unit := by
  simp [State.updSlot]
@[simp] theorem State.updGroup_unit (s : State) (g : Nat) (f : Group → Group) : (s.updGroup g f).unit = s.unit := by
  simp [State.updGroup]
@[simp] theorem State.startBase_unit (s : State) : s.startBase.unit = s.unit := rfl
@[simp] theorem State.updLink_unit (s : State) (l : LinkId) (f : LinkCtl → LinkCtl) : (s.updLink l f).unit = s.unit := by
  unfold State.updLink
  split <;> simp
@[simp] theorem State.drew_unit (s : State) : s.drew.unit = s.unit := by simp [State.drew]
@[simp] theorem State.raise_unit (s : State) (e : Event) : (s.raise e).unit = s.unit := by simp [State.raise]
@[simp] theorem State.event_unit (s : State) (code : Nat) (kind : Nat) (index : Nat) (p0 : Nat) (p1 : Nat) (p2 : Nat) (p3 :
    Nat) : (s.event code kind index p0 p1 p2 p3).unit = s.unit := by
  simp [State.event]
@[simp] theorem State.makeRecord_unit (s : State) (typ : Nat) (line : Option Line) (body : List Byte) : (s.makeRecord typ line
    body).unit = s.unit := by
  simp [State.makeRecord]
@[simp] theorem State.updSession_unit (s : State) (i : Nat) (f : Session → Session) : (s.updSession i f).unit = s.unit := by
  simp [State.updSession]
@[simp] theorem State.say_unit (s : State) (i : Nat) (o : OutLine) : (s.say i o).unit = s.unit := by simp [State.say]
@[simp] theorem State.answer_unit (s : State) (ln : Ln) (o : Out) : (s.answer ln o).unit = s.unit := by simp [State.answer]
@[simp] theorem State.pend_unit (s : State) (ln : Ln) (op : PendOp) (text : String) : (s.pend ln op text).unit = s.unit := by
  simp [State.pend]
@[simp] theorem State.finish_unit (s : State) (p : PendOp → Bool) (o : Out) : (s.finish p o).unit = s.unit :=
  foldl_unit _ (by simp) _ _
@[simp] theorem refuse_unit (s : State) (code : Nat) (detail : String) : (refuse s code detail).1.unit = s.unit := by
  simp [refuse]
@[simp] theorem done_unit (s : State) (text : String) : (done s text).1.unit = s.unit := by simp [done]
@[simp] theorem State.startOp_unit (s : State) (ln : Ln) (op : PendOp) (text : String) (f : State → State)
    (h : ∀ s, (f s).unit = s.unit) : (s.startOp ln op text f).1.unit = s.unit := by
  unfold State.startOp
  split <;> simp [h]
@[simp] theorem State.prompt_unit (s : State) (i : Nat) : (s.prompt i).unit = s.unit := by simp [State.prompt]
@[simp] theorem State.replied_unit (s : State) (ln : Ln) (o : Out) : (s.replied ln o).unit = s.unit := by simp [State.replied]
@[simp] theorem State.lineTaken_unit (s : State) (ln : Ln) : (s.lineTaken ln).unit = s.unit := by simp [State.lineTaken]
@[simp] theorem State.lineDropped_unit (s : State) (i : Nat) : (s.lineDropped i).unit = s.unit := by simp [State.lineDropped]
@[simp] theorem State.lineAgain_unit (s : State) (i : Nat) : (s.lineAgain i).unit = s.unit := by simp [State.lineAgain]
@[simp] theorem State.lineRefused_unit (s : State) (i : Nat) (text : List Byte) (c : Nat) :
    (s.lineRefused i text c).unit = s.unit := by
  unfold State.lineRefused
  dsimp only
  split <;> simp
theorem State.verb_unit (s : State) (ln : Ln) (need : Level) (body : State → VerbRes)
    (h : ∀ s, (body s).1.unit = s.unit) : (s.verb ln need body).unit = s.unit := by
  unfold State.verb
  split
  · rfl
  · simp
  · simp
  · simp
  · split
    · rfl
    · refine (State.prompt_unit _ _).trans ?_
      have e : ∀ r : VerbRes, r.1.unit = s.unit → (match r.2 with
          | none => r.1
          | some o => r.1.answer ln o).unit = s.unit := fun r e => by split <;> simp [e]
      exact e _ (by split <;> simp [h])
@[simp] theorem State.spendFresh_unit (s : State) (ln : Ln) : (s.spendFresh ln).unit = s.unit := by simp [State.spendFresh]

/-! ### Params.lean -/
@[simp] theorem State.setRaw_unit (s : State) (id : Nat) (e : Nat) (v : Int) : (s.setRaw id e v).unit = s.unit := by
  unfold State.setRaw
  split <;> rfl
@[simp] theorem State.setText_unit (s : State) (id : Nat) (t : List Byte) : (s.setText id t).unit = s.unit := by
  simp [State.setText]
@[simp] theorem State.setRaws_unit (s : State) (l : List ParamVal) : (s.setRaws l).unit = s.unit :=
  foldl_unit _ (by simp) _ _
@[simp] theorem State.stage_unit (s : State) (id : Nat) (v : Int) (ses : Nat) : (s.stage id v ses).unit = s.unit := by
  simp [State.stage]
@[simp] theorem State.unstage_unit (s : State) (ids : List Nat) : (s.unstage ids).unit = s.unit := by simp [State.unstage]
@[simp] theorem State.commitSet_unit (s : State) (b : Bond) (l : List ParamVal) : (s.commitSet b l).unit = s.unit := by
  simp [State.commitSet]
@[simp] theorem State.dropCommitted_unit (s : State) (b : Bond) : (s.dropCommitted b).unit = s.unit := by
  simp [State.dropCommitted]
@[simp] theorem State.takeCommitted_unit (s : State) (b : Bond) : (s.takeCommitted b).unit = s.unit := by
  unfold State.takeCommitted
  split <;> simp
@[simp] theorem State.putBank_unit (s : State) (i : BankId) (b : Bank) (ok : Bool) : (s.putBank i b ok).unit = s.unit := by
  unfold State.putBank
  split
  · rfl
  · cases i <;> rfl
@[simp] theorem State.checkBanks_unit (s : State) : s.checkBanks.unit = s.unit := by simp [State.checkBanks]
@[simp] theorem State.loadRecs_unit (s : State) (c : PClass) (recs : List BankRec) : (s.loadRecs c recs).unit = s.unit := by
  simp [State.loadRecs]
@[simp] theorem State.loadKeys_unit (s : State) (recs : List BankRec) : (s.loadKeys recs).unit = s.unit := by
  unfold State.loadKeys
  refine foldl_unit _ (fun s x => ?_) _ _
  dsimp only
  (repeat' split) <;> simp
@[simp] theorem State.noteAbsent_unit (s : State) (recs : List BankRec) : (s.noteAbsent recs).unit = s.unit :=
  foldl_unit _ (by simp [apply_ite State.unit]) _ _

/-! ### SealCore.lean -/
@[simp] theorem State.putMeta_unit (s : State) (slot : Nat) (line : Nat) (ctr : BitVec 28) (poison : Bool) : (s.putMeta slot
    line ctr poison).unit = s.unit := by
  simp [State.putMeta]
@[simp] theorem State.unqueueRekey_unit (s : State) (slot : Nat) :
    (s.unqueueRekey slot).unit = s.unit := by
  unfold State.unqueueRekey
  (try dsimp only)
  (repeat' split) <;> simp
@[simp] theorem State.cancelRekey_unit (s : State) (slot : Nat) :
    (s.cancelRekey slot).unit = s.unit := by
  unfold State.cancelRekey
  (try dsimp only)
  (repeat' split) <;> simp
@[simp] theorem State.queueRekey_unit (s : State) (r : RekeyReq) : (s.queueRekey r).unit = s.unit := by
  unfold State.queueRekey
  split <;> simp
@[simp] theorem State.counterRekey_unit (s : State) (slot : Nat) (line : Nat) : (s.counterRekey slot line).unit = s.unit := by
  unfold State.counterRekey
  split <;> simp
@[simp] theorem State.advance_unit (s : State) (slot : Nat) (line : Nat) (poison : Bool) : (s.advance slot line poison).unit =
    s.unit := by
  simp [State.advance, apply_ite State.unit]
@[simp] theorem State.noteHeld_unit (s : State) (slot : Nat) (line : Nat) : (s.noteHeld slot line).unit = s.unit := by
  simp [State.noteHeld, apply_ite State.unit]

/-! ### WakeCore.lean -/
@[simp] theorem State.openSession_unit (s : State) (i : Nat) (conn : Option Nat) : (s.openSession i conn).unit = s.unit := by
  simp [State.openSession]
@[simp] theorem State.send_unit (s : State) (l : LinkId) (k : DownKind) : (s.send l k).unit = s.unit := by
  unfold State.send
  split <;> simp
@[simp] theorem State.sends_unit (s : State) (l : LinkId) (ks : List DownKind) : (s.sends l ks).unit = s.unit :=
  foldl_unit _ (by simp) _ _
@[simp] theorem State.crownOn_unit (s : State) (gen : U32) (h : Tick) (handover : Bool) (l : LinkId) : (s.crownOn gen h
    handover l).unit = s.unit := by
  simp [State.crownOn]
@[simp] theorem State.offerCrown_unit (s : State) : s.offerCrown.unit = s.unit :=
  foldl_unit _ (by simp) _ _
@[simp] theorem State.holdCrown_unit (s : State) (g : U32) : (s.holdCrown g).unit = s.unit := by simp [State.holdCrown]
@[simp] theorem State.crownAtWaking_unit (s : State) : s.crownAtWaking.unit = s.unit := by
  unfold State.crownAtWaking
  split <;> simp
@[simp] theorem State.wakingEnds_unit (s : State) (u : UnitState) : (s.wakingEnds u).unit = s.unit := by
  simp [State.wakingEnds, apply_ite State.unit]

/-! ### Clock.lean -/
@[simp] theorem State.updatePage_unit (s : State) : s.updatePage.unit = s.unit := by
  unfold State.updatePage
  split <;> simp
@[simp] theorem State.leaveWaking_unit (s : State) (u : UnitState) : (s.leaveWaking u).unit = s.unit := by
  unfold State.leaveWaking
  split <;> simp
/-- A change of unit state (R135). -/
@[simp] theorem State.enter_unit (s : State) (u : UnitState) : (s.enter u).unit = u := by
  unfold State.enter
  simp
  rfl
@[simp] theorem State.lotRecord_unit (s : State) (kind : Nat) (line : Line) (lot : U32) (name : List Byte) : (s.lotRecord kind
    line lot name).unit = s.unit := by
  unfold State.lotRecord
  split <;> simp
@[simp] theorem State.lotEffect_unit (s : State) : s.lotEffect.unit = s.unit := by
  unfold State.lotEffect
  split <;> simp
@[simp] theorem State.startLineSync_unit (s : State) : s.startLineSync.unit = s.unit := by simp [State.startLineSync]
@[simp] theorem State.syncEffect_unit (s : State) : s.syncEffect.unit = s.unit := by simp [State.syncEffect]
@[simp] theorem State.stopLineSync_unit (s : State) : s.stopLineSync.unit = s.unit := by
  unfold State.stopLineSync
  dsimp only
  (repeat' split) <;> simp_all
@[simp] theorem State.outsFall_unit (s : State) :
    s.outsFall.unit = s.unit := by
  unfold State.outsFall
  (try dsimp only)
  (repeat' split) <;> simp
@[simp] theorem State.issueEdge_unit (s : State) : s.issueEdge.unit = s.unit := by
  simp [State.issueEdge, apply_ite State.unit]
@[simp] theorem lineSyncEdge_unit (s : State) : (lineSyncEdge s).unit = s.unit := by
  simp [lineSyncEdge, apply_ite State.unit]
@[simp] theorem timePageUpdate_unit (s : State) : (timePageUpdate s).unit = s.unit := by
  unfold timePageUpdate
  split <;> simp
@[simp] theorem lotChangeEffect_unit (s : State) : (lotChangeEffect s).unit = s.unit := by
  unfold lotChangeEffect
  split <;> simp

/-! ### Recorder.lean -/
@[simp] theorem State.ringAdd_unit (s : State) (r : EventRec) : (s.ringAdd r).unit = s.unit := by simp [State.ringAdd]
@[simp] theorem State.flush_unit (s : State) : s.flush.unit = s.unit := by
  unfold State.flush
  split <;> simp
@[simp] theorem State.record_unit (s : State) (e : Event) : (s.record e).unit = s.unit := by
  simp [State.record, apply_ite State.unit]
@[simp] theorem State.countFrozen_unit (s : State) (e : Event) : (s.countFrozen e).unit = s.unit := by
  simp [State.countFrozen]
@[simp] theorem State.takeEvent_unit (s : State) (e : Event) : (s.takeEvent e).unit = s.unit := by
  simp [State.takeEvent, apply_ite State.unit]
@[simp] theorem eventRecord_unit (s : State) : (eventRecord s).unit = s.unit := by
  unfold eventRecord
  (repeat' split) <;> simp
@[simp] theorem State.fixNumbering_unit (s : State) (next : U32) : (s.fixNumbering next).unit = s.unit :=
  foldl_unit _ (by simp) _ _
@[simp] theorem State.restoreStore_unit (s : State) (headerBad : Bool) (bad : List U32) : (s.restoreStore headerBad bad).unit
    = s.unit := by
  unfold State.restoreStore
  dsimp only
  (repeat' split) <;> simp_all
@[simp] theorem evFlush_unit (s : State) : (evFlush s).unit = s.unit := by
  unfold evFlush
  split <;> simp
@[simp] theorem State.thaw_unit (s : State) : s.thaw.unit = s.unit := by
  simp [State.thaw, apply_ite State.unit]
@[simp] theorem evFreeze_unit (ln : Ln) (s : State) : (evFreeze ln s).unit = s.unit := by
  unfold evFreeze
  exact State.verb_unit _ _ _ _ fun s => by (repeat' split) <;> simp
@[simp] theorem evThaw_unit (ln : Ln) (s : State) : (evThaw ln s).unit = s.unit := by
  unfold evThaw
  exact State.verb_unit _ _ _ _ fun s => by (repeat' split) <;> simp
@[simp] theorem evAutoThaw_unit (s : State) : (evAutoThaw s).unit = s.unit := by
  unfold evAutoThaw
  (repeat' split) <;> simp
@[simp] theorem evRead_unit (ln : Ln) (start : Option Nat) (count : Option Nat) (min : Option Severity) (s : State) : (evRead
    ln start count min s).unit = s.unit := by
  unfold evRead
  exact State.verb_unit _ _ _ _ fun s => by simp [apply_ite State.unit, apply_ite Prod.fst]
@[simp] theorem State.clearRecs_unit (s : State) (ln : Ln) (range : Option (U32 × U32)) : (s.clearRecs ln range).1.unit =
    s.unit := by
  simp [State.clearRecs]
@[simp] theorem evClear_unit (ln : Ln) (range : Option (Nat × Nat)) (s : State) : (evClear ln range s).unit = s.unit := by
  unfold evClear
  exact State.verb_unit _ _ _ _ fun s => by
    dsimp only
    (repeat' split) <;> simp_all
@[simp] theorem unsolicitedLineSend_unit (ses : Nat) (s : State) : (unsolicitedLineSend ses s).unit = s.unit := by
  unfold unsolicitedLineSend
  (repeat' split) <;> simp
@[simp] theorem suppressionLine_unit (ses : Nat) (s : State) : (suppressionLine ses s).unit = s.unit := by
  simp [suppressionLine]

/-! ### Plumb.lean -/
@[simp] theorem State.noteSaturated_unit (s : State) (n : Nat) (col : Nat) (l : List Int) : (s.noteSaturated n col l).unit =
    s.unit :=
  foldl_unit _ (by simp [apply_ite State.unit]) _ _
@[simp] theorem State.buildTable_unit (s : State) (n : Nat) : (s.buildTable n).unit = s.unit := by simp [State.buildTable]
@[simp] theorem State.buildTables_unit (s : State) : s.buildTables.unit = s.unit :=
  foldl_unit _ (by simp) _ _
@[simp] theorem State.resetCorr_unit (s : State) (n : Nat) : (s.resetCorr n).unit = s.unit := by
  simp [State.resetCorr, foldl_unit]
@[simp] theorem State.countPlumb_unit (s : State) (n : Nat) (k : TicketSlot) (band : Nat) : (s.countPlumb n k band).unit =
    s.unit := by
  simp [State.countPlumb]
@[simp] theorem moistureUpdate_unit (s : State) : (moistureUpdate s).unit = s.unit := by
  simp [moistureUpdate, apply_ite State.unit]
@[simp] theorem outletAvgMissing_unit (s : State) : (outletAvgMissing s).unit = s.unit := by
  unfold outletAvgMissing
  split <;> simp

/-! ### Air.lean -/
@[simp] theorem State.fixRho_unit (s : State) (m : Nat) : (s.fixRho m).unit = s.unit := by simp [State.fixRho]
@[simp] theorem State.airAtWaking_unit (s : State) : s.airAtWaking.unit = s.unit :=
  foldl_unit _ (by simp) _ _
@[simp] theorem State.cutLevel_unit (s : State) (m : Nat) : (s.cutLevel m).unit = s.unit := by simp [State.cutLevel]
@[simp] theorem State.releaseHold_unit (s : State) (m : Nat) : (s.releaseHold m).unit = s.unit := by
  unfold State.releaseHold
  split <;> simp
@[simp] theorem State.airFixed_unit (s : State) (m : Nat) : (s.airFixed m).unit = s.unit := by
  unfold State.airFixed
  split <;> simp
@[simp] theorem State.addHard_unit (s : State) (m : Nat) (d : Nat) : (s.addHard m d).unit = s.unit := by simp [State.addHard]
@[simp] theorem State.subHard_unit (s : State) (m : Nat) (d : Nat) : (s.subHard m d).unit = s.unit := by simp [State.subHard]
@[simp] theorem State.addSoft_unit (s : State) (m : Nat) (d : Nat) : (s.addSoft m d).unit = s.unit := by simp [State.addSoft]
@[simp] theorem State.subSoft_unit (s : State) (m : Nat) (d : Nat) : (s.subSoft m d).unit = s.unit := by simp [State.subSoft]
@[simp] theorem State.preempt_unit (s : State) (m : Nat) (l : List Ticket) (x : Int) : (s.preempt m l x).unit = s.unit := by
  induction l generalizing s x with
  | nil => simp [State.preempt]
  | cons r rest ih => unfold State.preempt; split <;> simp [ih]
theorem State.claimHard_unit {s t : State} {m d : Nat} {x : Tick} (h : s.claimHard m d x = some t) : t.unit = s.unit := by
  unfold State.claimHard at h
  dsimp only at h
  split at h
  · cases h
  · cases h; simp [State.addHard]
theorem State.commitAir_unit {s t : State} {m d : Nat} (h : s.commitAir m d = some t) : t.unit = s.unit := by
  unfold State.commitAir at h
  dsimp only at h
  split at h
  · cases h
  · cases h; simp
@[simp] theorem airPressureSample_unit (m : Nat) (s : State) : (airPressureSample m s).unit = s.unit := by
  simp [airPressureSample, apply_ite State.unit]
@[simp] theorem airQuietWindow_unit (m : Nat) (s : State) : (airQuietWindow m s).unit = s.unit := by
  simp [airQuietWindow, apply_ite State.unit]
@[simp] theorem airHoldRelease_unit (m : Nat) (s : State) : (airHoldRelease m s).unit = s.unit := by
  unfold airHoldRelease
  (repeat' split) <;> simp

end Sys2Proof.Machine
end

