-- ==== Sys2Proof/Laws/UnitTickets.lean ====
section
/-! SUPPORT. Where sessions, links and tickets leave the unit state as it is (`State.unit`). -/
namespace Sys2Proof.Machine

/-! ### Fjart.lean -/
@[simp] theorem State.endSession_unit (s : State) (i : Nat) : (s.endSession i).unit = s.unit := by
  unfold State.endSession
  split <;> simp
@[simp] theorem State.receiveLine_unit (s : State) (i : Nat) (text : List Byte) (bad : Bool) : (s.receiveLine i text bad).unit
    = s.unit := by
  unfold State.receiveLine
  (repeat' split) <;> simp
@[simp] theorem State.receiveText_unit (s : State) (i : Nat) (payload : List Byte) : (s.receiveText i payload).unit = s.unit
    := by
  simp [State.receiveText, foldl_unit, apply_ite State.unit]
@[simp] theorem State.consoleEnd_unit (s : State) (b : Byte) : (s.consoleEnd b).unit = s.unit := by
  unfold State.consoleEnd
  (repeat' split) <;> simp
@[simp] theorem consoleChar_unit (b : Byte) (err : Bool) (s : State) : (consoleChar b err s).unit = s.unit := by
  unfold consoleChar
  (repeat' split) <;> simp
@[simp] theorem consoleBreak_unit (s : State) : (consoleBreak s).unit = s.unit := by simp [consoleBreak]
@[simp] theorem fjartLineRefused_unit (ses : Nat) (text : List Byte) (s : State) : (fjartLineRefused ses text s).unit = s.unit
    := by
  unfold fjartLineRefused
  (repeat' split) <;> simp
@[simp] theorem tagRepeat_unit (ses : Nat) (text : List Byte) (s : State) : (tagRepeat ses text s).unit = s.unit := by
  unfold tagRepeat
  (repeat' split) <;> simp
@[simp] theorem modeSet_unit (ln : Ln) (m : SesMode) (s : State) : (modeSet ln m s).unit = s.unit := by
  unfold modeSet
  exact State.verb_unit _ _ _ _ fun s => by (repeat' split) <;> simp
@[simp] theorem modeEvents_unit (ln : Ln) (l : EvLevel) (s : State) : (modeEvents ln l s).unit = s.unit := by
  unfold modeEvents
  exact State.verb_unit _ _ _ _ fun s => by (repeat' split) <;> simp
@[simp] theorem State.grant_unit (s : State) (ses : Nat) (lv : Level) (who : List Byte) : (s.grant ses lv who).unit = s.unit
    := by
  simp [State.grant]
@[simp] theorem State.challenge_unit (s : State) (ses : Nat) (lv : Level) (who : List Byte) : (s.challenge ses lv who).1.unit
    = s.unit := by
  simp [State.challenge]
@[simp] theorem login_unit (ln : Ln) (lv : Level) (who : List Byte) (s : State) : (login ln lv who s).unit = s.unit := by
  unfold login
  exact State.verb_unit _ _ _ _ fun s => by
    dsimp only
    (repeat' split) <;> simp_all
@[simp] theorem State.failLogin_unit (s : State) (ses : Nat) (c : Challenge) : (s.failLogin ses c).unit = s.unit := by
  simp [State.failLogin, apply_ite State.unit]
@[simp] theorem loginAnswer_unit (ln : Ln) (resp : U32) (s : State) : (loginAnswer ln resp s).unit = s.unit := by
  unfold loginAnswer
  exact State.verb_unit _ _ _ _ fun s => by (repeat' split) <;> simp [apply_ite State.unit, apply_ite Prod.fst]
@[simp] theorem logout_unit (ln : Ln) (s : State) : (logout ln s).unit = s.unit := by
  unfold logout
  exact State.verb_unit _ _ _ _ fun s => by simp
@[simp] theorem consoleIdleLogout_unit (s : State) : (consoleIdleLogout s).unit = s.unit := by simp [consoleIdleLogout]
@[simp] theorem loginLockoutEnd_unit (ses : Nat) (s : State) : (loginLockoutEnd ses s).unit = s.unit := by
  simp [loginLockoutEnd]

/-! ### Links.lean -/
@[simp] theorem State.startEchoes_unit (s : State) (l : LinkId) :
    (s.startEchoes l).unit = s.unit := by
  simp [State.startEchoes]
@[simp] theorem State.directionUp_unit (s : State) (l : LinkId) :
    (s.directionUp l).unit = s.unit := by
  unfold State.directionUp
  split <;> simp
@[simp] theorem State.heard_unit (s : State) (l : LinkId) : (s.heard l).unit = s.unit := by
  simp [State.heard, apply_ite State.unit]
@[simp] theorem courseAck_unit (l : LinkId) (seq : BitVec 16) (s : State) : (courseAck l seq s).unit = s.unit := by
  unfold courseAck
  split <;> simp
@[simp] theorem commitResend_unit (n : Nat) (s : State) : (commitResend n s).unit = s.unit := by
  unfold commitResend
  split <;> simp
@[simp] theorem courseDownlinkResend_unit (l : LinkId) (s : State) : (courseDownlinkResend l s).unit = s.unit := by
  simp [courseDownlinkResend, apply_ite State.unit]
@[simp] theorem State.train_unit (s : State) (l : LinkId) : (s.train l).unit = s.unit := by
  simp [State.train, apply_ite State.unit]
@[simp] theorem State.echoAgain_unit (s : State) (l : LinkId) :
    (s.echoAgain l).unit = s.unit := by
  simp [State.echoAgain, apply_ite State.unit]
@[simp] theorem State.echoesAgain_unit (s : State) :
    s.echoesAgain.unit = s.unit := by
  simp [State.echoesAgain, foldl_unit]
@[simp] theorem linkTrain_unit (l : LinkId) (s : State) : (linkTrain l s).unit = s.unit := by
  unfold linkTrain
  split <;> simp
@[simp] theorem courseEchoReply_unit (l : LinkId) (num : Nat) (clocks : Nat) (s : State) : (courseEchoReply l num clocks
    s).unit = s.unit := by
  simp [courseEchoReply, apply_ite State.unit]
@[simp] theorem State.beginLoad_unit (s : State) : s.beginLoad.unit = s.unit := by simp [State.beginLoad]
@[simp] theorem State.linkReturned_unit (s : State) (l : LinkId) : (s.linkReturned l).unit = s.unit := by
  simp [State.linkReturned, apply_ite State.unit]
@[simp] theorem courseSyncSend_unit (l : LinkId) (s : State) : (courseSyncSend l s).unit = s.unit := by
  simp [courseSyncSend, apply_ite State.unit]

/-! ### Timeline.lean -/
@[simp] theorem State.recostOne_unit (s : State) (tid : Nat) : (s.recostOne tid).unit = s.unit := by
  unfold State.recostOne
  (repeat' split) <;> simp
@[simp] theorem State.recost_unit (s : State) (n : Nat) : (s.recost n).unit = s.unit :=
  foldl_unit _ (by simp) _ _
@[simp] theorem State.replan_unit (s : State) (n : Nat) : (s.replan n).unit = s.unit := by simp [State.replan]
@[simp] theorem State.rebuild_unit (s : State) (n : Nat) : (s.rebuild n).unit = s.unit := by simp [State.rebuild]
@[simp] theorem State.updPlan_unit (s : State) (n : Nat) (p : Plan) (f : Plan → Plan) : (s.updPlan n p f).unit = s.unit := by
  simp [State.updPlan]
@[simp] theorem State.sendPlan_unit (s : State) (n : Nat) (p : Plan) : (s.sendPlan n p).unit = s.unit := by
  unfold State.sendPlan
  split <;> simp
@[simp] theorem planSend_unit (n : Nat) (s : State) : (planSend n s).unit = s.unit := by
  simp [planSend, foldl_unit, apply_ite State.unit]

/-! ### Tickets.lean -/
@[simp] theorem State.putEntry_unit (s : State) (src : Nat) (bytes : List Byte) : (s.putEntry src bytes).unit = s.unit := by
  simp [State.putEntry]
@[simp] theorem State.refuseSlot_unit (s : State) (src : Nat) (k : TicketSlot) (idx : Nat) (stamp : Tick) (reason : Nat) :
    (s.refuseSlot src k idx stamp reason).unit = s.unit := by
  simp [State.refuseSlot]
@[simp] theorem State.returnEntry_unit (s : State) (src : Nat) : (s.returnEntry src).unit = s.unit := by
  simp [State.returnEntry]
@[simp] theorem State.kernelRecord_unit (s : State) (t : Ticket) (o : Outcome) : (s.kernelRecord t o).unit = s.unit := by
  unfold State.kernelRecord
  split <;> simp
@[simp] theorem State.countOutcome_unit (s : State) (t : Ticket) (o : Outcome) : (s.countOutcome t o).unit = s.unit := by
  unfold State.countOutcome
  split <;> simp
@[simp] theorem State.freeAir_unit (s : State) (t : Ticket) : (s.freeAir t).unit = s.unit := by
  simp [State.freeAir, apply_ite State.unit]
@[simp] theorem State.countPulse_unit (s : State) (t : Ticket) (o : Outcome) : (s.countPulse t o).unit = s.unit := by
  unfold State.countPulse
  split <;> simp
@[simp] theorem State.settleLate_unit (s : State) (t : Ticket) (o : Outcome) :
    (s.settleLate t o).unit = s.unit := by
  unfold State.settleLate
  split
  · rfl
  · exact foldl_unit _ (fun s c => by split <;> simp) _ _
@[simp] theorem State.endTicket_unit (s : State) (tid : Nat) (o : Outcome) (extra : BitVec 16) : (s.endTicket tid o
    extra).unit = s.unit := by
  unfold State.endTicket
  (repeat' split) <;> simp [apply_ite State.unit]
@[simp] theorem State.denySpec_unit (s : State) (tid : Nat) : (s.denySpec tid).unit = s.unit := by simp [State.denySpec]
@[simp] theorem State.endUncommittedOne_unit (s : State) (t : Ticket) : (s.endUncommittedOne t).unit = s.unit := by
  simp [State.endUncommittedOne]
@[simp] theorem State.endUncommitted_unit (s : State) (n : Nat) : (s.endUncommitted n).unit = s.unit := by
  simp [State.endUncommitted, foldl_unit]
@[simp] theorem State.endAllUncommitted_unit (s : State) : s.endAllUncommitted.unit = s.unit :=
  foldl_unit _ (by simp) _ _
@[simp] theorem State.standAt_unit (s : State) (tid : Nat) (x : Int) : (s.standAt tid x).unit = s.unit := by
  simp [State.standAt]
@[simp] theorem State.denyLate_unit (s : State) (t : Ticket) (since : Tick) (extra : BitVec 16) : (s.denyLate t since
    extra).unit = s.unit := by
  unfold State.denyLate
  split <;> simp
@[simp] theorem State.placeAgain_unit (s : State) (old : Ticket) : (s.placeAgain old).unit = s.unit := by
  unfold State.placeAgain
  dsimp only
  (repeat' split) <;> simp_all
@[simp] theorem State.displace_unit (s : State) (n : Nat) : (s.displace n).unit = s.unit := by
  simp [State.displace, foldl_unit]
@[simp] theorem State.confirmOrder_unit (s : State) (tid : Nat) : (s.confirmOrder tid).unit = s.unit := by
  simp [State.confirmOrder]
theorem State.placeAir_unit {s u : State} {t : Ticket} {x : Int} {d : Nat} (h : s.placeAir t x d = some u) : u.unit = s.unit := by
  unfold State.placeAir at h
  dsimp only at h
  split at h
  · obtain ⟨v, hv, rfl⟩ := Option.map_eq_some_iff.1 h
    simp [State.claimHard_unit hv]
  · split at h
    · cases h; simp
    · cases h
@[simp] theorem State.placeTicket_unit (s : State) (tid : Nat) : (s.placeTicket tid).unit = s.unit := by
  unfold State.placeTicket
  split
  · rfl
  · dsimp only
    split
    · simp
    · split
      · split <;> simp
      · next h => split <;> simp [State.placeAir_unit h]
@[simp] theorem State.learnClear_unit (s : State) (src : Nat) (k : TicketSlot) :
    (s.learnClear src k).unit = s.unit := by
  simp [State.learnClear]
@[simp] theorem State.learnIssue_unit (s : State) (k : TicketSlot) (bin : Nat) : (s.learnIssue k bin).unit =
    s.unit := by
  simp [State.learnIssue]
@[simp] theorem State.assignLearn_unit (s : State) (src : Nat) (k : TicketSlot) : (s.assignLearn src k).1.unit = s.unit := by
  unfold State.assignLearn
  (repeat' split) <;> simp
@[simp] theorem State.keep_unit (s : State) (t : Ticket) : (s.keep t).unit = s.unit := by simp [State.keep]
@[simp] theorem State.openRequest_unit (src : Nat) (k : TicketSlot) (idx : Nat) (gap : Bool) (s : State) : (State.openRequest
    src k idx gap s).unit = s.unit := by
  unfold State.openRequest
  dsimp only
  (repeat' split) <;> simp_all
@[simp] theorem State.confirmTicket_unit (s : State) (t : Ticket) : (s.confirmTicket t).unit = s.unit := by
  unfold State.confirmTicket
  dsimp only
  split
  · simp
  · split
    · next h => simp [State.claimHard_unit h]
    · simp
@[simp] theorem State.applyConf_unit (src : Nat) (k : TicketSlot) (idx : Nat) (x3 : Bool) (s : State) : (State.applyConf src k
    idx x3 s).unit = s.unit := by
  unfold State.applyConf
  (repeat' split) <;> simp
@[simp] theorem State.applyCancel_unit (src : Nat) (k : TicketSlot) (idx : Nat) (x3 : Bool) (s : State) : (State.applyCancel
    src k idx x3 s).unit = s.unit := by
  unfold State.applyCancel
  (repeat' split) <;> simp
@[simp] theorem State.stall_unit (s : State) (src : Nat) : (s.stall src).unit = s.unit := by
  unfold State.stall
  split <;> simp
@[simp] theorem State.noteSeq_unit (s : State) (src : Nat) (seq : U32) (gap : U32) (old : Bool) : (s.noteSeq src seq gap
    old).unit = s.unit := by
  simp [State.noteSeq, apply_ite State.unit]
@[simp] theorem State.take_unit (s : State) (src : Nat) (kind : TicketKind) (act : TicketSlot → Nat → Bool → State → State)
    (h : ∀ k i g s, (act k i g s).unit = s.unit) : (s.take src kind act).unit = s.unit := by
  unfold State.take
  dsimp only
  (repeat' split) <;> simp [h]
@[simp] theorem ticketProv_unit (src : Nat) (s : State) : (ticketProv src s).unit = s.unit := by simp [ticketProv]
@[simp] theorem ticketFirm_unit (src : Nat) (s : State) : (ticketFirm src s).unit = s.unit := by simp [ticketFirm]
@[simp] theorem ticketConf_unit (src : Nat) (s : State) : (ticketConf src s).unit = s.unit := by simp [ticketConf]
@[simp] theorem ticketCancel_unit (src : Nat) (s : State) : (ticketCancel src s).unit = s.unit := by simp [ticketCancel]
@[simp] theorem ticketProdWrite_unit (src : Nat) (prod : U32) (s : State) : (ticketProdWrite src prod s).unit = s.unit := by
  simp [ticketProdWrite, apply_ite State.unit]
@[simp] theorem completionCconsWrite_unit (src : Nat) (ccons : U32) (s : State) : (completionCconsWrite src ccons s).unit =
    s.unit := by
  simp [completionCconsWrite, apply_ite State.unit]
@[simp] theorem ticketForget_unit (s : State) : (ticketForget s).unit = s.unit := by simp [ticketForget]
@[simp] theorem State.commitStart_unit (s : State) (t : Ticket) (x : Commits) (ch : Nat) : (s.commitStart t x ch).1.unit =
    s.unit := by
  unfold State.commitStart
  split <;> simp
@[simp] theorem State.commitRide_unit (s : State) (t : Ticket) (x : Commits) (ch : Nat) : (s.commitRide t x ch).1.unit =
    s.unit := by
  unfold State.commitRide
  dsimp only
  (repeat' split) <;> simp_all
@[simp] theorem State.commitTicket_unit (s : State) (t : Ticket) (x : Commits) : (s.commitTicket t x).1.unit = s.unit := by
  unfold State.commitTicket
  dsimp only
  simp_all [foldl_unit_fst, apply_ite State.unit, apply_ite Prod.fst]
@[simp] theorem State.commitOne_unit (a : State × Commits) (tid : Nat) : (State.commitOne a tid).1.unit = a.1.unit := by
  unfold State.commitOne
  split
  · rfl
  · split
    · rfl
    · dsimp only
      split
      · simp
      · split
        · next h => simp [State.commitAir_unit h, State.commitTicket_unit]
        · simp
@[simp] theorem State.commitDue_unit (s : State) (n : Nat) (t : Tick) : (s.commitDue n t).unit = s.unit := by
  unfold State.commitDue
  dsimp only
  split <;> simp [foldl_unit, foldl_unit_fst]
@[simp] theorem commitTick_unit (n : Nat) (s : State) : (commitTick n s).unit = s.unit := by
  unfold commitTick
  split <;> simp
@[simp] theorem State.endFire_unit (s : State) (tid : Nat) : (s.endFire tid).unit = s.unit := by
  unfold State.endFire
  split <;> simp
@[simp] theorem State.endChannel_unit (s : State) (ch : Nat) (primed : Bool) (tid : Nat) : (s.endChannel ch primed tid).unit =
    s.unit := by
  simp [State.endChannel, apply_ite State.unit]
@[simp] theorem State.openSource_unit (s : State) (src : Nat) (c : Nat) : (s.openSource src c).unit = s.unit := by
  simp [State.openSource]
@[simp] theorem State.closeSource_unit (s : State) (src : Nat) : (s.closeSource src).unit = s.unit := by
  simp [State.closeSource]
@[simp] theorem State.readTally_unit (s : State) (src : Nat) (seen : List Nat) : (s.readTally src seen).1.unit = s.unit := by
  unfold State.readTally
  dsimp only
  (repeat' split) <;> simp_all
@[simp] theorem State.tallySweep_unit (s : State) : s.tallySweep.unit = s.unit := by
  unfold State.tallySweep
  simp only [State.unit_mk, State.unit_fold]
  exact foldl_unit_fst _ (by simp) _ _
@[simp] theorem State.tallyRecords_unit (s : State) : s.tallyRecords.unit = s.unit :=
  foldl_unit _ (by simp) _ _
@[simp] theorem tallyRead_unit (s : State) : (tallyRead s).unit = s.unit := by
  unfold tallyRead
  split <;> simp
@[simp] theorem recipeReport_unit (src : Nat) (s : State) : (recipeReport src s).unit = s.unit := by
  simp [recipeReport, apply_ite State.unit]

end Sys2Proof.Machine
end

