-- ==== Sys2Proof/Laws/UnitDryer.lean ====
section
/-! SUPPORT. Where loops, the field bank, fans and probe rings leave the unit state as it is (`State.unit`). -/
namespace Sys2Proof.Machine

/-! ### Loops.lean -/
@[simp] theorem State.setInhibit_unit (s : State) (z : Nat) (bit : Nat) (on : Bool) : (s.setInhibit z bit on).unit = s.unit := by
  simp [State.setInhibit]
@[simp] theorem State.setInhibits_unit (s : State) (bit : Nat) (on : Bool) : (s.setInhibits bit on).unit = s.unit :=
  foldl_unit _ (by simp) _ _
@[simp] theorem State.lowAnew_unit (s : State) (n : Nat) :
    (s.lowAnew n).unit = s.unit := by
  unfold State.lowAnew
  (try dsimp only)
  (repeat' split) <;> simp
@[simp] theorem State.enterLoop_unit (s : State) (n : Nat) (m : LoopActive) : (s.enterLoop n m).unit = s.unit := by
  simp [State.enterLoop]
@[simp] theorem State.loopOffNow_unit (s : State) (n : Nat) : (s.loopOffNow n).unit = s.unit := by simp [State.loopOffNow]
@[simp] theorem State.retargetLoop_unit (s : State) (n : Nat) : (s.retargetLoop n).unit = s.unit := by
  simp [State.retargetLoop, apply_ite State.unit]
@[simp] theorem State.enableLoop_unit (s : State) (n : Nat) (auto : Bool) (v : Option Int) : (s.enableLoop n auto v).unit =
    s.unit := by
  simp [State.enableLoop]
@[simp] theorem State.loopStopped_unit (s : State) (n : Nat) : (s.loopStopped n).unit = s.unit := by
  unfold State.loopStopped
  dsimp only
  (repeat' split) <;> simp_all
@[simp] theorem State.retargetLoops_unit (s : State) : s.retargetLoops.unit = s.unit :=
  foldl_unit _ (by simp [apply_ite State.unit]) _ _
@[simp] theorem State.noteHeat_unit (s : State) (z : Nat) : (s.noteHeat z).unit = s.unit := by
  simp [State.noteHeat, apply_ite State.unit]
@[simp] theorem State.noteHeats_unit (s : State) : s.noteHeats.unit = s.unit :=
  foldl_unit _ (by simp) _ _
@[simp] theorem State.judgeHigh_unit (s : State) (n : Nat) (x : Int) : (s.judgeHigh n x).unit = s.unit := by
  simp [State.judgeHigh, apply_ite State.unit]
@[simp] theorem State.judgeLow_unit (s : State) (n : Nat) (x : Int) (auto : Bool) : (s.judgeLow n x auto).unit = s.unit := by
  simp [State.judgeLow, apply_ite State.unit]
@[simp] theorem State.takeLimits_unit (s : State) (n : Nat) : (s.takeLimits n).unit = s.unit := by
  simp [State.takeLimits, apply_ite State.unit]
@[simp] theorem State.zoneComplete_unit (s : State) (z : Nat) : (s.zoneComplete z).unit = s.unit :=
  foldl_unit _ (by simp) _ _
@[simp] theorem zonePurgeEnd_unit (z : Nat) (s : State) : (zonePurgeEnd z s).unit = s.unit := by
  unfold zonePurgeEnd
  split <;> simp
@[simp] theorem State.batchEnter_unit (s : State) (x : BatchStep) : (s.batchEnter x).unit = s.unit := by
  simp [State.batchEnter]
@[simp] theorem State.batchHold_unit (s : State) : s.batchHold.unit = s.unit := by
  unfold State.batchHold
  split <;> simp
@[simp] theorem State.batchDrained_unit (s : State) : s.batchDrained.unit = s.unit := by
  simp [State.batchDrained, foldl_unit, apply_ite State.unit]
@[simp] theorem State.batchIdle_unit (s : State) : s.batchIdle.unit = s.unit := by simp [State.batchIdle]
@[simp] theorem State.batchNext_unit (s : State) : s.batchNext.unit = s.unit := by
  unfold State.batchNext
  split <;> simp
@[simp] theorem State.batchSample_unit (s : State) : s.batchSample.unit = s.unit := by
  unfold State.batchSample
  dsimp only
  (repeat' split) <;> simp_all
@[simp] theorem batchStepLimit_unit (s : State) : (batchStepLimit s).unit = s.unit := by
  simp [batchStepLimit, apply_ite State.unit]
@[simp] theorem State.batchAverage_unit (s : State) : s.batchAverage.unit = s.unit := by simp [State.batchAverage]
@[simp] theorem State.zonesDrain_unit (s : State) : s.zonesDrain.unit = s.unit := by
  simp [State.zonesDrain, apply_ite State.unit]
@[simp] theorem State.zonesRest_unit (s : State) : s.zonesRest.unit = s.unit := by simp [State.zonesRest]
@[simp] theorem State.zoneLimit_unit (s : State) (z : Nat) :
    (s.zoneLimit z).unit = s.unit := by
  unfold State.zoneLimit
  (try dsimp only)
  (repeat' split) <;> simp
@[simp] theorem State.zonesLimit_unit (s : State) : s.zonesLimit.1.unit = s.unit :=
  foldl_unit _ (by simp) _ _
@[simp] theorem State.unlimit_unit (s : State) :
    s.unlimit.unit = s.unit := by
  unfold State.unlimit
  (try dsimp only)
  (repeat' split) <;> simp
@[simp] theorem State.freezeLoop_unit (s : State) (n : Nat) : (s.freezeLoop n).unit = s.unit := by
  simp [State.freezeLoop, apply_ite State.unit]
@[simp] theorem State.loopRegion_unit (s : State) (n : Nat) : (s.loopRegion n).1.unit = s.unit := by
  simp [State.loopRegion, apply_ite State.unit]
@[simp] theorem State.sampleLoop_unit (s : State) (n : Nat) (y : Int) (clip : Bool) (est : Bool) : (s.sampleLoop n y clip
    est).unit = s.unit := by
  simp [State.sampleLoop, apply_ite State.unit]
@[simp] theorem State.rampLoop_unit (s : State) (n : Nat) : (s.rampLoop n).unit = s.unit := by simp [State.rampLoop]
@[simp] theorem State.plenumRules_unit (s : State) (n : Nat) : (s.plenumRules n).unit = s.unit := by
  unfold State.plenumRules
  (repeat' split) <;> simp
@[simp] theorem loopInputBadTime_unit (n : Nat) (s : State) : (loopInputBadTime n s).unit = s.unit := by
  unfold loopInputBadTime
  split <;> simp
@[simp] theorem loopSample_unit (n : Nat) (s : State) : (loopSample n s).unit = s.unit := by
  unfold loopSample
  dsimp only
  (repeat' split) <;> simp_all
@[simp] theorem crackUpdate_unit (s : State) : (crackUpdate s).unit = s.unit := by
  unfold crackUpdate
  split <;> simp
@[simp] theorem loopMode_unit (ln : Ln) (n : Nat) (auto : Bool) (value : Option Lit) (s : State) : (loopMode ln n auto value
    s).unit = s.unit := by
  unfold loopMode
  exact State.verb_unit _ _ _ _ fun s => by (repeat' split) <;> simp
@[simp] theorem State.stopLoop_unit (s : State) (n : Nat) : (s.stopLoop n).unit = s.unit := by simp [State.stopLoop]
@[simp] theorem loopOff_unit (ln : Ln) (n : Nat) (s : State) : (loopOff ln n s).unit = s.unit := by
  unfold loopOff
  exact State.verb_unit _ _ _ _ fun s => by (repeat' split) <;> simp [apply_ite State.unit, apply_ite Prod.fst]
@[simp] theorem loopOffRampDone_unit (n : Nat) (s : State) : (loopOffRampDone n s).unit = s.unit := by
  unfold loopOffRampDone
  split <;> simp
@[simp] theorem loopFlags_unit (ln : Ln) (n : Nat) (s : State) : (loopFlags ln n s).unit = s.unit := by
  unfold loopFlags
  exact State.verb_unit _ _ _ _ fun s => by (repeat' split) <;> simp
@[simp] theorem batchDone_unit (s : State) : (batchDone s).1.unit = s.unit := by simp [batchDone]
@[simp] theorem State.batchVerb_unit (s : State) (ln : Ln) (ok : State → Bool) (f : State → State)
    (h : ∀ s, (f s).unit = s.unit) : (s.batchVerb ln ok f).unit = s.unit := by
  unfold State.batchVerb
  exact State.verb_unit _ _ _ _ fun s => by split <;> simp [batchDone, h]
@[simp] theorem loopBatchStart_unit (ln : Ln) (s : State) : (loopBatchStart ln s).unit = s.unit := by simp [loopBatchStart]
@[simp] theorem loopBatchNext_unit (ln : Ln) (s : State) : (loopBatchNext ln s).unit = s.unit :=
  State.batchVerb_unit _ _ _ _ fun _ => rfl
@[simp] theorem loopBatchHold_unit (ln : Ln) (s : State) : (loopBatchHold ln s).unit = s.unit := by simp [loopBatchHold]
@[simp] theorem State.batchResume_unit (s : State) : s.batchResume.unit = s.unit := by simp [State.batchResume]
@[simp] theorem loopBatchResume_unit (ln : Ln) (s : State) : (loopBatchResume ln s).unit = s.unit := by
  simp [loopBatchResume]
@[simp] theorem loopBatchAbort_unit (ln : Ln) (s : State) : (loopBatchAbort ln s).unit = s.unit := by simp [loopBatchAbort]

/-! ### Field.lean -/
@[simp] theorem State.settleOutputs_unit (s : State) : s.settleOutputs.unit = s.unit := by simp [State.settleOutputs]
@[simp] theorem State.forceHeat_unit (s : State) (z : Nat) : (s.forceHeat z).unit = s.unit := by
  unfold State.forceHeat
  split <;> simp
@[simp] theorem State.judgeFanZone_unit (s : State) (z : Nat) : (s.judgeFanZone z).unit = s.unit := by
  simp [State.judgeFanZone, apply_ite State.unit]
@[simp] theorem State.judgeFans_unit (s : State) : s.judgeFans.unit = s.unit :=
  foldl_unit _ (by simp) _ _
@[simp] theorem State.fanAttempt_unit (s : State) (n : Nat) : (s.fanAttempt n).unit = s.unit := by simp [State.fanAttempt]
@[simp] theorem State.fanBegin_unit (s : State) (n : Nat) : (s.fanBegin n).unit = s.unit := by simp [State.fanBegin]
@[simp] theorem State.fanOpen_unit (s : State) (n : Nat) (st : FanState) : (s.fanOpen n st).unit = s.unit := by
  simp [State.fanOpen]
@[simp] theorem State.fanLeave_unit (s : State) (n : Nat) (st : FanState) : (s.fanLeave n st).unit = s.unit := by
  simp [State.fanLeave]
@[simp] theorem State.cancelFanStart_unit (s : State) (n : Nat) : (s.cancelFanStart n).unit = s.unit := by
  simp [State.cancelFanStart]
@[simp] theorem State.fanStopped_unit (s : State) (n : Nat) : (s.fanStopped n).unit = s.unit := by
  simp [State.fanStopped, apply_ite State.unit]
@[simp] theorem State.fanStopSeq_unit (s : State) (n : Nat) : (s.fanStopSeq n).unit = s.unit := by
  simp [State.fanStopSeq, apply_ite State.unit]
@[simp] theorem State.stopFans_unit (s : State) : s.stopFans.unit = s.unit :=
  foldl_unit _ (by simp) _ _
@[simp] theorem State.demandSent_unit (s : State) :
    s.demandSent.unit = s.unit := by
  simp [State.demandSent]
@[simp] theorem State.coastFan_unit (s : State) (n : Nat) : (s.coastFan n).unit = s.unit := by
  unfold State.coastFan
  dsimp only
  (repeat' split) <;> simp_all
@[simp] theorem State.outputsOff_unit (s : State) : s.outputsOff.unit = s.unit := by
  simp [State.outputsOff, foldl_unit]
@[simp] theorem State.fanFail_unit (s : State) (n : Nat) : (s.fanFail n).unit = s.unit := by
  simp [State.fanFail, apply_ite State.unit]
@[simp] theorem State.fanRunning_unit (s : State) (n : Nat) : (s.fanRunning n).unit = s.unit := by simp [State.fanRunning]
@[simp] theorem tachEdge_unit (n : Nat) (at_ : Tick) (s : State) : (tachEdge n at_ s).unit = s.unit := by
  simp [tachEdge, apply_ite State.unit]
@[simp] theorem State.fanQuiet_unit (s : State) (n : Nat) : (s.fanQuiet n).unit = s.unit := by simp [State.fanQuiet]
@[simp] theorem State.runStall_unit (s : State) (n : Nat) :
    (s.runStall n).unit = s.unit := by
  unfold State.runStall
  (try dsimp only)
  (repeat' split) <;> simp
@[simp] theorem State.driveFault_unit (s : State) (n : Nat) : (s.driveFault n).unit = s.unit := by simp [State.driveFault]
@[simp] theorem State.tachLost_unit (s : State) (n : Nat) (sum : Nat) (k : Nat) : (s.tachLost n sum k).unit = s.unit := by
  simp [State.tachLost]
@[simp] theorem State.classifyRunning_unit (s : State) (n : Nat) : (s.classifyRunning n).unit = s.unit := by
  simp [State.classifyRunning, apply_ite State.unit]
@[simp] theorem State.classifyLost_unit (s : State) (n : Nat) : (s.classifyLost n).unit = s.unit := by
  simp [State.classifyLost, apply_ite State.unit]
@[simp] theorem State.classify_unit (s : State) (n : Nat) : (s.classify n).unit = s.unit := by
  unfold State.classify
  dsimp only
  (repeat' split) <;> simp_all
@[simp] theorem State.openDue_unit (s : State) (n : Nat) : (s.openDue n).unit = s.unit := by
  unfold State.openDue
  (repeat' split) <;> simp
@[simp] theorem State.takeAi_unit (s : State) (i : Nat) (x : Int) : (s.takeAi i x).unit = s.unit := by
  simp [State.takeAi, apply_ite State.unit]
@[simp] theorem State.takeFan_unit (s : State) (i : Nat) (inp : FieldIn) : (s.takeFan i inp).unit = s.unit := by
  simp [State.takeFan]
@[simp] theorem State.takeReadbacks_unit (s : State) (inp : FieldIn) : (s.takeReadbacks inp).unit = s.unit := by
  simp [State.takeReadbacks]
@[simp] theorem State.bankHeard_unit (s : State) : s.bankHeard.unit = s.unit := by simp [State.bankHeard]
@[simp] theorem State.takeDi_unit (s : State) : s.takeDi.unit = s.unit := by
  simp [State.takeDi]
@[simp] theorem fieldCycle_unit (inp : FieldIn) (s : State) : (fieldCycle inp s).unit = s.unit := by
  simp [fieldCycle, foldl_unit, apply_ite State.unit]
@[simp] theorem diSample_unit (levels : BitVec 24) (s : State) : (diSample levels s).unit = s.unit := by
  unfold diSample
  split <;> simp
@[simp] theorem readbackMismatch_unit (dig : Bool) (ch : Nat) (s : State) : (readbackMismatch dig ch s).unit = s.unit := by
  simp [readbackMismatch, apply_ite State.unit]
@[simp] theorem doCurrentLimit_unit (ch : Nat) (s : State) : (doCurrentLimit ch s).unit = s.unit := by simp [doCurrentLimit]
@[simp] theorem fieldPhantomLimit_unit (s : State) : (fieldPhantomLimit s).unit = s.unit := by
  unfold fieldPhantomLimit
  split <;> simp
@[simp] theorem fieldPhantomRetry_unit (s : State) : (fieldPhantomRetry s).unit = s.unit := by
  unfold fieldPhantomRetry
  split <;> simp
@[simp] theorem fanStartWindowEnd_unit (n : Nat) (s : State) : (fanStartWindowEnd n s).unit = s.unit := by
  simp [fanStartWindowEnd, apply_ite State.unit]
@[simp] theorem fanRetryWaitEnd_unit (n : Nat) (s : State) : (fanRetryWaitEnd n s).unit = s.unit := by
  simp [fanRetryWaitEnd, apply_ite State.unit]
@[simp] theorem fanCoastTimeout_unit (n : Nat) (s : State) : (fanCoastTimeout n s).unit = s.unit := by
  simp [fanCoastTimeout, apply_ite State.unit]
@[simp] theorem fanStart_unit (ln : Ln) (n : Nat) (speed : Option Lit) (s : State) : (fanStart ln n speed s).unit = s.unit := by
  unfold fanStart
  refine State.verb_unit _ _ _ _ fun s => ?_
  split
  · simp
  · dsimp only
    (repeat' split) <;> simp
@[simp] theorem fanStop_unit (ln : Ln) (n : Nat) (s : State) : (fanStop ln n s).unit = s.unit := by
  unfold fanStop
  exact State.verb_unit _ _ _ _ fun s => by (repeat' split) <;> simp [apply_ite State.unit, apply_ite Prod.fst]
@[simp] theorem fanReset_unit (ln : Ln) (n : Nat) (s : State) : (fanReset ln n s).unit = s.unit := by
  unfold fanReset
  exact State.verb_unit _ _ _ _ fun s => by (repeat' split) <;> simp [apply_ite State.unit, apply_ite Prod.fst]

/-! ### Probes.lean -/
@[simp] theorem State.updNode_unit (s : State) (r : Nat) (pos : Nat) (f : NodeDev → NodeDev) : (s.updNode r pos f).unit =
    s.unit := by
  simp [State.updNode]
@[simp] theorem probeNodeRead_unit (r : Nat) (pos : Nat) (fromRet : Bool) (f : List Byte) (s : State) : (probeNodeRead r pos
    fromRet f s).unit = s.unit := by
  simp [probeNodeRead]
@[simp] theorem State.ringClosed_unit (s : State) (r : Nat) : (s.ringClosed r).unit = s.unit := by
  unfold State.ringClosed
  split <;> simp
@[simp] theorem probeNodeMeasure_unit (r : Nat) (pos : Nat) (fromRet : Bool) (f : List Byte) (s : State) : (probeNodeMeasure r
    pos fromRet f s).unit = s.unit := by
  simp [probeNodeMeasure, apply_ite State.unit]
@[simp] theorem probeNodeReplyForward_unit (r : Nat) (pos : Nat) (toRet : Bool) (f : List Byte) (s : State) :
    (probeNodeReplyForward r pos toRet f s).unit = s.unit := by
  simp [probeNodeReplyForward]
@[simp] theorem probeConversionDone_unit (r : Nat) (pos : Nat) (c : Conversion) (s : State) : (probeConversionDone r pos c
    s).unit = s.unit := by
  simp [probeConversionDone]
@[simp] theorem State.nodeMoist_unit (s : State) (r : Nat) (i : Nat) (raw : Nat) : (s.nodeMoist r i raw).1.unit = s.unit := by
  simp [State.nodeMoist, apply_ite State.unit, apply_ite Prod.fst]
@[simp] theorem State.takeReply_unit (s : State) (r : Nat) (i : Nat) (fromRet : Bool) (f : List Byte) : (s.takeReply r i
    fromRet f).unit = s.unit := by
  simp [State.takeReply, apply_ite State.unit]
@[simp] theorem State.setAvg_unit (s : State) (i : Nat) (ok : Bool) : (s.setAvg i ok).unit = s.unit := by
  simp [State.setAvg, apply_ite State.unit]
@[simp] theorem State.loseAvgs_unit (s : State) : s.loseAvgs.unit = s.unit := by simp [State.loseAvgs]
@[simp] theorem State.formAvgs_unit (s : State) : s.formAvgs.unit = s.unit := by
  unfold State.formAvgs
  dsimp only
  (repeat' split) <;> simp_all
@[simp] theorem State.updSweep_unit (s : State) (r : Nat) (f : Sweep → Sweep) : (s.updSweep r f).unit = s.unit := by
  simp [State.updSweep]
@[simp] theorem State.sendMeasure_unit (s : State) (r : Nat) (fromRet : Bool) : (s.sendMeasure r fromRet).unit = s.unit := by
  simp [State.sendMeasure]
@[simp] theorem State.sendRead_unit (s : State) (r : Nat) (attempt : Nat) : (s.sendRead r attempt).unit = s.unit := by
  unfold State.sendRead
  split <;> simp
@[simp] theorem State.markLost_unit (s : State) (r : Nat) (i : Nat) : (s.markLost r i).unit = s.unit := by
  unfold State.markLost
  split <;> simp
@[simp] theorem State.finishSweep_unit (s : State) (r : Nat) : (s.finishSweep r).unit = s.unit := by
  unfold State.finishSweep
  (repeat' split) <;> simp_all [foldl_unit, apply_ite State.unit]
@[simp] theorem State.nextRead_unit (s : State) (r : Nat) : (s.nextRead r).unit = s.unit := by
  unfold State.nextRead
  (repeat' split) <;> simp
@[simp] theorem probeSweepStart_unit (r : Nat) (s : State) : (probeSweepStart r s).unit = s.unit := by
  simp [probeSweepStart, apply_ite State.unit]
@[simp] theorem probeMeasureWaitEnd_unit (r : Nat) (s : State) : (probeMeasureWaitEnd r s).unit = s.unit := by
  unfold probeMeasureWaitEnd
  (repeat' split) <;> simp
@[simp] theorem State.abortSweep_unit (s : State) (r : Nat) : (s.abortSweep r).unit = s.unit := by
  unfold State.abortSweep
  split <;> simp
@[simp] theorem probeSlotEnd_unit (r : Nat) (s : State) : (probeSlotEnd r s).unit = s.unit := by
  unfold probeSlotEnd
  (repeat' split) <;> simp
@[simp] theorem probeReply_unit (r : Nat) (f : List Byte) (s : State) : (probeReply r f s).unit = s.unit := by
  unfold probeReply
  (repeat' split) <;> simp [apply_ite State.unit]
@[simp] theorem State.stopSweep_unit (s : State) (r : Nat) : (s.stopSweep r).unit = s.unit := by
  simp [State.stopSweep, apply_ite State.unit]
@[simp] theorem probeRunStop_unit (ln : Ln) (r : Nat) (s : State) : (probeRunStop ln r s).unit = s.unit := by
  unfold probeRunStop
  exact State.verb_unit _ _ _ _ fun s => by (repeat' split) <;> simp
@[simp] theorem State.fieldLost_unit (s : State) : s.fieldLost.unit = s.unit := by
  simp [State.fieldLost, foldl_unit, apply_ite State.unit]

end Sys2Proof.Machine
end

