-- ==== Sys2Proof/Laws/UnitCourses.lean ====
section
/-! SUPPORT. Where the unit states, the courses and the faults leave the unit state as it is (`State.unit`). -/
namespace Sys2Proof.Machine

/-! ### CourseOps.lean -/
@[simp] theorem State.grantLearn_unit (s : State) (src : Nat) (on : Bool) : (s.grantLearn src on).unit = s.unit := by
  unfold State.grantLearn
  split <;> simp
@[simp] theorem State.learnClose_unit (s : State) (n : Nat) : (s.learnClose n).unit = s.unit := by
  unfold State.learnClose
  dsimp only
  split <;> simp
@[simp] theorem State.learnDrop_unit (s : State) (n : Nat) (detail : String) (why : Nat) : (s.learnDrop n detail why).unit =
    s.unit := by
  unfold State.learnDrop
  split <;> simp
@[simp] theorem State.learnSourceLost_unit (s : State) (src : Nat) : (s.learnSourceLost src).unit = s.unit :=
  foldl_unit _ (by simp [apply_ite State.unit]) _ _
@[simp] theorem State.learnDropAll_unit (s : State) (detail : String) : (s.learnDropAll detail).unit = s.unit :=
  foldl_unit _ (by simp) _ _
@[simp] theorem State.learnApply_unit (s : State) (n : Nat) : (s.learnApply n).unit = s.unit := by
  unfold State.learnApply
  (repeat' split) <;> simp_all [foldl_unit, apply_ite State.unit]
@[simp] theorem State.beginEnable_unit (s : State) (n : Nat) : (s.beginEnable n).unit = s.unit := by
  simp [State.beginEnable, apply_ite State.unit]
@[simp] theorem State.sendSettings_unit (s : State) (n : Nat) : (s.sendSettings n).unit = s.unit := by
  simp [State.sendSettings]
@[simp] theorem State.sendEnable_unit (s : State) (n : Nat) : (s.sendEnable n).unit = s.unit := by simp [State.sendEnable]
@[simp] theorem State.judgeDischarge_unit (s : State) (n : Nat) : (s.judgeDischarge n).unit = s.unit := by
  unfold State.judgeDischarge
  split <;> simp
@[simp] theorem State.courseLeaves_unit (s : State) (n : Nat) : (s.courseLeaves n).unit = s.unit := by
  simp [State.courseLeaves]
@[simp] theorem State.startDrain_unit (s : State) (n : Nat) (verb : Bool) : (s.startDrain n verb).unit = s.unit := by
  unfold State.startDrain
  (repeat' split) <;> simp
@[simp] theorem State.cancelCourseEnable_unit (s : State) (n : Nat) : (s.cancelCourseEnable n).unit = s.unit := by
  unfold State.cancelCourseEnable
  split <;> simp
@[simp] theorem State.courseOff_unit (s : State) (n : Nat) : (s.courseOff n).unit = s.unit := by
  simp [State.courseOff, apply_ite State.unit]
@[simp] theorem State.courseOn_unit (s : State) (n : Nat) : (s.courseOn n).unit = s.unit := by simp [State.courseOn]
@[simp] theorem State.enableFails_unit (s : State) (n : Nat) (code : Nat) (detail : String) : (s.enableFails n code
    detail).unit = s.unit := by
  unfold State.enableFails
  split <;> simp
@[simp] theorem State.endBlind_unit (s : State) (n : Nat) : (s.endBlind n).unit = s.unit :=
  foldl_unit _ (by simp) _ _
@[simp] theorem State.courseLost_unit (s : State) (n : Nat) : (s.courseLost n).unit = s.unit := by
  simp [State.courseLost, apply_ite State.unit]
@[simp] theorem State.placePulse_unit (s : State) (n : Nat) : (s.placePulse n).unit = s.unit := by
  unfold State.placePulse
  (repeat' split) <;> simp [apply_ite State.unit]
@[simp] theorem State.pulses_unit (s : State) : s.pulses.unit = s.unit :=
  foldl_unit _ (by simp [apply_ite State.unit]) _ _

/-! ### LedgerOps.lean -/
@[simp] theorem State.cancelLoad_unit (s : State) : s.cancelLoad.unit = s.unit := by
  unfold State.cancelLoad
  split <;> simp

/-! ### Units.lean -/
@[simp] theorem State.cancelRun_unit (s : State) : s.cancelRun.unit = s.unit := by
  unfold State.cancelRun
  split <;> simp
@[simp] theorem State.cancelReset_unit (s : State) (p : Nat) : (s.cancelReset p).unit = s.unit := by
  unfold State.cancelReset
  split <;> simp
@[simp] theorem State.cancelQueued_unit (s : State) : s.cancelQueued.unit = s.unit := by
  refine (foldl_unit _ (by simp) _ _).trans ((State.cancelLoad_unit _).trans ?_)
  refine (foldl_unit _ (by simp) _ _).trans ((foldl_unit _ (fun s n => by split <;> simp) _ _).trans ?_)
  exact foldl_unit _ (by simp) _ _
@[simp] theorem State.dropYield_unit (s : State) (detail : String) :
    (s.dropYield detail).unit = s.unit := by
  unfold State.dropYield
  (try dsimp only)
  (repeat' split) <;> simp
@[simp] theorem State.dropStateVerbs_unit (s : State) (o : Out) : (s.dropStateVerbs o).unit = s.unit := by
  simp [State.dropStateVerbs]
@[simp] theorem State.endSorting_unit (s : State) (detail : String) : (s.endSorting detail).unit = s.unit := by
  simp [State.endSorting, foldl_unit]
@[simp] theorem State.holdCause_unit (s : State) (bit : Nat) : (s.holdCause bit).unit = s.unit := by simp [State.holdCause]
@[simp] theorem State.setCause_unit (s : State) (bit : Nat) : (s.setCause bit).unit = s.unit := by simp [State.setCause]
@[simp] theorem State.goFault_unit (s : State) (b : Nat) : (s.goFault b).unit = .fault := by
  simp [State.goFault]
/-- HELD is entered, or FAULT when a cause that is held is active there (R518). -/
theorem State.enterHeld_unit (s : State) : s.enterHeld.unit = .held ∨ s.enterHeld.unit = .fault := by
  unfold State.enterHeld
  dsimp only
  split <;> simp
@[simp] theorem State.beginShutdown_unit (s : State) (failWith : Option (Nat × String)) : (s.beginShutdown failWith).unit =
    s.unit := by
  simp [State.beginShutdown]
@[simp] theorem State.failBringup_unit (s : State) (code : Nat) (detail : String) : (s.failBringup code detail).unit = s.unit
    := by
  unfold State.failBringup
  split <;> simp
@[simp] theorem State.beginBringup_unit (s : State) (auto : Bool) : (s.beginBringup auto).unit = s.unit := by
  simp [State.beginBringup]
@[simp] theorem State.enterRun_unit (s : State) : s.enterRun.unit = .run := by simp [State.enterRun]
@[simp] theorem State.enterDrain_unit (s : State) : s.enterDrain.unit = .drain := by simp [State.enterDrain]
@[simp] theorem State.queueVerb_unit (s : State) (v : StateVerb) : (s.queueVerb v).unit = s.unit := by simp [State.queueVerb]
@[simp] theorem bringupStepTimeout_unit (s : State) : (bringupStepTimeout s).unit = s.unit := by
  unfold bringupStepTimeout
  (repeat' split) <;> simp

/-! ### Courses.lean -/
@[simp] theorem State.failEnable_unit (s : State) (n : Nat) (code : Nat) (detail : String) : (s.failEnable n code detail).unit
    = s.unit := by
  simp [State.failEnable]
@[simp] theorem courseEnable_unit (ln : Ln) (n : Nat) (s : State) : (courseEnable ln n s).unit = s.unit := by
  unfold courseEnable
  exact State.verb_unit _ _ _ _ fun s => by (repeat' split) <;> simp
@[simp] theorem courseEnableComplete_unit (n : Nat) (s : State) : (courseEnableComplete n s).unit = s.unit := by
  simp [courseEnableComplete, apply_ite State.unit]
@[simp] theorem courseDisable_unit (ln : Ln) (n : Nat) (s : State) : (courseDisable ln n s).unit = s.unit := by
  unfold courseDisable
  exact State.verb_unit _ _ _ _ fun s => by (repeat' split) <;> simp
@[simp] theorem State.abortDrain_unit (s : State) (n : Nat) : (s.abortDrain n).unit = s.unit := by simp [State.abortDrain]
@[simp] theorem courseDisableAbort_unit (ln : Ln) (n : Nat) (s : State) : (courseDisableAbort ln n s).unit = s.unit := by
  unfold courseDisableAbort
  exact State.verb_unit _ _ _ _ fun s => by (repeat' split) <;> simp [apply_ite State.unit, apply_ite Prod.fst]
@[simp] theorem courseDrainComplete_unit (n : Nat) (s : State) : (courseDrainComplete n s).unit = s.unit := by
  simp [courseDrainComplete, apply_ite State.unit]
@[simp] theorem courseTest_unit (ln : Ln) (n : Nat) (ch : Nat) (dur : Option Lit) (count : Option Nat) (period : Option Lit)
    (s : State) : (courseTest ln n ch dur count period s).unit = s.unit := by
  unfold courseTest
  exact State.verb_unit _ _ _ _ fun s => by (repeat' split) <;> simp [apply_ite State.unit, apply_ite Prod.fst]
@[simp] theorem courseTestComplete_unit (n : Nat) (s : State) : (courseTestComplete n s).unit = s.unit := by
  unfold courseTestComplete
  (repeat' split) <;> simp
@[simp] theorem State.notePhases_unit (s : State) (n : Nat) (old : List Nat) (new : List Nat) (working : Nat) : (s.notePhases
    n old new working).unit = s.unit :=
  foldl_unit _ (by simp [apply_ite State.unit]) _ _
@[simp] theorem State.noteDuty_unit (s : State) (n : Nat) : (s.noteDuty n).unit = s.unit := by
  unfold State.noteDuty
  (repeat' split) <;> simp [apply_ite State.unit]
@[simp] theorem State.courseFell_unit (s : State) (n : Nat) (old : Status) (new : Status) : (s.courseFell n old new).unit =
    s.unit := by
  unfold State.courseFell
  (repeat' split) <;> simp
@[simp] theorem State.takeStatus_unit (s : State) (n : Nat) (gen : U32) (f : StatusFrame) : (s.takeStatus n gen f).unit =
    s.unit := by
  simp [State.takeStatus, apply_ite State.unit]
@[simp] theorem State.noteCut_unit (s : State) (n : Nat) (p : Plan) (primed : Bool) : (s.noteCut n p primed).unit = s.unit := by
  simp [State.noteCut, apply_ite State.unit]
@[simp] theorem State.endRefused_unit (s : State) (p : Plan) (o : Outcome) : (s.endRefused p o).unit = s.unit :=
  foldl_unit _ (by simp) _ _
@[simp] theorem State.fireRan_unit (s : State) (n : Nat) (p : Plan) (f : EndBody) :
    (s.fireRan n p f).unit = s.unit := by
  unfold State.fireRan
  (try dsimp only)
  (repeat' split) <;> simp
@[simp] theorem courseEnd_unit (up : UpHdr) (f : EndBody) (s : State) : (courseEnd up f s).unit = s.unit := by
  unfold courseEnd
  dsimp only
  (repeat' split) <;> simp_all [foldl_unit]
@[simp] theorem State.judgeIdentity_unit (s : State) (n : Nat) : (s.judgeIdentity n).unit = s.unit := by
  unfold State.judgeIdentity
  dsimp only
  (repeat' split) <;> simp_all
@[simp] theorem State.judgeWords_unit (s : State) (n : Nat) (addr : Nat) (ws : List U32) : (s.judgeWords n addr ws).unit =
    s.unit := by
  simp [State.judgeWords, apply_ite State.unit]
@[simp] theorem courseReadback_unit (l : LinkId) (addr : Nat) (ws : List U32) (s : State) : (courseReadback l addr ws s).unit
    = s.unit := by
  unfold courseReadback
  (repeat' split) <;> simp [apply_ite State.unit]
@[simp] theorem courseLinkLoss_unit (n : Nat) (s : State) : (courseLinkLoss n s).unit = s.unit := by
  simp [courseLinkLoss, apply_ite State.unit]
@[simp] theorem courseLearn_unit (ln : Ln) (n : Nat) (src : Nat) (s : State) : (courseLearn ln n src s).unit = s.unit := by
  unfold courseLearn
  exact State.verb_unit _ _ _ _ fun s => by (repeat' split) <;> simp [apply_ite State.unit, apply_ite Prod.fst]
@[simp] theorem courseLearnStop_unit (ln : Ln) (n : Nat) (s : State) : (courseLearnStop ln n s).unit = s.unit := by
  unfold courseLearnStop
  exact State.verb_unit _ _ _ _ fun s => by (repeat' split) <;> simp
@[simp] theorem State.countLearn_unit (s : State) (n : Nat) (bin : Nat) (step : Nat) (hit : Bool) : (s.countLearn n bin step
    hit).unit = s.unit := by
  simp [State.countLearn]
@[simp] theorem learnResultRead_unit (n : Nat) (tid : Nat) (s : State) : (learnResultRead n tid s).unit = s.unit := by
  unfold learnResultRead
  (repeat' split) <;> simp [apply_ite State.unit]
@[simp] theorem learnLimit_unit (n : Nat) (s : State) : (learnLimit n s).unit = s.unit := by
  unfold learnLimit
  (repeat' split) <;> simp

/-! ### CourseDevs.lean -/
@[simp] theorem State.devHear_unit (s : State) (d : Dn) (f : CourseDev → CourseDev) :
    (s.devHear d f).unit = s.unit := by
  unfold State.devHear
  (try dsimp only)
  (repeat' split) <;> simp
@[simp] theorem State.devDo_unit (s : State) (d : Dn) (f : CourseDev → CourseDev) : (s.devDo d f).unit = s.unit := by
  simp [State.devDo]
@[simp] theorem State.devDrive_unit (s : State) (d : Dn) (f : CourseDev → CourseDev) : (s.devDrive d f).unit = s.unit := by
  simp [State.devDrive]
@[simp] theorem courseRxSync_unit (d : Dn) (t : Tick) (s : State) : (courseRxSync d t s).unit = s.unit := by
  simp [courseRxSync]
@[simp] theorem courseRxConfig_unit (d : Dn) (addr : Nat) (ws : List U32) (s : State) : (courseRxConfig d addr ws s).unit =
    s.unit := by
  simp [courseRxConfig]
@[simp] theorem courseRxQuery_unit (d : Dn) (addr : Nat) (groups : Nat) (s : State) : (courseRxQuery d addr groups s).unit =
    s.unit := by
  simp [courseRxQuery]
@[simp] theorem courseRxEcho_unit (d : Dn) (t : Tick) (clk : Nat) (num : Nat) (s : State) : (courseRxEcho d t clk num s).unit
    = s.unit := by
  simp [courseRxEcho]
@[simp] theorem courseRxIdle_unit (d : Dn) (s : State) : (courseRxIdle d s).unit = s.unit := by
  unfold courseRxIdle
  split <;> simp
@[simp] theorem courseRxEnable_unit (d : Dn) (s : State) : (courseRxEnable d s).unit = s.unit := by simp [courseRxEnable]
@[simp] theorem courseRxDrain_unit (d : Dn) (abort : Bool) (s : State) : (courseRxDrain d abort s).unit = s.unit := by
  simp [courseRxDrain]
@[simp] theorem courseRxPlan_unit (d : Dn) (p : PlanBody) (s : State) : (courseRxPlan d p s).unit = s.unit := by
  simp [courseRxPlan]
@[simp] theorem courseRxConfirm_unit (d : Dn) (bank : Nat) (mask : BitVec 128) (s : State) : (courseRxConfirm d bank mask
    s).unit = s.unit := by
  simp [courseRxConfirm]
@[simp] theorem courseRxCommit_unit (d : Dn) (bank : Nat) (mask : BitVec 128) (s : State) : (courseRxCommit d bank mask
    s).unit = s.unit := by
  simp [courseRxCommit]
@[simp] theorem courseRxDrop_unit (d : Dn) (bank : Nat) (mask : BitVec 128) (s : State) : (courseRxDrop d bank mask s).unit =
    s.unit := by
  simp [courseRxDrop]
@[simp] theorem courseRxExtend_unit (d : Dn) (slot : Nat) (dur : Nat) (s : State) : (courseRxExtend d slot dur s).unit =
    s.unit := by
  simp [courseRxExtend]
@[simp] theorem courseRxCrown_unit (d : Dn) (gen : U32) (horizon : Tick) (handover : Bool) (s : State) : (courseRxCrown d gen
    horizon handover s).unit = s.unit := by
  unfold courseRxCrown
  split <;> simp
@[simp] theorem coursePrimeStart_unit (n : Nat) (ch : Nat) (s : State) : (coursePrimeStart n ch s).unit = s.unit := by
  unfold coursePrimeStart
  dsimp only
  (repeat' split) <;> simp_all
@[simp] theorem coursePeakStart_unit (n : Nat) (ch : Nat) (reached : Bool) (s : State) : (coursePeakStart n ch reached s).unit
    = s.unit := by
  unfold coursePeakStart
  dsimp only
  (repeat' split) <;> simp_all
@[simp] theorem coursePeakEnd_unit (n : Nat) (ch : Nat) (peak : Bool) (s : State) : (coursePeakEnd n ch peak s).unit = s.unit
    := by
  simp [coursePeakEnd]
@[simp] theorem courseReleaseStart_unit (n : Nat) (ch : Nat) (s : State) : (courseReleaseStart n ch s).unit = s.unit := by
  simp [courseReleaseStart]
@[simp] theorem courseStatusSend_unit (n : Nat) (s : State) : (courseStatusSend n s).unit = s.unit := by
  unfold courseStatusSend
  split <;> simp
@[simp] theorem boostPhaseFault_unit (n : Nat) (phase : Nat) (sense : Bool) (s : State) : (boostPhaseFault n phase sense
    s).unit = s.unit := by
  simp [boostPhaseFault]
@[simp] theorem boostOvervoltage_unit (n : Nat) (s : State) : (boostOvervoltage n s).unit = s.unit := by
  simp [boostOvervoltage]
@[simp] theorem courseFieldSupplyLow_unit (n : Nat) (v : Nat) (s : State) : (courseFieldSupplyLow n v s).unit = s.unit := by
  unfold courseFieldSupplyLow
  split <;> simp
@[simp] theorem courseFieldSupplyLoss_unit (n : Nat) (v : Nat) (s : State) : (courseFieldSupplyLoss n v s).unit = s.unit := by
  unfold courseFieldSupplyLoss
  split <;> simp
@[simp] theorem courseFieldSupplyReturn_unit (n : Nat) (v : Nat) (s : State) : (courseFieldSupplyReturn n v s).unit = s.unit
    := by
  unfold courseFieldSupplyReturn
  split <;> simp
@[simp] theorem courseUplinkSilence_unit (n : Nat) (s : State) : (courseUplinkSilence n s).unit = s.unit := by
  simp [courseUplinkSilence]
@[simp] theorem courseOrphanDrain_unit (n : Nat) (s : State) : (courseOrphanDrain n s).unit = s.unit := by
  simp [courseOrphanDrain]

/-! ### Faults.lean -/
@[simp] theorem referenceClockLock_unit (s : State) : (referenceClockLock s).unit = s.unit := by
  unfold referenceClockLock
  split <;> simp
@[simp] theorem fieldFaultBit_unit (set : Bool) (s : State) : (fieldFaultBit set s).unit = s.unit := by
  simp [fieldFaultBit, apply_ite State.unit]
@[simp] theorem supplyBelowCollapse_unit (bus : Nat) (s : State) : (supplyBelowCollapse bus s).unit = s.unit := by
  simp [supplyBelowCollapse, apply_ite State.unit]
@[simp] theorem State.takeBus_unit (s : State) (bus : Nat) :
    (s.takeBus bus).unit = s.unit := by
  unfold State.takeBus
  (try dsimp only)
  (repeat' split) <;> simp
@[simp] theorem supplyDipEnd_unit (low : Nat) (bus : Nat) (s : State) : (supplyDipEnd low bus s).unit = s.unit := by
  unfold supplyDipEnd
  (repeat' split) <;> simp
@[simp] theorem supplyLow_unit (bus : Nat) (s : State) : (supplyLow bus s).unit = s.unit := by
  simp [supplyLow, apply_ite State.unit]
@[simp] theorem State.setHoldup_unit (s : State) (pct : Nat) : (s.setHoldup pct).unit = s.unit := by
  unfold State.setHoldup
  split <;> simp
@[simp] theorem holdupMeasure_unit (pct : Nat) (s : State) : (holdupMeasure pct s).unit = s.unit := by
  simp [holdupMeasure, apply_ite State.unit]
@[simp] theorem supplyInputLost_unit (b : Bool) (s : State) : (supplyInputLost b s).unit = s.unit := by
  simp [supplyInputLost, apply_ite State.unit]
@[simp] theorem supplyInputRestored_unit (b : Bool) (s : State) : (supplyInputRestored b s).unit = s.unit := by
  simp [supplyInputRestored, apply_ite State.unit]
@[simp] theorem coolingFanStop_unit (i : Nat) (s : State) : (coolingFanStop i s).unit = s.unit := by
  unfold coolingFanStop
  split <;> simp
@[simp] theorem overTemperature_unit (t : Int) (s : State) : (overTemperature t s).unit = s.unit := by
  simp [overTemperature, apply_ite State.unit]

end Sys2Proof.Machine
end

