-- ==== Sys2Proof/Laws/Causes.lean ====
section
/-! SUPPORT. What leaves the causes of FAULT that are held as they are (`UnitCtl.causes`, Table 4.7), and what an ended operation leaves of
memory protection. -/
namespace Sys2Proof.Machine

theorem State.finish_parts (s : State) (p : PendOp → Bool) (o : Out) :
    (s.finish p o).mp = s.mp ∧ (s.finish p o).ctl = s.ctl := by
  unfold State.finish
  generalize (s.orphans.filter fun q => p q.2.op) = l
  suffices h : ∀ (l : List (Nat × Pending)) (t : State), (l.foldl (fun (s : State) q => s.event 0xA005 0x0E q.1 (outCode o)) t).mp = t.mp ∧
      (l.foldl (fun (s : State) q => s.event 0xA005 0x0E q.1 (outCode o)) t).ctl = t.ctl by
    exact h l _
  intro l
  induction l with
  | nil => intro t; exact ⟨rfl, rfl⟩
  | cons x xs ih => intro t; exact ih _
theorem State.counterRekey_ctl (s : State) (slot line : Nat) : (s.counterRekey slot line).ctl = s.ctl := by
  simp only [State.counterRekey, State.queueRekey, State.event, State.raise]
  split
  · rfl
  · split <;> rfl
theorem State.updatePage_ctl (s : State) : s.updatePage.ctl = s.ctl := by
  unfold State.updatePage
  split
  · simp only [State.advance]
    split
    · exact State.counterRekey_ctl _ _ _
    · rfl
  · simp only [State.noteHeld, State.event, State.raise]
    split <;> exact s.counterRekey_ctl 3 0
theorem State.setRaw_ctl (s : State) (id e : Nat) (v : Int) : (s.setRaw id e v).ctl = s.ctl := by
  unfold State.setRaw
  split <;> rfl
theorem State.lowAnew_ctl (s : State) (n : Nat) : (s.lowAnew n).ctl = s.ctl := by
  unfold State.lowAnew
  split <;> rfl
theorem State.loopOffNow_ctl (s : State) (n : Nat) : (s.loopOffNow n).ctl = s.ctl := State.lowAnew_ctl _ _
theorem State.enterLoop_ctl (s : State) (n : Nat) (m : LoopActive) : (s.enterLoop n m).ctl = s.ctl := State.lowAnew_ctl _ _
theorem State.retargetLoop_ctl (s : State) (n : Nat) : (s.retargetLoop n).ctl = s.ctl := by
  unfold State.retargetLoop
  dsimp only
  (repeat' split)
  · rfl
  · exact s.loopOffNow_ctl n
  · rfl
  · exact s.enterLoop_ctl n _
theorem State.enableLoop_ctl (s : State) (n : Nat) (auto : Bool) (v : Option Int) : (s.enableLoop n auto v).ctl = s.ctl := by
  unfold State.enableLoop
  rw [State.retargetLoop_ctl]
  cases v with
  | none => exact State.setRaw_ctl _ _ _ _
  | some v => exact (State.setRaw_ctl _ _ _ _).trans (State.setRaw_ctl _ _ _ _)
theorem State.loopStopped_ctl (s : State) (n : Nat) : (s.loopStopped n).ctl = s.ctl := by
  have e (o : Out) : (((s.loopOffNow n).updLoop n fun l => { l with queued := none }).finish (· == .loopOff n) o).ctl = s.ctl :=
    (State.finish_parts _ _ _).2.trans (s.loopOffNow_ctl n)
  unfold State.loopStopped
  dsimp only
  split
  · exact e _
  · split
    · exact (State.finish_parts _ _ _).2.trans ((State.enableLoop_ctl _ _ _ _).trans (e _))
    · exact (State.finish_parts _ _ _).2.trans (e _)
theorem State.retargetLoops_ctl (s : State) : s.retargetLoops.ctl = s.ctl := by
  unfold State.retargetLoops
  suffices h : ∀ (l : List Nat) (t : State), (l.foldl (fun (s : State) n =>
      (if (s.loop n).active == .stopping && !s.inAny [.run, .drain] then s.loopStopped n else s).retargetLoop n) t).ctl = t.ctl by
    exact h _ s
  intro l
  induction l with
  | nil => intro t; rfl
  | cons x xs ih =>
    intro t
    rw [List.foldl_cons, ih, State.retargetLoop_ctl]
    split
    · exact t.loopStopped_ctl x
    · rfl
/-- A cause [4] held in STANDBY stands at an entry to HELD. -/
theorem State.enterHeld_faults {s : State} (h : s.ctl.state ≠ .waking) (c : s.ctl.causes.getLsbD 4 = true) :
    s.enterHeld.ctl.state = .fault := by
  have e : ((s.enter .held).retargetLoops).ctl.causes = s.ctl.causes := by
    rw [State.retargetLoops_ctl, State.enter, State.updatePage_ctl, State.leaveWaking]
    rw [if_neg (by simp [h])]
    rfl
  have m : (4 : Nat) ∈ ((s.enter .held).retargetLoops).activeCauses := by
    unfold State.activeCauses numsWhere
    rw [List.mem_filter]
    exact ⟨by simp, by simp [e, c, State.causeActive]⟩
  unfold State.enterHeld
  dsimp only
  split
  · next q => rw [q] at m; cases m
  · exact State.goFault_unit _ _

end Sys2Proof.Machine
end

