-- ==== Sys2Proof/Laws/Dispatch.lean ====
section
/-! SUPPORT. What each command runs: `exec` answers a next state for every command. -/
namespace Sys2Proof.Machine

theorem exec_powerUp (p : PowerOn) (s : State) : exec (.powerUp p) s = .next (powerUp p s) := rfl
theorem exec_wakingEnd (t : SelfTest) (s : State) : exec (.wakingEnd t) s = .next (wakingEnd t s) := rfl
theorem exec_wakingTimeout (stage : Nat) (s : State) : exec (.wakingTimeout stage) s = .next (wakingTimeout stage s) := rfl
theorem exec_journalReplay (bad : Option Nat) (s : State) : exec (.journalReplay bad) s = .next (journalReplay bad s) := rfl
theorem exec_lineSyncEdge (s : State) : exec (.lineSyncEdge) s = .next (lineSyncEdge s) := rfl
theorem exec_timePageUpdate (s : State) : exec (.timePageUpdate) s = .next (timePageUpdate s) := rfl
theorem exec_clockLockLoss (s : State) : exec (.clockLockLoss) s = .next (clockLockLoss s) := rfl
theorem exec_portLinkLoss (l : LossLink) (s : State) : exec (.portLinkLoss l) s = .next (portLinkLoss l s) := rfl
theorem exec_consoleChar (b : Byte) (err : Bool) (s : State) : exec (.consoleChar b err) s = .next (consoleChar b err s) :=
    rfl
theorem exec_consoleBreak (s : State) : exec (.consoleBreak) s = .next (consoleBreak s) := rfl
theorem exec_fjartLineRefused (ses : Nat) (text : List Byte) (s : State) : exec (.fjartLineRefused ses text) s = .next
    (fjartLineRefused ses text s) := rfl
theorem exec_tagRepeat (ses : Nat) (text : List Byte) (s : State) : exec (.tagRepeat ses text) s = .next (tagRepeat ses text
    s) := rfl
theorem exec_unsolicitedLineSend (ses : Nat) (s : State) : exec (.unsolicitedLineSend ses) s = .next (unsolicitedLineSend ses
    s) := rfl
theorem exec_suppressionLine (ses : Nat) (s : State) : exec (.suppressionLine ses) s = .next (suppressionLine ses s) := rfl
theorem exec_consoleIdleLogout (s : State) : exec (.consoleIdleLogout) s = .next (consoleIdleLogout s) := rfl
theorem exec_loginLockoutEnd (ses : Nat) (s : State) : exec (.loginLockoutEnd ses) s = .next (loginLockoutEnd ses s) := rfl
theorem exec_get (ln : Ln) (ps : List PRef) (s : State) : exec (.get ln ps) s = .next (getVerb ln ps s) := rfl
theorem exec_set (ln : Ln) (ps : List (PRef × Lit)) (s : State) : exec (.set ln ps) s = .next (setVerb ln ps s) := rfl
theorem exec_showCmd (ln : Ln) (subj : ShowSubj) (s : State) : exec (.showCmd ln subj) s = .next (showVerb ln subj s) := rfl
theorem exec_help (ln : Ln) (topic : HelpTopic) (s : State) : exec (.help ln topic) s = .next (help ln topic s) := rfl
theorem exec_mode (ln : Ln) (m : SesMode) (s : State) : exec (.mode ln m) s = .next (modeSet ln m s) := rfl
theorem exec_modeEvents (ln : Ln) (l : EvLevel) (s : State) : exec (.modeEvents ln l) s = .next (modeEvents ln l s) := rfl
theorem exec_login (ln : Ln) (lv : Level) (who : List Byte) (s : State) : exec (.login ln lv who) s = .next (login ln lv who
    s) := rfl
theorem exec_loginResponse (ln : Ln) (resp : U32) (s : State) : exec (.loginResponse ln resp) s = .next (loginAnswer ln resp
    s) := rfl
theorem exec_logout (ln : Ln) (s : State) : exec (.logout ln) s = .next (logout ln s) := rfl
theorem exec_bondCommit (ln : Ln) (b : BondRef) (s : State) : exec (.bondCommit ln b) s = .next (bondCommit ln b s) := rfl
theorem exec_bondDiscard (ln : Ln) (b : BondRef) (s : State) : exec (.bondDiscard ln b) s = .next (bondDiscard ln b s) := rfl
theorem exec_bondShow (ln : Ln) (b : Option Bond) (s : State) : exec (.bondShow ln b) s = .next (bondShow ln b s) := rfl
theorem exec_bondEffect (b : Bond) (s : State) : exec (.bondEffect b) s = .next (bondEffect b s) := rfl
theorem exec_configSave (ln : Ln) (s : State) : exec (.configSave ln) s = .next (configSave ln s) := rfl
theorem exec_configSaveAbort (ln : Ln) (stepSix : Option Tick) (s : State) : exec (.configSaveAbort ln stepSix) s = .next
    (configSaveAbort ln stepSix s) := rfl
theorem exec_configSaveComplete (r : NorResult) (s : State) : exec (.configSaveComplete r) s = .next (configSaveComplete r s)
    := rfl
theorem exec_configLoad (ln : Ln) (src : CfgSource) (s : State) : exec (.configLoad ln src) s = .next (configLoad ln src s) :=
    rfl
theorem exec_configAccept (ln : Ln) (s : State) : exec (.configAccept ln) s = .next (configAccept ln s) := rfl
theorem exec_configDiff (ln : Ln) (src : Option CfgSource) (s : State) : exec (.configDiff ln src) s = .next (configDiff ln
    src s) := rfl
theorem exec_calShow (ln : Ln) (p : Option PRef) (s : State) : exec (.calShow ln p) s = .next (calShow ln p s) := rfl
theorem exec_calSet (ln : Ln) (ps : List (PRef × Lit)) (s : State) : exec (.calSet ln ps) s = .next (calSet ln ps s) := rfl
theorem exec_calSave (ln : Ln) (s : State) : exec (.calSave ln) s = .next (calSaveVerb ln s) := rfl
theorem exec_calSaveComplete (r : NorResult) (s : State) : exec (.calSaveComplete r) s = .next (calSaveComplete r s) := rfl
theorem exec_calRestoreFactory (ln : Ln) (s : State) : exec (.calRestoreFactory ln) s = .next (calRestoreFactory ln s) := rfl
theorem exec_calRestoreConfirm (ln : Ln) (word : List Byte) (s : State) : exec (.calRestoreConfirm ln word) s = .next
    (calRestoreConfirm ln word s) := rfl
theorem exec_setRequest (conn : Nat) (block : List Byte) (s : State) : exec (.setRequest conn block) s = .next (setRequest
    conn block s) := rfl
theorem exec_setRequestExec (conn : Nat) (s : State) : exec (.setRequestExec conn) s = .next (setRequestExec conn s) := rfl
theorem exec_stateReady (ln : Ln) (s : State) : exec (.stateReady ln) s = .next (stateReady ln s) := rfl
theorem exec_stateRun (ln : Ln) (s : State) : exec (.stateRun ln) s = .next (stateRun ln s) := rfl
theorem exec_stateDrain (ln : Ln) (s : State) : exec (.stateDrain ln) s = .next (stateDrain ln s) := rfl
theorem exec_stateHold (ln : Ln) (s : State) : exec (.stateHold ln) s = .next (stateHold ln s) := rfl
theorem exec_bringupComplete (s : State) : exec (.bringupComplete) s = .next (bringupComplete s) := rfl
theorem exec_bringupStepTimeout (s : State) : exec (.bringupStepTimeout) s = .next (bringupStepTimeout s) := rfl
theorem exec_shutdownComplete (s : State) : exec (.shutdownComplete) s = .next (shutdownComplete s) := rfl
theorem exec_shutdownStepTimeout (s : State) : exec (.shutdownStepTimeout) s = .next (shutdownStepTimeout s) := rfl
theorem exec_drainComplete (s : State) : exec (.drainComplete) s = .next (drainComplete s) := rfl
theorem exec_drainLimit (s : State) : exec (.drainLimit) s = .next (drainLimit s) := rfl
theorem exec_supplyBelowCollapse (bus : Nat) (s : State) : exec (.supplyBelowCollapse bus) s = .next (supplyBelowCollapse bus
    s) := rfl
theorem exec_supplyDipEnd (low bus : Nat) (s : State) : exec (.supplyDipEnd low bus) s = .next (supplyDipEnd low bus s) := rfl
theorem exec_supplyLow (bus : Nat) (s : State) : exec (.supplyLow bus) s = .next (supplyLow bus s) := rfl
theorem exec_collapseDeclared (offSpeed unthreading stepSix : Bool) (s : State) : exec (.collapseDeclared offSpeed unthreading
    stepSix) s = .next (collapseDeclared offSpeed unthreading stepSix s) := rfl
theorem exec_collapseSequenceEnd (s : State) : exec (.collapseSequenceEnd) s = .next (collapseSequenceEnd s) := rfl
theorem exec_holdupMeasure (pct : Nat) (s : State) : exec (.holdupMeasure pct) s = .next (holdupMeasure pct s) := rfl
theorem exec_ticketProdWrite (src : Nat) (prod : U32) (s : State) : exec (.ticketProdWrite src prod) s = .next
    (ticketProdWrite src prod s) := rfl
theorem exec_ticketProv (src : Nat) (s : State) : exec (.ticketProv src) s = .next (ticketProv src s) := rfl
theorem exec_ticketFirm (src : Nat) (s : State) : exec (.ticketFirm src) s = .next (ticketFirm src s) := rfl
theorem exec_ticketConf (src : Nat) (s : State) : exec (.ticketConf src) s = .next (ticketConf src s) := rfl
theorem exec_ticketCancel (src : Nat) (s : State) : exec (.ticketCancel src) s = .next (ticketCancel src s) := rfl
theorem exec_commitTick (n : Nat) (s : State) : exec (.commitTick n) s = .next (commitTick n s) := rfl
theorem exec_completionCconsWrite (src : Nat) (ccons : U32) (s : State) : exec (.completionCconsWrite src ccons) s = .next
    (completionCconsWrite src ccons s) := rfl
theorem exec_ticketForget (s : State) : exec (.ticketForget) s = .next (ticketForget s) := rfl
theorem exec_tallyRead (s : State) : exec (.tallyRead) s = .next (tallyRead s) := rfl
theorem exec_recipeReport (src : Nat) (s : State) : exec (.recipeReport src) s = .next (recipeReport src s) := rfl
theorem exec_moistureUpdate (s : State) : exec (.moistureUpdate) s = .next (moistureUpdate s) := rfl
theorem exec_outletAvgMissing (s : State) : exec (.outletAvgMissing) s = .next (outletAvgMissing s) := rfl
theorem exec_courseLearn (ln : Ln) (n src : Nat) (s : State) : exec (.courseLearn ln n src) s = .next (courseLearn ln n src s)
    := rfl
theorem exec_courseLearnStop (ln : Ln) (n : Nat) (s : State) : exec (.courseLearnStop ln n) s = .next (courseLearnStop ln n s)
    := rfl
theorem exec_learnResultRead (n tid : Nat) (s : State) : exec (.learnResultRead n tid) s = .next (learnResultRead n tid s) :=
    rfl
theorem exec_learnLimit (n : Nat) (s : State) : exec (.learnLimit n) s = .next (learnLimit n s) := rfl
theorem exec_courseEnable (ln : Ln) (n : Nat) (s : State) : exec (.courseEnable ln n) s = .next (courseEnable ln n s) := rfl
theorem exec_courseEnableComplete (n : Nat) (s : State) : exec (.courseEnableComplete n) s = .next (courseEnableComplete n s)
    := rfl
theorem exec_courseDisable (ln : Ln) (n : Nat) (s : State) : exec (.courseDisable ln n) s = .next (courseDisable ln n s) :=
    rfl
theorem exec_courseDisableAbort (ln : Ln) (n : Nat) (s : State) : exec (.courseDisableAbort ln n) s = .next
    (courseDisableAbort ln n s) := rfl
theorem exec_courseDrainComplete (n : Nat) (s : State) : exec (.courseDrainComplete n) s = .next (courseDrainComplete n s) :=
    rfl
theorem exec_courseTest (ln : Ln) (n ch : Nat) (dur : Option Lit) (count : Option Nat) (period : Option Lit) (s : State) : exec (.courseTest ln n ch dur
    count period) s = .next (courseTest ln n ch dur count period s) := rfl
theorem exec_courseTestComplete (n : Nat) (s : State) : exec (.courseTestComplete n) s = .next (courseTestComplete n s) := rfl
theorem exec_linkTrain (l : LinkId) (s : State) : exec (.linkTrain l) s = .next (linkTrain l s) := rfl
theorem exec_linkLaneDown (l : LinkId) (s : State) : exec (.linkLaneDown l) s = .next (linkLaneDown l s) := rfl
theorem exec_courseSyncSend (l : LinkId) (s : State) : exec (.courseSyncSend l) s = .next (courseSyncSend l s) := rfl
theorem exec_planSend (n : Nat) (s : State) : exec (.planSend n) s = .next (planSend n s) := rfl
theorem exec_commitResend (n : Nat) (s : State) : exec (.commitResend n) s = .next (commitResend n s) := rfl
theorem exec_courseDownlinkResend (l : LinkId) (s : State) : exec (.courseDownlinkResend l) s = .next (courseDownlinkResend l
    s) := rfl
theorem exec_courseStatus (up : UpHdr) (f : StatusFrame) (s : State) : exec (.courseStatus up f) s = .next (courseStatus up f
    s) := rfl
theorem exec_courseEnd (up : UpHdr) (f : EndBody) (s : State) : exec (.courseEnd up f) s = .next (courseEnd up f s) := rfl
theorem exec_courseAck (l : LinkId) (seq : BitVec 16) (s : State) : exec (.courseAck l seq) s = .next (courseAck l seq s) :=
    rfl
theorem exec_courseReadback (l : LinkId) (addr : Nat) (ws : List U32) (s : State) : exec (.courseReadback l addr ws) s = .next
    (courseReadback l addr ws s) := rfl
theorem exec_courseEchoReply (l : LinkId) (num clocks : Nat) (s : State) : exec (.courseEchoReply l num clocks) s = .next
    (courseEchoReply l num clocks s) := rfl
theorem exec_courseRxSync (d : Dn) (t : Tick) (s : State) : exec (.courseRxSync d t) s = .next (courseRxSync d t s) := rfl
theorem exec_courseRxConfig (d : Dn) (addr : Nat) (ws : List U32) (s : State) : exec (.courseRxConfig d addr ws) s = .next
    (courseRxConfig d addr ws s) := rfl
theorem exec_courseRxQuery (d : Dn) (addr groups : Nat) (s : State) : exec (.courseRxQuery d addr groups) s = .next
    (courseRxQuery d addr groups s) := rfl
theorem exec_courseRxEcho (d : Dn) (t : Tick) (clk num : Nat) (s : State) : exec (.courseRxEcho d t clk num) s = .next
    (courseRxEcho d t clk num s) := rfl
theorem exec_courseRxEnable (d : Dn) (s : State) : exec (.courseRxEnable d) s = .next (courseRxEnable d s) := rfl
theorem exec_courseRxDrain (d : Dn) (abort : Bool) (s : State) : exec (.courseRxDrain d abort) s = .next (courseRxDrain d
    abort s) := rfl
theorem exec_courseRxPlan (d : Dn) (p : PlanBody) (s : State) : exec (.courseRxPlan d p) s = .next (courseRxPlan d p s) := rfl
theorem exec_courseRxConfirm (d : Dn) (bank : Nat) (mask : BitVec 128) (s : State) : exec (.courseRxConfirm d bank mask) s =
    .next (courseRxConfirm d bank mask s) := rfl
theorem exec_courseRxCommit (d : Dn) (bank : Nat) (mask : BitVec 128) (s : State) : exec (.courseRxCommit d bank mask) s =
    .next (courseRxCommit d bank mask s) := rfl
theorem exec_courseRxDrop (d : Dn) (bank : Nat) (mask : BitVec 128) (s : State) : exec (.courseRxDrop d bank mask) s = .next
    (courseRxDrop d bank mask s) := rfl
theorem exec_courseRxExtend (d : Dn) (slot dur : Nat) (s : State) : exec (.courseRxExtend d slot dur) s = .next
    (courseRxExtend d slot dur s) := rfl
theorem exec_courseRxCrown (d : Dn) (gen : U32) (horizon : Tick) (handover : Bool) (s : State) : exec (.courseRxCrown d gen
    horizon handover) s = .next (courseRxCrown d gen horizon handover s) := rfl
theorem exec_courseRxIdle (d : Dn) (s : State) : exec (.courseRxIdle d) s = .next (courseRxIdle d s) := rfl
theorem exec_courseStatusSend (n : Nat) (s : State) : exec (.courseStatusSend n) s = .next (courseStatusSend n s) := rfl
theorem exec_coursePrimeStart (n ch : Nat) (s : State) : exec (.coursePrimeStart n ch) s = .next (coursePrimeStart n ch s) :=
    rfl
theorem exec_coursePeakStart (n ch : Nat) (reached : Bool) (s : State) : exec (.coursePeakStart n ch reached) s = .next
    (coursePeakStart n ch reached s) := rfl
theorem exec_coursePeakEnd (n ch : Nat) (peak : Bool) (s : State) : exec (.coursePeakEnd n ch peak) s = .next (coursePeakEnd n
    ch peak s) := rfl
theorem exec_courseReleaseStart (n ch : Nat) (s : State) : exec (.courseReleaseStart n ch) s = .next (courseReleaseStart n ch
    s) := rfl
theorem exec_boostPhaseFault (n phase : Nat) (sense : Bool) (s : State) : exec (.boostPhaseFault n phase sense) s = .next
    (boostPhaseFault n phase sense s) := rfl
theorem exec_boostOvervoltage (n : Nat) (s : State) : exec (.boostOvervoltage n) s = .next (boostOvervoltage n s) := rfl
theorem exec_courseFieldSupplyLow (n v : Nat) (s : State) : exec (.courseFieldSupplyLow n v) s = .next (courseFieldSupplyLow n
    v s) := rfl
theorem exec_courseFieldSupplyLoss (n v : Nat) (s : State) : exec (.courseFieldSupplyLoss n v) s = .next
    (courseFieldSupplyLoss n v s) := rfl
theorem exec_courseUplinkSilence (n : Nat) (s : State) : exec (.courseUplinkSilence n) s = .next (courseUplinkSilence n s) :=
    rfl
theorem exec_courseOrphanDrain (n : Nat) (s : State) : exec (.courseOrphanDrain n) s = .next (courseOrphanDrain n s) := rfl
theorem exec_courseLinkLoss (n : Nat) (s : State) : exec (.courseLinkLoss n) s = .next (courseLinkLoss n s) := rfl
theorem exec_airPressureSample (m : Nat) (s : State) : exec (.airPressureSample m) s = .next (airPressureSample m s) := rfl
theorem exec_airQuietWindow (m : Nat) (s : State) : exec (.airQuietWindow m) s = .next (airQuietWindow m s) := rfl
theorem exec_airHoldRelease (m : Nat) (s : State) : exec (.airHoldRelease m) s = .next (airHoldRelease m s) := rfl
theorem exec_rlConnect (port : Nat) (f : ConnectFrame) (s : State) : exec (.rlConnect port f) s = .next (rlConnect port f s)
    := rfl
theorem exec_connectTimeout (conn : Nat) (s : State) : exec (.connectTimeout conn) s = .next (connectTimeout conn s) := rfl
theorem exec_rlWrite (h : RlHdr) (data : List Byte) (s : State) : exec (.rlWrite h data) s = .next (rlWrite h data s) := rfl
theorem exec_rlWriteWithNotice (h : RlHdr) (data : List Byte) (s : State) : exec (.rlWriteWithNotice h data) s = .next
    (rlWriteWithNotice h data s) := rfl
theorem exec_rlReadReq (h : RlHdr) (data : List Byte) (s : State) : exec (.rlReadReq h data) s = .next (rlReadReq h data s) :=
    rfl
theorem exec_rlReadResp (h : RlHdr) (data : List Byte) (s : State) : exec (.rlReadResp h data) s = .next (rlReadResp h data s)
    := rfl
theorem exec_rlSend (h : RlHdr) (data : List Byte) (s : State) : exec (.rlSend h data) s = .next (rlSend h data s) := rfl
theorem exec_rlAtomicAdd (h : RlHdr) (data : List Byte) (s : State) : exec (.rlAtomicAdd h data) s = .next (rlAtomicAdd h data
    s) := rfl
theorem exec_rlAtomicResp (h : RlHdr) (data : List Byte) (s : State) : exec (.rlAtomicResp h data) s = .next (rlAtomicResp h
    data s) := rfl
theorem exec_rlAck (h : RlHdr) (s : State) : exec (.rlAck h) s = .next (rlAck h s) := rfl
theorem exec_rlNak (h : RlHdr) (data : List Byte) (s : State) : exec (.rlNak h data) s = .next (rlNak h data s) := rfl
theorem exec_rlRekey (h : RlHdr) (data : List Byte) (s : State) : exec (.rlRekey h data) s = .next (rlRekey h data s) := rfl
theorem exec_rlRekeyAck (h : RlHdr) (data : List Byte) (s : State) : exec (.rlRekeyAck h data) s = .next (rlRekeyAck h data s)
    := rfl
theorem exec_rlRekeyReq (h : RlHdr) (data : List Byte) (s : State) : exec (.rlRekeyReq h data) s = .next (rlRekeyReq h data s)
    := rfl
theorem exec_rlDisconnect (h : RlHdr) (data : List Byte) (s : State) : exec (.rlDisconnect h data) s = .next (rlDisconnect h
    data s) := rfl
theorem exec_rlAuthFail (port : Nat) (fcs : Bool) (s : State) : exec (.rlAuthFail port fcs) s = .next (rlAuthFail port fcs s)
    := rfl
theorem exec_rlStaleFrame (port dconn : Nat) (s : State) : exec (.rlStaleFrame port dconn) s = .next (rlStaleFrame port dconn
    s) := rfl
theorem exec_retransmitTimeout (conn : Nat) (s : State) : exec (.retransmitTimeout conn) s = .next (retransmitTimeout conn s)
    := rfl
theorem exec_rnrResend (conn : Nat) (s : State) : exec (.rnrResend conn) s = .next (rnrResend conn s) := rfl
theorem exec_keepalive (conn : Nat) (s : State) : exec (.keepalive conn) s = .next (keepalive conn s) := rfl
theorem exec_connSilence (conn : Nat) (s : State) : exec (.connSilence conn) s = .next (connSilence conn s) := rfl
theorem exec_portLinkDown (port : Nat) (s : State) : exec (.portLinkDown port) s = .next (portLinkDown port s) := rfl
theorem exec_portLinkUp (port : Nat) (s : State) : exec (.portLinkUp port) s = .next (portLinkUp port s) := rfl
theorem exec_connFlushDone (conn : Nat) (s : State) : exec (.connFlushDone conn) s = .next (connFlushDone conn s) := rfl
theorem exec_rekeyPeriod (conn : Nat) (s : State) : exec (.rekeyPeriod conn) s = .next (rekeyPeriod conn s) := rfl
theorem exec_oldEpochExpire (conn : Nat) (s : State) : exec (.oldEpochExpire conn) s = .next (oldEpochExpire conn s) := rfl
theorem exec_egressGrant (port : Nat) (s : State) : exec (.egressGrant port) s = .next (egressGrant port s) := rfl
theorem exec_egressGuardFault (port : Nat) (s : State) : exec (.egressGuardFault port) s = .next (egressGuardFault port s) :=
    rfl
theorem exec_workEntryPost (conn : Nat) (w : WorkPost) (s : State) : exec (.workEntryPost conn w) s = .next (workEntryPost
    conn w s) := rfl
theorem exec_sfpModuleChange (port : Nat) (m : ModuleKind) (power : Int) (s : State) : exec (.sfpModuleChange port m power) s
    = .next (sfpModuleChange port m power s) := rfl
theorem exec_rngHealthFail (s : State) : exec (.rngHealthFail) s = .next (rngHealthFail s) := rfl
theorem exec_windowOpen (ln : Ln) (conn off len : Nat) (perm : Perm) (ticket : Bool) (s : State) : exec (.windowOpen ln conn
    off len perm ticket) s = .next (windowOpen ln conn off len perm ticket s) := rfl
theorem exec_windowOpenFull (ln : Ln) (conn : Nat) (s : State) : exec (.windowOpenFull ln conn) s = .next (windowOpenFull ln
    conn s) := rfl
theorem exec_windowRevoke (ln : Ln) (conn index : Nat) (s : State) : exec (.windowRevoke ln conn index) s = .next
    (windowRevoke ln conn index s) := rfl
theorem exec_windowRevokeFull (ln : Ln) (conn : Nat) (s : State) : exec (.windowRevokeFull ln conn) s = .next
    (windowRevokeFull ln conn s) := rfl
theorem exec_rlGroupPost (h : RlHdr) (g : Nat) (data : List Byte) (s : State) : exec (.rlGroupPost h g data) s = .next
    (rlGroupPost h g data s) := rfl
theorem exec_rlGroupResult (h : RlHdr) (data : List Byte) (s : State) : exec (.rlGroupResult h data) s = .next (rlGroupResult
    h data s) := rfl
theorem exec_groupRetry (g : Nat) (s : State) : exec (.groupRetry g) s = .next (groupRetry g s) := rfl
theorem exec_groupTimeout (g : Nat) (gsn : U32) (s : State) : exec (.groupTimeout g gsn) s = .next (groupTimeout g gsn s) :=
    rfl
theorem exec_groupMode (ln : Ln) (g : Nat) (m : GroupMode) (s : State) : exec (.groupMode ln g m) s = .next (groupMode ln g m
    s) := rfl
theorem exec_groupAdd (ln : Ln) (g : Nat) (m : Member) (s : State) : exec (.groupAdd ln g m) s = .next (groupAdd ln g m s) :=
    rfl
theorem exec_groupRemove (ln : Ln) (g : Nat) (m : Member) (s : State) : exec (.groupRemove ln g m) s = .next (groupRemove ln g
    m s) := rfl
theorem exec_groupPostPorts (ln : Ln) (g : Nat) (ports : List Nat) (s : State) : exec (.groupPostPorts ln g ports) s = .next
    (groupPostPorts ln g ports s) := rfl
theorem exec_groupTimeoutSet (ln : Ln) (g : Nat) (ms : Lit) (s : State) : exec (.groupTimeoutSet ln g ms) s = .next
    (groupTimeoutSet ln g ms s) := rfl
theorem exec_groupClass (ln : Ln) (g : Nat) (ticket : Bool) (s : State) : exec (.groupClass ln g ticket) s = .next (groupClass
    ln g ticket s) := rfl
theorem exec_groupSend (ln : Ln) (g : Nat) (msg : List Byte) (s : State) : exec (.groupSend ln g msg) s = .next (groupSend ln
    g msg s) := rfl
theorem exec_linkShow (ln : Ln) (port : Option Nat) (s : State) : exec (.linkShow ln port) s = .next (linkShow ln port s) :=
    rfl
theorem exec_linkReset (ln : Ln) (port : Nat) (s : State) : exec (.linkReset ln port) s = .next (linkReset ln port s) := rfl
theorem exec_linkResetOff (ln : Ln) (port : Nat) (s : State) : exec (.linkResetOff ln port) s = .next (linkResetOff ln port s)
    := rfl
theorem exec_linkResetTimeout (port : Nat) (s : State) : exec (.linkResetTimeout port) s = .next (linkResetTimeout port s) :=
    rfl
theorem exec_loopSample (n : Nat) (s : State) : exec (.loopSample n) s = .next (loopSample n s) := rfl
theorem exec_crackUpdate (s : State) : exec (.crackUpdate) s = .next (crackUpdate s) := rfl
theorem exec_loopInputBadTime (n : Nat) (s : State) : exec (.loopInputBadTime n) s = .next (loopInputBadTime n s) := rfl
theorem exec_zonePurgeEnd (z : Nat) (s : State) : exec (.zonePurgeEnd z) s = .next (zonePurgeEnd z s) := rfl
theorem exec_batchStepLimit (s : State) : exec (.batchStepLimit) s = .next (batchStepLimit s) := rfl
theorem exec_loopMode (ln : Ln) (n : Nat) (auto : Bool) (value : Option Lit) (s : State) : exec (.loopMode ln n auto value) s
    = .next (loopMode ln n auto value s) := rfl
theorem exec_loopOff (ln : Ln) (n : Nat) (s : State) : exec (.loopOff ln n) s = .next (loopOff ln n s) := rfl
theorem exec_loopOffRampDone (n : Nat) (s : State) : exec (.loopOffRampDone n) s = .next (loopOffRampDone n s) := rfl
theorem exec_loopFlags (ln : Ln) (n : Nat) (s : State) : exec (.loopFlags ln n) s = .next (loopFlags ln n s) := rfl
theorem exec_loopBatchStart (ln : Ln) (s : State) : exec (.loopBatchStart ln) s = .next (loopBatchStart ln s) := rfl
theorem exec_loopBatchNext (ln : Ln) (s : State) : exec (.loopBatchNext ln) s = .next (loopBatchNext ln s) := rfl
theorem exec_loopBatchHold (ln : Ln) (s : State) : exec (.loopBatchHold ln) s = .next (loopBatchHold ln s) := rfl
theorem exec_loopBatchResume (ln : Ln) (s : State) : exec (.loopBatchResume ln) s = .next (loopBatchResume ln s) := rfl
theorem exec_loopBatchAbort (ln : Ln) (s : State) : exec (.loopBatchAbort ln) s = .next (loopBatchAbort ln s) := rfl
theorem exec_fieldCycle (inp : FieldIn) (s : State) : exec (.fieldCycle inp) s = .next (fieldCycle inp s) := rfl
theorem exec_diSample (levels : BitVec 24) (s : State) : exec (.diSample levels) s = .next (diSample levels s) := rfl
theorem exec_readbackMismatch (dig : Bool) (ch : Nat) (s : State) : exec (.readbackMismatch dig ch) s = .next
    (readbackMismatch dig ch s) := rfl
theorem exec_doCurrentLimit (ch : Nat) (s : State) : exec (.doCurrentLimit ch) s = .next (doCurrentLimit ch s) := rfl
theorem exec_fieldFaultBit (set : Bool) (s : State) : exec (.fieldFaultBit set) s = .next (fieldFaultBit set s) := rfl
theorem exec_fieldLinkLoss (s : State) : exec (.fieldLinkLoss) s = .next (fieldLinkLoss s) := rfl
theorem exec_fieldPhantomLimit (s : State) : exec (.fieldPhantomLimit) s = .next (fieldPhantomLimit s) := rfl
theorem exec_fieldPhantomRetry (s : State) : exec (.fieldPhantomRetry) s = .next (fieldPhantomRetry s) := rfl
theorem exec_tachEdge (n : Nat) (at_ : Tick) (s : State) : exec (.tachEdge n at_) s = .next (tachEdge n at_ s) := rfl
theorem exec_fanStart (ln : Ln) (n : Nat) (speed : Option Lit) (s : State) : exec (.fanStart ln n speed) s = .next (fanStart
    ln n speed s) := rfl
theorem exec_fanStartWindowEnd (n : Nat) (s : State) : exec (.fanStartWindowEnd n) s = .next (fanStartWindowEnd n s) := rfl
theorem exec_fanRetryWaitEnd (n : Nat) (s : State) : exec (.fanRetryWaitEnd n) s = .next (fanRetryWaitEnd n s) := rfl
theorem exec_fanStop (ln : Ln) (n : Nat) (s : State) : exec (.fanStop ln n) s = .next (fanStop ln n s) := rfl
theorem exec_fanCoastTimeout (n : Nat) (s : State) : exec (.fanCoastTimeout n) s = .next (fanCoastTimeout n s) := rfl
theorem exec_fanReset (ln : Ln) (n : Nat) (s : State) : exec (.fanReset ln n) s = .next (fanReset ln n s) := rfl
theorem exec_probeSweepStart (r : Nat) (s : State) : exec (.probeSweepStart r) s = .next (probeSweepStart r s) := rfl
theorem exec_probeMeasureWaitEnd (r : Nat) (s : State) : exec (.probeMeasureWaitEnd r) s = .next (probeMeasureWaitEnd r s) :=
    rfl
theorem exec_probeSlotEnd (r : Nat) (s : State) : exec (.probeSlotEnd r) s = .next (probeSlotEnd r s) := rfl
theorem exec_probeReply (r : Nat) (f : List Byte) (s : State) : exec (.probeReply r f) s = .next (probeReply r f s) := rfl
theorem exec_probeRunStop (ln : Ln) (r : Nat) (s : State) : exec (.probeRunStop ln r) s = .next (probeRunStop ln r s) := rfl
theorem exec_probeNodeRead (r pos : Nat) (fromRet : Bool) (f : List Byte) (s : State) : exec (.probeNodeRead r pos fromRet f)
    s = .next (probeNodeRead r pos fromRet f s) := rfl
theorem exec_probeNodeMeasure (r pos : Nat) (fromRet : Bool) (f : List Byte) (s : State) : exec (.probeNodeMeasure r pos
    fromRet f) s = .next (probeNodeMeasure r pos fromRet f s) := rfl
theorem exec_probeNodeReplyForward (r pos : Nat) (toRet : Bool) (f : List Byte) (s : State) : exec (.probeNodeReplyForward r
    pos toRet f) s = .next (probeNodeReplyForward r pos toRet f s) := rfl
theorem exec_probeConversionDone (r pos : Nat) (c : Conversion) (s : State) : exec (.probeConversionDone r pos c) s = .next
    (probeConversionDone r pos c s) := rfl
theorem exec_recordJournal (s : State) : exec (.recordJournal) s = .next (recordJournal s) := rfl
theorem exec_stagingPage (s : State) : exec (.stagingPage) s = .next (stagingPage s) := rfl
theorem exec_ledgerFlushTimer (s : State) : exec (.ledgerFlushTimer) s = .next (ledgerFlushTimer s) := rfl
theorem exec_tapeStart (s : State) : exec (.tapeStart) s = .next (tapeStart s) := rfl
theorem exec_ashlarWriteEnd (trailers : Nat) (s : State) : exec (.ashlarWriteEnd trailers) s = .next (ashlarWriteEnd trailers
    s) := rfl
theorem exec_blockReadback (read : Option RowRead) (ch : Nat) (s : State) : exec (.blockReadback read ch) s = .next (blockReadback
    read ch s) := rfl
theorem exec_ashlarVerified (trailers : Nat) (rowsOk : Bool) (s : State) : exec (.ashlarVerified trailers rowsOk) s = .next
    (ashlarVerified trailers rowsOk s) := rfl
theorem exec_lotChangeEffect (s : State) : exec (.lotChangeEffect) s = .next (lotChangeEffect s) := rfl
theorem exec_cartridgeInserted (c : Cartridge) (s : State) : exec (.cartridgeInserted c) s = .next (cartridgeInserted c s) :=
    rfl
theorem exec_ledgerLoad (ln : Ln) (s : State) : exec (.ledgerLoad ln) s = .next (ledgerLoad ln s) := rfl
theorem exec_ledgerLoadDone (threaded verified : Bool) (s : State) : exec (.ledgerLoadDone threaded verified) s = .next
    (ledgerLoadDone threaded verified s) := rfl
theorem exec_ledgerUnload (ln : Ln) (close : Bool) (s : State) : exec (.ledgerUnload ln close) s = .next (ledgerUnload ln
    close s) := rfl
theorem exec_ledgerUnloadDone (s : State) : exec (.ledgerUnloadDone) s = .next (ledgerUnloadDone s) := rfl
theorem exec_ledgerSeek (ln : Ln) (t : SeekTarget) (s : State) : exec (.ledgerSeek ln t) s = .next (ledgerSeek ln t s) := rfl
theorem exec_ledgerSeekDone (ok : Bool) (s : State) : exec (.ledgerSeekDone ok) s = .next (ledgerSeekDone ok s) := rfl
theorem exec_ledgerVerify (ln : Ln) (first last : Option Nat) (s : State) : exec (.ledgerVerify ln first last) s = .next
    (ledgerVerify ln first last s) := rfl
theorem exec_ledgerVerifyDone (s : State) : exec (.ledgerVerifyDone) s = .next (ledgerVerifyDone s) := rfl
theorem exec_ledgerReplay (ln : Ln) (serial count off len : Nat) (s : State) : exec (.ledgerReplay ln serial count off len) s
    = .next (ledgerReplay ln serial count off len s) := rfl
theorem exec_ledgerReplayDone (s : State) : exec (.ledgerReplayDone) s = .next (ledgerReplayDone s) := rfl
theorem exec_ledgerAbort (ln : Ln) (completion : Option Tick) (s : State) : exec (.ledgerAbort ln completion) s = .next
    (ledgerAbort ln completion s) := rfl
theorem exec_ledgerLinkLoss (s : State) : exec (.ledgerLinkLoss) s = .next (ledgerLinkLoss s) := rfl
theorem exec_transportFault (why : Nat) (s : State) : exec (.transportFault why) s = .next (transportFault why s) := rfl
theorem exec_transportSupplyCollapse (s : State) : exec (.transportSupplyCollapse) s = .next (transportSupplyCollapse s) :=
    rfl
theorem exec_journalMramFail (s : State) : exec (.journalMramFail) s = .next (journalMramFail s) := rfl
theorem exec_sealRead (who key addr len : Nat) (altered : Option (List Byte)) (s : State) : exec (.sealRead who key addr len
    altered) s = .next (sealReadBy who key addr len altered s) := rfl
theorem exec_sealWrite (who key addr : Nat) (data : List Byte) (altered : Bool) (s : State) : exec (.sealWrite who key addr
    data altered) s = .next (sealWriteCmd who key addr data altered s) := rfl
theorem exec_heldWriteTimeout (s : State) : exec (.heldWriteTimeout) s = .next (heldWriteTimeout s) := rfl
theorem exec_groutAccess (key addr : Nat) (wr : Option (List Byte)) (len : Nat) (s : State) : exec (.groutAccess key addr wr
    len) s = .next (groutAccess key addr wr len s) := rfl
theorem exec_wrongKeyAccess (who key addr : Nat) (s : State) : exec (.wrongKeyAccess who key addr) s = .next (wrongKeyAccess
    who key addr s) := rfl
theorem exec_eccUncorrectable (who addr : Nat) (s : State) : exec (.eccUncorrectable who addr) s = .next (eccUncorrectable who
    addr s) := rfl
theorem exec_rekeyPeriodExpire (slot : Nat) (s : State) : exec (.rekeyPeriodExpire slot) s = .next (rekeyPeriodExpire slot s)
    := rfl
theorem exec_rekeyBegin (s : State) : exec (.rekeyBegin) s = .next (rekeyBegin s) := rfl
theorem exec_rekeyRngRetry (s : State) : exec (.rekeyRngRetry) s = .next (rekeyRngRetry s) := rfl
theorem exec_repointLine (altered : Bool) (s : State) : exec (.repointLine altered) s = .next (repointLine altered s) := rfl
theorem exec_sealShow (ln : Ln) (slot : Option Nat) (s : State) : exec (.sealShow ln slot) s = .next (sealShow ln slot s) :=
    rfl
theorem exec_sealShowLedger (ln : Ln) (s : State) : exec (.sealShowLedger ln) s = .next (sealShowLedger ln s) := rfl
theorem exec_sealRekey (ln : Ln) (slot : Nat) (s : State) : exec (.sealRekey ln slot) s = .next (sealRekey ln slot s) := rfl
theorem exec_sealRekeyAbort (ln : Ln) (slot : Nat) (s : State) : exec (.sealRekeyAbort ln slot) s = .next (sealRekeyAbort ln
    slot s) := rfl
theorem exec_sealRekeyClear (ln : Ln) (slot : Nat) (s : State) : exec (.sealRekeyClear ln slot) s = .next (sealRekeyClear ln
    slot s) := rfl
theorem exec_sealRekeyLedger (ln : Ln) (s : State) : exec (.sealRekeyLedger ln) s = .next (sealRekeyLedger ln s) := rfl
theorem exec_sealRekeyLedgerImport (ln : Ln) (wrapped : List Byte) (s : State) : exec (.sealRekeyLedgerImport ln wrapped) s =
    .next (sealRekeyLedgerImport ln wrapped s) := rfl
theorem exec_lidSwitch (open_ : Bool) (s : State) : exec (.lidSwitch open_) s = .next (lidSwitch open_ s) := rfl
theorem exec_jtagInstruction (ir : JtagIr) (s : State) : exec (.jtagInstruction ir) s = .next (jtagInstruction ir s) := rfl
theorem exec_debugAccessBlocked (engine addr : Nat) (wr : Bool) (s : State) : exec (.debugAccessBlocked engine addr wr) s =
    .next (debugAccessBlocked engine addr wr s) := rfl
theorem exec_sealEngineFail (s : State) : exec (.sealEngineFail) s = .next (sealEngineFail s) := rfl
theorem exec_heartbeatSend (s : State) : exec (.heartbeatSend) s = .next (heartbeatSend s) := rfl
theorem exec_heartbeatReceive (b : Heartbeat) (s : State) : exec (.heartbeatReceive b) s = .next (heartbeatReceive b s) := rfl
theorem exec_epochCut (s : State) : exec (.epochCut) s = .next (epochCut s) := rfl
theorem exec_epochApply (e : Epoch) (s : State) : exec (.epochApply e) s = .next (epochApply e s) := rfl
theorem exec_crownSilenceTakeover (mramOk : Bool) (s : State) : exec (.crownSilenceTakeover mramOk) s = .next
    (crownSilenceTakeover mramOk s) := rfl
theorem exec_crownResend (n : Nat) (s : State) : exec (.crownResend n) s = .next (crownResend n s) := rfl
theorem exec_lineSyncRelease (s : State) : exec (.lineSyncRelease) s = .next (lineSyncRelease s) := rfl
theorem exec_fieldCrownSilence (s : State) : exec (.fieldCrownSilence) s = .next (fieldCrownSilence s) := rfl
theorem exec_transportCrownSilence (s : State) : exec (.transportCrownSilence) s = .next (transportCrownSilence s) := rfl
theorem exec_crownShow (ln : Ln) (s : State) : exec (.crownShow ln) s = .next (crownShow ln s) := rfl
theorem exec_crownYield (ln : Ln) (s : State) : exec (.crownYield ln) s = .next (crownYield ln s) := rfl
theorem exec_yieldAtCut (s : State) : exec (.yieldAtCut) s = .next (yieldAtCut s) := rfl
theorem exec_yieldTimeout (s : State) : exec (.yieldTimeout) s = .next (yieldTimeout s) := rfl
theorem exec_crownTake (ln : Ln) (mramOk : Bool) (s : State) : exec (.crownTake ln mramOk) s = .next (crownTake ln mramOk s)
    := rfl
theorem exec_peerLinkLoss (s : State) : exec (.peerLinkLoss) s = .next (peerLinkLoss s) := rfl
theorem exec_eventRecord (s : State) : exec (.eventRecord) s = .next (eventRecord s) := rfl
theorem exec_evFlush (s : State) : exec (.evFlush) s = .next (evFlush s) := rfl
theorem exec_evRead (ln : Ln) (start : Option Nat) (count : Option Nat) (min : Option Severity) (s : State) : exec (.evRead ln
    start count min) s = .next (evRead ln start count min s) := rfl
theorem exec_evFreeze (ln : Ln) (s : State) : exec (.evFreeze ln) s = .next (evFreeze ln s) := rfl
theorem exec_evThaw (ln : Ln) (s : State) : exec (.evThaw ln) s = .next (evThaw ln s) := rfl
theorem exec_evAutoThaw (s : State) : exec (.evAutoThaw) s = .next (evAutoThaw s) := rfl
theorem exec_evClear (ln : Ln) (range : Option (Nat × Nat)) (s : State) : exec (.evClear ln range) s = .next (evClear ln range
    s) := rfl
theorem exec_evMramFail (ceiling : Bool) (s : State) : exec (.evMramFail ceiling) s = .next (evMramFail ceiling s) := rfl
theorem exec_coolingFanStop (i : Nat) (s : State) : exec (.coolingFanStop i) s = .next (coolingFanStop i s) := rfl
theorem exec_overTemperature (t : Int) (s : State) : exec (.overTemperature t) s = .next (overTemperature t s) := rfl
theorem exec_supplyInputLost (b : Bool) (s : State) : exec (.supplyInputLost b) s = .next (supplyInputLost b s) := rfl
theorem exec_supplyInputRestored (b : Bool) (s : State) : exec (.supplyInputRestored b) s = .next (supplyInputRestored b s) :=
    rfl
theorem exec_referenceClockLock (s : State) : exec (.referenceClockLock) s = .next (referenceClockLock s) := rfl
theorem exec_rlAccept (port : Nat) (f : AcceptFrame) (s : State) : exec (.rlAccept port f) s = .next (rlAccept port f s) :=
    rfl
theorem exec_rlRefuse (port dconn : Nat) (reason : RefuseReason) (macOk : Bool) (s : State) : exec (.rlRefuse port dconn
    reason macOk) s = .next (rlRefuse port dconn reason macOk s) := rfl
theorem exec_peerConnectRetry (conn : Nat) (s : State) : exec (.peerConnectRetry conn) s = .next (peerConnectRetry conn s) :=
    rfl
theorem exec_keyStoreWriteComplete (ok : Bool) (s : State) : exec (.keyStoreWriteComplete ok) s = .next (keyStoreWriteComplete
    ok s) := rfl
theorem exec_conditionRecord (s : State) : exec (.conditionRecord) s = .next (conditionRecord s) := rfl
theorem exec_courseFieldSupplyReturn (n v : Nat) (s : State) : exec (.courseFieldSupplyReturn n v) s = .next
    (courseFieldSupplyReturn n v s) := rfl
theorem exec_fieldRxCrown (d : Dn) (gen : U32) (handover : Bool) (s : State) : exec (.fieldRxCrown d gen handover) s = .next
    (fieldRxCrown d gen handover s) := rfl
theorem exec_transportRxCrown (d : Dn) (gen : U32) (handover : Bool) (s : State) : exec (.transportRxCrown d gen handover) s =
    .next (transportRxCrown d gen handover s) := rfl
theorem exec_randomSourceRecovered (s : State) : exec (.randomSourceRecovered) s = .next (randomSourceRecovered s) := rfl
theorem exec_cartridgeRemoved (s : State) : exec (.cartridgeRemoved) s = .next (cartridgeRemoved s) := rfl

end Sys2Proof.Machine
end

