-- ==== Sys2Proof/Laws/Frame.lean ====
section
/-! SUPPORT. What an accepted Ramalink frame does: its meaning runs on the state that acceptance leaves. -/
namespace Sys2Proof.Machine

theorem State.arriveWith_accepted {s u : State} {h : RlHdr} {first : State → State} (a : s.AcceptsWith h first u)
    (body : State → State) : s.arriveWith h first body = body u := by
  obtain ⟨h1, h2, h3, v, y, h4, h5, rfl⟩ := a
  unfold State.arriveWith
  obtain ⟨h4, rfl⟩ | ⟨h4, h6, h7, rfl⟩ := h4
  · simp [h1, h2, h3, h4, h5]
  · simp [h1, h2, h3, h4, h5, h6]
    exact fun h9 => absurd h7 h9
theorem State.arrive_accepted {s u : State} {h : RlHdr} (a : s.Accepts h u) (body : State → State) :
    s.arrive h body = body u := by
  rw [State.arrive, State.arriveWith_accepted a.2, a.1]; rfl
theorem State.sequenced_accepted {s u : State} {h : RlHdr} (a : s.AcceptsNext h u) (body : State → State) :
    s.sequenced h body = body u := by
  obtain ⟨a, h1, h2⟩ := a
  rw [State.sequenced, State.arrive_accepted a, State.inOrder]
  simp [h1, h2]

end Sys2Proof.Machine
end

