-- ==== Sys2Proof/Machine/Wire.lean ====
section
/-! DEFINITION. What stands on the wires: the bytes of course frames (Tables 7.5, 7.6 and 15.4), of the queries on a probe
ring (Table 11.3) and of Ramalink frames (Tables 8.1 to 8.3 and 9.3; R270, R271, R273, R294), as functions of the frames that
the state holds. Every reserved byte is 0 (R9). -/
namespace Sys2Proof.Machine

/-! ### Course frames (R259, R502) -/

/-- Table 7.5: the 32 bytes of a frame. -/
def courseFrame (type : Nat) (seq : BitVec 16) (gen : U32) (body : List Byte) : List Byte :=
  let b := leBytes 1 type ++ [0] ++ leBytes 2 seq.toNat ++ leBytes 4 gen.toNat ++ padTo 20 body
  b ++ leBytes 4 (crc32 b).toNat
/-- Table 7.6: type and body of CONFIRM, COMMIT and DROP. -/
def maskBody (bank : Nat) (mask : BitVec 128) : List Byte := leBytes 2 bank ++ leBytes 16 mask.toNat
/-- Tables 7.6 and 15.4: type and body of a downlink frame. -/
def downBody : DownKind → Nat × List Byte
  | .sync t => (0x01, leBytes 6 t.toNat)
  | .config addr ws => (0x02, leBytes 2 addr ++ ws.flatMap fun w => leBytes 4 w.toNat)
  | .enable => (0x03, [])
  | .drain abort => (0x04, [if abort then 1 else 0])
  | .crown gen h handover => (0x05, leBytes 4 gen.toNat ++ leBytes 6 h.toNat ++ [if handover then 1 else 0])
  | .query addr groups => (0x06, leBytes 2 addr ++ leBytes 2 groups)
  | .echo t clk num => (0x07, leBytes 6 t.toNat ++ leBytes 1 clk ++ leBytes 1 num)
  | .plan p => (0x10,
      leBytes 2 p.slot ++ leBytes 1 p.ch ++ leBytes 1 (bitAt p.prov 0 + bitAt p.primed 1) ++ leBytes 1 p.ceil ++
        leBytes 1 p.profile ++ leBytes 6 p.start.toNat ++ leBytes 2 p.durUs ++ leBytes 2 p.leadUs)
  | .confirm bank mask => (0x11, maskBody bank mask)
  | .commit bank mask => (0x12, maskBody bank mask)
  | .drop bank mask => (0x13, maskBody bank mask)
  | .extend slot durUs => (0x14, leBytes 2 slot ++ leBytes 2 durUs)
  | .idle => (0x1F, [])
/-- A downlink frame on the wire, under the generation of the sender's crown. -/
def State.downBytes (s : State) (f : DownFrame) : List Byte :=
  courseFrame (downBody f.kind).1 f.seq s.crown.gen (downBody f.kind).2
/-- The code of a course state (Table 7.6). -/
def courseCode : CourseState → Nat
  | .off => 0 | .enabling => 1 | .on => 2 | .draining => 3
/-- Table 7.6: STATUS; bit 0 of byte 24 is CROWN-LIVE (R492). -/
def statusBytes (seq : BitVec 16) (gen : U32) (f : StatusFrame) : List Byte :=
  let phases := (f.phases.take 6).zipIdx.foldl (fun a q => a + q.1 % 16 * 16 ^ q.2) 0
  courseFrame 0x81 seq gen
    (leBytes 1 (courseCode f.st) ++ [if f.ready then 1 else 0] ++ leBytes 2 f.bankV ++ leBytes 2 f.fieldV ++ leBytes 3 phases ++
      leBytes 1 f.n ++ leBytes 6 f.tick.toNat ++ [if f.crownLive then 1 else 0])
/-- Table 7.6: END. -/
def endBytes (seq : BitVec 16) (gen : U32) (f : EndBody) : List Byte :=
  courseFrame 0x82 seq gen
    (leBytes 2 f.slot ++ leBytes 1 f.code ++ [if f.primed then 1 else 0] ++ leBytes 6 f.release.toNat)
/-- Table 7.6: ACK. -/
def ackBytes (seq : BitVec 16) (gen : U32) (acked : BitVec 16) : List Byte := courseFrame 0x83 seq gen (leBytes 2 acked.toNat)
/-- Table 7.6: READBACK. -/
def readbackBytes (seq : BitVec 16) (gen : U32) (addr : Nat) (ws : List U32) : List Byte :=
  courseFrame 0x84 seq gen (leBytes 2 addr ++ (ws.take 4).flatMap fun w => leBytes 4 w.toNat)
/-- Table 7.6: ECHO-REPLY. -/
def echoReplyBytes (seq : BitVec 16) (gen : U32) (t : Tick) (clk num hold : Nat) : List Byte :=
  courseFrame 0x85 seq gen (leBytes 6 t.toNat ++ leBytes 1 clk ++ leBytes 1 num ++ leBytes 4 hold)

/-! ### Queries on a probe ring (Table 11.3) -/

/-- The 8 bytes of a query. -/
def queryBytes (type hop dist seq : Nat) : List Byte :=
  let b := [0xA5#8] ++ leBytes 1 type ++ leBytes 1 hop ++ leBytes 1 dist ++ leBytes 1 seq ++ [0]
  b ++ leBytes 2 (queryCrc b)
/-- The query that the Keystone has under way on a ring; a READ starts with as many hops as its distance. -/
def Ring.queryBytes (x : Ring) : Option (List Byte) :=
  match x.query, x.sweep with
  | some (_, type, dist), some w => some (Sys2Proof.Machine.queryBytes type dist dist w.number.toNat)
  | _, _ => none

/-! ### Ramalink frames -/

/-- Tables 8.3 and 9.3: the opcodes. -/
def rlOpcode : RlOp → Nat
  | .write => 0x01 | .writeNotice => 0x02 | .readReq => 0x03 | .readResp => 0x04 | .send => 0x05 | .atomicAdd => 0x06
  | .atomicResp => 0x07 | .ack => 0x10 | .nak => 0x11 | .rekey => 0x20 | .rekeyAck => 0x21 | .rekeyReq => 0x22
  | .connect => 0x30 | .accept => 0x31 | .refuse => 0x32 | .disconnect => 0x33 | .groupPost => 0x40 | .groupDeliver => 0x41
  | .groupDone => 0x42 | .groupResult => 0x43
/-- ACKREQ of a frame that is sent: set in a REKEY (Table 8.13), free in the others. -/
def TxFrame.asksAck (f : TxFrame) : Bool := encrypted f.op && (f.op == .rekey || Config.asksAck f.epoch f.fseq)
/-- Table 8.2: the header of a frame that is sent. -/
def TxFrame.header (f : TxFrame) : List Byte :=
  let enc := encrypted f.op
  leBytes 1 (1 + bitAt enc 4 + bitAt f.asksAck 5 + bitAt f.first 6 + bitAt f.last 7) ++ leBytes 1 (rlOpcode f.op) ++
    leBytes 2 f.dconn ++ leBytes 4 f.psn.toNat ++ leBytes 4 f.ack.toNat ++ leBytes 4 (if enc then f.epoch.toNat else 0) ++
    leBytes 6 (if enc then f.fseq else 0) ++ leBytes 2 f.payload.length ++ leBytes 4 f.rkey.toNat ++ leBytes 4 f.offset.toNat
/-- R274: the key K(d, e) of a connection, d being 1 from Keystone to partner. -/
def Conn.frameKey (x : Conn) (d : Nat) (e : U32) : List Byte :=
  hkdfExpand x.prk (bytesOf "RAMALINK KEY" ++ leBytes 1 d ++ leBytes 4 e.toNat) 32
/-- The direction in which the Keystone sends on a connection: that of the partner where it sent the CONNECT (R491). -/
def Conn.sendDir (x : Conn) : Nat := if x.opening then 0 else 1
/-- R294: the IV of a frame. -/
def frameIv (e : U32) (f : Nat) : List Byte := beBytes 4 e.toNat ++ beBytes 8 f
/-- R294: payload and tag of a frame, encrypted under `key`. -/
def TxFrame.sealed (f : TxFrame) (key : List Byte) : List Byte :=
  let iv := frameIv f.epoch f.fseq
  let c := gcmText key iv f.payload
  c ++ gcmTag key iv f.header c
/-- Header, payload and tag of a frame that port `p` sends. -/
def State.frameData (s : State) (f : TxFrame) : List Byte :=
  match f.conn with
  | some c => f.header ++ f.sealed ((s.conn c).frameKey (s.conn c).sendDir f.epoch)
  | none => f.header ++ f.payload
/-- R329: the group address of group `g`, from which and to which the Keystone sends nothing. -/
def groupMac (g : Nat) : List Byte := [0x03, 0x4B, 0x59, 0x00, 0x00, BitVec.ofNat 8 g]
/-- The destination that a received frame carried (R270, R329): that of its port, a group's, or another. -/
def EthDest.mac (p : Nat) : EthDest → Option (List Byte)
  | .port => some (padTo 6 (Config.portMac p))
  | .group g => some (groupMac g)
  | .other => none
/-- Table 8.1, R270, R271: a frame on the wire of port `p`, from its destination to its FCS. -/
def State.frameBytes (s : State) (p : Nat) (f : TxFrame) : List Byte :=
  let tag := if s.on (portP 2 p) then [0x81#8, 0x00#8] ++ beBytes 2 (s.num (portP 4 p) * 2 ^ 13 + s.num (portP 3 p)) else []
  let b := padTo 6 f.dest ++ padTo 6 (Config.portMac p) ++ tag ++ beBytes 2 (s.num (portP 1 p)) ++ s.frameData f
  let b := b ++ List.replicate (60 - b.length) 0
  b ++ leBytes 4 (crc32 b).toNat
/-- What the MAC of port `p` sends (R319). -/
def State.macBytes (s : State) (p : Nat) : Option (List Byte) := (s.port p).mac.map fun m => s.frameBytes p m.1

end Sys2Proof.Machine
end

