-- ==== Sys2Proof/Laws/Images.lean ====
section
/-! SUPPORT. The lengths of what stands on the wires and on tape. -/
namespace Sys2Proof.Machine

@[simp] theorem leBytes_len (n v : Nat) : (leBytes n v).length = n := by
  induction n generalizing v <;> simp [leBytes, *]
@[simp] theorem beBytes_len (n v : Nat) : (beBytes n v).length = n := by simp [beBytes]
@[simp] theorem padTo_len (n : Nat) (l : List Byte) : (padTo n l).length = n := by simp [padTo]
@[simp] theorem sliceB_len (l : List Byte) (i n : Nat) : (sliceB l i n).length = n := by simp [sliceB]
/-- Table 7.5. -/
@[simp] theorem courseFrame_len (t : Nat) (q : BitVec 16) (g : U32) (b : List Byte) : (courseFrame t q g b).length = 32 := by
  simp [courseFrame]
/-- Table 11.3. -/
@[simp] theorem queryBytes_len (t h d q : Nat) : (queryBytes t h d q).length = 8 := by simp [queryBytes]
/-- Table 8.2. -/
@[simp] theorem TxFrame.header_len (f : TxFrame) : f.header.length = 32 := by simp [TxFrame.header]
/-- Table 12.7. -/
@[simp] theorem rowHeader_len (q m r c : Nat) (x y : Bool) : (rowHeader q m r c x y).length = 8 := by simp [rowHeader]
/-- Table 12.8. -/
@[simp] theorem trailerOf_len (c : Cartridge) (a : Ashlar) (h : Nat) : (trailerOf c a h).length = 132 := by simp [trailerOf]
/-- Table 12.9. -/
@[simp] theorem ashlarHeader_len (c : Cartridge) (a : Ashlar) : (ashlarHeader c a).length = 4096 := by simp [ashlarHeader]
/-- The record area (R404). -/
@[simp] theorem areaOf_len (a : Ashlar) : (areaOf a).length = areaBytes := by simp [areaOf]

end Sys2Proof.Machine
end

