-- ==== Sys2Proof/Laws/KeptCore.lean ====
section
/-! SUPPORT. What the state’s own operations, parameters, clock, recorder, plumb model and air keep: the queue, the tick, the FACTORY bank and the DRAM (`State.kept`). -/
namespace Sys2Proof.Machine

/-! ### Ops.lean -/
@[simp] theorem State.updCourse_kept (s : State) (n : Nat) (f : Course → Course) : (s.updCourse n f).kept = s.kept := by
  simp [State.updCourse]
@[simp] theorem State.updDev_kept (s : State) (n : Nat) (f : CourseDev → CourseDev) : (s.updDev n f).kept = s.kept := by
  simp [State.updDev]
@[simp] theorem State.updConn_kept (s : State) (c : Nat) (f : Conn → Conn) : (s.updConn c f).kept = s.kept := by
  simp [State.updConn]
@[simp] theorem State.updPort_kept (s : State) (p : Nat) (f : Port → Port) : (s.updPort p f).kept = s.kept := by
  simp [State.updPort]
@[simp] theorem State.updSource_kept (s : State) (n : Nat) (f : Source → Source) : (s.updSource n f).kept = s.kept := by
  simp [State.updSource]
@[simp] theorem State.updTicket_kept (s : State) (t : Nat) (f : Ticket → Ticket) : (s.updTicket t f).kept = s.kept := by
  simp [State.updTicket]
@[simp] theorem State.updFan_kept (s : State) (n : Nat) (f : Fan → Fan) : (s.updFan n f).kept = s.kept := by
  simp [State.updFan]
@[simp] theorem State.updRing_kept (s : State) (r : Nat) (f : Ring → Ring) : (s.updRing r f).kept = s.kept := by
  simp [State.updRing]
@[simp] theorem State.updLoop_kept (s : State) (n : Nat) (f : Loop → Loop) : (s.updLoop n f).kept = s.kept := by
  simp [State.updLoop]
@[simp] theorem State.updZone_kept (s : State) (z : Nat) (f : Zone → Zone) : (s.updZone z f).kept = s.kept := by
  simp [State.updZone]
@[simp] theorem State.updManifold_kept (s : State) (m : Nat) (f : Manifold → Manifold) : (s.updManifold m f).kept = s.kept := by
  simp [State.updManifold]
@[simp] theorem State.updChute_kept (s : State) (n : Nat) (f : Chute → Chute) : (s.updChute n f).kept = s.kept := by
  simp [State.updChute]
@[simp] theorem State.updSlot_kept (s : State) (i : Nat) (f : KeySlot → KeySlot) : (s.updSlot i f).kept = s.kept := by
  simp [State.updSlot]
@[simp] theorem State.updGroup_kept (s : State) (g : Nat) (f : Group → Group) : (s.updGroup g f).kept = s.kept := by
  simp [State.updGroup]
@[simp] theorem State.updLink_kept (s : State) (l : LinkId) (f : LinkCtl → LinkCtl) : (s.updLink l f).kept = s.kept := by
  unfold State.updLink
  split <;> simp
@[simp] theorem State.drew_kept (s : State) : s.drew.kept = s.kept := by simp [State.drew]
@[simp] theorem State.startBase_kept (s : State) : s.startBase.kept = s.kept := rfl
@[simp] theorem State.raise_kept (s : State) (e : Event) : (s.raise e).kept = s.kept := by simp [State.raise]
@[simp] theorem State.event_kept (s : State) (code : Nat) (kind : Nat) (index : Nat) (p0 : Nat) (p1 : Nat) (p2 : Nat) (p3 :
    Nat) : (s.event code kind index p0 p1 p2 p3).kept = s.kept := by
  simp [State.event]
@[simp] theorem State.makeRecord_kept (s : State) (typ : Nat) (line : Option Line) (body : List Byte) : (s.makeRecord typ line
    body).kept = s.kept := by
  simp [State.makeRecord]
@[simp] theorem State.updSession_kept (s : State) (i : Nat) (f : Session → Session) : (s.updSession i f).kept = s.kept := by
  simp [State.updSession]
@[simp] theorem State.say_kept (s : State) (i : Nat) (o : OutLine) : (s.say i o).kept = s.kept := by simp [State.say]
@[simp] theorem State.answer_kept (s : State) (ln : Ln) (o : Out) : (s.answer ln o).kept = s.kept := by simp [State.answer]
@[simp] theorem State.pend_kept (s : State) (ln : Ln) (op : PendOp) (text : String) : (s.pend ln op text).kept = s.kept := by
  simp [State.pend]
@[simp] theorem State.finish_kept (s : State) (p : PendOp → Bool) (o : Out) : (s.finish p o).kept = s.kept :=
  foldl_kept _ (by simp) _ _
@[simp] theorem refuse_kept (s : State) (code : Nat) (detail : String) : (refuse s code detail).1.kept = s.kept := by
  simp [refuse]
@[simp] theorem done_kept (s : State) (text : String) : (done s text).1.kept = s.kept := by simp [done]
@[simp] theorem State.startOp_kept (s : State) (ln : Ln) (op : PendOp) (text : String) (f : State → State)
    (h : ∀ s, (f s).kept = s.kept) : (s.startOp ln op text f).1.kept = s.kept := by
  unfold State.startOp
  split <;> simp [h]
@[simp] theorem State.prompt_kept (s : State) (i : Nat) : (s.prompt i).kept = s.kept := by simp [State.prompt]
@[simp] theorem State.replied_kept (s : State) (ln : Ln) (o : Out) : (s.replied ln o).kept = s.kept := by simp [State.replied]
@[simp] theorem State.lineTaken_kept (s : State) (ln : Ln) : (s.lineTaken ln).kept = s.kept := by simp [State.lineTaken]
@[simp] theorem State.lineDropped_kept (s : State) (i : Nat) : (s.lineDropped i).kept = s.kept := by simp [State.lineDropped]
@[simp] theorem State.lineAgain_kept (s : State) (i : Nat) : (s.lineAgain i).kept = s.kept := by simp [State.lineAgain]
@[simp] theorem State.lineRefused_kept (s : State) (i : Nat) (text : List Byte) (c : Nat) :
    (s.lineRefused i text c).kept = s.kept := by
  unfold State.lineRefused
  dsimp only
  split <;> simp
theorem State.verb_kept (s : State) (ln : Ln) (need : Level) (body : State → VerbRes)
    (h : ∀ s, (body s).1.kept = s.kept) : (s.verb ln need body).kept = s.kept := by
  unfold State.verb
  split
  · rfl
  · simp
  · simp
  · simp
  · split
    · rfl
    · refine (State.prompt_kept _ _).trans ?_
      have e : ∀ r : VerbRes, r.1.kept = s.kept → (match r.2 with
          | none => r.1
          | some o => r.1.answer ln o).kept = s.kept := fun r e => by split <;> simp [e]
      exact e _ (by split <;> simp [h])
@[simp] theorem State.spendFresh_kept (s : State) (ln : Ln) : (s.spendFresh ln).kept = s.kept := by simp [State.spendFresh]

/-! ### Params.lean -/
@[simp] theorem State.setRaw_kept (s : State) (id : Nat) (e : Nat) (v : Int) : (s.setRaw id e v).kept = s.kept := by
  unfold State.setRaw
  split <;> rfl
@[simp] theorem State.setText_kept (s : State) (id : Nat) (t : List Byte) : (s.setText id t).kept = s.kept := by
  simp [State.setText]
@[simp] theorem State.setRaws_kept (s : State) (l : List ParamVal) : (s.setRaws l).kept = s.kept :=
  foldl_kept _ (by simp) _ _
@[simp] theorem State.stage_kept (s : State) (id : Nat) (v : Int) (ses : Nat) : (s.stage id v ses).kept = s.kept := by
  simp [State.stage]
@[simp] theorem State.unstage_kept (s : State) (ids : List Nat) : (s.unstage ids).kept = s.kept := by simp [State.unstage]
@[simp] theorem State.commitSet_kept (s : State) (b : Bond) (l : List ParamVal) : (s.commitSet b l).kept = s.kept := by
  simp [State.commitSet]
@[simp] theorem State.dropCommitted_kept (s : State) (b : Bond) : (s.dropCommitted b).kept = s.kept := by
  simp [State.dropCommitted]
@[simp] theorem State.takeCommitted_kept (s : State) (b : Bond) : (s.takeCommitted b).kept = s.kept := by
  unfold State.takeCommitted
  split <;> simp
@[simp] theorem State.putBank_kept (s : State) (i : BankId) (b : Bank) (ok : Bool) : (s.putBank i b ok).kept = s.kept := by
  unfold State.putBank
  split
  · rfl
  · next h => cases i <;> first | rfl | exact absurd rfl h
@[simp] theorem State.checkBanks_kept (s : State) : s.checkBanks.kept = s.kept := by simp [State.checkBanks]
@[simp] theorem State.loadRecs_kept (s : State) (c : PClass) (recs : List BankRec) : (s.loadRecs c recs).kept = s.kept := by
  simp [State.loadRecs]
@[simp] theorem State.loadKeys_kept (s : State) (recs : List BankRec) : (s.loadKeys recs).kept = s.kept := by
  unfold State.loadKeys
  refine foldl_kept _ (fun s x => ?_) _ _
  dsimp only
  (repeat' split) <;> simp
@[simp] theorem State.noteAbsent_kept (s : State) (recs : List BankRec) : (s.noteAbsent recs).kept = s.kept :=
  foldl_kept _ (by simp [apply_ite State.kept]) _ _

/-! ### SealCore.lean -/
@[simp] theorem State.putMeta_kept (s : State) (slot : Nat) (line : Nat) (ctr : BitVec 28) (poison : Bool) : (s.putMeta slot
    line ctr poison).kept = s.kept := by
  simp [State.putMeta]
@[simp] theorem State.unqueueRekey_kept (s : State) (slot : Nat) :
    (s.unqueueRekey slot).kept = s.kept := by
  unfold State.unqueueRekey
  (try dsimp only)
  (repeat' split) <;> simp
@[simp] theorem State.cancelRekey_kept (s : State) (slot : Nat) :
    (s.cancelRekey slot).kept = s.kept := by
  unfold State.cancelRekey
  (try dsimp only)
  (repeat' split) <;> simp
@[simp] theorem State.queueRekey_kept (s : State) (r : RekeyReq) : (s.queueRekey r).kept = s.kept := by
  unfold State.queueRekey
  split <;> simp
@[simp] theorem State.counterRekey_kept (s : State) (slot : Nat) (line : Nat) : (s.counterRekey slot line).kept = s.kept := by
  unfold State.counterRekey
  split <;> simp
@[simp] theorem State.advance_kept (s : State) (slot : Nat) (line : Nat) (poison : Bool) : (s.advance slot line poison).kept =
    s.kept := by
  simp [State.advance, apply_ite State.kept]
@[simp] theorem State.noteHeld_kept (s : State) (slot : Nat) (line : Nat) : (s.noteHeld slot line).kept = s.kept := by
  simp [State.noteHeld, apply_ite State.kept]

/-! ### WakeCore.lean -/
@[simp] theorem State.openSession_kept (s : State) (i : Nat) (conn : Option Nat) : (s.openSession i conn).kept = s.kept := by
  simp [State.openSession]
@[simp] theorem State.send_kept (s : State) (l : LinkId) (k : DownKind) : (s.send l k).kept = s.kept := by
  unfold State.send
  split <;> simp
@[simp] theorem State.sends_kept (s : State) (l : LinkId) (ks : List DownKind) : (s.sends l ks).kept = s.kept :=
  foldl_kept _ (by simp) _ _
@[simp] theorem State.crownOn_kept (s : State) (gen : U32) (h : Tick) (handover : Bool) (l : LinkId) : (s.crownOn gen h
    handover l).kept = s.kept := by
  simp [State.crownOn]
@[simp] theorem State.offerCrown_kept (s : State) : s.offerCrown.kept = s.kept :=
  foldl_kept _ (by simp) _ _
@[simp] theorem State.holdCrown_kept (s : State) (g : U32) : (s.holdCrown g).kept = s.kept := by simp [State.holdCrown]
@[simp] theorem State.crownAtWaking_kept (s : State) : s.crownAtWaking.kept = s.kept := by
  unfold State.crownAtWaking
  split <;> simp
@[simp] theorem State.wakingEnds_kept (s : State) (u : UnitState) : (s.wakingEnds u).kept = s.kept := by
  simp [State.wakingEnds, apply_ite State.kept]

/-! ### Clock.lean -/
@[simp] theorem State.updatePage_kept (s : State) : s.updatePage.kept = s.kept := by
  unfold State.updatePage
  split <;> simp
@[simp] theorem State.leaveWaking_kept (s : State) (u : UnitState) : (s.leaveWaking u).kept = s.kept := by
  unfold State.leaveWaking
  split <;> simp
@[simp] theorem State.enter_kept (s : State) (u : UnitState) : (s.enter u).kept = s.kept := by simp [State.enter]
@[simp] theorem State.lotRecord_kept (s : State) (kind : Nat) (line : Line) (lot : U32) (name : List Byte) : (s.lotRecord kind
    line lot name).kept = s.kept := by
  unfold State.lotRecord
  split <;> simp
@[simp] theorem State.lotEffect_kept (s : State) : s.lotEffect.kept = s.kept := by
  unfold State.lotEffect
  split <;> simp
@[simp] theorem State.startLineSync_kept (s : State) : s.startLineSync.kept = s.kept := by simp [State.startLineSync]
@[simp] theorem State.syncEffect_kept (s : State) : s.syncEffect.kept = s.kept := by simp [State.syncEffect]
@[simp] theorem State.stopLineSync_kept (s : State) : s.stopLineSync.kept = s.kept := by
  unfold State.stopLineSync
  dsimp only
  (repeat' split) <;> simp_all
@[simp] theorem State.outsFall_kept (s : State) :
    s.outsFall.kept = s.kept := by
  unfold State.outsFall
  (try dsimp only)
  (repeat' split) <;> simp
@[simp] theorem State.issueEdge_kept (s : State) : s.issueEdge.kept = s.kept := by
  simp [State.issueEdge, apply_ite State.kept]
@[simp] theorem lineSyncEdge_kept (s : State) : (lineSyncEdge s).kept = s.kept := by
  simp [lineSyncEdge, apply_ite State.kept]
@[simp] theorem timePageUpdate_kept (s : State) : (timePageUpdate s).kept = s.kept := by
  unfold timePageUpdate
  split <;> simp
@[simp] theorem lotChangeEffect_kept (s : State) : (lotChangeEffect s).kept = s.kept := by
  unfold lotChangeEffect
  split <;> simp

/-! ### Recorder.lean -/
@[simp] theorem State.ringAdd_kept (s : State) (r : EventRec) : (s.ringAdd r).kept = s.kept := by simp [State.ringAdd]
@[simp] theorem State.flush_kept (s : State) : s.flush.kept = s.kept := by
  unfold State.flush
  split <;> simp
@[simp] theorem State.record_kept (s : State) (e : Event) : (s.record e).kept = s.kept := by
  simp [State.record, apply_ite State.kept]
@[simp] theorem State.countFrozen_kept (s : State) (e : Event) : (s.countFrozen e).kept = s.kept := by
  simp [State.countFrozen]
@[simp] theorem State.takeEvent_kept (s : State) (e : Event) : (s.takeEvent e).kept = s.kept := by
  simp [State.takeEvent, apply_ite State.kept]
@[simp] theorem eventRecord_kept (s : State) : (eventRecord s).kept = s.kept := by
  unfold eventRecord
  (repeat' split) <;> simp
@[simp] theorem State.fixNumbering_kept (s : State) (next : U32) : (s.fixNumbering next).kept = s.kept :=
  foldl_kept _ (by simp) _ _
@[simp] theorem State.restoreStore_kept (s : State) (headerBad : Bool) (bad : List U32) : (s.restoreStore headerBad bad).kept
    = s.kept := by
  unfold State.restoreStore
  dsimp only
  (repeat' split) <;> simp_all
@[simp] theorem evFlush_kept (s : State) : (evFlush s).kept = s.kept := by
  unfold evFlush
  split <;> simp
@[simp] theorem State.thaw_kept (s : State) : s.thaw.kept = s.kept := by
  simp [State.thaw, apply_ite State.kept]
@[simp] theorem evFreeze_kept (ln : Ln) (s : State) : (evFreeze ln s).kept = s.kept := by
  unfold evFreeze
  exact State.verb_kept _ _ _ _ fun s => by (repeat' split) <;> simp
@[simp] theorem evThaw_kept (ln : Ln) (s : State) : (evThaw ln s).kept = s.kept := by
  unfold evThaw
  exact State.verb_kept _ _ _ _ fun s => by (repeat' split) <;> simp
@[simp] theorem evAutoThaw_kept (s : State) : (evAutoThaw s).kept = s.kept := by
  unfold evAutoThaw
  (repeat' split) <;> simp
@[simp] theorem evRead_kept (ln : Ln) (start : Option Nat) (count : Option Nat) (min : Option Severity) (s : State) : (evRead
    ln start count min s).kept = s.kept := by
  unfold evRead
  exact State.verb_kept _ _ _ _ fun s => by simp [apply_ite State.kept, apply_ite Prod.fst]
@[simp] theorem State.clearRecs_kept (s : State) (ln : Ln) (range : Option (U32 × U32)) : (s.clearRecs ln range).1.kept =
    s.kept := by
  simp [State.clearRecs]
@[simp] theorem evClear_kept (ln : Ln) (range : Option (Nat × Nat)) (s : State) : (evClear ln range s).kept = s.kept := by
  unfold evClear
  exact State.verb_kept _ _ _ _ fun s => by
    dsimp only
    (repeat' split) <;> simp_all
@[simp] theorem unsolicitedLineSend_kept (ses : Nat) (s : State) : (unsolicitedLineSend ses s).kept = s.kept := by
  unfold unsolicitedLineSend
  (repeat' split) <;> simp
@[simp] theorem suppressionLine_kept (ses : Nat) (s : State) : (suppressionLine ses s).kept = s.kept := by
  simp [suppressionLine]

/-! ### Plumb.lean -/
@[simp] theorem State.noteSaturated_kept (s : State) (n : Nat) (col : Nat) (l : List Int) : (s.noteSaturated n col l).kept =
    s.kept :=
  foldl_kept _ (by simp [apply_ite State.kept]) _ _
@[simp] theorem State.buildTable_kept (s : State) (n : Nat) : (s.buildTable n).kept = s.kept := by simp [State.buildTable]
@[simp] theorem State.buildTables_kept (s : State) : s.buildTables.kept = s.kept :=
  foldl_kept _ (by simp) _ _
@[simp] theorem State.resetCorr_kept (s : State) (n : Nat) : (s.resetCorr n).kept = s.kept := by
  simp [State.resetCorr, foldl_kept]
@[simp] theorem State.countPlumb_kept (s : State) (n : Nat) (k : TicketSlot) (band : Nat) : (s.countPlumb n k band).kept =
    s.kept := by
  simp [State.countPlumb]
@[simp] theorem moistureUpdate_kept (s : State) : (moistureUpdate s).kept = s.kept := by
  simp [moistureUpdate, apply_ite State.kept]
@[simp] theorem outletAvgMissing_kept (s : State) : (outletAvgMissing s).kept = s.kept := by
  unfold outletAvgMissing
  split <;> simp

/-! ### Air.lean -/
@[simp] theorem State.fixRho_kept (s : State) (m : Nat) : (s.fixRho m).kept = s.kept := by simp [State.fixRho]
@[simp] theorem State.airAtWaking_kept (s : State) : s.airAtWaking.kept = s.kept :=
  foldl_kept _ (by simp) _ _
@[simp] theorem State.cutLevel_kept (s : State) (m : Nat) : (s.cutLevel m).kept = s.kept := by simp [State.cutLevel]
@[simp] theorem State.releaseHold_kept (s : State) (m : Nat) : (s.releaseHold m).kept = s.kept := by
  unfold State.releaseHold
  split <;> simp
@[simp] theorem State.airFixed_kept (s : State) (m : Nat) : (s.airFixed m).kept = s.kept := by
  unfold State.airFixed
  split <;> simp
@[simp] theorem State.addHard_kept (s : State) (m : Nat) (d : Nat) : (s.addHard m d).kept = s.kept := by simp [State.addHard]
@[simp] theorem State.subHard_kept (s : State) (m : Nat) (d : Nat) : (s.subHard m d).kept = s.kept := by simp [State.subHard]
@[simp] theorem State.addSoft_kept (s : State) (m : Nat) (d : Nat) : (s.addSoft m d).kept = s.kept := by simp [State.addSoft]
@[simp] theorem State.subSoft_kept (s : State) (m : Nat) (d : Nat) : (s.subSoft m d).kept = s.kept := by simp [State.subSoft]
@[simp] theorem State.preempt_kept (s : State) (m : Nat) (l : List Ticket) (x : Int) : (s.preempt m l x).kept = s.kept := by
  induction l generalizing s x with
  | nil => simp [State.preempt]
  | cons r rest ih => unfold State.preempt; split <;> simp [ih]
theorem State.claimHard_kept {s t : State} {m d : Nat} {x : Tick} (h : s.claimHard m d x = some t) : t.kept = s.kept := by
  unfold State.claimHard at h
  dsimp only at h
  split at h
  · cases h
  · cases h; simp [State.addHard]
theorem State.commitAir_kept {s t : State} {m d : Nat} (h : s.commitAir m d = some t) : t.kept = s.kept := by
  unfold State.commitAir at h
  dsimp only at h
  split at h
  · cases h
  · cases h; simp
@[simp] theorem airPressureSample_kept (m : Nat) (s : State) : (airPressureSample m s).kept = s.kept := by
  simp [airPressureSample, apply_ite State.kept]
@[simp] theorem airQuietWindow_kept (m : Nat) (s : State) : (airQuietWindow m s).kept = s.kept := by
  simp [airQuietWindow, apply_ite State.kept]
@[simp] theorem airHoldRelease_kept (m : Nat) (s : State) : (airHoldRelease m s).kept = s.kept := by
  unfold airHoldRelease
  (repeat' split) <;> simp

end Sys2Proof.Machine
end

