-- ==== Sys2Proof/Laws/KeptTickets.lean ====
section
/-! SUPPORT. What sessions, links and tickets keep: the queue, the tick, the FACTORY bank and the DRAM (`State.kept`). -/
namespace Sys2Proof.Machine

/-! ### Fjart.lean -/
@[simp] theorem State.endSession_kept (s : State) (i : Nat) : (s.endSession i).kept = s.kept := by
  unfold State.endSession
  split <;> simp
@[simp] theorem State.receiveLine_kept (s : State) (i : Nat) (text : List Byte) (bad : Bool) : (s.receiveLine i text bad).kept
    = s.kept := by
  unfold State.receiveLine
  (repeat' split) <;> simp
@[simp] theorem State.receiveText_kept (s : State) (i : Nat) (payload : List Byte) : (s.receiveText i payload).kept = s.kept
    := by
  simp [State.receiveText, foldl_kept, apply_ite State.kept]
@[simp] theorem State.consoleEnd_kept (s : State) (b : Byte) : (s.consoleEnd b).kept = s.kept := by
  unfold State.consoleEnd
  (repeat' split) <;> simp
@[simp] theorem consoleChar_kept (b : Byte) (err : Bool) (s : State) : (consoleChar b err s).kept = s.kept := by
  unfold consoleChar
  (repeat' split) <;> simp
@[simp] theorem consoleBreak_kept (s : State) : (consoleBreak s).kept = s.kept := by simp [consoleBreak]
@[simp] theorem fjartLineRefused_kept (ses : Nat) (text : List Byte) (s : State) : (fjartLineRefused ses text s).kept = s.kept
    := by
  unfold fjartLineRefused
  (repeat' split) <;> simp
@[simp] theorem tagRepeat_kept (ses : Nat) (text : List Byte) (s : State) : (tagRepeat ses text s).kept = s.kept := by
  unfold tagRepeat
  (repeat' split) <;> simp
@[simp] theorem modeSet_kept (ln : Ln) (m : SesMode) (s : State) : (modeSet ln m s).kept = s.kept := by
  unfold modeSet
  exact State.verb_kept _ _ _ _ fun s => by (repeat' split) <;> simp
@[simp] theorem modeEvents_kept (ln : Ln) (l : EvLevel) (s : State) : (modeEvents ln l s).kept = s.kept := by
  unfold modeEvents
  exact State.verb_kept _ _ _ _ fun s => by (repeat' split) <;> simp
@[simp] theorem State.grant_kept (s : State) (ses : Nat) (lv : Level) (who : List Byte) : (s.grant ses lv who).kept = s.kept
    := by
  simp [State.grant]
@[simp] theorem State.challenge_kept (s : State) (ses : Nat) (lv : Level) (who : List Byte) : (s.challenge ses lv who).1.kept
    = s.kept := by
  simp [State.challenge]
@[simp] theorem login_kept (ln : Ln) (lv : Level) (who : List Byte) (s : State) : (login ln lv who s).kept = s.kept := by
  unfold login
  exact State.verb_kept _ _ _ _ fun s => by
    dsimp only
    (repeat' split) <;> simp_all
@[simp] theorem State.failLogin_kept (s : State) (ses : Nat) (c : Challenge) : (s.failLogin ses c).kept = s.kept := by
  simp [State.failLogin, apply_ite State.kept]
@[simp] theorem loginAnswer_kept (ln : Ln) (resp : U32) (s : State) : (loginAnswer ln resp s).kept = s.kept := by
  unfold loginAnswer
  exact State.verb_kept _ _ _ _ fun s => by (repeat' split) <;> simp [apply_ite State.kept, apply_ite Prod.fst]
@[simp] theorem logout_kept (ln : Ln) (s : State) : (logout ln s).kept = s.kept := by
  unfold logout
  exact State.verb_kept _ _ _ _ fun s => by simp
@[simp] theorem consoleIdleLogout_kept (s : State) : (consoleIdleLogout s).kept = s.kept := by simp [consoleIdleLogout]
@[simp] theorem loginLockoutEnd_kept (ses : Nat) (s : State) : (loginLockoutEnd ses s).kept = s.kept := by
  simp [loginLockoutEnd]

/-! ### Links.lean -/
@[simp] theorem State.startEchoes_kept (s : State) (l : LinkId) :
    (s.startEchoes l).kept = s.kept := by
  simp [State.startEchoes]
@[simp] theorem State.directionUp_kept (s : State) (l : LinkId) :
    (s.directionUp l).kept = s.kept := by
  unfold State.directionUp
  split <;> simp
@[simp] theorem State.heard_kept (s : State) (l : LinkId) : (s.heard l).kept = s.kept := by
  simp [State.heard, apply_ite State.kept]
@[simp] theorem courseAck_kept (l : LinkId) (seq : BitVec 16) (s : State) : (courseAck l seq s).kept = s.kept := by
  unfold courseAck
  split <;> simp
@[simp] theorem commitResend_kept (n : Nat) (s : State) : (commitResend n s).kept = s.kept := by
  unfold commitResend
  split <;> simp
@[simp] theorem courseDownlinkResend_kept (l : LinkId) (s : State) : (courseDownlinkResend l s).kept = s.kept := by
  simp [courseDownlinkResend, apply_ite State.kept]
@[simp] theorem State.train_kept (s : State) (l : LinkId) : (s.train l).kept = s.kept := by
  simp [State.train, apply_ite State.kept]
@[simp] theorem State.echoAgain_kept (s : State) (l : LinkId) :
    (s.echoAgain l).kept = s.kept := by
  simp [State.echoAgain, apply_ite State.kept]
@[simp] theorem State.echoesAgain_kept (s : State) :
    s.echoesAgain.kept = s.kept := by
  simp [State.echoesAgain, foldl_kept]
@[simp] theorem linkTrain_kept (l : LinkId) (s : State) : (linkTrain l s).kept = s.kept := by
  unfold linkTrain
  split <;> simp
@[simp] theorem courseEchoReply_kept (l : LinkId) (num : Nat) (clocks : Nat) (s : State) : (courseEchoReply l num clocks
    s).kept = s.kept := by
  simp [courseEchoReply, apply_ite State.kept]
@[simp] theorem State.beginLoad_kept (s : State) : s.beginLoad.kept = s.kept := by simp [State.beginLoad]
@[simp] theorem State.linkReturned_kept (s : State) (l : LinkId) : (s.linkReturned l).kept = s.kept := by
  simp [State.linkReturned, apply_ite State.kept]
@[simp] theorem courseSyncSend_kept (l : LinkId) (s : State) : (courseSyncSend l s).kept = s.kept := by
  simp [courseSyncSend, apply_ite State.kept]

/-! ### Timeline.lean -/
@[simp] theorem State.recostOne_kept (s : State) (tid : Nat) : (s.recostOne tid).kept = s.kept := by
  unfold State.recostOne
  (repeat' split) <;> simp
@[simp] theorem State.recost_kept (s : State) (n : Nat) : (s.recost n).kept = s.kept :=
  foldl_kept _ (by simp) _ _
@[simp] theorem State.replan_kept (s : State) (n : Nat) : (s.replan n).kept = s.kept := by simp [State.replan]
@[simp] theorem State.rebuild_kept (s : State) (n : Nat) : (s.rebuild n).kept = s.kept := by simp [State.rebuild]
@[simp] theorem State.updPlan_kept (s : State) (n : Nat) (p : Plan) (f : Plan → Plan) : (s.updPlan n p f).kept = s.kept := by
  simp [State.updPlan]
@[simp] theorem State.sendPlan_kept (s : State) (n : Nat) (p : Plan) : (s.sendPlan n p).kept = s.kept := by
  unfold State.sendPlan
  split <;> simp
@[simp] theorem planSend_kept (n : Nat) (s : State) : (planSend n s).kept = s.kept := by
  simp [planSend, foldl_kept, apply_ite State.kept]

/-! ### Tickets.lean -/
@[simp] theorem State.putEntry_kept (s : State) (src : Nat) (bytes : List Byte) : (s.putEntry src bytes).kept = s.kept := by
  simp [State.putEntry]
@[simp] theorem State.refuseSlot_kept (s : State) (src : Nat) (k : TicketSlot) (idx : Nat) (stamp : Tick) (reason : Nat) :
    (s.refuseSlot src k idx stamp reason).kept = s.kept := by
  simp [State.refuseSlot]
@[simp] theorem State.returnEntry_kept (s : State) (src : Nat) : (s.returnEntry src).kept = s.kept := by
  simp [State.returnEntry]
@[simp] theorem State.kernelRecord_kept (s : State) (t : Ticket) (o : Outcome) : (s.kernelRecord t o).kept = s.kept := by
  unfold State.kernelRecord
  split <;> simp
@[simp] theorem State.countOutcome_kept (s : State) (t : Ticket) (o : Outcome) : (s.countOutcome t o).kept = s.kept := by
  unfold State.countOutcome
  split <;> simp
@[simp] theorem State.freeAir_kept (s : State) (t : Ticket) : (s.freeAir t).kept = s.kept := by
  simp [State.freeAir, apply_ite State.kept]
@[simp] theorem State.countPulse_kept (s : State) (t : Ticket) (o : Outcome) : (s.countPulse t o).kept = s.kept := by
  unfold State.countPulse
  split <;> simp
@[simp] theorem State.settleLate_kept (s : State) (t : Ticket) (o : Outcome) :
    (s.settleLate t o).kept = s.kept := by
  unfold State.settleLate
  split
  · rfl
  · exact foldl_kept _ (fun s c => by split <;> simp) _ _
@[simp] theorem State.endTicket_kept (s : State) (tid : Nat) (o : Outcome) (extra : BitVec 16) : (s.endTicket tid o
    extra).kept = s.kept := by
  unfold State.endTicket
  (repeat' split) <;> simp [apply_ite State.kept]
@[simp] theorem State.denySpec_kept (s : State) (tid : Nat) : (s.denySpec tid).kept = s.kept := by simp [State.denySpec]
@[simp] theorem State.endUncommittedOne_kept (s : State) (t : Ticket) : (s.endUncommittedOne t).kept = s.kept := by
  simp [State.endUncommittedOne]
@[simp] theorem State.endUncommitted_kept (s : State) (n : Nat) : (s.endUncommitted n).kept = s.kept := by
  simp [State.endUncommitted, foldl_kept]
@[simp] theorem State.endAllUncommitted_kept (s : State) : s.endAllUncommitted.kept = s.kept :=
  foldl_kept _ (by simp) _ _
@[simp] theorem State.standAt_kept (s : State) (tid : Nat) (x : Int) : (s.standAt tid x).kept = s.kept := by
  simp [State.standAt]
@[simp] theorem State.denyLate_kept (s : State) (t : Ticket) (since : Tick) (extra : BitVec 16) : (s.denyLate t since
    extra).kept = s.kept := by
  unfold State.denyLate
  split <;> simp
@[simp] theorem State.placeAgain_kept (s : State) (old : Ticket) : (s.placeAgain old).kept = s.kept := by
  unfold State.placeAgain
  dsimp only
  (repeat' split) <;> simp_all
@[simp] theorem State.displace_kept (s : State) (n : Nat) : (s.displace n).kept = s.kept := by
  simp [State.displace, foldl_kept]
@[simp] theorem State.confirmOrder_kept (s : State) (tid : Nat) : (s.confirmOrder tid).kept = s.kept := by
  simp [State.confirmOrder]
theorem State.placeAir_kept {s u : State} {t : Ticket} {x : Int} {d : Nat} (h : s.placeAir t x d = some u) : u.kept = s.kept := by
  unfold State.placeAir at h
  dsimp only at h
  split at h
  · obtain ⟨v, hv, rfl⟩ := Option.map_eq_some_iff.1 h
    simp [State.claimHard_kept hv]
  · split at h
    · cases h; simp
    · cases h
@[simp] theorem State.placeTicket_kept (s : State) (tid : Nat) : (s.placeTicket tid).kept = s.kept := by
  unfold State.placeTicket
  split
  · rfl
  · dsimp only
    split
    · simp
    · split
      · split <;> simp
      · next h => split <;> simp [State.placeAir_kept h]
@[simp] theorem State.learnClear_kept (s : State) (src : Nat) (k : TicketSlot) :
    (s.learnClear src k).kept = s.kept := by
  simp [State.learnClear]
@[simp] theorem State.learnIssue_kept (s : State) (k : TicketSlot) (bin : Nat) : (s.learnIssue k bin).kept =
    s.kept := by
  simp [State.learnIssue]
@[simp] theorem State.assignLearn_kept (s : State) (src : Nat) (k : TicketSlot) : (s.assignLearn src k).1.kept = s.kept := by
  unfold State.assignLearn
  (repeat' split) <;> simp
@[simp] theorem State.keep_kept (s : State) (t : Ticket) : (s.keep t).kept = s.kept := by simp [State.keep]
@[simp] theorem State.openRequest_kept (src : Nat) (k : TicketSlot) (idx : Nat) (gap : Bool) (s : State) : (State.openRequest
    src k idx gap s).kept = s.kept := by
  unfold State.openRequest
  dsimp only
  (repeat' split) <;> simp_all
@[simp] theorem State.confirmTicket_kept (s : State) (t : Ticket) : (s.confirmTicket t).kept = s.kept := by
  unfold State.confirmTicket
  dsimp only
  split
  · simp
  · split
    · next h => simp [State.claimHard_kept h]
    · simp
@[simp] theorem State.applyConf_kept (src : Nat) (k : TicketSlot) (idx : Nat) (x3 : Bool) (s : State) : (State.applyConf src k
    idx x3 s).kept = s.kept := by
  unfold State.applyConf
  (repeat' split) <;> simp
@[simp] theorem State.applyCancel_kept (src : Nat) (k : TicketSlot) (idx : Nat) (x3 : Bool) (s : State) : (State.applyCancel
    src k idx x3 s).kept = s.kept := by
  unfold State.applyCancel
  (repeat' split) <;> simp
@[simp] theorem State.stall_kept (s : State) (src : Nat) : (s.stall src).kept = s.kept := by
  unfold State.stall
  split <;> simp
@[simp] theorem State.noteSeq_kept (s : State) (src : Nat) (seq : U32) (gap : U32) (old : Bool) : (s.noteSeq src seq gap
    old).kept = s.kept := by
  simp [State.noteSeq, apply_ite State.kept]
@[simp] theorem State.take_kept (s : State) (src : Nat) (kind : TicketKind) (act : TicketSlot → Nat → Bool → State → State)
    (h : ∀ k i g s, (act k i g s).kept = s.kept) : (s.take src kind act).kept = s.kept := by
  unfold State.take
  dsimp only
  (repeat' split) <;> simp [h]
@[simp] theorem ticketProv_kept (src : Nat) (s : State) : (ticketProv src s).kept = s.kept := by simp [ticketProv]
@[simp] theorem ticketFirm_kept (src : Nat) (s : State) : (ticketFirm src s).kept = s.kept := by simp [ticketFirm]
@[simp] theorem ticketConf_kept (src : Nat) (s : State) : (ticketConf src s).kept = s.kept := by simp [ticketConf]
@[simp] theorem ticketCancel_kept (src : Nat) (s : State) : (ticketCancel src s).kept = s.kept := by simp [ticketCancel]
@[simp] theorem ticketProdWrite_kept (src : Nat) (prod : U32) (s : State) : (ticketProdWrite src prod s).kept = s.kept := by
  simp [ticketProdWrite, apply_ite State.kept]
@[simp] theorem completionCconsWrite_kept (src : Nat) (ccons : U32) (s : State) : (completionCconsWrite src ccons s).kept =
    s.kept := by
  simp [completionCconsWrite, apply_ite State.kept]
@[simp] theorem ticketForget_kept (s : State) : (ticketForget s).kept = s.kept := by simp [ticketForget]
@[simp] theorem State.commitStart_kept (s : State) (t : Ticket) (x : Commits) (ch : Nat) : (s.commitStart t x ch).1.kept =
    s.kept := by
  unfold State.commitStart
  split <;> simp
@[simp] theorem State.commitRide_kept (s : State) (t : Ticket) (x : Commits) (ch : Nat) : (s.commitRide t x ch).1.kept =
    s.kept := by
  unfold State.commitRide
  dsimp only
  (repeat' split) <;> simp_all
@[simp] theorem State.commitTicket_kept (s : State) (t : Ticket) (x : Commits) : (s.commitTicket t x).1.kept = s.kept := by
  unfold State.commitTicket
  dsimp only
  simp_all [foldl_kept_fst, apply_ite State.kept, apply_ite Prod.fst]
@[simp] theorem State.commitOne_kept (a : State × Commits) (tid : Nat) : (State.commitOne a tid).1.kept = a.1.kept := by
  unfold State.commitOne
  split
  · rfl
  · split
    · rfl
    · dsimp only
      split
      · simp
      · split
        · next h => simp [State.commitAir_kept h, State.commitTicket_kept]
        · simp
@[simp] theorem State.commitDue_kept (s : State) (n : Nat) (t : Tick) : (s.commitDue n t).kept = s.kept := by
  unfold State.commitDue
  dsimp only
  split <;> simp [foldl_kept, foldl_kept_fst]
@[simp] theorem commitTick_kept (n : Nat) (s : State) : (commitTick n s).kept = s.kept := by
  unfold commitTick
  split <;> simp
@[simp] theorem State.endFire_kept (s : State) (tid : Nat) : (s.endFire tid).kept = s.kept := by
  unfold State.endFire
  split <;> simp
@[simp] theorem State.endChannel_kept (s : State) (ch : Nat) (primed : Bool) (tid : Nat) : (s.endChannel ch primed tid).kept =
    s.kept := by
  simp [State.endChannel, apply_ite State.kept]
@[simp] theorem State.openSource_kept (s : State) (src : Nat) (c : Nat) : (s.openSource src c).kept = s.kept := by
  simp [State.openSource]
@[simp] theorem State.closeSource_kept (s : State) (src : Nat) : (s.closeSource src).kept = s.kept := by
  simp [State.closeSource]
@[simp] theorem State.readTally_kept (s : State) (src : Nat) (seen : List Nat) : (s.readTally src seen).1.kept = s.kept := by
  unfold State.readTally
  dsimp only
  (repeat' split) <;> simp_all
@[simp] theorem State.tallySweep_kept (s : State) : s.tallySweep.kept = s.kept := by
  unfold State.tallySweep
  simp only [State.kept_mk, State.kept_fold]
  exact foldl_kept_fst _ (by simp) _ _
@[simp] theorem State.tallyRecords_kept (s : State) : s.tallyRecords.kept = s.kept :=
  foldl_kept _ (by simp) _ _
@[simp] theorem tallyRead_kept (s : State) : (tallyRead s).kept = s.kept := by
  unfold tallyRead
  split <;> simp
@[simp] theorem recipeReport_kept (src : Nat) (s : State) : (recipeReport src s).kept = s.kept := by
  simp [recipeReport, apply_ite State.kept]

end Sys2Proof.Machine
end

