-- ==== Sys2Proof/Laws/KeptDryer.lean ====
section
/-! SUPPORT. What loops, the field bank, fans and probe rings keep: the queue, the tick, the FACTORY bank and the DRAM (`State.kept`). -/
namespace Sys2Proof.Machine

/-! ### Loops.lean -/
@[simp] theorem State.setInhibit_kept (s : State) (z : Nat) (bit : Nat) (on : Bool) : (s.setInhibit z bit on).kept = s.kept := by
  simp [State.setInhibit]
@[simp] theorem State.setInhibits_kept (s : State) (bit : Nat) (on : Bool) : (s.setInhibits bit on).kept = s.kept :=
  foldl_kept _ (by simp) _ _
@[simp] theorem State.lowAnew_kept (s : State) (n : Nat) :
    (s.lowAnew n).kept = s.kept := by
  unfold State.lowAnew
  (try dsimp only)
  (repeat' split) <;> simp
@[simp] theorem State.enterLoop_kept (s : State) (n : Nat) (m : LoopActive) : (s.enterLoop n m).kept = s.kept := by
  simp [State.enterLoop]
@[simp] theorem State.loopOffNow_kept (s : State) (n : Nat) : (s.loopOffNow n).kept = s.kept := by simp [State.loopOffNow]
@[simp] theorem State.retargetLoop_kept (s : State) (n : Nat) : (s.retargetLoop n).kept = s.kept := by
  simp [State.retargetLoop, apply_ite State.kept]
@[simp] theorem State.enableLoop_kept (s : State) (n : Nat) (auto : Bool) (v : Option Int) : (s.enableLoop n auto v).kept =
    s.kept := by
  simp [State.enableLoop]
@[simp] theorem State.loopStopped_kept (s : State) (n : Nat) : (s.loopStopped n).kept = s.kept := by
  unfold State.loopStopped
  dsimp only
  (repeat' split) <;> simp_all
@[simp] theorem State.retargetLoops_kept (s : State) : s.retargetLoops.kept = s.kept :=
  foldl_kept _ (by simp [apply_ite State.kept]) _ _
@[simp] theorem State.noteHeat_kept (s : State) (z : Nat) : (s.noteHeat z).kept = s.kept := by
  simp [State.noteHeat, apply_ite State.kept]
@[simp] theorem State.noteHeats_kept (s : State) : s.noteHeats.kept = s.kept :=
  foldl_kept _ (by simp) _ _
@[simp] theorem State.judgeHigh_kept (s : State) (n : Nat) (x : Int) : (s.judgeHigh n x).kept = s.kept := by
  simp [State.judgeHigh, apply_ite State.kept]
@[simp] theorem State.judgeLow_kept (s : State) (n : Nat) (x : Int) (auto : Bool) : (s.judgeLow n x auto).kept = s.kept := by
  simp [State.judgeLow, apply_ite State.kept]
@[simp] theorem State.takeLimits_kept (s : State) (n : Nat) : (s.takeLimits n).kept = s.kept := by
  simp [State.takeLimits, apply_ite State.kept]
@[simp] theorem State.zoneComplete_kept (s : State) (z : Nat) : (s.zoneComplete z).kept = s.kept :=
  foldl_kept _ (by simp) _ _
@[simp] theorem zonePurgeEnd_kept (z : Nat) (s : State) : (zonePurgeEnd z s).kept = s.kept := by
  unfold zonePurgeEnd
  split <;> simp
@[simp] theorem State.batchEnter_kept (s : State) (x : BatchStep) : (s.batchEnter x).kept = s.kept := by
  simp [State.batchEnter]
@[simp] theorem State.batchHold_kept (s : State) : s.batchHold.kept = s.kept := by
  unfold State.batchHold
  split <;> simp
@[simp] theorem State.batchDrained_kept (s : State) : s.batchDrained.kept = s.kept := by
  simp [State.batchDrained, foldl_kept, apply_ite State.kept]
@[simp] theorem State.batchIdle_kept (s : State) : s.batchIdle.kept = s.kept := by simp [State.batchIdle]
@[simp] theorem State.batchNext_kept (s : State) : s.batchNext.kept = s.kept := by
  unfold State.batchNext
  split <;> simp
@[simp] theorem State.batchSample_kept (s : State) : s.batchSample.kept = s.kept := by
  unfold State.batchSample
  dsimp only
  (repeat' split) <;> simp_all
@[simp] theorem batchStepLimit_kept (s : State) : (batchStepLimit s).kept = s.kept := by
  simp [batchStepLimit, apply_ite State.kept]
@[simp] theorem State.batchAverage_kept (s : State) : s.batchAverage.kept = s.kept := by simp [State.batchAverage]
@[simp] theorem State.zonesDrain_kept (s : State) : s.zonesDrain.kept = s.kept := by
  simp [State.zonesDrain, apply_ite State.kept]
@[simp] theorem State.zonesRest_kept (s : State) : s.zonesRest.kept = s.kept := by simp [State.zonesRest]
@[simp] theorem State.zoneLimit_kept (s : State) (z : Nat) :
    (s.zoneLimit z).kept = s.kept := by
  unfold State.zoneLimit
  (try dsimp only)
  (repeat' split) <;> simp
@[simp] theorem State.zonesLimit_kept (s : State) : s.zonesLimit.1.kept = s.kept :=
  foldl_kept _ (by simp) _ _
@[simp] theorem State.unlimit_kept (s : State) :
    s.unlimit.kept = s.kept := by
  unfold State.unlimit
  (try dsimp only)
  (repeat' split) <;> simp
@[simp] theorem State.freezeLoop_kept (s : State) (n : Nat) : (s.freezeLoop n).kept = s.kept := by
  simp [State.freezeLoop, apply_ite State.kept]
@[simp] theorem State.loopRegion_kept (s : State) (n : Nat) : (s.loopRegion n).1.kept = s.kept := by
  simp [State.loopRegion, apply_ite State.kept]
@[simp] theorem State.sampleLoop_kept (s : State) (n : Nat) (y : Int) (clip : Bool) (est : Bool) : (s.sampleLoop n y clip
    est).kept = s.kept := by
  simp [State.sampleLoop, apply_ite State.kept]
@[simp] theorem State.rampLoop_kept (s : State) (n : Nat) : (s.rampLoop n).kept = s.kept := by simp [State.rampLoop]
@[simp] theorem State.plenumRules_kept (s : State) (n : Nat) : (s.plenumRules n).kept = s.kept := by
  unfold State.plenumRules
  (repeat' split) <;> simp
@[simp] theorem loopInputBadTime_kept (n : Nat) (s : State) : (loopInputBadTime n s).kept = s.kept := by
  unfold loopInputBadTime
  split <;> simp
@[simp] theorem loopSample_kept (n : Nat) (s : State) : (loopSample n s).kept = s.kept := by
  unfold loopSample
  dsimp only
  (repeat' split) <;> simp_all
@[simp] theorem crackUpdate_kept (s : State) : (crackUpdate s).kept = s.kept := by
  unfold crackUpdate
  split <;> simp
@[simp] theorem loopMode_kept (ln : Ln) (n : Nat) (auto : Bool) (value : Option Lit) (s : State) : (loopMode ln n auto value
    s).kept = s.kept := by
  unfold loopMode
  exact State.verb_kept _ _ _ _ fun s => by (repeat' split) <;> simp
@[simp] theorem State.stopLoop_kept (s : State) (n : Nat) : (s.stopLoop n).kept = s.kept := by simp [State.stopLoop]
@[simp] theorem loopOff_kept (ln : Ln) (n : Nat) (s : State) : (loopOff ln n s).kept = s.kept := by
  unfold loopOff
  exact State.verb_kept _ _ _ _ fun s => by (repeat' split) <;> simp [apply_ite State.kept, apply_ite Prod.fst]
@[simp] theorem loopOffRampDone_kept (n : Nat) (s : State) : (loopOffRampDone n s).kept = s.kept := by
  unfold loopOffRampDone
  split <;> simp
@[simp] theorem loopFlags_kept (ln : Ln) (n : Nat) (s : State) : (loopFlags ln n s).kept = s.kept := by
  unfold loopFlags
  exact State.verb_kept _ _ _ _ fun s => by (repeat' split) <;> simp
@[simp] theorem batchDone_kept (s : State) : (batchDone s).1.kept = s.kept := by simp [batchDone]
@[simp] theorem State.batchVerb_kept (s : State) (ln : Ln) (ok : State → Bool) (f : State → State)
    (h : ∀ s, (f s).kept = s.kept) : (s.batchVerb ln ok f).kept = s.kept := by
  unfold State.batchVerb
  exact State.verb_kept _ _ _ _ fun s => by split <;> simp [batchDone, h]
@[simp] theorem loopBatchStart_kept (ln : Ln) (s : State) : (loopBatchStart ln s).kept = s.kept := by simp [loopBatchStart]
@[simp] theorem loopBatchNext_kept (ln : Ln) (s : State) : (loopBatchNext ln s).kept = s.kept :=
  State.batchVerb_kept _ _ _ _ fun _ => rfl
@[simp] theorem loopBatchHold_kept (ln : Ln) (s : State) : (loopBatchHold ln s).kept = s.kept := by simp [loopBatchHold]
@[simp] theorem State.batchResume_kept (s : State) : s.batchResume.kept = s.kept := by simp [State.batchResume]
@[simp] theorem loopBatchResume_kept (ln : Ln) (s : State) : (loopBatchResume ln s).kept = s.kept := by
  simp [loopBatchResume]
@[simp] theorem loopBatchAbort_kept (ln : Ln) (s : State) : (loopBatchAbort ln s).kept = s.kept := by simp [loopBatchAbort]

/-! ### Field.lean -/
@[simp] theorem State.settleOutputs_kept (s : State) : s.settleOutputs.kept = s.kept := by simp [State.settleOutputs]
@[simp] theorem State.forceHeat_kept (s : State) (z : Nat) : (s.forceHeat z).kept = s.kept := by
  unfold State.forceHeat
  split <;> simp
@[simp] theorem State.judgeFanZone_kept (s : State) (z : Nat) : (s.judgeFanZone z).kept = s.kept := by
  simp [State.judgeFanZone, apply_ite State.kept]
@[simp] theorem State.judgeFans_kept (s : State) : s.judgeFans.kept = s.kept :=
  foldl_kept _ (by simp) _ _
@[simp] theorem State.fanAttempt_kept (s : State) (n : Nat) : (s.fanAttempt n).kept = s.kept := by simp [State.fanAttempt]
@[simp] theorem State.fanBegin_kept (s : State) (n : Nat) : (s.fanBegin n).kept = s.kept := by simp [State.fanBegin]
@[simp] theorem State.fanOpen_kept (s : State) (n : Nat) (st : FanState) : (s.fanOpen n st).kept = s.kept := by
  simp [State.fanOpen]
@[simp] theorem State.fanLeave_kept (s : State) (n : Nat) (st : FanState) : (s.fanLeave n st).kept = s.kept := by
  simp [State.fanLeave]
@[simp] theorem State.cancelFanStart_kept (s : State) (n : Nat) : (s.cancelFanStart n).kept = s.kept := by
  simp [State.cancelFanStart]
@[simp] theorem State.fanStopped_kept (s : State) (n : Nat) : (s.fanStopped n).kept = s.kept := by
  simp [State.fanStopped, apply_ite State.kept]
@[simp] theorem State.fanStopSeq_kept (s : State) (n : Nat) : (s.fanStopSeq n).kept = s.kept := by
  simp [State.fanStopSeq, apply_ite State.kept]
@[simp] theorem State.stopFans_kept (s : State) : s.stopFans.kept = s.kept :=
  foldl_kept _ (by simp) _ _
@[simp] theorem State.demandSent_kept (s : State) :
    s.demandSent.kept = s.kept := by
  simp [State.demandSent]
@[simp] theorem State.coastFan_kept (s : State) (n : Nat) : (s.coastFan n).kept = s.kept := by
  unfold State.coastFan
  dsimp only
  (repeat' split) <;> simp_all
@[simp] theorem State.outputsOff_kept (s : State) : s.outputsOff.kept = s.kept := by
  simp [State.outputsOff, foldl_kept]
@[simp] theorem State.fanFail_kept (s : State) (n : Nat) : (s.fanFail n).kept = s.kept := by
  simp [State.fanFail, apply_ite State.kept]
@[simp] theorem State.fanRunning_kept (s : State) (n : Nat) : (s.fanRunning n).kept = s.kept := by simp [State.fanRunning]
@[simp] theorem tachEdge_kept (n : Nat) (at_ : Tick) (s : State) : (tachEdge n at_ s).kept = s.kept := by
  simp [tachEdge, apply_ite State.kept]
@[simp] theorem State.fanQuiet_kept (s : State) (n : Nat) : (s.fanQuiet n).kept = s.kept := by simp [State.fanQuiet]
@[simp] theorem State.runStall_kept (s : State) (n : Nat) :
    (s.runStall n).kept = s.kept := by
  unfold State.runStall
  (try dsimp only)
  (repeat' split) <;> simp
@[simp] theorem State.driveFault_kept (s : State) (n : Nat) : (s.driveFault n).kept = s.kept := by simp [State.driveFault]
@[simp] theorem State.tachLost_kept (s : State) (n : Nat) (sum : Nat) (k : Nat) : (s.tachLost n sum k).kept = s.kept := by
  simp [State.tachLost]
@[simp] theorem State.classifyRunning_kept (s : State) (n : Nat) : (s.classifyRunning n).kept = s.kept := by
  simp [State.classifyRunning, apply_ite State.kept]
@[simp] theorem State.classifyLost_kept (s : State) (n : Nat) : (s.classifyLost n).kept = s.kept := by
  simp [State.classifyLost, apply_ite State.kept]
@[simp] theorem State.classify_kept (s : State) (n : Nat) : (s.classify n).kept = s.kept := by
  unfold State.classify
  dsimp only
  (repeat' split) <;> simp_all
@[simp] theorem State.openDue_kept (s : State) (n : Nat) : (s.openDue n).kept = s.kept := by
  unfold State.openDue
  (repeat' split) <;> simp
@[simp] theorem State.takeAi_kept (s : State) (i : Nat) (x : Int) : (s.takeAi i x).kept = s.kept := by
  simp [State.takeAi, apply_ite State.kept]
@[simp] theorem State.takeFan_kept (s : State) (i : Nat) (inp : FieldIn) : (s.takeFan i inp).kept = s.kept := by
  simp [State.takeFan]
@[simp] theorem State.takeReadbacks_kept (s : State) (inp : FieldIn) : (s.takeReadbacks inp).kept = s.kept := by
  simp [State.takeReadbacks]
@[simp] theorem State.bankHeard_kept (s : State) : s.bankHeard.kept = s.kept := by simp [State.bankHeard]
@[simp] theorem State.takeDi_kept (s : State) : s.takeDi.kept = s.kept := by
  simp [State.takeDi]
@[simp] theorem fieldCycle_kept (inp : FieldIn) (s : State) : (fieldCycle inp s).kept = s.kept := by
  simp [fieldCycle, foldl_kept, apply_ite State.kept]
@[simp] theorem diSample_kept (levels : BitVec 24) (s : State) : (diSample levels s).kept = s.kept := by
  unfold diSample
  split <;> simp
@[simp] theorem readbackMismatch_kept (dig : Bool) (ch : Nat) (s : State) : (readbackMismatch dig ch s).kept = s.kept := by
  simp [readbackMismatch, apply_ite State.kept]
@[simp] theorem doCurrentLimit_kept (ch : Nat) (s : State) : (doCurrentLimit ch s).kept = s.kept := by simp [doCurrentLimit]
@[simp] theorem fieldPhantomLimit_kept (s : State) : (fieldPhantomLimit s).kept = s.kept := by
  unfold fieldPhantomLimit
  split <;> simp
@[simp] theorem fieldPhantomRetry_kept (s : State) : (fieldPhantomRetry s).kept = s.kept := by
  unfold fieldPhantomRetry
  split <;> simp
@[simp] theorem fanStartWindowEnd_kept (n : Nat) (s : State) : (fanStartWindowEnd n s).kept = s.kept := by
  simp [fanStartWindowEnd, apply_ite State.kept]
@[simp] theorem fanRetryWaitEnd_kept (n : Nat) (s : State) : (fanRetryWaitEnd n s).kept = s.kept := by
  simp [fanRetryWaitEnd, apply_ite State.kept]
@[simp] theorem fanCoastTimeout_kept (n : Nat) (s : State) : (fanCoastTimeout n s).kept = s.kept := by
  simp [fanCoastTimeout, apply_ite State.kept]
@[simp] theorem fanStart_kept (ln : Ln) (n : Nat) (speed : Option Lit) (s : State) : (fanStart ln n speed s).kept = s.kept := by
  unfold fanStart
  refine State.verb_kept _ _ _ _ fun s => ?_
  split
  · simp
  · dsimp only
    (repeat' split) <;> simp
@[simp] theorem fanStop_kept (ln : Ln) (n : Nat) (s : State) : (fanStop ln n s).kept = s.kept := by
  unfold fanStop
  exact State.verb_kept _ _ _ _ fun s => by (repeat' split) <;> simp [apply_ite State.kept, apply_ite Prod.fst]
@[simp] theorem fanReset_kept (ln : Ln) (n : Nat) (s : State) : (fanReset ln n s).kept = s.kept := by
  unfold fanReset
  exact State.verb_kept _ _ _ _ fun s => by (repeat' split) <;> simp [apply_ite State.kept, apply_ite Prod.fst]

/-! ### Probes.lean -/
@[simp] theorem State.updNode_kept (s : State) (r : Nat) (pos : Nat) (f : NodeDev → NodeDev) : (s.updNode r pos f).kept =
    s.kept := by
  simp [State.updNode]
@[simp] theorem probeNodeRead_kept (r : Nat) (pos : Nat) (fromRet : Bool) (f : List Byte) (s : State) : (probeNodeRead r pos
    fromRet f s).kept = s.kept := by
  simp [probeNodeRead]
@[simp] theorem State.ringClosed_kept (s : State) (r : Nat) : (s.ringClosed r).kept = s.kept := by
  unfold State.ringClosed
  split <;> simp
@[simp] theorem probeNodeMeasure_kept (r : Nat) (pos : Nat) (fromRet : Bool) (f : List Byte) (s : State) : (probeNodeMeasure r
    pos fromRet f s).kept = s.kept := by
  simp [probeNodeMeasure, apply_ite State.kept]
@[simp] theorem probeNodeReplyForward_kept (r : Nat) (pos : Nat) (toRet : Bool) (f : List Byte) (s : State) :
    (probeNodeReplyForward r pos toRet f s).kept = s.kept := by
  simp [probeNodeReplyForward]
@[simp] theorem probeConversionDone_kept (r : Nat) (pos : Nat) (c : Conversion) (s : State) : (probeConversionDone r pos c
    s).kept = s.kept := by
  simp [probeConversionDone]
@[simp] theorem State.nodeMoist_kept (s : State) (r : Nat) (i : Nat) (raw : Nat) : (s.nodeMoist r i raw).1.kept = s.kept := by
  simp [State.nodeMoist, apply_ite State.kept, apply_ite Prod.fst]
@[simp] theorem State.takeReply_kept (s : State) (r : Nat) (i : Nat) (fromRet : Bool) (f : List Byte) : (s.takeReply r i
    fromRet f).kept = s.kept := by
  simp [State.takeReply, apply_ite State.kept]
@[simp] theorem State.setAvg_kept (s : State) (i : Nat) (ok : Bool) : (s.setAvg i ok).kept = s.kept := by
  simp [State.setAvg, apply_ite State.kept]
@[simp] theorem State.loseAvgs_kept (s : State) : s.loseAvgs.kept = s.kept := by simp [State.loseAvgs]
@[simp] theorem State.formAvgs_kept (s : State) : s.formAvgs.kept = s.kept := by
  unfold State.formAvgs
  dsimp only
  (repeat' split) <;> simp_all
@[simp] theorem State.updSweep_kept (s : State) (r : Nat) (f : Sweep → Sweep) : (s.updSweep r f).kept = s.kept := by
  simp [State.updSweep]
@[simp] theorem State.sendMeasure_kept (s : State) (r : Nat) (fromRet : Bool) : (s.sendMeasure r fromRet).kept = s.kept := by
  simp [State.sendMeasure]
@[simp] theorem State.sendRead_kept (s : State) (r : Nat) (attempt : Nat) : (s.sendRead r attempt).kept = s.kept := by
  unfold State.sendRead
  split <;> simp
@[simp] theorem State.markLost_kept (s : State) (r : Nat) (i : Nat) : (s.markLost r i).kept = s.kept := by
  unfold State.markLost
  split <;> simp
@[simp] theorem State.finishSweep_kept (s : State) (r : Nat) : (s.finishSweep r).kept = s.kept := by
  unfold State.finishSweep
  (repeat' split) <;> simp_all [foldl_kept, apply_ite State.kept]
@[simp] theorem State.nextRead_kept (s : State) (r : Nat) : (s.nextRead r).kept = s.kept := by
  unfold State.nextRead
  (repeat' split) <;> simp
@[simp] theorem probeSweepStart_kept (r : Nat) (s : State) : (probeSweepStart r s).kept = s.kept := by
  simp [probeSweepStart, apply_ite State.kept]
@[simp] theorem probeMeasureWaitEnd_kept (r : Nat) (s : State) : (probeMeasureWaitEnd r s).kept = s.kept := by
  unfold probeMeasureWaitEnd
  (repeat' split) <;> simp
@[simp] theorem State.abortSweep_kept (s : State) (r : Nat) : (s.abortSweep r).kept = s.kept := by
  unfold State.abortSweep
  split <;> simp
@[simp] theorem probeSlotEnd_kept (r : Nat) (s : State) : (probeSlotEnd r s).kept = s.kept := by
  unfold probeSlotEnd
  (repeat' split) <;> simp
@[simp] theorem probeReply_kept (r : Nat) (f : List Byte) (s : State) : (probeReply r f s).kept = s.kept := by
  unfold probeReply
  (repeat' split) <;> simp [apply_ite State.kept]
@[simp] theorem State.stopSweep_kept (s : State) (r : Nat) : (s.stopSweep r).kept = s.kept := by
  simp [State.stopSweep, apply_ite State.kept]
@[simp] theorem probeRunStop_kept (ln : Ln) (r : Nat) (s : State) : (probeRunStop ln r s).kept = s.kept := by
  unfold probeRunStop
  exact State.verb_kept _ _ _ _ fun s => by (repeat' split) <;> simp
@[simp] theorem State.fieldLost_kept (s : State) : s.fieldLost.kept = s.kept := by
  simp [State.fieldLost, foldl_kept, apply_ite State.kept]

end Sys2Proof.Machine
end

