-- ==== Sys2Proof/Laws/KeptCourses.lean ====
section
/-! SUPPORT. What the unit states, the courses and the faults keep: the queue, the tick, the FACTORY bank and the DRAM (`State.kept`). -/
namespace Sys2Proof.Machine

/-! ### CourseOps.lean -/
@[simp] theorem State.grantLearn_kept (s : State) (src : Nat) (on : Bool) : (s.grantLearn src on).kept = s.kept := by
  unfold State.grantLearn
  split <;> simp
@[simp] theorem State.learnClose_kept (s : State) (n : Nat) : (s.learnClose n).kept = s.kept := by
  unfold State.learnClose
  dsimp only
  split <;> simp
@[simp] theorem State.learnDrop_kept (s : State) (n : Nat) (detail : String) (why : Nat) : (s.learnDrop n detail why).kept =
    s.kept := by
  unfold State.learnDrop
  split <;> simp
@[simp] theorem State.learnSourceLost_kept (s : State) (src : Nat) : (s.learnSourceLost src).kept = s.kept :=
  foldl_kept _ (by simp [apply_ite State.kept]) _ _
@[simp] theorem State.learnDropAll_kept (s : State) (detail : String) : (s.learnDropAll detail).kept = s.kept :=
  foldl_kept _ (by simp) _ _
@[simp] theorem State.learnApply_kept (s : State) (n : Nat) : (s.learnApply n).kept = s.kept := by
  unfold State.learnApply
  (repeat' split) <;> simp_all [foldl_kept, apply_ite State.kept]
@[simp] theorem State.beginEnable_kept (s : State) (n : Nat) : (s.beginEnable n).kept = s.kept := by
  simp [State.beginEnable, apply_ite State.kept]
@[simp] theorem State.sendSettings_kept (s : State) (n : Nat) : (s.sendSettings n).kept = s.kept := by
  simp [State.sendSettings]
@[simp] theorem State.sendEnable_kept (s : State) (n : Nat) : (s.sendEnable n).kept = s.kept := by simp [State.sendEnable]
@[simp] theorem State.judgeDischarge_kept (s : State) (n : Nat) : (s.judgeDischarge n).kept = s.kept := by
  unfold State.judgeDischarge
  split <;> simp
@[simp] theorem State.courseLeaves_kept (s : State) (n : Nat) : (s.courseLeaves n).kept = s.kept := by
  simp [State.courseLeaves]
@[simp] theorem State.startDrain_kept (s : State) (n : Nat) (verb : Bool) : (s.startDrain n verb).kept = s.kept := by
  unfold State.startDrain
  (repeat' split) <;> simp
@[simp] theorem State.cancelCourseEnable_kept (s : State) (n : Nat) : (s.cancelCourseEnable n).kept = s.kept := by
  unfold State.cancelCourseEnable
  split <;> simp
@[simp] theorem State.courseOff_kept (s : State) (n : Nat) : (s.courseOff n).kept = s.kept := by
  simp [State.courseOff, apply_ite State.kept]
@[simp] theorem State.courseOn_kept (s : State) (n : Nat) : (s.courseOn n).kept = s.kept := by simp [State.courseOn]
@[simp] theorem State.enableFails_kept (s : State) (n : Nat) (code : Nat) (detail : String) : (s.enableFails n code
    detail).kept = s.kept := by
  unfold State.enableFails
  split <;> simp
@[simp] theorem State.endBlind_kept (s : State) (n : Nat) : (s.endBlind n).kept = s.kept :=
  foldl_kept _ (by simp) _ _
@[simp] theorem State.courseLost_kept (s : State) (n : Nat) : (s.courseLost n).kept = s.kept := by
  simp [State.courseLost, apply_ite State.kept]
@[simp] theorem State.placePulse_kept (s : State) (n : Nat) : (s.placePulse n).kept = s.kept := by
  unfold State.placePulse
  (repeat' split) <;> simp [apply_ite State.kept]
@[simp] theorem State.pulses_kept (s : State) : s.pulses.kept = s.kept :=
  foldl_kept _ (by simp [apply_ite State.kept]) _ _

/-! ### LedgerOps.lean -/
@[simp] theorem State.cancelLoad_kept (s : State) : s.cancelLoad.kept = s.kept := by
  unfold State.cancelLoad
  split <;> simp

/-! ### Units.lean -/
@[simp] theorem State.cancelRun_kept (s : State) : s.cancelRun.kept = s.kept := by
  unfold State.cancelRun
  split <;> simp
@[simp] theorem State.cancelReset_kept (s : State) (p : Nat) : (s.cancelReset p).kept = s.kept := by
  unfold State.cancelReset
  split <;> simp
@[simp] theorem State.cancelQueued_kept (s : State) : s.cancelQueued.kept = s.kept := by
  refine (foldl_kept _ (by simp) _ _).trans ((State.cancelLoad_kept _).trans ?_)
  refine (foldl_kept _ (by simp) _ _).trans ((foldl_kept _ (fun s n => by split <;> simp) _ _).trans ?_)
  exact foldl_kept _ (by simp) _ _
@[simp] theorem State.dropYield_kept (s : State) (detail : String) :
    (s.dropYield detail).kept = s.kept := by
  unfold State.dropYield
  (try dsimp only)
  (repeat' split) <;> simp
@[simp] theorem State.dropStateVerbs_kept (s : State) (o : Out) : (s.dropStateVerbs o).kept = s.kept := by
  simp [State.dropStateVerbs]
@[simp] theorem State.endSorting_kept (s : State) (detail : String) : (s.endSorting detail).kept = s.kept := by
  simp [State.endSorting, foldl_kept]
@[simp] theorem State.holdCause_kept (s : State) (bit : Nat) : (s.holdCause bit).kept = s.kept := by simp [State.holdCause]
@[simp] theorem State.setCause_kept (s : State) (bit : Nat) : (s.setCause bit).kept = s.kept := by simp [State.setCause]
@[simp] theorem State.goFault_kept (s : State) (bit : Nat) : (s.goFault bit).kept = s.kept := by
  unfold State.goFault
  dsimp only
  (repeat' split) <;> simp_all
@[simp] theorem State.enterFault_kept (s : State) (bit : Nat) : (s.enterFault bit).kept = s.kept := by
  simp [State.enterFault, apply_ite State.kept]
@[simp] theorem State.enterHeld_kept (s : State) : s.enterHeld.kept = s.kept := by
  unfold State.enterHeld
  dsimp only
  (repeat' split) <;> simp_all
@[simp] theorem State.beginShutdown_kept (s : State) (failWith : Option (Nat × String)) : (s.beginShutdown failWith).kept =
    s.kept := by
  simp [State.beginShutdown]
@[simp] theorem State.failBringup_kept (s : State) (code : Nat) (detail : String) : (s.failBringup code detail).kept = s.kept
    := by
  unfold State.failBringup
  split <;> simp
@[simp] theorem State.beginBringup_kept (s : State) (auto : Bool) : (s.beginBringup auto).kept = s.kept := by
  simp [State.beginBringup]
@[simp] theorem State.enterRun_kept (s : State) : s.enterRun.kept = s.kept := by simp [State.enterRun]
@[simp] theorem State.enterDrain_kept (s : State) : s.enterDrain.kept = s.kept := by simp [State.enterDrain]
@[simp] theorem State.queueVerb_kept (s : State) (v : StateVerb) : (s.queueVerb v).kept = s.kept := by simp [State.queueVerb]
theorem unlessRefused_kept {r : Option (Nat × String)} {text u : String} {f g : State → State}
    (hf : ∀ t : State, (f t).kept = t.kept) (h : unlessRefused r text f = .soon u g) (t : State) : (g t).kept = t.kept := by
  unfold unlessRefused at h
  split at h <;> cases h
  exact hf t
theorem State.stateAct_kept {s : State} {v : StateVerb} {text : String} {f : State → State} (h : s.stateAct v = .soon text f)
    (t : State) : (f t).kept = t.kept := by
  unfold State.stateAct State.actInBringup State.actInShutdown State.actIdle State.holdInFault notNow at h
  dsimp only at h
  repeat' split at h
  all_goals first
    | exact unlessRefused_kept (fun t => by simp) h t
    | (cases h; simp)
    | cases h
@[simp] theorem State.stateVerb_kept (s : State) (ln : Ln) (v : StateVerb) : (s.stateVerb ln v).kept = s.kept := by
  unfold State.stateVerb
  refine State.verb_kept _ _ _ _ fun s => ?_
  split
  · rfl
  · next h => split <;> simp [State.stateAct_kept h]
@[simp] theorem stateReady_kept (ln : Ln) (s : State) : (stateReady ln s).kept = s.kept := by simp [stateReady]
@[simp] theorem stateRun_kept (ln : Ln) (s : State) : (stateRun ln s).kept = s.kept := by simp [stateRun]
@[simp] theorem stateDrain_kept (ln : Ln) (s : State) : (stateDrain ln s).kept = s.kept := by simp [stateDrain]
@[simp] theorem stateHold_kept (ln : Ln) (s : State) : (stateHold ln s).kept = s.kept := by simp [stateHold]
@[simp] theorem State.resumeVerbs_kept (l : List StateVerb) (s : State) : (State.resumeVerbs l s).kept = s.kept := by
  induction l generalizing s with
  | nil => simp [State.resumeVerbs]
  | cons v vs ih =>
    unfold State.resumeVerbs
    split
    · simp
    · dsimp only
      rw [ih]
      split
      · simp
      · next h => exact State.stateAct_kept h s
@[simp] theorem State.resume_kept (s : State) : s.resume.kept = s.kept := by simp [State.resume]
@[simp] theorem State.endBringup_kept (s : State) : s.endBringup.kept = s.kept := by simp [State.endBringup]
@[simp] theorem State.advanceBringup_kept (s : State) : s.advanceBringup.kept = s.kept := by
  unfold State.advanceBringup
  (repeat' split) <;> simp_all [foldl_kept, apply_ite State.kept]
@[simp] theorem bringupComplete_kept (s : State) : (bringupComplete s).kept = s.kept := by simp [bringupComplete]
@[simp] theorem bringupStepTimeout_kept (s : State) : (bringupStepTimeout s).kept = s.kept := by
  unfold bringupStepTimeout
  (repeat' split) <;> simp
@[simp] theorem State.endShutdown_kept (s : State) (failWith : Option (Nat × String)) : (s.endShutdown failWith).kept = s.kept
    := by
  unfold State.endShutdown
  split <;> simp
@[simp] theorem shutdownComplete_kept (s : State) : (shutdownComplete s).kept = s.kept := by
  unfold shutdownComplete
  (repeat' split) <;> simp
@[simp] theorem shutdownStepTimeout_kept (s : State) : (shutdownStepTimeout s).kept = s.kept := by
  unfold shutdownStepTimeout
  (repeat' split) <;> simp
@[simp] theorem State.endDrain_kept (s : State) : s.endDrain.kept = s.kept := by
  unfold State.endDrain
  dsimp only
  (repeat' split) <;> simp_all
@[simp] theorem drainComplete_kept (s : State) : (drainComplete s).kept = s.kept := by
  unfold drainComplete
  split <;> simp
@[simp] theorem drainLimit_kept (s : State) : (drainLimit s).kept = s.kept := by
  simp [drainLimit, foldl_kept, apply_ite State.kept]

/-! ### Courses.lean -/
@[simp] theorem State.failEnable_kept (s : State) (n : Nat) (code : Nat) (detail : String) : (s.failEnable n code detail).kept
    = s.kept := by
  simp [State.failEnable]
@[simp] theorem courseEnable_kept (ln : Ln) (n : Nat) (s : State) : (courseEnable ln n s).kept = s.kept := by
  unfold courseEnable
  exact State.verb_kept _ _ _ _ fun s => by (repeat' split) <;> simp
@[simp] theorem courseEnableComplete_kept (n : Nat) (s : State) : (courseEnableComplete n s).kept = s.kept := by
  simp [courseEnableComplete, apply_ite State.kept]
@[simp] theorem courseDisable_kept (ln : Ln) (n : Nat) (s : State) : (courseDisable ln n s).kept = s.kept := by
  unfold courseDisable
  exact State.verb_kept _ _ _ _ fun s => by (repeat' split) <;> simp
@[simp] theorem State.abortDrain_kept (s : State) (n : Nat) : (s.abortDrain n).kept = s.kept := by simp [State.abortDrain]
@[simp] theorem courseDisableAbort_kept (ln : Ln) (n : Nat) (s : State) : (courseDisableAbort ln n s).kept = s.kept := by
  unfold courseDisableAbort
  exact State.verb_kept _ _ _ _ fun s => by (repeat' split) <;> simp [apply_ite State.kept, apply_ite Prod.fst]
@[simp] theorem courseDrainComplete_kept (n : Nat) (s : State) : (courseDrainComplete n s).kept = s.kept := by
  simp [courseDrainComplete, apply_ite State.kept]
@[simp] theorem courseTest_kept (ln : Ln) (n : Nat) (ch : Nat) (dur : Option Lit) (count : Option Nat) (period : Option Lit)
    (s : State) : (courseTest ln n ch dur count period s).kept = s.kept := by
  unfold courseTest
  exact State.verb_kept _ _ _ _ fun s => by (repeat' split) <;> simp [apply_ite State.kept, apply_ite Prod.fst]
@[simp] theorem courseTestComplete_kept (n : Nat) (s : State) : (courseTestComplete n s).kept = s.kept := by
  unfold courseTestComplete
  (repeat' split) <;> simp
@[simp] theorem State.notePhases_kept (s : State) (n : Nat) (old : List Nat) (new : List Nat) (working : Nat) : (s.notePhases
    n old new working).kept = s.kept :=
  foldl_kept _ (by simp [apply_ite State.kept]) _ _
@[simp] theorem State.noteDuty_kept (s : State) (n : Nat) : (s.noteDuty n).kept = s.kept := by
  unfold State.noteDuty
  (repeat' split) <;> simp [apply_ite State.kept]
@[simp] theorem State.courseFell_kept (s : State) (n : Nat) (old : Status) (new : Status) : (s.courseFell n old new).kept =
    s.kept := by
  unfold State.courseFell
  (repeat' split) <;> simp
@[simp] theorem State.takeStatus_kept (s : State) (n : Nat) (gen : U32) (f : StatusFrame) : (s.takeStatus n gen f).kept =
    s.kept := by
  simp [State.takeStatus, apply_ite State.kept]
@[simp] theorem State.noteCut_kept (s : State) (n : Nat) (p : Plan) (primed : Bool) : (s.noteCut n p primed).kept = s.kept := by
  simp [State.noteCut, apply_ite State.kept]
@[simp] theorem State.endRefused_kept (s : State) (p : Plan) (o : Outcome) : (s.endRefused p o).kept = s.kept :=
  foldl_kept _ (by simp) _ _
@[simp] theorem State.fireRan_kept (s : State) (n : Nat) (p : Plan) (f : EndBody) :
    (s.fireRan n p f).kept = s.kept := by
  unfold State.fireRan
  (try dsimp only)
  (repeat' split) <;> simp
@[simp] theorem courseEnd_kept (up : UpHdr) (f : EndBody) (s : State) : (courseEnd up f s).kept = s.kept := by
  unfold courseEnd
  dsimp only
  (repeat' split) <;> simp_all [foldl_kept]
@[simp] theorem State.judgeIdentity_kept (s : State) (n : Nat) : (s.judgeIdentity n).kept = s.kept := by
  unfold State.judgeIdentity
  dsimp only
  (repeat' split) <;> simp_all
@[simp] theorem State.judgeWords_kept (s : State) (n : Nat) (addr : Nat) (ws : List U32) : (s.judgeWords n addr ws).kept =
    s.kept := by
  simp [State.judgeWords, apply_ite State.kept]
@[simp] theorem courseReadback_kept (l : LinkId) (addr : Nat) (ws : List U32) (s : State) : (courseReadback l addr ws s).kept
    = s.kept := by
  unfold courseReadback
  (repeat' split) <;> simp [apply_ite State.kept]
@[simp] theorem courseLinkLoss_kept (n : Nat) (s : State) : (courseLinkLoss n s).kept = s.kept := by
  simp [courseLinkLoss, apply_ite State.kept]
@[simp] theorem courseLearn_kept (ln : Ln) (n : Nat) (src : Nat) (s : State) : (courseLearn ln n src s).kept = s.kept := by
  unfold courseLearn
  exact State.verb_kept _ _ _ _ fun s => by (repeat' split) <;> simp [apply_ite State.kept, apply_ite Prod.fst]
@[simp] theorem courseLearnStop_kept (ln : Ln) (n : Nat) (s : State) : (courseLearnStop ln n s).kept = s.kept := by
  unfold courseLearnStop
  exact State.verb_kept _ _ _ _ fun s => by (repeat' split) <;> simp
@[simp] theorem State.countLearn_kept (s : State) (n : Nat) (bin : Nat) (step : Nat) (hit : Bool) : (s.countLearn n bin step
    hit).kept = s.kept := by
  simp [State.countLearn]
@[simp] theorem learnResultRead_kept (n : Nat) (tid : Nat) (s : State) : (learnResultRead n tid s).kept = s.kept := by
  unfold learnResultRead
  (repeat' split) <;> simp [apply_ite State.kept]
@[simp] theorem learnLimit_kept (n : Nat) (s : State) : (learnLimit n s).kept = s.kept := by
  unfold learnLimit
  (repeat' split) <;> simp

/-! ### CourseDevs.lean -/
@[simp] theorem State.devHear_kept (s : State) (d : Dn) (f : CourseDev → CourseDev) :
    (s.devHear d f).kept = s.kept := by
  unfold State.devHear
  (try dsimp only)
  (repeat' split) <;> simp
@[simp] theorem State.devDo_kept (s : State) (d : Dn) (f : CourseDev → CourseDev) : (s.devDo d f).kept = s.kept := by
  simp [State.devDo]
@[simp] theorem State.devDrive_kept (s : State) (d : Dn) (f : CourseDev → CourseDev) : (s.devDrive d f).kept = s.kept := by
  simp [State.devDrive]
@[simp] theorem courseRxSync_kept (d : Dn) (t : Tick) (s : State) : (courseRxSync d t s).kept = s.kept := by
  simp [courseRxSync]
@[simp] theorem courseRxConfig_kept (d : Dn) (addr : Nat) (ws : List U32) (s : State) : (courseRxConfig d addr ws s).kept =
    s.kept := by
  simp [courseRxConfig]
@[simp] theorem courseRxQuery_kept (d : Dn) (addr : Nat) (groups : Nat) (s : State) : (courseRxQuery d addr groups s).kept =
    s.kept := by
  simp [courseRxQuery]
@[simp] theorem courseRxEcho_kept (d : Dn) (t : Tick) (clk : Nat) (num : Nat) (s : State) : (courseRxEcho d t clk num s).kept
    = s.kept := by
  simp [courseRxEcho]
@[simp] theorem courseRxIdle_kept (d : Dn) (s : State) : (courseRxIdle d s).kept = s.kept := by
  unfold courseRxIdle
  split <;> simp
@[simp] theorem courseRxEnable_kept (d : Dn) (s : State) : (courseRxEnable d s).kept = s.kept := by simp [courseRxEnable]
@[simp] theorem courseRxDrain_kept (d : Dn) (abort : Bool) (s : State) : (courseRxDrain d abort s).kept = s.kept := by
  simp [courseRxDrain]
@[simp] theorem courseRxPlan_kept (d : Dn) (p : PlanBody) (s : State) : (courseRxPlan d p s).kept = s.kept := by
  simp [courseRxPlan]
@[simp] theorem courseRxConfirm_kept (d : Dn) (bank : Nat) (mask : BitVec 128) (s : State) : (courseRxConfirm d bank mask
    s).kept = s.kept := by
  simp [courseRxConfirm]
@[simp] theorem courseRxCommit_kept (d : Dn) (bank : Nat) (mask : BitVec 128) (s : State) : (courseRxCommit d bank mask
    s).kept = s.kept := by
  simp [courseRxCommit]
@[simp] theorem courseRxDrop_kept (d : Dn) (bank : Nat) (mask : BitVec 128) (s : State) : (courseRxDrop d bank mask s).kept =
    s.kept := by
  simp [courseRxDrop]
@[simp] theorem courseRxExtend_kept (d : Dn) (slot : Nat) (dur : Nat) (s : State) : (courseRxExtend d slot dur s).kept =
    s.kept := by
  simp [courseRxExtend]
@[simp] theorem courseRxCrown_kept (d : Dn) (gen : U32) (horizon : Tick) (handover : Bool) (s : State) : (courseRxCrown d gen
    horizon handover s).kept = s.kept := by
  unfold courseRxCrown
  split <;> simp
@[simp] theorem coursePrimeStart_kept (n : Nat) (ch : Nat) (s : State) : (coursePrimeStart n ch s).kept = s.kept := by
  unfold coursePrimeStart
  dsimp only
  (repeat' split) <;> simp_all
@[simp] theorem coursePeakStart_kept (n : Nat) (ch : Nat) (reached : Bool) (s : State) : (coursePeakStart n ch reached s).kept
    = s.kept := by
  unfold coursePeakStart
  dsimp only
  (repeat' split) <;> simp_all
@[simp] theorem coursePeakEnd_kept (n : Nat) (ch : Nat) (peak : Bool) (s : State) : (coursePeakEnd n ch peak s).kept = s.kept
    := by
  simp [coursePeakEnd]
@[simp] theorem courseReleaseStart_kept (n : Nat) (ch : Nat) (s : State) : (courseReleaseStart n ch s).kept = s.kept := by
  simp [courseReleaseStart]
@[simp] theorem courseStatusSend_kept (n : Nat) (s : State) : (courseStatusSend n s).kept = s.kept := by
  unfold courseStatusSend
  split <;> simp
@[simp] theorem boostPhaseFault_kept (n : Nat) (phase : Nat) (sense : Bool) (s : State) : (boostPhaseFault n phase sense
    s).kept = s.kept := by
  simp [boostPhaseFault]
@[simp] theorem boostOvervoltage_kept (n : Nat) (s : State) : (boostOvervoltage n s).kept = s.kept := by
  simp [boostOvervoltage]
@[simp] theorem courseFieldSupplyLow_kept (n : Nat) (v : Nat) (s : State) : (courseFieldSupplyLow n v s).kept = s.kept := by
  unfold courseFieldSupplyLow
  split <;> simp
@[simp] theorem courseFieldSupplyLoss_kept (n : Nat) (v : Nat) (s : State) : (courseFieldSupplyLoss n v s).kept = s.kept := by
  unfold courseFieldSupplyLoss
  split <;> simp
@[simp] theorem courseFieldSupplyReturn_kept (n : Nat) (v : Nat) (s : State) : (courseFieldSupplyReturn n v s).kept = s.kept
    := by
  unfold courseFieldSupplyReturn
  split <;> simp
@[simp] theorem courseUplinkSilence_kept (n : Nat) (s : State) : (courseUplinkSilence n s).kept = s.kept := by
  simp [courseUplinkSilence]
@[simp] theorem courseOrphanDrain_kept (n : Nat) (s : State) : (courseOrphanDrain n s).kept = s.kept := by
  simp [courseOrphanDrain]

/-! ### Faults.lean -/
@[simp] theorem clockLockLoss_kept (s : State) : (clockLockLoss s).kept = s.kept := by
  unfold clockLockLoss
  split <;> simp
@[simp] theorem referenceClockLock_kept (s : State) : (referenceClockLock s).kept = s.kept := by
  unfold referenceClockLock
  split <;> simp
@[simp] theorem fieldFaultBit_kept (set : Bool) (s : State) : (fieldFaultBit set s).kept = s.kept := by
  simp [fieldFaultBit, apply_ite State.kept]
@[simp] theorem State.loseField_kept (s : State) : s.loseField.kept = s.kept := by
  unfold State.loseField
  split <;> simp
@[simp] theorem fieldLinkLoss_kept (s : State) : (fieldLinkLoss s).kept = s.kept := by
  unfold fieldLinkLoss
  split <;> simp
@[simp] theorem evMramFail_kept (ceiling : Bool) (s : State) : (evMramFail ceiling s).kept = s.kept := by
  unfold evMramFail
  split <;> simp
@[simp] theorem supplyBelowCollapse_kept (bus : Nat) (s : State) : (supplyBelowCollapse bus s).kept = s.kept := by
  simp [supplyBelowCollapse, apply_ite State.kept]
@[simp] theorem State.takeBus_kept (s : State) (bus : Nat) :
    (s.takeBus bus).kept = s.kept := by
  unfold State.takeBus
  (try dsimp only)
  (repeat' split) <;> simp
@[simp] theorem supplyDipEnd_kept (low : Nat) (bus : Nat) (s : State) : (supplyDipEnd low bus s).kept = s.kept := by
  unfold supplyDipEnd
  (repeat' split) <;> simp
@[simp] theorem supplyLow_kept (bus : Nat) (s : State) : (supplyLow bus s).kept = s.kept := by
  simp [supplyLow, apply_ite State.kept]
@[simp] theorem State.setHoldup_kept (s : State) (pct : Nat) : (s.setHoldup pct).kept = s.kept := by
  unfold State.setHoldup
  split <;> simp
@[simp] theorem holdupMeasure_kept (pct : Nat) (s : State) : (holdupMeasure pct s).kept = s.kept := by
  simp [holdupMeasure, apply_ite State.kept]
@[simp] theorem supplyInputLost_kept (b : Bool) (s : State) : (supplyInputLost b s).kept = s.kept := by
  simp [supplyInputLost, apply_ite State.kept]
@[simp] theorem supplyInputRestored_kept (b : Bool) (s : State) : (supplyInputRestored b s).kept = s.kept := by
  simp [supplyInputRestored, apply_ite State.kept]
@[simp] theorem coolingFanStop_kept (i : Nat) (s : State) : (coolingFanStop i s).kept = s.kept := by
  unfold coolingFanStop
  split <;> simp
@[simp] theorem overTemperature_kept (t : Int) (s : State) : (overTemperature t s).kept = s.kept := by
  simp [overTemperature, apply_ite State.kept]

end Sys2Proof.Machine
end

