-- ==== Sys2Proof/Laws/KeptSeal.lean ====
section
/-! SUPPORT. What memory protection, but for what writes the DRAM, keeps: the queue, the tick, the FACTORY bank and the DRAM (`State.kept`). -/
namespace Sys2Proof.Machine

/-! ### Seal.lean -/
@[simp] theorem State.touch_kept (s : State) (slot : Nat) (line : Nat) : (s.touch slot line).kept = s.kept := by
  simp [State.touch, apply_ite State.kept]
@[simp] theorem State.failCheck_kept (s : State) (slot : Nat) (line : Nat) (who : Option Nat) : (s.failCheck slot line
    who).kept = s.kept := by
  unfold State.failCheck
  dsimp only
  (repeat' split) <;> simp_all
@[simp] theorem State.checkLines_kept (s : State) (slot : Nat) (who : Option Nat) (b : Bool) (l : List Nat) :
    (s.checkLines slot who b l).1.kept = s.kept := by
  induction l generalizing s b with
  | nil => simp [State.checkLines]
  | cons x xs ih => unfold State.checkLines; dsimp only; (repeat' split) <;> simp [ih]
@[simp] theorem State.sealRead_kept (s : State) (slot : Nat) (off : Nat) (len : Nat) (who : Option Nat) (altered : Bool) :
    (s.sealRead slot off len who altered).1.kept = s.kept := by
  unfold State.sealRead
  split
  · rfl
  · split <;> next h => simpa using congrArg (fun p => p.1.kept) h.symm
@[simp] theorem State.countPartial_kept (s : State) : s.countPartial.kept = s.kept := by simp [State.countPartial]
@[simp] theorem State.busAnswer_kept (s : State) (e : Option BusError) : (s.busAnswer e).kept = s.kept := by
  simp [State.busAnswer]
@[simp] theorem State.wrongKey_kept (s : State) (who : Option Nat) (key : Nat) (addr : Nat) : (s.wrongKey who key addr).kept =
    s.kept := by
  unfold State.wrongKey
  split <;> simp
@[simp] theorem State.answerRead_kept (r : State × Except BusError (List Byte)) : (State.answerRead r).kept = r.1.kept := by
  unfold State.answerRead
  split <;> rfl
@[simp] theorem sealReadCmd_kept (who key addr len : Nat) (altered : Option (List Byte)) (s : State) :
    (sealReadCmd who key addr len altered s).kept = s.kept := by
  unfold sealReadCmd; (repeat' split) <;> simp
@[simp] theorem wrongKeyAccess_kept (who : Nat) (key : Nat) (addr : Nat) (s : State) : (wrongKeyAccess who key addr s).kept =
    s.kept := by
  unfold wrongKeyAccess
  split <;> simp
@[simp] theorem State.poisonLine_kept (s : State) (slot : Nat) (line : Nat) : (s.poisonLine slot line).kept = s.kept := by
  simp [State.poisonLine]
@[simp] theorem eccUncorrectable_kept (who : Nat) (addr : Nat) (s : State) : (eccUncorrectable who addr s).kept = s.kept := by
  unfold eccUncorrectable
  (repeat' split) <;> simp
@[simp] theorem heldWriteTimeout_kept (s : State) : (heldWriteTimeout s).kept = s.kept := by
  simp [heldWriteTimeout, foldl_kept, apply_ite State.kept]
@[simp] theorem State.takeRekey_kept (s : State) (r : RekeyReq) : (s.takeRekey r).kept = s.kept := by
  simp [State.takeRekey, apply_ite State.kept]
@[simp] theorem State.nextRekey_kept (s : State) : s.nextRekey.kept = s.kept := by
  unfold State.nextRekey
  (repeat' split) <;> simp
@[simp] theorem rekeyBegin_kept (s : State) : (rekeyBegin s).kept = s.kept := by
  unfold rekeyBegin
  split <;> simp
@[simp] theorem rekeyRngRetry_kept (s : State) : (rekeyRngRetry s).kept = s.kept := by
  unfold rekeyRngRetry
  split <;> simp
@[simp] theorem rekeyPeriodExpire_kept (slot : Nat) (s : State) : (rekeyPeriodExpire slot s).kept = s.kept := by
  simp [rekeyPeriodExpire, apply_ite State.kept]
@[simp] theorem State.cleared_kept (s : State) (slot : Nat) : (s.cleared slot).kept = s.kept := by
  unfold State.cleared
  (repeat' split) <;> simp
@[simp] theorem State.finishRekey_kept (s : State) (slot : Nat) : (s.finishRekey slot).kept = s.kept := by
  simp [State.finishRekey, apply_ite State.kept]
@[simp] theorem State.dropHeld_kept (s : State) (slot : Nat) (line : Nat) : (s.dropHeld slot line).kept = s.kept := by
  simp [State.dropHeld]
@[simp] theorem sealRekey_kept (ln : Ln) (slot : Nat) (s : State) : (sealRekey ln slot s).kept = s.kept := by
  unfold sealRekey
  exact State.verb_kept _ _ _ _ fun s => by (repeat' split) <;> simp [apply_ite State.kept]
@[simp] theorem sealRekeyClear_kept (ln : Ln) (slot : Nat) (s : State) : (sealRekeyClear ln slot s).kept = s.kept := by
  unfold sealRekeyClear
  exact State.verb_kept _ _ _ _ fun s => by (repeat' split) <;> simp [apply_ite State.kept]
@[simp] theorem State.repointerStopped_kept (s : State) (slot : Nat) :
    (s.repointerStopped slot).kept = s.kept := by
  unfold State.repointerStopped
  (try dsimp only)
  (repeat' split) <;> simp
@[simp] theorem State.abortRekey_kept (s : State) (slot : Nat) :
    (s.abortRekey slot).kept = s.kept := by
  unfold State.abortRekey
  (try dsimp only)
  (repeat' split) <;> simp
@[simp] theorem State.stopRekey_kept (s : State) (slot : Nat) : (s.stopRekey slot).kept = s.kept := by
  simp [State.stopRekey, apply_ite State.kept]
@[simp] theorem State.repointerTick_kept (s : State) :
    s.repointerTick.kept = s.kept := by
  unfold State.repointerTick
  (repeat' split) <;> simp
@[simp] theorem sealRekeyAbort_kept (ln : Ln) (slot : Nat) (s : State) : (sealRekeyAbort ln slot s).kept = s.kept := by
  unfold sealRekeyAbort
  exact State.verb_kept _ _ _ _ fun s => by (repeat' split) <;> simp
@[simp] theorem sealShow_kept (ln : Ln) (slot : Option Nat) (s : State) : (sealShow ln slot s).kept = s.kept := by
  unfold sealShow
  exact State.verb_kept _ _ _ _ fun s => by (repeat' split) <;> simp
@[simp] theorem State.needFresh_kept (s : State) (ln : Ln) (f : State → VerbRes) (h : ∀ s, (f s).1.kept = s.kept) :
    (s.needFresh ln f).1.kept = s.kept := by
  unfold State.needFresh
  split <;> simp [h]
@[simp] theorem sealShowLedger_kept (ln : Ln) (s : State) : (sealShowLedger ln s).kept = s.kept := by
  unfold sealShowLedger
  exact State.verb_kept _ _ _ _ fun s => by simp [apply_ite State.kept, apply_ite Prod.fst]
@[simp] theorem State.startStore_kept (s : State) (ln : Ln) (f : State → State × Option (List Byte)) (code : Nat)
    (h : ∀ s, (f s).1.kept = s.kept) : (s.startStore ln f code).1.kept = s.kept := by
  unfold State.startStore
  refine State.needFresh_kept _ _ _ fun s => ?_
  split
  · simp
  split
  · simp
  · split
    · simp
    · have e := h s
      split <;> next q =>
        rw [q] at e
        first | exact e | exact (State.startOp_kept _ _ _ _ _ fun s => by simp).trans e
@[simp] theorem sealRekeyLedger_kept (ln : Ln) (s : State) : (sealRekeyLedger ln s).kept = s.kept := by
  unfold sealRekeyLedger
  exact State.verb_kept _ _ _ _ fun s => by simp [apply_ite State.kept, apply_ite Prod.fst]
@[simp] theorem sealRekeyLedgerImport_kept (ln : Ln) (wrapped : List Byte) (s : State) : (sealRekeyLedgerImport ln wrapped
    s).kept = s.kept := by
  unfold sealRekeyLedgerImport
  exact State.verb_kept _ _ _ _ fun s => by simp
@[simp] theorem keyStoreWriteComplete_kept (ok : Bool) (s : State) : (keyStoreWriteComplete ok s).kept = s.kept := by
  unfold keyStoreWriteComplete
  (repeat' split) <;> simp [apply_ite State.kept]
@[simp] theorem lidSwitch_kept (open_ : Bool) (s : State) : (lidSwitch open_ s).kept = s.kept := by
  simp [lidSwitch, apply_ite State.kept]
@[simp] theorem jtagInstruction_kept (ir : JtagIr) (s : State) : (jtagInstruction ir s).kept = s.kept := by
  unfold jtagInstruction
  split <;> simp
@[simp] theorem debugAccessBlocked_kept (engine : Nat) (addr : Nat) (wr : Bool) (s : State) : (debugAccessBlocked engine addr
    wr s).kept = s.kept := by
  simp [debugAccessBlocked, apply_ite State.kept]
@[simp] theorem sealEngineFail_kept (s : State) : (sealEngineFail s).kept = s.kept := by
  unfold sealEngineFail
  split <;> simp

end Sys2Proof.Machine
end

