-- ==== Sys2Proof/Laws/KeptLedger.lean ====
section
/-! SUPPORT. What the ledger keeps: the queue, the tick, the FACTORY bank and the DRAM (`State.kept`). -/
namespace Sys2Proof.Machine

/-! ### Ledger.lean -/
@[simp] theorem State.fillMarks_kept (s : State) : s.fillMarks.kept = s.kept := by
  simp [State.fillMarks, apply_ite State.kept]
@[simp] theorem State.dropRecord_kept (s : State) : s.dropRecord.kept = s.kept := by
  simp [State.dropRecord, apply_ite State.kept]
@[simp] theorem recordJournal_kept (s : State) : (recordJournal s).kept = s.kept := by
  unfold recordJournal
  (repeat' split) <;> simp [apply_ite State.kept]
@[simp] theorem State.enqueue_kept (s : State) (a : Ashlar) : (s.enqueue a).kept = s.kept := by simp [State.enqueue]
@[simp] theorem State.closeAshlar_kept (s : State) (a : Ashlar) : (s.closeAshlar a).kept = s.kept := by
  simp [State.closeAshlar]
@[simp] theorem State.closeForming_kept (s : State) : s.closeForming.kept = s.kept := by
  unfold State.closeForming
  (repeat' split) <;> simp
@[simp] theorem State.formRecord_kept (s : State) (f : Frame) : (s.formRecord f).kept = s.kept := by
  unfold State.formRecord
  dsimp only
  (repeat' split) <;> simp_all
@[simp] theorem State.format_kept (s : State) : s.format.kept = s.kept := by
  simp [State.format, foldl_kept, apply_ite State.kept]
@[simp] theorem stagingPage_kept (s : State) : (stagingPage s).kept = s.kept := by
  unfold stagingPage
  dsimp only
  (repeat' split) <;> simp_all
@[simp] theorem ledgerFlushTimer_kept (s : State) : (ledgerFlushTimer s).kept = s.kept := by
  simp [ledgerFlushTimer, apply_ite State.kept]
@[simp] theorem State.release_kept (s : State) : s.release.kept = s.kept := by simp [State.release]
@[simp] theorem State.markVerified_kept (s : State) (a : Ashlar) : (s.markVerified a).kept = s.kept := by
  simp [State.markVerified]
@[simp] theorem State.reform_kept (s : State) : s.reform.kept = s.kept := by simp [State.reform]
@[simp] theorem State.makeCapstone_kept (s : State) (reason : Nat) : (s.makeCapstone reason).kept = s.kept := by
  unfold State.makeCapstone
  split <;> simp
@[simp] theorem State.putOnTape_kept (s : State) : s.putOnTape.kept = s.kept := by
  unfold State.putOnTape
  (repeat' split) <;> simp
@[simp] theorem tapeStart_kept (s : State) : (tapeStart s).kept = s.kept := by
  unfold tapeStart
  (repeat' split) <;> simp [apply_ite State.kept]
@[simp] theorem State.stood_kept (s : State) (a : Ashlar) (w : Nat) (i : Nat) : (s.stood a w i).kept = s.kept := by
  simp [State.stood]
@[simp] theorem State.setTape_kept (s : State) (seq : Nat) (trailers : Nat) (sound : Bool) : (s.setTape seq trailers
    sound).kept = s.kept := by
  simp [State.setTape]
@[simp] theorem State.redoAshlar_kept (s : State) (a : Ashlar) : (s.redoAshlar a).kept = s.kept := by
  unfold State.redoAshlar
  split <;> simp
@[simp] theorem State.breakOff_kept (s : State) (a : Ashlar) (zoneEnd : Bool) : (s.breakOff a zoneEnd).kept = s.kept := by
  simp [State.breakOff]
@[simp] theorem State.abandon_kept (s : State) (a : Ashlar) (zoneEnd : Bool) : (s.abandon a zoneEnd).kept = s.kept := by
  simp [State.abandon]
@[simp] theorem blockReadback_kept (read : Option RowRead) (ch : Nat) (s : State) : (blockReadback read ch s).kept = s.kept := by
  unfold blockReadback
  (repeat' split) <;> simp [apply_ite State.kept]
@[simp] theorem ashlarWriteEnd_kept (trailers : Nat) (s : State) : (ashlarWriteEnd trailers s).kept = s.kept := by
  unfold ashlarWriteEnd
  (repeat' split) <;> simp [apply_ite State.kept]
@[simp] theorem State.beginUnload_kept (s : State) (close : Bool) : (s.beginUnload close).kept = s.kept := by
  simp [State.beginUnload]
@[simp] theorem State.capVerified_kept (s : State) (reason : Nat) : (s.capVerified reason).kept = s.kept := by
  unfold State.capVerified
  dsimp only
  (repeat' split) <;> simp_all
@[simp] theorem State.ledgerHandover_kept (s : State) : s.ledgerHandover.kept = s.kept := by
  unfold State.ledgerHandover
  split <;> simp
@[simp] theorem ashlarVerified_kept (trailers : Nat) (rowsOk : Bool) (s : State) : (ashlarVerified trailers rowsOk s).kept =
    s.kept := by
  unfold ashlarVerified
  (repeat' split) <;> simp [apply_ite State.kept]
@[simp] theorem cartridgeInserted_kept (c : Cartridge) (s : State) : (cartridgeInserted c s).kept = s.kept := by
  simp [cartridgeInserted, apply_ite State.kept]
@[simp] theorem cartridgeRemoved_kept (s : State) : (cartridgeRemoved s).kept = s.kept := by
  simp [cartridgeRemoved, apply_ite State.kept]
@[simp] theorem ledgerLoad_kept (ln : Ln) (s : State) : (ledgerLoad ln s).kept = s.kept := by
  unfold ledgerLoad
  refine State.verb_kept _ _ _ _ fun s => ?_
  (repeat' split) <;> first | exact State.startOp_kept _ _ _ _ _ fun _ => rfl | simp
@[simp] theorem State.eject_kept (s : State) : s.eject.kept = s.kept := by simp [State.eject]
@[simp] theorem State.takeCart_kept (s : State) (c : Cartridge) : (s.takeCart c).kept = s.kept := by
  simp [State.takeCart, foldl_kept, apply_ite State.kept]
@[simp] theorem State.endLoad_kept (s : State) (st : LedgerState) (c : Cartridge) : (s.endLoad st c).kept = s.kept := by
  unfold State.endLoad
  split <;> simp
@[simp] theorem ledgerLoadDone_kept (threaded : Bool) (verified : Bool) (s : State) : (ledgerLoadDone threaded verified
    s).kept = s.kept := by
  unfold ledgerLoadDone
  (repeat' split) <;> simp
@[simp] theorem ledgerUnload_kept (ln : Ln) (close : Bool) (s : State) : (ledgerUnload ln close s).kept = s.kept := by
  unfold ledgerUnload
  exact State.verb_kept _ _ _ _ fun s => by (repeat' split) <;> simp
@[simp] theorem ledgerUnloadDone_kept (s : State) : (ledgerUnloadDone s).kept = s.kept := by
  simp [ledgerUnloadDone, apply_ite State.kept]
@[simp] theorem State.beginTape_kept (s : State) (op : LedgerOp) : (s.beginTape op).kept = s.kept := by
  simp [State.beginTape]
@[simp] theorem ledgerSeek_kept (ln : Ln) (t : SeekTarget) (s : State) : (ledgerSeek ln t s).kept = s.kept := by
  unfold ledgerSeek
  exact State.verb_kept _ _ _ _ fun s => by (repeat' split) <;> simp
@[simp] theorem ledgerSeekDone_kept (ok : Bool) (s : State) : (ledgerSeekDone ok s).kept = s.kept := by
  unfold ledgerSeekDone
  split <;> simp
@[simp] theorem ledgerVerify_kept (ln : Ln) (first : Option Nat) (last : Option Nat) (s : State) : (ledgerVerify ln first last
    s).kept = s.kept := by
  unfold ledgerVerify
  exact State.verb_kept _ _ _ _ fun s => by (repeat' split) <;> simp
@[simp] theorem ledgerVerifyDone_kept (s : State) : (ledgerVerifyDone s).kept = s.kept := by
  unfold ledgerVerifyDone
  split <;> simp
@[simp] theorem ledgerReplay_kept (ln : Ln) (serial : Nat) (count : Nat) (off : Nat) (len : Nat) (s : State) : (ledgerReplay
    ln serial count off len s).kept = s.kept := by
  unfold ledgerReplay
  exact State.verb_kept _ _ _ _ fun s => by (repeat' split) <;> simp
@[simp] theorem State.replayEnds_kept (s : State) (o : Out) : (s.replayEnds o).kept = s.kept := by simp [State.replayEnds]
@[simp] theorem State.abortTape_kept (s : State) : s.abortTape.kept = s.kept := by
  unfold State.abortTape
  (repeat' split) <;> simp [apply_ite State.kept]
@[simp] theorem ledgerAbort_kept (ln : Ln) (completion : Option Tick) (s : State) : (ledgerAbort ln completion s).kept =
    s.kept := by
  unfold ledgerAbort
  exact State.verb_kept _ _ _ _ fun s => by (repeat' split) <;> simp
@[simp] theorem State.endLedgerVerbs_kept (s : State) (o : Out) : (s.endLedgerVerbs o).kept = s.kept := by
  simp [State.endLedgerVerbs]
@[simp] theorem State.stagingError_kept (s : State) (who : Nat) : (s.stagingError who).kept = s.kept := by
  unfold State.stagingError
  (repeat' split) <;> simp
@[simp] theorem sealReadBy_kept (who key addr len : Nat) (altered : Option (List Byte)) (s : State) :
    (sealReadBy who key addr len altered s).kept = s.kept := by
  simp [sealReadBy, apply_ite State.kept]
@[simp] theorem State.ledgerFault_kept (s : State) (why : Nat) : (s.ledgerFault why).kept = s.kept := by
  unfold State.ledgerFault
  split <;> simp
@[simp] theorem State.loseLedger_kept (s : State) : s.loseLedger.kept = s.kept := by
  simp [State.loseLedger, apply_ite State.kept]
@[simp] theorem ledgerLinkLoss_kept (s : State) : (ledgerLinkLoss s).kept = s.kept := by
  unfold ledgerLinkLoss
  split <;> simp
@[simp] theorem transportFault_kept (why : Nat) (s : State) : (transportFault why s).kept = s.kept := by
  unfold transportFault
  split <;> simp
@[simp] theorem transportSupplyCollapse_kept (s : State) : (transportSupplyCollapse s).kept = s.kept := by
  simp [transportSupplyCollapse, apply_ite State.kept]
@[simp] theorem journalMramFail_kept (s : State) : (journalMramFail s).kept = s.kept := by
  unfold journalMramFail
  split <;> simp
@[simp] theorem State.ledgerCollapse_kept (s : State) (offSpeed : Bool) : (s.ledgerCollapse offSpeed).kept = s.kept := by
  unfold State.ledgerCollapse
  dsimp only
  (repeat' split) <;> simp_all
@[simp] theorem journalReplay_kept (bad : Option Nat) (s : State) : (journalReplay bad s).kept = s.kept := by
  unfold journalReplay
  (repeat' split) <;> simp [apply_ite State.kept]
@[simp] theorem conditionRecord_kept (s : State) : (conditionRecord s).kept = s.kept := by
  simp [conditionRecord, apply_ite State.kept]

end Sys2Proof.Machine
end

