-- ==== Sys2Proof/Laws/KeptSet.lean ====
section
/-! SUPPORT. What SET, bonds and banks keep: the queue, the tick, the FACTORY bank and the DRAM (`State.kept`). -/
namespace Sys2Proof.Machine

/-! ### Set.lean -/
@[simp] theorem State.limitsNow_kept (s : State) (z : Nat) : (s.limitsNow z).kept = s.kept := by simp [State.limitsNow]
@[simp] theorem State.geometryNow_kept (s : State) (n : Nat) : (s.geometryNow n).kept = s.kept := by simp [State.geometryNow]
@[simp] theorem State.atOnce_kept (s : State) (b : Bond) : (s.atOnce b).kept = s.kept := by
  unfold State.atOnce
  (repeat' split) <;> simp
@[simp] theorem State.commitBond_kept (s : State) (b : Bond) : (s.commitBond b).kept = s.kept := by simp [State.commitBond]
@[simp] theorem State.commitGeometry_kept (s : State) : s.commitGeometry.kept = s.kept :=
  foldl_kept _ (by simp) _ _
@[simp] theorem bondCommit_kept (ln : Ln) (b : BondRef) (s : State) : (bondCommit ln b s).kept = s.kept := by
  unfold bondCommit
  exact State.verb_kept _ _ _ _ fun s => by (repeat' split) <;> simp
@[simp] theorem bondDiscard_kept (ln : Ln) (b : BondRef) (s : State) : (bondDiscard ln b s).kept = s.kept := by
  unfold bondDiscard
  exact State.verb_kept _ _ _ _ fun s => by (repeat' split) <;> simp
@[simp] theorem bondShow_kept (ln : Ln) (b : Option Bond) (s : State) : (bondShow ln b s).kept = s.kept := by
  unfold bondShow
  exact State.verb_kept _ _ _ _ fun s => by (repeat' split) <;> simp
@[simp] theorem bondEffect_kept (b : Bond) (s : State) : (bondEffect b s).kept = s.kept := by
  unfold bondEffect
  (repeat' split) <;> simp
@[simp] theorem State.writePair_kept (s : State) (ses : Nat) (p : SetPair) : (s.writePair ses p).kept = s.kept := by
  unfold State.writePair
  (repeat' split) <;> simp
@[simp] theorem judgePair_kept (lv : Level) (calOnly : Bool) (s : State) (ses : Nat) (a : State × SetPlan) (i : Nat)
    (r : Option PKey × ValIn) : (judgePair lv calOnly s ses a i r).1.kept = a.1.kept := by
  unfold judgePair
  split
  · rfl
  · dsimp only
    split <;> simp
@[simp] theorem judgePairs_kept (lv : Level) (calOnly : Bool) (s : State) (ses i : Nat) (a : State × SetPlan)
    (l : List (Option PKey × ValIn)) : (judgePairs lv calOnly s ses i a l).1.kept = a.1.kept := by
  induction l generalizing i a with
  | nil => rfl
  | cons r rs ih => unfold judgePairs; rw [ih, judgePair_kept]
@[simp] theorem State.setBand_kept (t : State) (s : State) : (t.setBand s).kept = t.kept := by
  unfold State.setBand
  split <;> simp
@[simp] theorem State.setPlumb_kept (t : State) (s : State) : (t.setPlumb s).kept = t.kept := by
  simp [State.setPlumb, foldl_kept, apply_ite State.kept]
@[simp] theorem State.setAir_kept (t : State) (s : State) : (t.setAir s).kept = t.kept :=
  foldl_kept _ (by simp [apply_ite State.kept]) _ _
@[simp] theorem State.setLoops_kept (t : State) (s : State) : (t.setLoops s).kept = t.kept := by
  simp [State.setLoops, foldl_kept, apply_ite State.kept]
@[simp] theorem State.setRest_kept (t : State) (s : State) : (t.setRest s).kept = t.kept := by
  simp [State.setRest, apply_ite State.kept]
@[simp] theorem State.afterSet_kept (t : State) (s : State) : (t.afterSet s).kept = t.kept := by simp [State.afterSet]
@[simp] theorem State.corrFirst_kept (s : State) (t : State) : (s.corrFirst t).kept = s.kept :=
  foldl_kept _ (by simp [apply_ite State.kept]) _ _
@[simp] theorem State.applyLine_kept (s : State) (ses : Nat) (commit : Bool) (p : SetPlan) : (s.applyLine ses commit p).kept =
    s.kept := by
  unfold State.applyLine
  dsimp only
  rw [State.afterSet_kept]
  split
  · refine (foldl_kept _ (fun s x => ?_) _ _).trans ?_
    · (repeat' split) <;> simp
    · (repeat' split) <;> simp [foldl_kept]
  · (repeat' split) <;> simp [foldl_kept]
@[simp] theorem State.setLine_kept (s : State) (ln : Ln) (calOnly : Bool) (ps : List (PRef × Lit)) : (s.setLine ln calOnly
    ps).1.kept = s.kept := by
  unfold State.setLine
  dsimp only
  (repeat' split) <;> simp_all
@[simp] theorem setVerb_kept (ln : Ln) (ps : List (PRef × Lit)) (s : State) : (setVerb ln ps s).kept = s.kept := by
  unfold setVerb
  exact State.verb_kept _ _ _ _ fun s => by simp
@[simp] theorem calSet_kept (ln : Ln) (ps : List (PRef × Lit)) (s : State) : (calSet ln ps s).kept = s.kept := by
  unfold calSet
  exact State.verb_kept _ _ _ _ fun s => by simp
@[simp] theorem State.clearFlags_kept (s : State) (ks : List PKey) : (s.clearFlags ks).kept = s.kept :=
  foldl_kept _ (by simp [apply_ite State.kept]) _ _
@[simp] theorem getVerb_kept (ln : Ln) (ps : List PRef) (s : State) : (getVerb ln ps s).kept = s.kept := by
  unfold getVerb
  exact State.verb_kept _ _ _ _ fun s => by (repeat' split) <;> simp [apply_ite State.kept, apply_ite Prod.fst]
@[simp] theorem setRequest_kept (c : Nat) (block : List Byte) (s : State) : (setRequest c block s).kept = s.kept := by
  simp [setRequest, apply_ite State.kept]
@[simp] theorem setRequestExec_kept (c : Nat) (s : State) : (setRequestExec c s).kept = s.kept := by
  unfold setRequestExec
  (repeat' split) <;> simp [apply_ite State.kept]

/-! ### Banks.lean -/
@[simp] theorem State.beginNor_kept (s : State) (config : Bool) : (s.beginNor config).kept = s.kept := by
  unfold State.beginNor
  dsimp only
  (repeat' split) <;> simp_all
@[simp] theorem State.endNor_kept (s : State) : s.endNor.kept = s.kept := by
  simp [State.endNor, apply_ite State.kept]
@[simp] theorem State.queueNor_kept (s : State) (config : Bool) : (s.queueNor config).kept = s.kept := by
  unfold State.queueNor
  split <;> simp
@[simp] theorem configSave_kept (ln : Ln) (s : State) : (configSave ln s).kept = s.kept := by
  unfold configSave
  exact State.verb_kept _ _ _ _ fun s => by (repeat' split) <;> simp
@[simp] theorem configSaveAbort_kept (ln : Ln) (stepSix : Option Tick) (s : State) : (configSaveAbort ln stepSix s).kept =
    s.kept := by
  unfold configSaveAbort
  exact State.verb_kept _ _ _ _ fun s => by (repeat' split) <;> simp
@[simp] theorem configSaveComplete_kept (r : NorResult) (s : State) : (configSaveComplete r s).kept = s.kept := by
  unfold configSaveComplete
  (repeat' split) <;> simp
@[simp] theorem State.takeAll_kept (t : State) (s : State) : (t.takeAll s).kept = t.kept := by
  simp [State.takeAll, foldl_kept]
@[simp] theorem configLoad_kept (ln : Ln) (src : CfgSource) (s : State) : (configLoad ln src s).kept = s.kept := by
  unfold configLoad
  exact State.verb_kept _ _ _ _ fun s => by
    dsimp only
    (repeat' split) <;> simp_all
@[simp] theorem configAccept_kept (ln : Ln) (s : State) : (configAccept ln s).kept = s.kept := by
  unfold configAccept
  exact State.verb_kept _ _ _ _ fun s => by (repeat' split) <;> simp
@[simp] theorem configDiff_kept (ln : Ln) (src : Option CfgSource) (s : State) : (configDiff ln src s).kept = s.kept := by
  unfold configDiff
  exact State.verb_kept _ _ _ _ fun s => by
    dsimp only
    (repeat' split) <;> simp_all
@[simp] theorem calShow_kept (ln : Ln) (p : Option PRef) (s : State) : (calShow ln p s).kept = s.kept := by
  unfold calShow
  exact State.verb_kept _ _ _ _ fun s => by
    dsimp only
    (repeat' split) <;> simp_all
@[simp] theorem State.startCal_kept (s : State) (ln : Ln) (op : PendOp) : (s.startCal ln op).1.kept = s.kept := by
  simp [State.startCal]
@[simp] theorem calSaveVerb_kept (ln : Ln) (s : State) : (calSaveVerb ln s).kept = s.kept := by
  unfold calSaveVerb
  exact State.verb_kept _ _ _ _ fun s => by (repeat' split) <;> simp
@[simp] theorem calSaveComplete_kept (r : NorResult) (s : State) : (calSaveComplete r s).kept = s.kept := by
  unfold calSaveComplete
  (repeat' split) <;> simp
@[simp] theorem calRestoreFactory_kept (ln : Ln) (s : State) : (calRestoreFactory ln s).kept = s.kept := by
  unfold calRestoreFactory
  exact State.verb_kept _ _ _ _ fun s => by (repeat' split) <;> simp
@[simp] theorem State.spendWord_kept (s : State) (ln : Ln) : (s.spendWord ln).kept = s.kept := by simp [State.spendWord]
@[simp] theorem State.loadFactory_kept (s : State) : s.loadFactory.kept = s.kept := by simp [State.loadFactory]
@[simp] theorem calRestoreConfirm_kept (ln : Ln) (word : List Byte) (s : State) : (calRestoreConfirm ln word s).kept = s.kept
    := by
  unfold calRestoreConfirm
  exact State.verb_kept _ _ _ _ fun s => by (repeat' split) <;> simp

end Sys2Proof.Machine
end

