-- ==== Sys2Proof/Laws/KeptNet.lean ====
section
/-! SUPPORT. What Ramalink keeps: the queue, the tick, the FACTORY bank and the DRAM (`State.kept`). -/
namespace Sys2Proof.Machine

/-! ### Peer.lean -/
@[simp] theorem State.followPeer_kept (s : State) (b : Heartbeat) : (s.followPeer b).kept = s.kept := by
  simp [State.followPeer]
@[simp] theorem heartbeatReceive_kept (b : Heartbeat) (s : State) : (heartbeatReceive b s).kept = s.kept := by
  simp [heartbeatReceive, apply_ite State.kept]
@[simp] theorem State.peerLost_kept (s : State) : s.peerLost.kept = s.kept := by
  simp [State.peerLost, apply_ite State.kept]

/-! ### Conns.lean -/
@[simp] theorem State.control_kept (s : State) (c : Nat) (f : TxFrame) : (s.control c f).kept = s.kept := by
  simp [State.control]
@[simp] theorem State.controlFirst_kept (s : State) (c : Nat) (f : TxFrame) : (s.controlFirst c f).kept = s.kept := by
  simp [State.controlFirst]
@[simp] theorem State.queueAck_kept (s : State) (c : Nat) : (s.queueAck c).kept = s.kept := by
  simp [State.queueAck, apply_ite State.kept]
@[simp] theorem State.queueNak_kept (s : State) (c : Nat) (code : Nat) (psn : U32) (expected : U32) (delay : Nat) :
    (s.queueNak c code psn expected delay).kept = s.kept := by
  simp [State.queueNak]
@[simp] theorem State.postEntry_kept (s : State) (c : Nat) (w : WorkEntry) : (s.postEntry c w).kept = s.kept := by
  simp [State.postEntry, apply_ite State.kept]
@[simp] theorem State.judgeWaits_kept (s : State) (c : Nat) :
    (s.judgeWaits c).kept = s.kept := by
  simp [State.judgeWaits]
@[simp] theorem State.updPost_kept (s : State) (g : Nat) (gsn : U32) (f : Post → Post) : (s.updPost g gsn f).kept = s.kept := by
  simp [State.updPost]
@[simp] theorem State.updTarget_kept (s : State) (g : Nat) (gsn : U32) (c : Nat) (f : Target → Target) : (s.updTarget g gsn c
    f).kept = s.kept := by
  simp [State.updTarget]
@[simp] theorem State.sendDone_kept (s : State) (g : Nat) (poster : Option Nat) (d : Done) : (s.sendDone g poster d).kept =
    s.kept := by
  unfold State.sendDone
  (repeat' split) <;> simp [apply_ite State.kept]
@[simp] theorem State.finishPost_kept (s : State) (g : Nat) (p : Post) : (s.finishPost g p).kept = s.kept := by
  simp [State.finishPost]
@[simp] theorem State.finishPosts_kept (s : State) (g : Nat) : (s.finishPosts g).kept = s.kept :=
  foldl_kept _ (by simp) _ _
@[simp] theorem State.deliver_kept (s : State) (g : Nat) (p : Post) (c : Nat) : (s.deliver g p c).kept = s.kept := by
  simp [State.deliver, apply_ite State.kept]
@[simp] theorem State.kick_kept (s : State) (g : Nat) (retry : Bool) : (s.kick g retry).kept = s.kept :=
  foldl_kept _ (by simp [apply_ite State.kept]) _ _
@[simp] theorem State.settleGroup_kept (s : State) (g : Nat) : (s.settleGroup g).kept = s.kept := by simp [State.settleGroup]
@[simp] theorem State.groupLost_kept (s : State) (c : Nat) : (s.groupLost c).kept = s.kept :=
  foldl_kept _ (by simp [apply_ite State.kept]) _ _
@[simp] theorem State.leaveOne_kept (s : State) (c : Nat) (st : ConnState) (r : Reason) (first : Option (CqStatus × Nat)) :
    (s.leaveOne c st r first).kept = s.kept := by
  unfold State.leaveOne
  dsimp only
  (repeat' split) <;> simp_all
@[simp] theorem State.settleOne_kept (s : State) (c : Nat) : (s.settleOne c).kept = s.kept := by
  unfold State.settleOne
  dsimp only
  (repeat' split) <;> simp_all
@[simp] theorem settlePasses_kept (n : Nat) (s : State) : (settlePasses n s).kept = s.kept := by
  induction n generalizing s with
  | zero => rfl
  | succ n ih => unfold settlePasses; dsimp only; split <;> simp [ih, foldl_kept]
@[simp] theorem State.settle_kept (s : State) : s.settle.kept = s.kept := by simp [State.settle]
@[simp] theorem State.leave_kept (s : State) (c : Nat) (st : ConnState) (r : Reason) (first : Option (CqStatus × Nat)) :
    (s.leave c st r first).kept = s.kept := by
  simp [State.leave]
@[simp] theorem State.connReady_kept (s : State) (c : Nat) : (s.connReady c).kept = s.kept := by
  unfold State.connReady
  dsimp only
  (repeat' split) <;> simp_all
@[simp] theorem State.takeAck_kept (s : State) (c : Nat) (a : U32) : (s.takeAck c a).kept = s.kept := by
  simp [State.takeAck, apply_ite State.kept]

/-! ### Windows.lean -/
@[simp] theorem State.readWindow_kept (s : State) (c : Nat) (t : Admitted) (n : Nat) : (s.readWindow c t n).1.kept = s.kept := by
  unfold State.readWindow
  dsimp only
  (repeat' split) <;> simp_all
@[simp] theorem State.writeRing_kept (s : State) (n : Nat) (off : Nat) (data : List Byte) : (s.writeRing n off data).kept =
    s.kept := by
  unfold State.writeRing
  split <;> simp
@[simp] theorem State.notice_kept (s : State) (c : Nat) (i : Nat) (a : Nat) (b : Nat) : (s.notice c i a b).kept = s.kept := by
  simp [State.notice, apply_ite State.kept]
@[simp] theorem State.openUser_kept (s : State) (i : Nat) : (s.openUser i).1.kept = s.kept := by simp [State.openUser]
@[simp] theorem windowOpen_kept (ln : Ln) (c : Nat) (off : Nat) (len : Nat) (perm : Perm) (ticket : Bool) (s : State) :
    (windowOpen ln c off len perm ticket s).kept = s.kept := by
  unfold windowOpen
  exact State.verb_kept _ _ _ _ fun s => by
    dsimp only
    (repeat' split) <;> simp_all
@[simp] theorem windowOpenFull_kept (ln : Ln) (c : Nat) (s : State) : (windowOpenFull ln c s).kept = s.kept := by
  unfold windowOpenFull
  exact State.verb_kept _ _ _ _ fun s => by (repeat' split) <;> simp
@[simp] theorem State.revokeDone_kept (s : State) (ln : Ln) (c i : Nat) (text : String) :
    (s.revokeDone ln c i text).1.kept = s.kept := by
  unfold State.revokeDone
  split <;> simp
@[simp] theorem State.revokesEnd_kept (s : State) :
    s.revokesEnd.kept = s.kept := by
  exact foldl_kept _ (fun s r => by simp) _ _
@[simp] theorem windowRevoke_kept (ln : Ln) (c : Nat) (i : Nat) (s : State) : (windowRevoke ln c i s).kept = s.kept := by
  unfold windowRevoke
  exact State.verb_kept _ _ _ _ fun s => by (repeat' split) <;> simp
@[simp] theorem windowRevokeFull_kept (ln : Ln) (c : Nat) (s : State) : (windowRevokeFull ln c s).kept = s.kept := by
  unfold windowRevokeFull
  exact State.verb_kept _ _ _ _ fun s => by (repeat' split) <;> simp

/-! ### Ramalink.lean -/
@[simp] theorem State.dropFrame_kept (s : State) (p : Nat) : (s.dropFrame p).kept = s.kept := by simp [State.dropFrame]
@[simp] theorem State.authFail_kept (s : State) (p : Nat) : (s.authFail p).kept = s.kept := by
  simp [State.authFail, apply_ite State.kept]
@[simp] theorem rlAuthFail_kept (p : Nat) (fcs : Bool) (s : State) : (rlAuthFail p fcs s).kept = s.kept := by
  simp [rlAuthFail, apply_ite State.kept]
@[simp] theorem rlStaleFrame_kept (p : Nat) (dconn : Nat) (s : State) : (rlStaleFrame p dconn s).kept = s.kept := by
  unfold rlStaleFrame
  split <;> simp
/-- What a frame can do at its connection: nothing but bookkeeping, or its body on a state that only bookkeeping has changed. -/
theorem State.arriveWith_cases (s : State) (h : RlHdr) (first body : State → State) (hf : ∀ s, (first s).kept = s.kept) :
    (s.arriveWith h first body).kept = s.kept ∨ ∃ t : State, t.kept = s.kept ∧ s.arriveWith h first body = body t := by
  unfold State.arriveWith
  dsimp only
  split
  · exact .inl rfl
  · split
    · exact .inl (by simp)
    · split
      · exact .inl (by simp)
      · split
        · exact .inl (by simp [apply_ite State.kept])
        · exact .inr ⟨_, by simp [hf, apply_ite State.kept], rfl⟩
/-- The same of an arriving frame. -/
theorem State.arrive_cases (s : State) (h : RlHdr) (body : State → State) :
    (s.arrive h body).kept = s.kept ∨ ∃ t : State, t.kept = s.kept ∧ s.arrive h body = body t := by
  unfold State.arrive
  split
  · exact .inl rfl
  · exact s.arriveWith_cases h id body fun _ => rfl
@[simp] theorem State.arrive_kept (s : State) (h : RlHdr) (body : State → State) (hb : ∀ s, (body s).kept = s.kept) :
    (s.arrive h body).kept = s.kept := by
  obtain e | ⟨t, e, f⟩ := s.arrive_cases h body
  · exact e
  · rw [f, hb, e]
/-- A frame out of its turn, or of a connection that is not READY, is bookkeeping; one in its turn is its body. -/
theorem State.inOrder_cases (s : State) (h : RlHdr) (body : State → State) :
    (s.inOrder h body).kept = s.kept ∨ s.inOrder h body = body s := by
  unfold State.inOrder
  dsimp only
  split
  · exact .inl rfl
  · split
    · exact .inr rfl
    · (repeat' split) <;> exact .inl (by simp)
theorem State.sequenced_cases (s : State) (h : RlHdr) (body : State → State) :
    (s.sequenced h body).kept = s.kept ∨ ∃ t : State, t.kept = s.kept ∧ s.sequenced h body = body t := by
  unfold State.sequenced
  obtain e | ⟨t, e, f⟩ := s.arrive_cases h fun s => _
  · exact .inl e
  · rw [f]
    obtain g | g := t.inOrder_cases h body
    · exact .inl (g.trans e)
    · exact .inr ⟨t, e, g⟩
theorem State.orderly_kept (s : State) (h : RlHdr) (first body : State → State) (hf : ∀ s, (first s).kept = s.kept)
    (hb : ∀ s, (body s).kept = s.kept) : (s.arriveWith h first fun s => s.inOrder h body).kept = s.kept := by
  obtain e | ⟨t, e, f⟩ := s.arriveWith_cases h first (fun s => s.inOrder h body) hf
  · exact e
  · rw [f]
    obtain g | g := t.inOrder_cases h body
    · exact g.trans e
    · rw [g, hb, e]
@[simp] theorem State.sequenced_kept (s : State) (h : RlHdr) (body : State → State) (hb : ∀ s, (body s).kept = s.kept) :
    (s.sequenced h body).kept = s.kept := by
  obtain e | ⟨t, e, f⟩ := s.sequenced_cases h body
  · exact e
  · rw [f, hb, e]
@[simp] theorem State.consume_kept (s : State) (h : RlHdr) : (s.consume h).kept = s.kept := by
  simp [State.consume, apply_ite State.kept]
@[simp] theorem State.violate_kept (s : State) (h : RlHdr) (code : Nat) : (s.violate h code).kept = s.kept := by
  simp [State.violate]
@[simp] theorem State.integrity_kept (s : State) (h : RlHdr) : (s.integrity h).kept = s.kept := by simp [State.integrity]
@[simp] theorem State.beginEntry_kept (s : State) (c : Nat) (first : Bool) (off : Nat) : (s.beginEntry c first off).kept =
    s.kept := by
  simp [State.beginEntry]
@[simp] theorem State.respond_kept (s : State) (c : Nat) (fs : List TxFrame) : (s.respond c fs).kept = s.kept := by
  simp [State.respond]
@[simp] theorem rlReadReq_kept (h : RlHdr) (data : List Byte) (s : State) : (rlReadReq h data s).kept = s.kept := by
  unfold rlReadReq
  refine State.sequenced_kept _ _ _ fun s => ?_
  dsimp only
  split
  · simp
  · split
    · simp
    · next t _ =>
      have e := State.readWindow_kept s h.conn t (leNat data)
      split <;> next q => rw [q] at e; simpa using e
@[simp] theorem State.noSession_kept (s : State) (c : Nat) : (s.noSession c).kept = s.kept := by simp [State.noSession]
@[simp] theorem State.sendText_kept (s : State) (c : Nat) (data : List Byte) : (s.sendText c data).kept = s.kept := by
  unfold State.sendText
  (repeat' split) <;> simp
@[simp] theorem rlSend_kept (h : RlHdr) (data : List Byte) (s : State) : (rlSend h data s).kept = s.kept := by
  simp [rlSend, apply_ite State.kept]
@[simp] theorem rlAck_kept (h : RlHdr) (s : State) : (rlAck h s).kept = s.kept := by
  unfold rlAck
  exact State.arrive_kept _ _ _ fun s => by (repeat' split) <;> simp
@[simp] theorem State.nakEntry_kept (s : State) (c : Nat) (psn : U32) (code : Nat) : (s.nakEntry c psn code).kept = s.kept := by
  unfold State.nakEntry
  dsimp only
  (repeat' split) <;> simp_all
@[simp] theorem State.goBack_kept (s : State) (c : Nat) : (s.goBack c).kept = s.kept := by simp [State.goBack]
@[simp] theorem State.nakRnr_kept (s : State) (c : Nat) (psn : U32) (delay : Nat) : (s.nakRnr c psn delay).kept = s.kept := by
  simp [State.nakRnr, apply_ite State.kept]
@[simp] theorem State.nakked_kept (s : State) (h : RlHdr) (data : List Byte) :
    (s.nakked h data).kept = s.kept := by
  unfold State.nakked
  (try dsimp only)
  (repeat' split) <;> simp
@[simp] theorem State.nakMarks_kept (s : State) (h : RlHdr) (data : List Byte) :
    (s.nakMarks h data).kept = s.kept := by
  unfold State.nakMarks
  (try dsimp only)
  (repeat' split) <;> simp
@[simp] theorem rlNak_kept (h : RlHdr) (data : List Byte) (s : State) : (rlNak h data s).kept = s.kept := by
  unfold rlNak
  split
  · rfl
  · obtain e | ⟨t, e, f⟩ := s.arriveWith_cases h (fun s => s.nakMarks h data) (fun s => s.nakked h data) fun s => s.nakMarks_kept h data
    · exact e
    · rw [f, State.nakked_kept, e]
@[simp] theorem State.startRekey_kept (s : State) (c : Nat) : (s.startRekey c).kept = s.kept := by
  simp [State.startRekey, apply_ite State.kept]
@[simp] theorem State.askRekey_kept (s : State) (c : Nat) :
    (s.askRekey c).kept = s.kept := by
  simp [State.askRekey, apply_ite State.kept]
@[simp] theorem rlRekey_kept (h : RlHdr) (data : List Byte) (s : State) : (rlRekey h data s).kept = s.kept := by
  simp [rlRekey, apply_ite State.kept]
@[simp] theorem rlRekeyAck_kept (h : RlHdr) (data : List Byte) (s : State) : (rlRekeyAck h data s).kept = s.kept := by
  simp [rlRekeyAck, apply_ite State.kept]
@[simp] theorem rlRekeyReq_kept (h : RlHdr) (data : List Byte) (s : State) : (rlRekeyReq h data s).kept = s.kept := by
  unfold rlRekeyReq
  split <;> simp
@[simp] theorem rlDisconnect_kept (h : RlHdr) (data : List Byte) (s : State) : (rlDisconnect h data s).kept = s.kept := by
  unfold rlDisconnect
  split <;> simp
@[simp] theorem State.portFrame_kept (s : State) (p : Nat) (dest : List Byte) (op : RlOp) (dconn : Nat) (ack : U32) (payload : List Byte) :
    (s.portFrame p dest op dconn ack payload).kept = s.kept := by
  simp [State.portFrame]
@[simp] theorem State.sendRefuse_kept (s : State) (p : Nat) (dest : List Byte) (pconn : Nat) (r : RefuseReason) :
    (s.sendRefuse p dest pconn r).kept = s.kept := by
  simp [State.sendRefuse]
@[simp] theorem State.sendAccept_kept (s : State) (c : Nat) : (s.sendAccept c).kept = s.kept := by simp [State.sendAccept]
@[simp] theorem State.beginOpening_kept (s : State) (p : Nat) (c : Nat) (f : ConnectFrame) : (s.beginOpening p c f).kept =
    s.kept := by
  simp [State.beginOpening]
@[simp] theorem rlConnect_kept (p : Nat) (f : ConnectFrame) (s : State) : (rlConnect p f s).kept = s.kept := by
  unfold rlConnect
  (repeat' split) <;> simp
@[simp] theorem connectTimeout_kept (c : Nat) (s : State) : (connectTimeout c s).kept = s.kept := by
  simp [connectTimeout, apply_ite State.kept]
@[simp] theorem peerConnectRetry_kept (i : Nat) (s : State) : (peerConnectRetry i s).kept = s.kept := by
  unfold peerConnectRetry
  (repeat' split) <;> simp [apply_ite State.kept]
@[simp] theorem rlAccept_kept (p : Nat) (f : AcceptFrame) (s : State) : (rlAccept p f s).kept = s.kept := by
  unfold rlAccept
  dsimp only
  (repeat' split) <;> simp_all
@[simp] theorem rlRefuse_kept (p : Nat) (dconn : Nat) (x2 : RefuseReason) (macOk : Bool) (s : State) : (rlRefuse p dconn x2
    macOk s).kept = s.kept := by
  unfold rlRefuse
  (repeat' split) <;> simp
@[simp] theorem retransmitTimeout_kept (c : Nat) (s : State) : (retransmitTimeout c s).kept = s.kept := by
  unfold retransmitTimeout
  dsimp only
  (repeat' split) <;> simp_all
@[simp] theorem rnrResend_kept (c : Nat) (s : State) : (rnrResend c s).kept = s.kept := by
  unfold rnrResend
  (repeat' split) <;> simp
@[simp] theorem keepalive_kept (c : Nat) (s : State) : (keepalive c s).kept = s.kept := by
  unfold keepalive
  split <;> simp
@[simp] theorem connSilence_kept (c : Nat) (s : State) : (connSilence c s).kept = s.kept := by
  simp [connSilence, apply_ite State.kept]
@[simp] theorem connFlushDone_kept (c : Nat) (s : State) : (connFlushDone c s).kept = s.kept := by
  simp [connFlushDone, apply_ite State.kept]
@[simp] theorem rekeyPeriod_kept (c : Nat) (s : State) : (rekeyPeriod c s).kept = s.kept := by
  simp [rekeyPeriod, apply_ite State.kept]
@[simp] theorem oldEpochExpire_kept (c : Nat) (s : State) : (oldEpochExpire c s).kept = s.kept := by simp [oldEpochExpire]
@[simp] theorem rngHealthFail_kept (s : State) : (rngHealthFail s).kept = s.kept := by
  unfold rngHealthFail
  split <;> simp
@[simp] theorem randomSourceRecovered_kept (s : State) : (randomSourceRecovered s).kept = s.kept := by
  unfold randomSourceRecovered
  split <;> simp

/-! ### Egress.lean -/
@[simp] theorem State.countHeld_kept (s : State) (p : Nat) (stop : Nat) (l : List Offer) : (s.countHeld p stop l).kept =
    s.kept := by
  simp [State.countHeld]
@[simp] theorem State.macTakes_kept (s : State) (p : Nat) (f : TxFrame) : (s.macTakes p f).kept = s.kept := by
  simp [State.macTakes]
@[simp] theorem State.noteDelivery_kept (s : State) (c : Nat) (f : TxFrame) (w : Waits) : (s.noteDelivery c f w).kept = s.kept
    := by
  unfold State.noteDelivery
  split <;> simp
@[simp] theorem State.transmit_kept (s : State) (p : Nat) (o : Offer) : (s.transmit p o).kept = s.kept := by
  unfold State.transmit
  (repeat' split) <;> simp [apply_ite State.kept]
@[simp] theorem egressGrant_kept (p : Nat) (s : State) : (egressGrant p s).kept = s.kept := by
  unfold egressGrant
  dsimp only
  (repeat' split) <;> simp_all
@[simp] theorem workEntryPost_kept (c : Nat) (w : WorkPost) (s : State) : (workEntryPost c w s).kept = s.kept := by
  simp [workEntryPost, apply_ite State.kept]
@[simp] theorem State.reselect_kept (s : State) (p : Nat) : (s.reselect p).kept = s.kept := by
  unfold State.reselect
  split <;> simp
@[simp] theorem State.linkGone_kept (s : State) (p : Nat) : (s.linkGone p).kept = s.kept := by
  simp [State.linkGone, foldl_kept]
@[simp] theorem State.noteLoss_kept (s : State) (p : Nat) : (s.noteLoss p).kept = s.kept := by
  simp [State.noteLoss, apply_ite State.kept]
@[simp] theorem portLinkDown_kept (p : Nat) (s : State) : (portLinkDown p s).kept = s.kept := by
  unfold portLinkDown
  split <;> simp
@[simp] theorem peerLinkLoss_kept (s : State) : (peerLinkLoss s).kept = s.kept := by simp [peerLinkLoss]
@[simp] theorem portLinkUp_kept (p : Nat) (s : State) : (portLinkUp p s).kept = s.kept := by
  simp [portLinkUp, apply_ite State.kept]
@[simp] theorem sfpModuleChange_kept (p : Nat) (m : ModuleKind) (power : Int) (s : State) : (sfpModuleChange p m power s).kept
    = s.kept := by
  simp [sfpModuleChange, apply_ite State.kept]
@[simp] theorem State.closePort_kept (s : State) (p : Nat) (off : Bool) : (s.closePort p off).kept = s.kept :=
  foldl_kept _ (by simp) _ _
@[simp] theorem State.portClosed_kept (s : State) (p : Nat) : (s.portClosed p).kept = s.kept := by
  simp [State.portClosed, apply_ite State.kept]
@[simp] theorem egressGuardFault_kept (p : Nat) (s : State) : (egressGuardFault p s).kept = s.kept := by
  unfold egressGuardFault
  split <;> simp
@[simp] theorem linkReset_kept (ln : Ln) (p : Nat) (s : State) : (linkReset ln p s).kept = s.kept := by
  unfold linkReset
  exact State.verb_kept _ _ _ _ fun s => by (repeat' split) <;> simp [apply_ite State.kept, apply_ite Prod.fst]
@[simp] theorem linkResetOff_kept (ln : Ln) (p : Nat) (s : State) : (linkResetOff ln p s).kept = s.kept := by
  unfold linkResetOff
  exact State.verb_kept _ _ _ _ fun s => by (repeat' split) <;> simp [apply_ite State.kept, apply_ite Prod.fst]
@[simp] theorem linkResetTimeout_kept (p : Nat) (s : State) : (linkResetTimeout p s).kept = s.kept := by
  unfold linkResetTimeout
  split <;> simp
@[simp] theorem linkShow_kept (ln : Ln) (port : Option Nat) (s : State) : (linkShow ln port s).kept = s.kept := by
  unfold linkShow
  exact State.verb_kept _ _ _ _ fun s => by (repeat' split) <;> simp

/-! ### Groups.lean -/
@[simp] theorem State.groupPost_kept (s : State) (g : Nat) (poster : Option Nat) (ppsn : U32) (msg : List Byte) : (s.groupPost
    g poster ppsn msg).1.kept = s.kept := by
  unfold State.groupPost
  split <;> simp
@[simp] theorem rlGroupPost_kept (h : RlHdr) (g : Nat) (data : List Byte) (s : State) : (rlGroupPost h g data s).kept = s.kept
    := by
  unfold rlGroupPost
  dsimp only
  split
  · rfl
  · split
    · simp
    · exact State.orderly_kept _ _ _ _ (fun _ => rfl) fun s => by (repeat' split) <;> simp
@[simp] theorem rlGroupResult_kept (h : RlHdr) (data : List Byte) (s : State) : (rlGroupResult h data s).kept = s.kept := by
  unfold rlGroupResult
  refine State.sequenced_kept _ _ _ fun s => ?_
  dsimp only
  (repeat' split) <;> simp
@[simp] theorem groupRetry_kept (g : Nat) (s : State) : (groupRetry g s).kept = s.kept := by simp [groupRetry]
@[simp] theorem State.cancelDeliveries_kept (s : State) (g : Nat) (gsn : U32) : (s.cancelDeliveries g gsn).kept = s.kept := by
  simp [State.cancelDeliveries]
@[simp] theorem groupTimeout_kept (g : Nat) (gsn : U32) (s : State) : (groupTimeout g gsn s).kept = s.kept := by
  unfold groupTimeout
  (repeat' split) <;> simp [apply_ite State.kept]
@[simp] theorem State.groupVerb_kept (s : State) (ln : Ln) (g : Nat) (fault : State → Option Nat) (body : State → VerbRes)
    (h : ∀ s, (body s).1.kept = s.kept) : (s.groupVerb ln g fault body).kept = s.kept := by
  unfold State.groupVerb
  exact State.verb_kept _ _ _ _ fun s => by (repeat' split) <;> simp [h]
@[simp] theorem groupMode_kept (ln : Ln) (g : Nat) (m : GroupMode) (s : State) : (groupMode ln g m s).kept = s.kept := by
  unfold groupMode
  exact State.groupVerb_kept _ _ _ _ _ fun s => by
    dsimp only
    (repeat' split) <;> simp
@[simp] theorem State.setMember_kept (s : State) (g : Nat) (m : Member) (on : Bool) : (s.setMember g m on).kept = s.kept := by
  unfold State.setMember
  split <;> simp
@[simp] theorem groupAdd_kept (ln : Ln) (g : Nat) (m : Member) (s : State) : (groupAdd ln g m s).kept = s.kept := by
  exact State.groupVerb_kept _ _ _ _ _ fun s => by simp
@[simp] theorem groupRemove_kept (ln : Ln) (g : Nat) (m : Member) (s : State) : (groupRemove ln g m s).kept = s.kept := by
  exact State.groupVerb_kept _ _ _ _ _ fun s => by simp
@[simp] theorem groupPostPorts_kept (ln : Ln) (g : Nat) (ports : List Nat) (s : State) : (groupPostPorts ln g ports s).kept =
    s.kept := by
  exact State.groupVerb_kept _ _ _ _ _ fun s => by simp
@[simp] theorem groupTimeoutSet_kept (ln : Ln) (g : Nat) (ms : Lit) (s : State) : (groupTimeoutSet ln g ms s).kept = s.kept := by
  exact State.groupVerb_kept _ _ _ _ _ fun s => by simp
@[simp] theorem groupClass_kept (ln : Ln) (g : Nat) (ticket : Bool) (s : State) : (groupClass ln g ticket s).kept = s.kept := by
  exact State.groupVerb_kept _ _ _ _ _ fun s => by simp
@[simp] theorem groupSend_kept (ln : Ln) (g : Nat) (msg : List Byte) (s : State) : (groupSend ln g msg s).kept = s.kept := by
  unfold groupSend
  exact State.verb_kept _ _ _ _ fun s => by
    dsimp only
    (repeat' split) <;> simp_all

end Sys2Proof.Machine
end

