-- ==== Sys2Proof/Laws/KeptPair.lean ====
section
/-! SUPPORT. What the crown, waking, collapse and the tick keep: the queue, the tick, the FACTORY bank and the DRAM (`State.kept`). -/
namespace Sys2Proof.Machine

/-! ### Mirror.lean -/
@[simp] theorem heartbeatSend_kept (s : State) : (heartbeatSend s).kept = s.kept := by
  unfold heartbeatSend
  dsimp only
  (repeat' split) <;> simp_all
@[simp] theorem State.cutEpoch_kept (s : State) (kind : Nat) : (s.cutEpoch kind).kept = s.kept := by
  unfold State.cutEpoch
  split <;> simp
@[simp] theorem epochCut_kept (s : State) : (epochCut s).kept = s.kept := by
  unfold epochCut
  split <;> simp
@[simp] theorem State.shadowFrom_kept (s : State) (line : Line) (edge : Tick) (phase : BitVec 48) (period : U32) :
    (s.shadowFrom line edge phase period).kept = s.kept := by
  simp [State.shadowFrom]
@[simp] theorem State.takeAverages_kept (s : State) (u : MirUnit) :
    (s.takeAverages u).kept = s.kept := by
  unfold State.takeAverages
  (try dsimp only)
  (repeat' split) <;> simp
@[simp] theorem State.retable_kept (s : State) (ids : List Nat) :
    (s.retable ids).kept = s.kept := by
  unfold State.retable
  exact foldl_kept _ (fun s i => by dsimp only; split <;> simp) _ _
@[simp] theorem State.followEpoch_kept (s : State) (e : Epoch) : (s.followEpoch e).kept = s.kept := by
  unfold State.followEpoch
  (repeat' split) <;> simp_all [foldl_kept, apply_ite State.kept]
@[simp] theorem State.discardEpoch_kept (s : State) : s.discardEpoch.kept = s.kept := by
  unfold State.discardEpoch
  split <;> simp
@[simp] theorem State.applyEpoch_kept (s : State) (e : Epoch) : (s.applyEpoch e).kept = s.kept := by
  simp [State.applyEpoch, apply_ite State.kept]

/-! ### Crown.lean -/
@[simp] theorem crownResend_kept (n : Nat) (s : State) : (crownResend n s).kept = s.kept := by
  simp [crownResend, apply_ite State.kept]
@[simp] theorem State.alignPair_kept (s : State) : s.alignPair.kept = s.kept := by
  unfold State.alignPair
  split <;> simp
@[simp] theorem State.enterStandby_kept (s : State) : s.enterStandby.kept = s.kept := by simp [State.enterStandby]
@[simp] theorem State.dropLedger_kept (s : State) : s.dropLedger.kept = s.kept := by
  unfold State.dropLedger
  (repeat' split) <;> simp
@[simp] theorem State.standDown_kept (s : State) : s.standDown.kept = s.kept := by simp [State.standDown]
@[simp] theorem State.stepDown_kept (s : State) (seen : U32) : (s.stepDown seen).kept = s.kept := by simp [State.stepDown]
@[simp] theorem State.yieldDone_kept (s : State) (g : U32) : (s.yieldDone g).kept = s.kept := by simp [State.yieldDone]
@[simp] theorem State.ownGenSeen_kept (s : State) (n : Nat) : (s.ownGenSeen n).kept = s.kept := by simp [State.ownGenSeen]
@[simp] theorem courseStatus_kept (up : UpHdr) (f : StatusFrame) (s : State) : (courseStatus up f s).kept = s.kept := by
  simp [courseStatus, apply_ite State.kept]
@[simp] theorem lineSyncRelease_kept (s : State) : (lineSyncRelease s).kept = s.kept := by
  unfold lineSyncRelease
  split <;> simp
@[simp] theorem State.takeUnit_kept (s : State) (u : MirUnit) : (s.takeUnit u).kept = s.kept := by simp [State.takeUnit]
@[simp] theorem State.takeLine_kept (s : State) (u : UnitState) : (s.takeLine u).kept = s.kept := by simp [State.takeLine]
@[simp] theorem State.takeState_kept (s : State) (u : UnitState) : (s.takeState u).kept = s.kept := by
  simp [State.takeState, apply_ite State.kept]
@[simp] theorem State.takeTickets_kept (s : State) (handover : Bool) : (s.takeTickets handover).kept = s.kept := by
  unfold State.takeTickets
  exact foldl_kept _ (fun s x => by (repeat' split) <;> simp) _ _
@[simp] theorem State.endLost_kept (s : State) (handover : Bool) : (s.endLost handover).kept = s.kept :=
  foldl_kept _ (by simp [apply_ite State.kept]) _ _
@[simp] theorem State.resendPlans_kept (committed : List Nat) (handover : Bool) (s : State) (n : Nat) : (State.resendPlans
    committed handover s n).kept = s.kept := by
  unfold State.resendPlans
  dsimp only
  (repeat' split) <;> simp_all [foldl_kept_fst]
@[simp] theorem State.openRings_kept (s : State) : s.openRings.kept = s.kept := by simp [State.openRings]
@[simp] theorem State.takeJournal_kept (s : State) : s.takeJournal.kept = s.kept := by
  unfold State.takeJournal
  dsimp only
  (repeat' split) <;> simp_all
@[simp] theorem State.takeOver_kept (s : State) (handover : Bool) : (s.takeOver handover).kept = s.kept := by
  simp [State.takeOver, foldl_kept, apply_ite State.kept]
@[simp] theorem State.crownNotWritten_kept (s : State) : s.crownNotWritten.kept = s.kept := by simp [State.crownNotWritten]
@[simp] theorem State.noticeTaken_kept (s : State) (e : Epoch) :
    (s.noticeTaken e).kept = s.kept := by
  unfold State.noticeTaken
  (try dsimp only)
  (repeat' split) <;> simp
@[simp] theorem epochApply_kept (e : Epoch) (s : State) : (epochApply e s).kept = s.kept := by
  unfold epochApply
  split
  · rfl
  · dsimp only
    (repeat' split) <;> simp
@[simp] theorem crownSilenceTakeover_kept (mramOk : Bool) (s : State) : (crownSilenceTakeover mramOk s).kept = s.kept := by
  simp [crownSilenceTakeover, apply_ite State.kept]
@[simp] theorem crownShow_kept (ln : Ln) (s : State) : (crownShow ln s).kept = s.kept := by
  unfold crownShow
  exact State.verb_kept _ _ _ _ fun s => by simp
@[simp] theorem crownYield_kept (ln : Ln) (s : State) : (crownYield ln s).kept = s.kept := by
  unfold crownYield
  refine State.verb_kept _ _ _ _ fun s => ?_
  (repeat' split) <;> first | exact State.startOp_kept _ _ _ _ _ fun _ => rfl | simp
@[simp] theorem yieldAtCut_kept (s : State) : (yieldAtCut s).kept = s.kept := by
  simp [yieldAtCut, foldl_kept, apply_ite State.kept]
@[simp] theorem yieldTimeout_kept (s : State) : (yieldTimeout s).kept = s.kept := by
  unfold yieldTimeout
  (repeat' split) <;> simp
@[simp] theorem State.takeBare_kept (s : State) : s.takeBare.kept = s.kept := by simp [State.takeBare]
@[simp] theorem crownTake_kept (ln : Ln) (mramOk : Bool) (s : State) : (crownTake ln mramOk s).kept = s.kept := by
  unfold crownTake
  exact State.verb_kept _ _ _ _ fun s => by (repeat' split) <;> simp
@[simp] theorem fieldRxCrown_kept (d : Dn) (gen : U32) (handover : Bool) (s : State) : (fieldRxCrown d gen handover s).kept =
    s.kept := by
  simp [fieldRxCrown]
@[simp] theorem transportRxCrown_kept (d : Dn) (gen : U32) (handover : Bool) (s : State) : (transportRxCrown d gen handover
    s).kept = s.kept := by
  simp [transportRxCrown]
@[simp] theorem fieldCrownSilence_kept (s : State) : (fieldCrownSilence s).kept = s.kept := by
  unfold fieldCrownSilence
  split <;> simp
@[simp] theorem transportCrownSilence_kept (s : State) : (transportCrownSilence s).kept = s.kept := by
  unfold transportCrownSilence
  split <;> simp

/-! ### Wake.lean -/
@[simp] theorem State.drawKeys_kept (s : State) : s.drawKeys.kept = s.kept :=
  foldl_kept _ (by simp) _ _
@[simp] theorem State.acceptBank_kept (s : State) (k : BankId) (generation : U32) : (s.acceptBank k generation).kept = s.kept
    := by
  simp [State.acceptBank]
@[simp] theorem State.chooseConfig_kept (s : State) : s.chooseConfig.kept = s.kept := by
  unfold State.chooseConfig
  dsimp only
  (repeat' split) <;> simp_all
@[simp] theorem State.calFallback_kept (s : State) : s.calFallback.kept = s.kept := by
  unfold State.calFallback
  split <;> simp
@[simp] theorem State.chooseCal_kept (s : State) : s.chooseCal.kept = s.kept := by
  unfold State.chooseCal
  dsimp only
  (repeat' split) <;> simp_all
@[simp] theorem State.settleLoops_kept (s : State) : s.settleLoops.kept = s.kept :=
  foldl_kept _ (by simp) _ _
@[simp] theorem State.settleStart_kept (s : State) : s.settleStart.kept = s.kept := by simp [State.settleStart]
@[simp] theorem State.settle0_kept (s : State) : s.settle0.kept = s.kept := by
  simp [State.settle0, foldl_kept]
@[simp] theorem State.endUnload_kept (s : State) : s.endUnload.kept = s.kept := by
  unfold State.endUnload
  split <;> simp
@[simp] theorem State.testKeys_kept (s : State) (lid : Bool) : (s.testKeys lid).kept = s.kept := by
  unfold State.testKeys
  (repeat' split) <;> simp
@[simp] theorem State.wakingFault_kept (s : State) (step : Nat) : (s.wakingFault step).kept = s.kept := by
  simp [State.wakingFault]
@[simp] theorem State.wakeTo_kept (s : State) (clean : Bool) : (s.wakeTo clean).kept = s.kept := by
  simp [State.wakeTo, apply_ite State.kept]
@[simp] theorem wakingEnd_kept (t : SelfTest) (s : State) : (wakingEnd t s).kept = s.kept := by
  unfold wakingEnd
  dsimp only
  (repeat' split) <;> simp_all
@[simp] theorem wakingTimeout_kept (stage : Nat) (s : State) : (wakingTimeout stage s).kept = s.kept := by
  unfold wakingTimeout
  split <;> simp
@[simp] theorem State.collapseSaves_kept (s : State) (stepSix : Bool) : (s.collapseSaves stepSix).kept = s.kept := by
  simp [State.collapseSaves, apply_ite State.kept]
@[simp] theorem State.collapseTape_kept (s : State) (unthreading : Bool) : (s.collapseTape unthreading).kept = s.kept := by
  simp [State.collapseTape, apply_ite State.kept]
@[simp] theorem State.collapseRekeys_kept (s : State) : s.collapseRekeys.kept = s.kept :=
  foldl_kept _ (by simp [apply_ite State.kept]) _ _
@[simp] theorem State.collapseSweeps_kept (s : State) : s.collapseSweeps.kept = s.kept := by
  simp [State.collapseSweeps, apply_ite State.kept]
@[simp] theorem State.endConsole_kept (s : State) : s.endConsole.kept = s.kept := by simp [State.endConsole]
@[simp] theorem State.enterCollapse_kept (s : State) (offSpeed : Bool) (unthreading : Bool) (stepSix : Bool) :
    (s.enterCollapse offSpeed unthreading stepSix).kept = s.kept := by
  simp [State.enterCollapse, apply_ite State.kept]
@[simp] theorem collapseDeclared_kept (offSpeed : Bool) (unthreading : Bool) (stepSix : Bool) (s : State) : (collapseDeclared
    offSpeed unthreading stepSix s).kept = s.kept := by
  unfold collapseDeclared
  (repeat' split) <;> simp
@[simp] theorem State.takeRaised_kept (s : State) : s.takeRaised.kept = s.kept :=
  foldl_kept _ (by simp) _ _
@[simp] theorem State.journalMade_kept (s : State) : s.journalMade.kept = s.kept :=
  foldl_kept _ (by simp) _ _
@[simp] theorem State.sealMram_kept (s : State) : s.sealMram.kept = s.kept := by simp [State.sealMram]
@[simp] theorem State.finishSaves_kept (s : State) :
    s.finishSaves.kept = s.kept := by
  unfold State.finishSaves
  (try dsimp only)
  (repeat' split) <;> simp
@[simp] theorem collapseSequenceEnd_kept (s : State) : (collapseSequenceEnd s).kept = s.kept := by
  unfold collapseSequenceEnd
  (repeat' split) <;> simp
@[simp] theorem State.linkLost_kept (s : State) (l : LinkId) : (s.linkLost l).kept = s.kept := by
  unfold State.linkLost
  split <;> simp
@[simp] theorem portLinkLoss_kept (l : LossLink) (s : State) : (portLinkLoss l s).kept = s.kept := by
  unfold portLinkLoss
  (repeat' split) <;> simp
@[simp] theorem linkLaneDown_kept (l : LinkId) (s : State) : (linkLaneDown l s).kept = s.kept := by
  simp [linkLaneDown, apply_ite State.kept]

/-! ### Show.lean -/
@[simp] theorem showVerb_kept (ln : Ln) (subj : ShowSubj) (s : State) : (showVerb ln subj s).kept = s.kept := by
  unfold showVerb
  exact State.verb_kept _ _ _ _ fun s => by (repeat' split) <;> simp
@[simp] theorem help_kept (ln : Ln) (topic : HelpTopic) (s : State) : (help ln topic s).kept = s.kept := by
  unfold help
  exact State.verb_kept _ _ _ _ fun s => by (repeat' split) <;> simp

/-! ### Advance.lean -/
@[simp] theorem State.tickBegins_kept (s : State) : s.tickBegins.kept = s.kept := rfl
@[simp] theorem State.refill_kept (s : State) : s.refill.kept = s.kept := by simp [State.refill]
@[simp] theorem State.phaseStep_kept (s : State) : s.phaseStep.kept = s.kept := by
  unfold State.phaseStep
  split <;> simp
@[simp] theorem State.geometrySettles_kept (s : State) : s.geometrySettles.kept = s.kept :=
  foldl_kept _ (by simp [apply_ite State.kept]) _ _
@[simp] theorem State.cycleStarts_kept (s : State) : s.cycleStarts.kept = s.kept := by
  unfold State.cycleStarts
  split <;> simp
@[simp] theorem State.portsSettle_kept (s : State) : s.portsSettle.kept = s.kept := by
  unfold State.portsSettle
  refine foldl_kept _ (fun s x => ?_) _ _
  dsimp only
  (repeat' split) <;> simp
@[simp] theorem State.trimStep_kept (s : State) : s.trimStep.kept = s.kept := by
  unfold State.trimStep
  split <;> simp
@[simp] theorem State.sendText1_kept (s : State) (x : Session) :
    (s.sendText1 x).kept = s.kept := by
  unfold State.sendText1
  (try dsimp only)
  (repeat' split) <;> simp
@[simp] theorem State.repliesLeave_kept (s : State) :
    s.repliesLeave.kept = s.kept := by
  exact foldl_kept _ (by simp) _ _
@[simp] theorem State.countLive_kept (s : State) :
    s.countLive.kept = s.kept := by
  unfold State.countLive
  (try dsimp only)
  (repeat' split) <;> simp

end Sys2Proof.Machine
end

