-- ==== Sys2Proof/Laws/Memory.lean ====
section
/-! SUPPORT. The laws of byte memory: every operation keeps the canonical form, a read after a write gives what was written, and a
write leaves every other byte alone. -/
namespace Sys2Proof.Machine

@[simp] theorem Memory.wf_nil : Memory.wf [] = true := rfl
/-- A cell before a memory: the cell is not zero, every later address is higher, and the rest is canonical. -/
theorem Memory.wf_cons {k : Nat} {v : Byte} {m : List Host.Cell} :
    Memory.wf ((k, v) :: m) = true ↔ v ≠ 0 ∧ (∀ c ∈ m, k < c.1) ∧ Memory.wf m = true := by
  induction m generalizing k v with
  | nil => simp [Memory.wf]
  | cons c m ih =>
    obtain ⟨k', v'⟩ := c
    simp only [Memory.wf, Bool.and_eq_true, decide_eq_true_eq, bne_iff_ne, ne_eq, List.mem_cons, forall_eq_or_imp]
    constructor
    · rintro ⟨⟨h1, h2⟩, h3⟩
      exact ⟨h2, ⟨h1, fun c hc => h1.trans ((ih.1 h3).2.1 c hc)⟩, h3⟩
    · rintro ⟨h2, ⟨h1, -⟩, h3⟩
      exact ⟨⟨h1, h2⟩, h3⟩

/-- What a memory lists after a write. -/
theorem mem_cellPut {a : Nat} {v : Byte} {m : List Host.Cell} {c : Host.Cell} (h : c ∈ cellPut a v m) : c = (a, v) ∨ c ∈ m := by
  induction m with
  | nil =>
    simp only [cellPut] at h
    split at h <;> simp_all
  | cons d m ih =>
    obtain ⟨k, w⟩ := d
    simp only [cellPut] at h
    repeat' split at h
    all_goals simp_all
    all_goals tauto
/-- A write of one byte keeps the canonical form. -/
theorem cellPut_wf (a : Nat) (v : Byte) {m : List Host.Cell} (h : Memory.wf m = true) : Memory.wf (cellPut a v m) = true := by
  induction m with
  | nil => simp only [cellPut]; split <;> simp_all [Memory.wf]
  | cons d m ih =>
    obtain ⟨k, w⟩ := d
    obtain ⟨hw, hk, hm⟩ := Memory.wf_cons.1 h
    simp only [cellPut]
    split
    · next hak =>
      split
      · exact h
      · next hv =>
        refine Memory.wf_cons.2 ⟨hv, ?_, h⟩
        simp only [List.mem_cons, forall_eq_or_imp]
        exact ⟨hak, fun c hc => hak.trans (hk c hc)⟩
    · split
      · next hak =>
        subst hak
        split
        · exact hm
        · next hv => exact Memory.wf_cons.2 ⟨hv, hk, hm⟩
      · refine Memory.wf_cons.2 ⟨hw, fun c hc => ?_, ih hm⟩
        obtain rfl | hc := mem_cellPut hc
        · simp only; omega
        · exact hk c hc
/-- A write of bytes keeps the canonical form. -/
theorem writeCells_wf (bs : List Byte) (a : Nat) {m : List Host.Cell} (h : Memory.wf m = true) : Memory.wf (writeCells m a bs) = true := by
  induction bs generalizing a m with
  | nil => exact h
  | cons b bs ih => exact ih (a + 1) (cellPut_wf a b h)
/-- Dropping cells keeps the canonical form. -/
theorem filter_wf (p : Host.Cell → Bool) {m : List Host.Cell} (h : Memory.wf m = true) : Memory.wf (m.filter p) = true := by
  induction m with
  | nil => rfl
  | cons d m ih =>
    obtain ⟨k, w⟩ := d
    obtain ⟨hw, hk, hm⟩ := Memory.wf_cons.1 h
    rw [List.filter_cons]
    split
    · exact Memory.wf_cons.2 ⟨hw, fun c hc => hk c (List.mem_filter.1 hc).1, ih hm⟩
    · exact ih hm
/-- Clearing a range keeps the canonical form. -/
theorem clearCells_wf (a n : Nat) {m : List Host.Cell} (h : Memory.wf m = true) : Memory.wf (clearCells m a n) = true :=
  filter_wf _ h

/-- Below its lowest address a memory reads zero. -/
theorem cellAt_below {m : List Host.Cell} {a : Nat} (h : ∀ c ∈ m, a < c.1) : cellAt m a = 0 := by
  cases m with
  | nil => rfl
  | cons d m =>
    have hd := h d (by simp)
    rw [cellAt, if_neg (by omega), if_pos hd]
/-- A byte read after a write of one byte. -/
theorem cellAt_cellPut (a : Nat) (v : Byte) {m : List Host.Cell} (h : Memory.wf m = true) (b : Nat) :
    cellAt (cellPut a v m) b = if b = a then v else cellAt m b := by
  induction m with
  | nil =>
    simp only [cellPut]
    split <;> simp only [cellAt] <;> (repeat' split) <;> first | rfl | omega | simp_all
  | cons d m ih =>
    obtain ⟨k, w⟩ := d
    obtain ⟨hw, hk, hm⟩ := Memory.wf_cons.1 h
    have hlow : ∀ x, x ≤ k → cellAt m x = 0 := fun x hx => cellAt_below fun c hc => by have := hk c hc; omega
    simp only [cellPut]
    (repeat' split) <;> (try simp only [cellAt, ih hm]) <;> (repeat' split) <;>
      first | rfl | omega | exact hlow _ (by omega) | simp_all
/-- A write leaves every byte outside it as it was. -/
theorem cellAt_writeCells_outside (bs : List Byte) (a : Nat) {m : List Host.Cell} (h : Memory.wf m = true) {b : Nat}
    (hb : b < a ∨ a + bs.length ≤ b) : cellAt (writeCells m a bs) b = cellAt m b := by
  induction bs generalizing a m with
  | nil => rfl
  | cons x xs ih =>
    simp only [List.length_cons] at hb
    rw [writeCells, ih (a + 1) (cellPut_wf a x h) (by omega), cellAt_cellPut a x h, if_neg (by omega)]
/-- The bytes written read back. -/
theorem readCells_writeCells (bs : List Byte) (a : Nat) {m : List Host.Cell} (h : Memory.wf m = true) :
    readCells (writeCells m a bs) a bs.length = bs := by
  induction bs generalizing a m with
  | nil => rfl
  | cons x xs ih =>
    have hw := cellPut_wf a x h
    rw [writeCells, List.length_cons, readCells, ih (a + 1) hw, cellAt_writeCells_outside xs (a + 1) hw (by omega),
      cellAt_cellPut a x h, if_pos rfl]

end Sys2Proof.Machine
end

