-- ==== Sys2Proof/Laws/Keeps.lean ====
section
/-! SUPPORT. What the commands that write the DRAM keep: the queue, the tick and the FACTORY bank, and the memory's canonical form
(`State.Keeps`); what POWER_UP and one tick keep. -/
namespace Sys2Proof.Machine

/-- What a command keeps that writes the DRAM at most by the memory operations. -/
structure State.Keeps (s t : State) : Prop where
  pending : t.pending = s.pending
  tick : t.clk.tick = s.clk.tick
  factory : t.par.factory = s.par.factory
  dram : Memory.wf s.mp.dram = true → Memory.wf t.mp.dram = true

theorem State.Keeps.of_kept {s t : State} (h : t.kept = s.kept) : s.Keeps t := by
  simp only [State.kept, Prod.mk.injEq] at h
  obtain ⟨h1, h2, h3, h4⟩ := h
  exact ⟨h1, h2, h3, fun h => h4 ▸ h⟩
theorem State.Keeps.trans {s t u : State} (h : s.Keeps t) (k : t.Keeps u) : s.Keeps u :=
  ⟨k.1.trans h.1, k.2.trans h.2, k.3.trans h.3, fun w => k.4 (h.4 w)⟩
theorem State.Keeps.then {s t u : State} (h : s.Keeps t) (k : u.kept = t.kept) : s.Keeps u := h.trans (.of_kept k)
theorem State.Keeps.after {s t u : State} (k : t.kept = s.kept) (h : t.Keeps u) : s.Keeps u := (State.Keeps.of_kept k).trans h
theorem foldl_keeps {α : Type} (g : State → α → State) (h : ∀ (s : State) x, s.Keeps (g s x)) (l : List α) (s : State) :
    s.Keeps (l.foldl g s) := by
  induction l generalizing s with
  | nil => exact .of_kept rfl
  | cons x xs ih => exact (h s x).trans (ih (g s x))
/-- Bytes written to the DRAM. -/
theorem State.writeDram_keeps (s : State) (a : Nat) (l : List Byte) : s.Keeps (s.writeDram a l) :=
  ⟨rfl, rfl, rfl, writeCells_wf l a⟩
/-- A line set to zeros. -/
theorem State.zeroLine_keeps (s : State) (a : Nat) : s.Keeps (s.zeroLine a) := ⟨rfl, rfl, rfl, clearCells_wf a 64⟩

theorem State.putLine_keeps (s : State) (slot line off : Nat) (data : List Byte) : s.Keeps (s.putLine slot line off data) := by
  unfold State.putLine
  split
  · exact .of_kept (by simp)
  · exact (s.writeDram_keeps _ data).then (State.advance_kept _ _ _ _)
theorem State.writePiece_keeps (s : State) (slot : Nat) (who : Option Nat) (own altered : Bool) (p : Piece) :
    s.Keeps (s.writePiece slot who own altered p).1 := by
  unfold State.writePiece
  dsimp only
  (repeat' split) <;> first
    | (refine .of_kept ?_; simp; done)
    | (refine .after ?_ (State.putLine_keeps _ _ _ _ _); simp)
theorem State.writePieces_keeps (s : State) (slot : Nat) (who : Option Nat) (own altered : Bool) (l : List Piece) :
    s.Keeps (s.writePieces slot who own altered l).1 := by
  induction l generalizing s altered with
  | nil => exact .of_kept rfl
  | cons p ps ih => exact (s.writePiece_keeps slot who own altered p).trans (ih _ _)
theorem State.sealWrite_keeps (s : State) (slot off : Nat) (data : List Byte) (who : Option Nat) (own altered : Bool) :
    s.Keeps (s.sealWrite slot off data who own altered).1 := by
  unfold State.sealWrite
  split
  · exact .of_kept rfl
  · exact s.writePieces_keeps _ _ _ _ _
theorem sealWriteCmd_keeps (who key addr : Nat) (data : List Byte) (altered : Bool) (s : State) :
    s.Keeps (sealWriteCmd who key addr data altered s) := by
  unfold sealWriteCmd
  (repeat' split)
  · exact .of_kept rfl
  · exact .of_kept (by simp)
  · exact .of_kept rfl
  · next q =>
    have e := s.sealWrite_keeps key (addr - lineAddr key 0) data (some who) (who = 0 && key = 3) altered
    rw [q] at e
    exact e.then rfl
  · exact (s.writeDram_keeps addr data).then rfl
theorem groutAccess_keeps (key addr : Nat) (wr : Option (List Byte)) (len : Nat) (s : State) :
    s.Keeps (groutAccess key addr wr len s) := by
  unfold groutAccess
  dsimp only
  (repeat' split)
  · exact .of_kept rfl
  · exact .of_kept (by simp)
  · exact .of_kept rfl
  · exact (s.writeDram_keeps addr _).then rfl
  · exact .of_kept rfl
theorem State.makeHeld_keeps (s : State) (slot line : Nat) : s.Keeps (s.makeHeld slot line) := by
  unfold State.makeHeld
  refine .after (t := s.dropHeld slot line) rfl (foldl_keeps _ (fun t h => ?_) _ _)
  refine (t.writePiece_keeps slot none false false { line := line, off := h.off, data := h.data }).then ?_
  dsimp only
  split <;> rfl
theorem State.moveLine_keeps (s : State) (slot line : Nat) (altered : Bool) : s.Keeps (s.moveLine slot line altered) := by
  unfold State.moveLine
  dsimp only
  refine .trans ?_ (State.makeHeld_keeps _ _ _)
  refine .then ?_ (State.updSlot_kept _ _ _)
  (repeat' split) <;> (try refine .then ?_ (State.putMeta_kept _ _ _ _ _)) <;> (try refine .trans ?_ (State.zeroLine_keeps _ _)) <;>
    (refine .of_kept ?_; simp)
theorem repointLine_keeps (altered : Bool) (s : State) : s.Keeps (repointLine altered s) := by
  unfold repointLine
  dsimp only
  (repeat' split)
  · exact .of_kept rfl
  · exact .of_kept rfl
  · exact (s.moveLine_keeps _ _ altered).then (State.finishRekey_kept _ _)
  · exact (s.moveLine_keeps _ _ altered).then (State.repointerStopped_kept _ _)
  · exact s.moveLine_keeps _ _ _
theorem ledgerReplayDone_keeps (s : State) : s.Keeps (ledgerReplayDone s) := by
  unfold ledgerReplayDone
  dsimp only
  split
  · split
    · exact .of_kept rfl
    · refine .after ?_ ((State.sealWrite_keeps _ _ _ _ _ _ _).then (State.replayEnds_kept _ _))
      split <;> simp
  · exact .of_kept rfl
theorem State.writeWindow_keeps (s : State) (c : Nat) (t : Admitted) (data : List Byte) : s.Keeps (s.writeWindow c t data).1 := by
  unfold State.writeWindow
  split
  · exact s.sealWrite_keeps _ _ _ _ _ _
  · dsimp only
    (repeat' split) <;> exact .of_kept (by simp)
/-- An arriving frame keeps what its body keeps. -/
theorem State.sequenced_keeps (s : State) (h : RlHdr) (body : State → State) (hb : ∀ s : State, s.Keeps (body s)) :
    s.Keeps (s.sequenced h body) := by
  obtain e | ⟨t, e, f⟩ := s.sequenced_cases h body
  · exact .of_kept e
  · rw [f]; exact .after e (hb t)
theorem State.writeFrame_keeps (s : State) (h : RlHdr) (data : List Byte) (notice : Bool) : s.Keeps (s.writeFrame h data notice) := by
  unfold State.writeFrame
  refine s.sequenced_keeps h _ fun s => ?_
  dsimp only
  split
  · exact .of_kept (by simp)
  · split
    · exact .of_kept (by simp)
    · split
      · exact .of_kept (by simp)
      · next t _ =>
        refine State.Keeps.after (s.beginEntry_kept h.conn h.first t.off) ?_
        have e := (s.beginEntry h.conn h.first t.off).writeWindow_keeps h.conn t data
        split <;> next q =>
          rw [q] at e
          refine e.then ?_
          (repeat' split) <;> simp
theorem rlAtomicAdd_keeps (h : RlHdr) (data : List Byte) (s : State) : s.Keeps (rlAtomicAdd h data s) := by
  unfold rlAtomicAdd
  refine s.sequenced_keeps h _ fun s => ?_
  split
  · exact .of_kept (by simp)
  · split
    · exact .of_kept (by simp)
    · next t _ =>
      have e := State.readWindow_kept s h.conn t 8
      split
      · next q =>
        rw [q] at e
        exact .of_kept (by simpa using e)
      · next v old q =>
        rw [q] at e
        have f := State.writeWindow_keeps v h.conn t (leBytes 8 (leNat old + leNat data))
        split <;> next r =>
          rw [r] at f
          exact (State.Keeps.after e f).then (by simp)
/-- Bytes that come back for a work entry are stored as the memory operations store them. -/
theorem State.storeLocal_keeps (s : State) (a : Nat) (data : List Byte) : s.Keeps (s.storeLocal a data) := by
  unfold State.storeLocal
  (repeat' split)
  · exact .of_kept rfl
  · exact s.sealWrite_keeps _ _ _ _ _ _
  · exact s.writeDram_keeps _ _
  · exact s.writeDram_keeps _ _
theorem State.storeAt_keeps (s : State) (w : WorkEntry) (off : Nat) (data : List Byte) : s.Keeps (s.storeAt w off data) := by
  unfold State.storeAt
  split
  · exact s.storeLocal_keeps _ _
  · exact .of_kept rfl
theorem rlReadResp_keeps (h : RlHdr) (data : List Byte) (s : State) : s.Keeps (rlReadResp h data s) := by
  unfold rlReadResp
  refine s.sequenced_keeps h _ fun s => ?_
  dsimp only
  split
  · exact .of_kept (by simp)
  · split
    · exact .of_kept (by simp)
    · next i _ =>
      exact (State.Keeps.after (s.consume_kept h) (State.storeAt_keeps _ (((s.consume h).conn h.conn).sq.getD i {}) h.offset.toNat data)).then
        ((State.settle_kept _).trans (State.updConn_kept _ _ _))
theorem rlAtomicResp_keeps (h : RlHdr) (data : List Byte) (s : State) : s.Keeps (rlAtomicResp h data s) := by
  unfold rlAtomicResp
  refine s.sequenced_keeps h _ fun s => ?_
  dsimp only
  split
  · exact .of_kept (by simp)
  · split
    · exact .of_kept (by simp)
    · next i _ =>
      exact (State.Keeps.after (s.consume_kept h) (State.storeAt_keeps _ (((s.consume h).conn h.conn).sq.getD i {}) 0 data)).then
        ((State.settle_kept _).trans (State.updConn_kept _ _ _))

theorem State.dormant_pending (s : State) (bus : Nat) : (s.dormant bus).pending = s.pending := rfl
theorem State.dormant_factory (s : State) (bus : Nat) : (s.dormant bus).par.factory = s.par.factory := rfl
theorem State.dormant_dram (s : State) (bus : Nat) : (s.dormant bus).mp.dram = [] := rfl
/-- A bank with lost bits is what it was but for its crc. -/
theorem State.setBank_factory (s : State) (i : BankId) (b : Bank) :
    (s.setBank i b).pending = s.pending ∧ (s.setBank i b).mp = s.mp ∧
      (s.setBank i b).par.factory = if i = .factory then b else s.par.factory := by
  cases i <;> exact ⟨rfl, rfl, rfl⟩
theorem State.spoilBanks_parts (l : List BankId) (s : State) :
    (s.spoilBanks l).pending = s.pending ∧ (s.spoilBanks l).mp = s.mp ∧
      { (s.spoilBanks l).par.factory with crc := s.par.factory.crc } = s.par.factory ∧
      (BankId.factory ∉ l → (s.spoilBanks l).par.factory = s.par.factory) := by
  unfold State.spoilBanks
  induction l generalizing s with
  | nil => exact ⟨rfl, rfl, rfl, fun _ => rfl⟩
  | cons i l ih =>
    obtain ⟨h1, h2, h3⟩ := s.setBank_factory i { s.bank i with crc := ~~~crc32 (s.bank i).bytes }
    obtain ⟨k1, k2, k3, k4⟩ := ih (s.setBank i { s.bank i with crc := ~~~crc32 (s.bank i).bytes })
    refine ⟨k1.trans h1, k2.trans h2, ?_, fun n => ?_⟩
    · by_cases f : i = .factory
      · subst f
        rw [h3, if_pos rfl] at k3
        rw [List.foldl_cons]
        exact congrArg (fun b : Bank => { b with crc := s.par.factory.crc }) k3
      · rw [h3, if_neg f] at k3
        exact k3
    · rw [List.foldl_cons, k4 fun h => n (List.mem_cons_of_mem _ h), h3, if_neg (by rintro rfl; exact n List.mem_cons_self)]
theorem powerUp_kept (p : PowerOn) (s : State) : (powerUp p s).kept = s.kept ∨
    (powerUp p s).kept = ((s.dormant p.bus).spoilBanks p.spoiled).kept := by
  unfold powerUp
  split
  · exact .inl rfl
  · exact .inr (by simp)
theorem powerUp_keeps (p : PowerOn) (s : State) : (powerUp p s).pending = s.pending ∧
    { (powerUp p s).par.factory with crc := s.par.factory.crc } = s.par.factory ∧
    (BankId.factory ∉ p.spoiled → (powerUp p s).par.factory = s.par.factory) ∧
    (Memory.wf s.mp.dram = true → Memory.wf (powerUp p s).mp.dram = true) := by
  obtain ⟨k1, k2, k3, k4⟩ := State.spoilBanks_parts p.spoiled (s.dormant p.bus)
  obtain h | h := powerUp_kept p s <;> simp only [State.kept, Prod.mk.injEq] at h <;> obtain ⟨h1, -, h3, h4⟩ := h
  · exact ⟨h1, by rw [h3], fun _ => h3, fun h => h4 ▸ h⟩
  · exact ⟨h1.trans k1, by rw [h3]; exact k3, fun n => h3.trans (k4 n), fun _ => by rw [h4, k2]; rfl⟩
theorem tickOn_keeps (s : State) : s.tickOn.kept = (if s.awake then s.count else s).kept := by
  unfold State.tickOn
  split
  · simp_all
  · simp_all

end Sys2Proof.Machine
end

