-- ==== Sys2Proof/Laws/Lines.lean ====
section
/-! SUPPORT. The metadata of the SEAL lines: what a write of it reads back, what an advance of a counter leaves, and the pieces of
an access to one whole line. -/
namespace Sys2Proof.Machine

/-- The only element of its kind is found wherever it was put. -/
theorem find?_insertBy {α : Type} (before : α → α → Bool) (p : α → Bool) (x : α) (l : List α) (hx : p x = true)
    (h : ∀ y ∈ l, p y = false) : (insertBy before x l).find? p = some x := by
  induction l with
  | nil => simp [insertBy, hx]
  | cons y ys ih =>
    unfold insertBy
    split
    · simp [hx]
    · rw [List.find?_cons, h y (by simp)]
      exact ih fun z hz => h z (by simp [hz])
/-- What is written to the metadata of a line reads back. -/
theorem State.lineMeta_putMeta (s : State) (slot line : Nat) (ctr : BitVec 28) (poison : Bool) :
    (s.putMeta slot line ctr poison).lineMeta slot line = { slot := slot, line := line, ctr := ctr, poison := poison } := by
  have h : ∀ y ∈ s.mp.lines.filter (fun m => !(m.slot == slot && m.line == line)), (decide (y.slot = slot) && decide (y.line = line)) = false := by
    intro y hy
    rw [List.mem_filter] at hy
    have := hy.2
    simp only [Bool.not_eq_true', Bool.and_eq_false_iff, beq_eq_false_iff_ne, ne_eq, decide_eq_false_iff_not] at this ⊢
    exact this
  unfold State.putMeta State.lineMeta
  dsimp only
  split
  · next e =>
    simp only [Bool.and_eq_true, decide_eq_true_eq, Bool.not_eq_true'] at e
    rw [List.find?_eq_none.2 (fun y hy => by rw [h y hy]; simp)]
    simp [e.1, e.2]
  · rw [find?_insertBy _ _ _ _ (by simp) h]
    rfl
/-- A rekey queued on account of a counter leaves the lines, the bytes, the slots and the engine. -/
theorem State.counterRekey_parts (s : State) (slot line : Nat) : (s.counterRekey slot line).mp.lines = s.mp.lines ∧
    (s.counterRekey slot line).mp.dram = s.mp.dram ∧ (s.counterRekey slot line).mp.slots = s.mp.slots ∧
    (s.counterRekey slot line).mp.engineFailed = s.mp.engineFailed ∧ (s.counterRekey slot line).ctl = s.ctl := by
  simp only [State.counterRekey, State.queueRekey, State.event, State.raise]
  split
  · exact ⟨rfl, rfl, rfl, rfl, rfl⟩
  · split <;> exact ⟨rfl, rfl, rfl, rfl, rfl⟩
theorem State.lineMeta_of_lines {s t : State} (h : t.mp.lines = s.mp.lines) (slot line : Nat) :
    t.lineMeta slot line = s.lineMeta slot line := by
  unfold State.lineMeta
  rw [h]
/-- An advance of a line's counter: the counter and the poison as written, the bytes, the slots and the engine as they were. -/
theorem State.advance_parts (s : State) (slot line : Nat) (poison : Bool) :
    (s.advance slot line poison).lineMeta slot line =
      { slot := slot, line := line, ctr := (s.lineMeta slot line).ctr + 1, poison := poison } ∧
    (s.advance slot line poison).mp.dram = s.mp.dram ∧ (s.advance slot line poison).mp.slots = s.mp.slots ∧
    (s.advance slot line poison).mp.engineFailed = s.mp.engineFailed ∧ (s.advance slot line poison).ctl = s.ctl := by
  have h := s.lineMeta_putMeta slot line ((s.lineMeta slot line).ctr + 1) poison
  unfold State.advance
  dsimp only
  split
  · have k := (s.putMeta slot line ((s.lineMeta slot line).ctr + 1) poison).counterRekey_parts slot line
    exact ⟨(State.lineMeta_of_lines k.1 slot line).trans h, k.2.1, k.2.2.1, k.2.2.2.1, k.2.2.2.2⟩
  · exact ⟨h, rfl, rfl, rfl, rfl⟩
/-- The use of a metadata line leaves the lines, the bytes, the slots and the engine. -/
theorem State.touch_parts (s : State) (slot line : Nat) : (s.touch slot line).mp.lines = s.mp.lines ∧
    (s.touch slot line).mp.dram = s.mp.dram ∧ (s.touch slot line).mp.slots = s.mp.slots ∧
    (s.touch slot line).mp.engineFailed = s.mp.engineFailed ∧ (s.touch slot line).ctl = s.ctl := by
  unfold State.touch
  dsimp only
  split <;> exact ⟨rfl, rfl, rfl, rfl, rfl⟩
/-- The one piece of an access to a whole line. -/
theorem piecesOf_line (line : Nat) {data : List Byte} (h : data.length = 64) :
    piecesOf (64 * line) data = [{ line := line, off := 0, data := data }] := by
  unfold piecesOf
  have e : (64 * line % 64 + data.length + 63) / 64 = 1 := by omega
  rw [e]
  have d : 64 * line / 64 = line := by omega
  have m : min (64 * line + 64) (64 * (line + 1)) - 64 * line = 64 := by omega
  simp [List.range_succ, d, sliceB, h, m, padTo]
theorem linesIn_line (line : Nat) : linesIn (64 * line) 64 = [line] := by
  unfold linesIn
  have e : (64 * line % 64 + 64 + 63) / 64 = 1 := by omega
  rw [e]
  have d : 64 * line / 64 = line := by omega
  simp [List.range_succ, d]

end Sys2Proof.Machine
end

