-- ==== Sys2Proof/Laws/Load.lean ====
section
/-! SUPPORT. What a load of a bank leaves of the sessions where it changes no running value. -/
namespace Sys2Proof.Machine

theorem foldl_same {α β : Type} (p : State → β) (g : State → α → State) (h : ∀ s x, p (g s x) = p s) (l : List α) (s : State) :
    p (l.foldl g s) = p s := by
  induction l generalizing s with
  | nil => rfl
  | cons x xs ih => exact (ih (g s x)).trans (h s x)
theorem foldl_fixed {α : Type} {g : State → α → State} {u : State} (h : ∀ x, g u x = u) (l : List α) : l.foldl g u = u := by
  induction l with
  | nil => rfl
  | cons x xs ih => rw [List.foldl_cons, h, ih]
theorem State.noteSaturated_sessions (s : State) (n col : Nat) (l : List Int) :
    ((s.noteSaturated n col l).sessions, (s.noteSaturated n col l).par) = (s.sessions, s.par) :=
  foldl_same (fun s => (s.sessions, s.par)) _ (fun s x => by split <;> rfl) _ _
theorem State.buildTables_sessions (s : State) : (s.buildTables.sessions, s.buildTables.par) = (s.sessions, s.par) :=
  foldl_same (fun s => (s.sessions, s.par)) _ (fun s x => by
    simp only [State.buildTable, State.noteSaturated_sessions]; rfl) _ _
theorem moved_still {s t : State} (h : t.par.vals = s.par.vals) (id e : Nat) : moved s t id e = false := by
  simp [moved, State.raw, h]
theorem State.takeCommitted_sessions (s : State) (b : Bond) : (s.takeCommitted b).sessions = s.sessions := by
  unfold State.takeCommitted
  split
  · rfl
  · exact foldl_same (fun s => s.sessions) _ (fun s x => by unfold State.setRaw; (repeat' split) <;> rfl) _ _
/-- Nothing is taken up anew where no value has changed, but for the tables and the limits; no session is touched. -/
theorem State.takeAll_still {s t : State} (h : t.par.vals = s.par.vals) : (t.takeAll s).sessions = t.sessions := by
  have b := State.buildTables_sessions t
  have m (id e : Nat) : moved s t.buildTables id e = false := moved_still (by rw [(Prod.mk.inj b).2, h]) id e
  have h1 : t.buildTables.setBand s = t.buildTables := by simp [State.setBand, m]
  have h2 : t.buildTables.setAir s = t.buildTables := foldl_fixed (fun x => by simp [m]) _
  have h3 : t.buildTables.setLoops s = t.buildTables := by
    unfold State.setLoops
    rw [foldl_fixed (fun x => by simp [m])]
    simp [m]
  have h4 : t.buildTables.setRest s = t.buildTables := by
    unfold State.setRest
    rw [foldl_fixed (fun x => by simp [m])]
    simp [m]
  unfold State.takeAll
  rw [h1, h2, h3, h4]
  refine (foldl_same (fun s => s.sessions) _ (fun s x => ?_) _ _).trans (Prod.mk.inj b).1
  exact foldl_same (fun s => s.sessions) _ (fun s x => by
    unfold State.takeLimits
    dsimp only
    split
    · rfl
    · exact State.takeCommitted_sessions s _) _ _
theorem State.corrFirst_still {s t : State} (h : t.par.vals = s.par.vals) : s.corrFirst t = s :=
  foldl_fixed (fun x => by simp [moved_still h]) _
/-- A FACTORY load that changes no running value touches no session. -/
theorem State.loadFactory_still {s : State} (h : (s.loadRecs .cal s.par.factory.recs).par.vals = s.par.vals) :
    s.loadFactory.sessions = s.sessions := by
  unfold State.loadFactory
  rw [State.corrFirst_still h]
  exact State.takeAll_still h
theorem State.loadFactory_pendFull {s : State} (h : (s.loadRecs .cal s.par.factory.recs).par.vals = s.par.vals) (ln : Ln) :
    s.loadFactory.pendFull ln = s.pendFull ln := by
  unfold State.pendFull State.session?
  rw [State.loadFactory_still h]
@[simp] theorem State.checkBanks_pendFull (s : State) (ln : Ln) : s.checkBanks.pendFull ln = s.pendFull ln := rfl
@[simp] theorem State.event_pendFull (s : State) (code kind index p0 p1 p2 p3 : Nat) (ln : Ln) :
    (s.event code kind index p0 p1 p2 p3).pendFull ln = s.pendFull ln := rfl

end Sys2Proof.Machine
end

