-- ==== Sys2Proof/Laws/Page.lean ====
section
/-! SUPPORT. What the update of the time page leaves of LINE SYNC, and what an edge leaves of it. -/
namespace Sys2Proof.Machine

@[simp] theorem State.counterRekey_sync (s : State) (slot line : Nat) : (s.counterRekey slot line).sync = s.sync := by
  simp only [State.counterRekey, State.queueRekey, State.event, State.raise]
  split
  · rfl
  · split <;> rfl
@[simp] theorem State.noteHeld_sync (s : State) (slot line : Nat) : (s.noteHeld slot line).sync = s.sync := by
  simp only [State.noteHeld, State.event, State.raise]
  split <;> exact s.counterRekey_sync slot line
@[simp] theorem State.advance_sync (s : State) (slot line : Nat) (poison : Bool) : (s.advance slot line poison).sync = s.sync := by
  simp only [State.advance]
  split
  · exact State.counterRekey_sync _ _ _
  · rfl
@[simp] theorem State.updatePage_sync (s : State) : s.updatePage.sync = s.sync := by
  unfold State.updatePage
  split
  · exact State.advance_sync _ _ _ _
  · exact s.noteHeld_sync 3 0
/-- The record of LINE SYNC after an edge. -/
theorem State.issueEdge_line (s : State) :
    s.issueEdge.sync.line = if s.sync.started then s.sync.line + 1 else s.sync.line := by
  simp only [State.issueEdge, State.updatePage_sync]
  cases s.sync.started <;> simp

end Sys2Proof.Machine
end

