-- ==== Sys2Proof/Laws/Session.lean ====
section
/-! SUPPORT. What a session's line and its replies leave readable: every function of the state that reads no session answers the same
after a session is changed. -/
namespace Sys2Proof.Machine

@[simp] theorem State.judgeEpoch_lineTaken (s : State) (e : Epoch) (ln : Ln) :
    (s.lineTaken ln).judgeEpoch e = s.judgeEpoch e := rfl
@[simp] theorem State.judgeEpoch_updSession (s : State) (e : Epoch) (i : Nat) (f : Session → Session) :
    (s.updSession i f).judgeEpoch e = s.judgeEpoch e := rfl
@[simp] theorem State.key_lineTaken (s : State) (id : Nat) (ln : Ln) :
    (s.lineTaken ln).key id = s.key id := rfl
@[simp] theorem State.key_updSession (s : State) (id : Nat) (i : Nat) (f : Session → Session) :
    (s.updSession i f).key id = s.key id := rfl
@[simp] theorem State.committedOf_lineTaken (s : State) (b : Bond) (ln : Ln) :
    (s.lineTaken ln).committedOf b = s.committedOf b := rfl
@[simp] theorem State.committedOf_updSession (s : State) (b : Bond) (i : Nat) (f : Session → Session) :
    (s.updSession i f).committedOf b = s.committedOf b := rfl
@[simp] theorem State.heatOf_lineTaken (s : State) (z : Nat) (ln : Ln) :
    (s.lineTaken ln).heatOf z = s.heatOf z := rfl
@[simp] theorem State.heatOf_updSession (s : State) (z : Nat) (i : Nat) (f : Session → Session) :
    (s.updSession i f).heatOf z = s.heatOf z := rfl
@[simp] theorem State.liveIo_lineTaken (s : State) (id : Nat) (e : Nat) (ln : Ln) :
    (s.lineTaken ln).liveIo id e = s.liveIo id e := rfl
@[simp] theorem State.liveIo_updSession (s : State) (id : Nat) (e : Nat) (i : Nat) (f : Session → Session) :
    (s.updSession i f).liveIo id e = s.liveIo id e := rfl
@[simp] theorem State.profileOk_lineTaken (s : State) (n : Nat) (k : Nat) (ln : Ln) :
    (s.lineTaken ln).profileOk n k = s.profileOk n k := rfl
@[simp] theorem State.profileOk_updSession (s : State) (n : Nat) (k : Nat) (i : Nat) (f : Session → Session) :
    (s.updSession i f).profileOk n k = s.profileOk n k := rfl
@[simp] theorem State.schedVar_lineTaken (s : State) (n : Nat) (v : Nat) (ln : Ln) :
    (s.lineTaken ln).schedVar n v = s.schedVar n v := rfl
@[simp] theorem State.schedVar_updSession (s : State) (n : Nat) (v : Nat) (i : Nat) (f : Session → Session) :
    (s.updSession i f).schedVar n v = s.schedVar n v := rfl
@[simp] theorem State.purged_lineTaken (s : State) (z : Nat) (ln : Ln) :
    (s.lineTaken ln).purged z = s.purged z := rfl
@[simp] theorem State.purged_updSession (s : State) (z : Nat) (i : Nat) (f : Session → Session) :
    (s.updSession i f).purged z = s.purged z := rfl
@[simp] theorem State.showConns_lineTaken (s : State) (ln : Ln) :
    (s.lineTaken ln).showConns = s.showConns := rfl
@[simp] theorem State.showConns_updSession (s : State) (i : Nat) (f : Session → Session) :
    (s.updSession i f).showConns = s.showConns := rfl
@[simp] theorem State.binsFull_lineTaken (s : State) (x : Learn) (ln : Ln) :
    (s.lineTaken ln).binsFull x = s.binsFull x := rfl
@[simp] theorem State.binsFull_updSession (s : State) (x : Learn) (i : Nat) (f : Session → Session) :
    (s.updSession i f).binsFull x = s.binsFull x := rfl
@[simp] theorem State.lineRec_lineTaken (s : State) (line : Line) (ln : Ln) :
    (s.lineTaken ln).lineRec line = s.lineRec line := rfl
@[simp] theorem State.lineRec_updSession (s : State) (line : Line) (i : Nat) (f : Session → Session) :
    (s.updSession i f).lineRec line = s.lineRec line := rfl
@[simp] theorem State.paired_lineTaken (s : State) (ln : Ln) :
    (s.lineTaken ln).paired = s.paired := rfl
@[simp] theorem State.paired_updSession (s : State) (i : Nat) (f : Session → Session) :
    (s.updSession i f).paired = s.paired := rfl
@[simp] theorem State.primingProv_lineTaken (s : State) (ln : Ln) :
    (s.lineTaken ln).primingProv = s.primingProv := rfl
@[simp] theorem State.primingProv_updSession (s : State) (i : Nat) (f : Session → Session) :
    (s.updSession i f).primingProv = s.primingProv := rfl
@[simp] theorem State.faultsOn_lineTaken (s : State) (bit : Nat) (ln : Ln) :
    (s.lineTaken ln).faultsOn bit = s.faultsOn bit := rfl
@[simp] theorem State.faultsOn_updSession (s : State) (bit : Nat) (i : Nat) (f : Session → Session) :
    (s.updSession i f).faultsOn bit = s.faultsOn bit := rfl
@[simp] theorem State.testing_lineTaken (s : State) (ln : Ln) :
    (s.lineTaken ln).testing = s.testing := rfl
@[simp] theorem State.testing_updSession (s : State) (i : Nat) (f : Session → Session) :
    (s.updSession i f).testing = s.testing := rfl
@[simp] theorem State.newerUser_lineTaken (s : State) (ln : Ln) :
    (s.lineTaken ln).newerUser = s.newerUser := rfl
@[simp] theorem State.newerUser_updSession (s : State) (i : Nat) (f : Session → Session) :
    (s.updSession i f).newerUser = s.newerUser := rfl
@[simp] theorem State.freeWindow_lineTaken (s : State) (ln : Ln) :
    (s.lineTaken ln).freeWindow = s.freeWindow := rfl
@[simp] theorem State.freeWindow_updSession (s : State) (i : Nat) (f : Session → Session) :
    (s.updSession i f).freeWindow = s.freeWindow := rfl
@[simp] theorem State.portBusy_lineTaken (s : State) (p : Nat) (ln : Ln) :
    (s.lineTaken ln).portBusy p = s.portBusy p := rfl
@[simp] theorem State.portBusy_updSession (s : State) (p : Nat) (i : Nat) (f : Session → Session) :
    (s.updSession i f).portBusy p = s.portBusy p := rfl
@[simp] theorem State.pageRoom_lineTaken (s : State) (ln : Ln) :
    (s.lineTaken ln).pageRoom = s.pageRoom := rfl
@[simp] theorem State.pageRoom_updSession (s : State) (i : Nat) (f : Session → Session) :
    (s.updSession i f).pageRoom = s.pageRoom := rfl
@[simp] theorem State.unitImage_lineTaken (s : State) (ln : Ln) :
    (s.lineTaken ln).unitImage = s.unitImage := rfl
@[simp] theorem State.unitImage_updSession (s : State) (i : Nat) (f : Session → Session) :
    (s.updSession i f).unitImage = s.unitImage := rfl
@[simp] theorem State.dirByte_lineTaken (s : State) (c : Nat) (off : Nat) (ln : Ln) :
    (s.lineTaken ln).dirByte c off = s.dirByte c off := rfl
@[simp] theorem State.dirByte_updSession (s : State) (c : Nat) (off : Nat) (i : Nat) (f : Session → Session) :
    (s.updSession i f).dirByte c off = s.dirByte c off := rfl
@[simp] theorem State.source_lineTaken (s : State) (n : Nat) (ln : Ln) :
    (s.lineTaken ln).source n = s.source n := rfl
@[simp] theorem State.source_updSession (s : State) (n : Nat) (i : Nat) (f : Session → Session) :
    (s.updSession i f).source n = s.source n := rfl
@[simp] theorem State.sealGate_lineTaken (s : State) (slot : Nat) (ln : Ln) :
    (s.lineTaken ln).sealGate slot = s.sealGate slot := rfl
@[simp] theorem State.sealGate_updSession (s : State) (slot : Nat) (i : Nat) (f : Session → Session) :
    (s.updSession i f).sealGate slot = s.sealGate slot := rfl
@[simp] theorem State.conn_lineTaken (s : State) (c : Nat) (ln : Ln) :
    (s.lineTaken ln).conn c = s.conn c := rfl
@[simp] theorem State.conn_updSession (s : State) (c : Nat) (i : Nat) (f : Session → Session) :
    (s.updSession i f).conn c = s.conn c := rfl
@[simp] theorem State.ctrMaxOf_lineTaken (s : State) (slot : Nat) (ln : Ln) :
    (s.lineTaken ln).ctrMaxOf slot = s.ctrMaxOf slot := rfl
@[simp] theorem State.ctrMaxOf_updSession (s : State) (slot : Nat) (i : Nat) (f : Session → Session) :
    (s.updSession i f).ctrMaxOf slot = s.ctrMaxOf slot := rfl
@[simp] theorem State.committedFires_lineTaken (s : State) (n : Nat) (ch : Nat) (ln : Ln) :
    (s.lineTaken ln).committedFires n ch = s.committedFires n ch := rfl
@[simp] theorem State.committedFires_updSession (s : State) (n : Nat) (ch : Nat) (i : Nat) (f : Session → Session) :
    (s.updSession i f).committedFires n ch = s.committedFires n ch := rfl
@[simp] theorem State.course_lineTaken (s : State) (n : Nat) (ln : Ln) :
    (s.lineTaken ln).course n = s.course n := rfl
@[simp] theorem State.course_updSession (s : State) (n : Nat) (i : Nat) (f : Session → Session) :
    (s.updSession i f).course n = s.course n := rfl
@[simp] theorem State.rekeyDue_lineTaken (s : State) (slot : Nat) (ln : Ln) :
    (s.lineTaken ln).rekeyDue slot = s.rekeyDue slot := rfl
@[simp] theorem State.rekeyDue_updSession (s : State) (slot : Nat) (i : Nat) (f : Session → Session) :
    (s.updSession i f).rekeyDue slot = s.rekeyDue slot := rfl
@[simp] theorem State.valueIn_lineTaken (s : State) (k : PKey) (v : ValIn) (ln : Ln) :
    (s.lineTaken ln).valueIn k v = s.valueIn k v := rfl
@[simp] theorem State.valueIn_updSession (s : State) (k : PKey) (v : ValIn) (i : Nat) (f : Session → Session) :
    (s.updSession i f).valueIn k v = s.valueIn k v := rfl
@[simp] theorem State.airLearns_lineTaken (s : State) (m : Nat) (ln : Ln) :
    (s.lineTaken ln).airLearns m = s.airLearns m := rfl
@[simp] theorem State.airLearns_updSession (s : State) (m : Nat) (i : Nat) (f : Session → Session) :
    (s.updSession i f).airLearns m = s.airLearns m := rfl
@[simp] theorem State.showTime_lineTaken (s : State) (ln : Ln) :
    (s.lineTaken ln).showTime = s.showTime := rfl
@[simp] theorem State.showTime_updSession (s : State) (i : Nat) (f : Session → Session) :
    (s.updSession i f).showTime = s.showTime := rfl
@[simp] theorem State.mayForm_lineTaken (s : State) (serial : Nat) (ln : Ln) :
    (s.lineTaken ln).mayForm serial = s.mayForm serial := rfl
@[simp] theorem State.mayForm_updSession (s : State) (serial : Nat) (i : Nat) (f : Session → Session) :
    (s.updSession i f).mayForm serial = s.mayForm serial := rfl
@[simp] theorem State.badFormat_lineTaken (s : State) (k : TicketSlot) (ln : Ln) :
    (s.lineTaken ln).badFormat k = s.badFormat k := rfl
@[simp] theorem State.badFormat_updSession (s : State) (k : TicketSlot) (i : Nat) (f : Session → Session) :
    (s.updSession i f).badFormat k = s.badFormat k := rfl
@[simp] theorem State.stagedOf_lineTaken (s : State) (id : Nat) (ln : Ln) :
    (s.lineTaken ln).stagedOf id = s.stagedOf id := rfl
@[simp] theorem State.stagedOf_updSession (s : State) (id : Nat) (i : Nat) (f : Session → Session) :
    (s.updSession i f).stagedOf id = s.stagedOf id := rfl
@[simp] theorem State.checksHold_lineTaken (s : State) (ln : Ln) :
    (s.lineTaken ln).checksHold = s.checksHold := rfl
@[simp] theorem State.checksHold_updSession (s : State) (i : Nat) (f : Session → Session) :
    (s.updSession i f).checksHold = s.checksHold := rfl
@[simp] theorem State.showCartridge_lineTaken (s : State) (ln : Ln) :
    (s.lineTaken ln).showCartridge = s.showCartridge := rfl
@[simp] theorem State.showCartridge_updSession (s : State) (i : Nat) (f : Session → Session) :
    (s.updSession i f).showCartridge = s.showCartridge := rfl
@[simp] theorem State.checkStands_lineTaken (s : State) (ln : Ln) :
    (s.lineTaken ln).checkStands = s.checkStands := rfl
@[simp] theorem State.checkStands_updSession (s : State) (i : Nat) (f : Session → Session) :
    (s.updSession i f).checkStands = s.checkStands := rfl
@[simp] theorem State.crownSilent_lineTaken (s : State) (x : DevCrown) (l : LinkId) (n : Nat) (ln : Ln) :
    (s.lineTaken ln).crownSilent x l n = s.crownSilent x l n := rfl
@[simp] theorem State.crownSilent_updSession (s : State) (x : DevCrown) (l : LinkId) (n : Nat) (i : Nat) (f : Session → Session) :
    (s.updSession i f).crownSilent x l n = s.crownSilent x l n := rfl
@[simp] theorem State.portServes_lineTaken (s : State) (p : Nat) (ln : Ln) :
    (s.lineTaken ln).portServes p = s.portServes p := rfl
@[simp] theorem State.portServes_updSession (s : State) (p : Nat) (i : Nat) (f : Session → Session) :
    (s.updSession i f).portServes p = s.portServes p := rfl
@[simp] theorem State.fanBlocks_lineTaken (s : State) (n : Nat) (z : Nat) (ln : Ln) :
    (s.lineTaken ln).fanBlocks n z = s.fanBlocks n z := rfl
@[simp] theorem State.fanBlocks_updSession (s : State) (n : Nat) (z : Nat) (i : Nat) (f : Session → Session) :
    (s.updSession i f).fanBlocks n z = s.fanBlocks n z := rfl
@[simp] theorem State.moduleOk_lineTaken (s : State) (p : Nat) (ln : Ln) :
    (s.lineTaken ln).moduleOk p = s.moduleOk p := rfl
@[simp] theorem State.moduleOk_updSession (s : State) (p : Nat) (i : Nat) (f : Session → Session) :
    (s.updSession i f).moduleOk p = s.moduleOk p := rfl
@[simp] theorem State.capRecord_lineTaken (s : State) (c : Cartridge) (reason : Nat) (ln : Ln) :
    (s.lineTaken ln).capRecord c reason = s.capRecord c reason := rfl
@[simp] theorem State.capRecord_updSession (s : State) (c : Cartridge) (reason : Nat) (i : Nat) (f : Session → Session) :
    (s.updSession i f).capRecord c reason = s.capRecord c reason := rfl
@[simp] theorem State.planFor_lineTaken (s : State) (t : Ticket) (ch : Nat) (ln : Ln) :
    (s.lineTaken ln).planFor t ch = s.planFor t ch := rfl
@[simp] theorem State.planFor_updSession (s : State) (t : Ticket) (ch : Nat) (i : Nat) (f : Session → Session) :
    (s.updSession i f).planFor t ch = s.planFor t ch := rfl
@[simp] theorem State.bankRecs_lineTaken (s : State) (c : PClass) (ln : Ln) :
    (s.lineTaken ln).bankRecs c = s.bankRecs c := rfl
@[simp] theorem State.bankRecs_updSession (s : State) (c : PClass) (i : Nat) (f : Session → Session) :
    (s.updSession i f).bankRecs c = s.bankRecs c := rfl
@[simp] theorem State.portLine_lineTaken (s : State) (p : Nat) (ln : Ln) :
    (s.lineTaken ln).portLine p = s.portLine p := rfl
@[simp] theorem State.portLine_updSession (s : State) (p : Nat) (i : Nat) (f : Session → Session) :
    (s.updSession i f).portLine p = s.portLine p := rfl
@[simp] theorem State.blocked_lineTaken (s : State) (g : Nat) (gsn : U32) (c : Nat) (ln : Ln) :
    (s.lineTaken ln).blocked g gsn c = s.blocked g gsn c := rfl
@[simp] theorem State.blocked_updSession (s : State) (g : Nat) (gsn : U32) (c : Nat) (i : Nat) (f : Session → Session) :
    (s.updSession i f).blocked g gsn c = s.blocked g gsn c := rfl
@[simp] theorem State.slotAt_lineTaken (s : State) (src : Nat) (ln : Ln) :
    (s.lineTaken ln).slotAt src = s.slotAt src := rfl
@[simp] theorem State.slotAt_updSession (s : State) (src : Nat) (i : Nat) (f : Session → Session) :
    (s.updSession i f).slotAt src = s.slotAt src := rfl
@[simp] theorem State.isReady_lineTaken (s : State) (c : Nat) (ln : Ln) :
    (s.lineTaken ln).isReady c = s.isReady c := rfl
@[simp] theorem State.isReady_updSession (s : State) (c : Nat) (i : Nat) (f : Session → Session) :
    (s.updSession i f).isReady c = s.isReady c := rfl
@[simp] theorem State.roleOrd_lineTaken (s : State) (ln : Ln) :
    (s.lineTaken ln).roleOrd = s.roleOrd := rfl
@[simp] theorem State.roleOrd_updSession (s : State) (i : Nat) (f : Session → Session) :
    (s.updSession i f).roleOrd = s.roleOrd := rfl
@[simp] theorem State.groupMembers_lineTaken (s : State) (g : Nat) (ln : Ln) :
    (s.lineTaken ln).groupMembers g = s.groupMembers g := rfl
@[simp] theorem State.groupMembers_updSession (s : State) (g : Nat) (i : Nat) (f : Session → Session) :
    (s.updSession i f).groupMembers g = s.groupMembers g := rfl
@[simp] theorem State.norText_lineTaken (s : State) (text : String) (ln : Ln) :
    (s.lineTaken ln).norText text = s.norText text := rfl
@[simp] theorem State.norText_updSession (s : State) (text : String) (i : Nat) (f : Session → Session) :
    (s.updSession i f).norText text = s.norText text := rfl
@[simp] theorem State.firesLeft_lineTaken (s : State) (n : Nat) (ln : Ln) :
    (s.lineTaken ln).firesLeft n = s.firesLeft n := rfl
@[simp] theorem State.firesLeft_updSession (s : State) (n : Nat) (i : Nat) (f : Session → Session) :
    (s.updSession i f).firesLeft n = s.firesLeft n := rfl
@[simp] theorem State.configByte_lineTaken (s : State) (c : Nat) (off : Nat) (ln : Ln) :
    (s.lineTaken ln).configByte c off = s.configByte c off := rfl
@[simp] theorem State.configByte_updSession (s : State) (c : Nat) (off : Nat) (i : Nat) (f : Session → Session) :
    (s.updSession i f).configByte c off = s.configByte c off := rfl
@[simp] theorem State.uLo_lineTaken (s : State) (n : Nat) (ln : Ln) :
    (s.lineTaken ln).uLo n = s.uLo n := rfl
@[simp] theorem State.uLo_updSession (s : State) (n : Nat) (i : Nat) (f : Session → Session) :
    (s.updSession i f).uLo n = s.uLo n := rfl
@[simp] theorem State.newPlan_lineTaken (s : State) (n : Nat) (ch : Nat) (t : Ticket) (ln : Ln) :
    (s.lineTaken ln).newPlan n ch t = s.newPlan n ch t := rfl
@[simp] theorem State.newPlan_updSession (s : State) (n : Nat) (ch : Nat) (t : Ticket) (i : Nat) (f : Session → Session) :
    (s.updSession i f).newPlan n ch t = s.newPlan n ch t := rfl
@[simp] theorem State.zoneDrained_lineTaken (s : State) (z : Nat) (ln : Ln) :
    (s.lineTaken ln).zoneDrained z = s.zoneDrained z := rfl
@[simp] theorem State.zoneDrained_updSession (s : State) (z : Nat) (i : Nat) (f : Session → Session) :
    (s.updSession i f).zoneDrained z = s.zoneDrained z := rfl
@[simp] theorem State.saveTarget_lineTaken (s : State) (x : BankId) (y : BankId) (ln : Ln) :
    (s.lineTaken ln).saveTarget x y = s.saveTarget x y := rfl
@[simp] theorem State.saveTarget_updSession (s : State) (x : BankId) (y : BankId) (i : Nat) (f : Session → Session) :
    (s.updSession i f).saveTarget x y = s.saveTarget x y := rfl
@[simp] theorem State.lotDue_lineTaken (s : State) (ln : Ln) :
    (s.lineTaken ln).lotDue = s.lotDue := rfl
@[simp] theorem State.lotDue_updSession (s : State) (i : Nat) (f : Session → Session) :
    (s.updSession i f).lotDue = s.lotDue := rfl
@[simp] theorem State.normAi_lineTaken (s : State) (k : Nat) (ln : Ln) :
    (s.lineTaken ln).normAi k = s.normAi k := rfl
@[simp] theorem State.normAi_updSession (s : State) (k : Nat) (i : Nat) (f : Session → Session) :
    (s.updSession i f).normAi k = s.normAi k := rfl
@[simp] theorem State.bufferFull_lineTaken (s : State) (x : Session) (ln : Ln) :
    (s.lineTaken ln).bufferFull x = s.bufferFull x := rfl
@[simp] theorem State.bufferFull_updSession (s : State) (x : Session) (i : Nat) (f : Session → Session) :
    (s.updSession i f).bufferFull x = s.bufferFull x := rfl
@[simp] theorem State.offers_lineTaken (s : State) (p : Nat) (cls : FrameClass) (ln : Ln) :
    (s.lineTaken ln).offers p cls = s.offers p cls := rfl
@[simp] theorem State.offers_updSession (s : State) (p : Nat) (cls : FrameClass) (i : Nat) (f : Session → Session) :
    (s.updSession i f).offers p cls = s.offers p cls := rfl
@[simp] theorem State.classWindow_lineTaken (s : State) (p : Nat) (ticket : Bool) (ln : Ln) :
    (s.lineTaken ln).classWindow p ticket = s.classWindow p ticket := rfl
@[simp] theorem State.classWindow_updSession (s : State) (p : Nat) (ticket : Bool) (i : Nat) (f : Session → Session) :
    (s.updSession i f).classWindow p ticket = s.classWindow p ticket := rfl
@[simp] theorem State.ticketWindow_lineTaken (s : State) (p : Nat) (ln : Ln) :
    (s.lineTaken ln).ticketWindow p = s.ticketWindow p := rfl
@[simp] theorem State.ticketWindow_updSession (s : State) (p : Nat) (i : Nat) (f : Session → Session) :
    (s.updSession i f).ticketWindow p = s.ticketWindow p := rfl
@[simp] theorem State.coursesStaged_lineTaken (s : State) (ln : Ln) :
    (s.lineTaken ln).coursesStaged = s.coursesStaged := rfl
@[simp] theorem State.coursesStaged_updSession (s : State) (i : Nat) (f : Session → Session) :
    (s.updSession i f).coursesStaged = s.coursesStaged := rfl
@[simp] theorem State.newer_lineTaken (s : State) (x : BankId) (y : BankId) (ln : Ln) :
    (s.lineTaken ln).newer x y = s.newer x y := rfl
@[simp] theorem State.newer_updSession (s : State) (x : BankId) (y : BankId) (i : Nat) (f : Session → Session) :
    (s.updSession i f).newer x y = s.newer x y := rfl
@[simp] theorem State.takesCrown_lineTaken (s : State) (ln : Ln) :
    (s.lineTaken ln).takesCrown = s.takesCrown := rfl
@[simp] theorem State.takesCrown_updSession (s : State) (i : Nat) (f : Session → Session) :
    (s.updSession i f).takesCrown = s.takesCrown := rfl
@[simp] theorem State.targetsOf_lineTaken (s : State) (g : Nat) (poster : Option Nat) (ln : Ln) :
    (s.lineTaken ln).targetsOf g poster = s.targetsOf g poster := rfl
@[simp] theorem State.targetsOf_updSession (s : State) (g : Nat) (poster : Option Nat) (i : Nat) (f : Session → Session) :
    (s.updSession i f).targetsOf g poster = s.targetsOf g poster := rfl
@[simp] theorem State.raw_lineTaken (s : State) (id : Nat) (e : Nat) (ln : Ln) :
    (s.lineTaken ln).raw id e = s.raw id e := rfl
@[simp] theorem State.raw_updSession (s : State) (id : Nat) (e : Nat) (i : Nat) (f : Session → Session) :
    (s.updSession i f).raw id e = s.raw id e := rfl
@[simp] theorem State.stale_lineTaken (s : State) (p : Nat) (dconn : Nat) (ln : Ln) :
    (s.lineTaken ln).stale p dconn = s.stale p dconn := rfl
@[simp] theorem State.stale_updSession (s : State) (p : Nat) (dconn : Nat) (i : Nat) (f : Session → Session) :
    (s.updSession i f).stale p dconn = s.stale p dconn := rfl
@[simp] theorem State.fireStart_lineTaken (s : State) (n : Nat) (k : TicketSlot) (band : Nat) (e : LineRec) (lead : Int) (ln : Ln) :
    (s.lineTaken ln).fireStart n k band e lead = s.fireStart n k band e lead := rfl
@[simp] theorem State.fireStart_updSession (s : State) (n : Nat) (k : TicketSlot) (band : Nat) (e : LineRec) (lead : Int) (i : Nat) (f : Session → Session) :
    (s.updSession i f).fireStart n k band e lead = s.fireStart n k band e lead := rfl
@[simp] theorem State.addedOf_lineTaken (s : State) (t : Ticket) (ln : Ln) :
    (s.lineTaken ln).addedOf t = s.addedOf t := rfl
@[simp] theorem State.addedOf_updSession (s : State) (t : Ticket) (i : Nat) (f : Session → Session) :
    (s.updSession i f).addedOf t = s.addedOf t := rfl
@[simp] theorem State.openAshlar_lineTaken (s : State) (serial : BitVec 64) (recs : List Record) (ln : Ln) :
    (s.lineTaken ln).openAshlar serial recs = s.openAshlar serial recs := rfl
@[simp] theorem State.openAshlar_updSession (s : State) (serial : BitVec 64) (recs : List Record) (i : Nat) (f : Session → Session) :
    (s.updSession i f).openAshlar serial recs = s.openAshlar serial recs := rfl
@[simp] theorem State.pctAs_lineTaken (s : State) (src : Nat) (v : Int) (ln : Ln) :
    (s.lineTaken ln).pctAs src v = s.pctAs src v := rfl
@[simp] theorem State.pctAs_updSession (s : State) (src : Nat) (v : Int) (i : Nat) (f : Session → Session) :
    (s.updSession i f).pctAs src v = s.pctAs src v := rfl
@[simp] theorem State.sourceVal_lineTaken (s : State) (src : Nat) (ln : Ln) :
    (s.lineTaken ln).sourceVal src = s.sourceVal src := rfl
@[simp] theorem State.sourceVal_updSession (s : State) (src : Nat) (i : Nat) (f : Session → Session) :
    (s.updSession i f).sourceVal src = s.sourceVal src := rfl
@[simp] theorem State.frameTicks_lineTaken (s : State) (p : Nat) (n : Nat) (enc : Bool) (ln : Ln) :
    (s.lineTaken ln).frameTicks p n enc = s.frameTicks p n enc := rfl
@[simp] theorem State.frameTicks_updSession (s : State) (p : Nat) (n : Nat) (enc : Bool) (i : Nat) (f : Session → Session) :
    (s.updSession i f).frameTicks p n enc = s.frameTicks p n enc := rfl
@[simp] theorem State.geometryRefusal_lineTaken (s : State) (ln : Ln) :
    (s.lineTaken ln).geometryRefusal = s.geometryRefusal := rfl
@[simp] theorem State.geometryRefusal_updSession (s : State) (i : Nat) (f : Session → Session) :
    (s.updSession i f).geometryRefusal = s.geometryRefusal := rfl
@[simp] theorem State.heldRecs_lineTaken (s : State) (ln : Ln) :
    (s.lineTaken ln).heldRecs = s.heldRecs := rfl
@[simp] theorem State.heldRecs_updSession (s : State) (i : Nat) (f : Session → Session) :
    (s.updSession i f).heldRecs = s.heldRecs := rfl
@[simp] theorem State.sweeping_lineTaken (s : State) (r : Nat) (ln : Ln) :
    (s.lineTaken ln).sweeping r = s.sweeping r := rfl
@[simp] theorem State.sweeping_updSession (s : State) (r : Nat) (i : Nat) (f : Session → Session) :
    (s.updSession i f).sweeping r = s.sweeping r := rfl
@[simp] theorem State.unitOf_lineTaken (s : State) (k : PKey) (ln : Ln) :
    (s.lineTaken ln).unitOf k = s.unitOf k := rfl
@[simp] theorem State.unitOf_updSession (s : State) (k : PKey) (i : Nat) (f : Session → Session) :
    (s.updSession i f).unitOf k = s.unitOf k := rfl
@[simp] theorem State.loopReply_lineTaken (s : State) (n : Nat) (auto : Bool) (ln : Ln) :
    (s.lineTaken ln).loopReply n auto = s.loopReply n auto := rfl
@[simp] theorem State.loopReply_updSession (s : State) (n : Nat) (auto : Bool) (i : Nat) (f : Session → Session) :
    (s.updSession i f).loopReply n auto = s.loopReply n auto := rfl
@[simp] theorem State.airFloor_lineTaken (s : State) (m : Nat) (ln : Ln) :
    (s.lineTaken ln).airFloor m = s.airFloor m := rfl
@[simp] theorem State.airFloor_updSession (s : State) (m : Nat) (i : Nat) (f : Session → Session) :
    (s.updSession i f).airFloor m = s.airFloor m := rfl
@[simp] theorem State.fan_lineTaken (s : State) (n : Nat) (ln : Ln) :
    (s.lineTaken ln).fan n = s.fan n := rfl
@[simp] theorem State.fan_updSession (s : State) (n : Nat) (i : Nat) (f : Session → Session) :
    (s.updSession i f).fan n = s.fan n := rfl
@[simp] theorem State.rawText_lineTaken (s : State) (k : PKey) (v : Int) (ln : Ln) :
    (s.lineTaken ln).rawText k v = s.rawText k v := rfl
@[simp] theorem State.rawText_updSession (s : State) (k : PKey) (v : Int) (i : Nat) (f : Session → Session) :
    (s.updSession i f).rawText k v = s.rawText k v := rfl
@[simp] theorem State.loopRefusal_lineTaken (s : State) (n : Nat) (ln : Ln) :
    (s.lineTaken ln).loopRefusal n = s.loopRefusal n := rfl
@[simp] theorem State.loopRefusal_updSession (s : State) (n : Nat) (i : Nat) (f : Session → Session) :
    (s.updSession i f).loopRefusal n = s.loopRefusal n := rfl
@[simp] theorem State.liveCourse_lineTaken (s : State) (id : Nat) (e : Nat) (ln : Ln) :
    (s.lineTaken ln).liveCourse id e = s.liveCourse id e := rfl
@[simp] theorem State.liveCourse_updSession (s : State) (id : Nat) (e : Nat) (i : Nat) (f : Session → Session) :
    (s.updSession i f).liveCourse id e = s.liveCourse id e := rfl
@[simp] theorem State.admitBefore_lineTaken (s : State) (a : Ticket) (b : Ticket) (ln : Ln) :
    (s.lineTaken ln).admitBefore a b = s.admitBefore a b := rfl
@[simp] theorem State.admitBefore_updSession (s : State) (a : Ticket) (b : Ticket) (i : Nat) (f : Session → Session) :
    (s.updSession i f).admitBefore a b = s.admitBefore a b := rfl
@[simp] theorem State.awake_lineTaken (s : State) (ln : Ln) :
    (s.lineTaken ln).awake = s.awake := rfl
@[simp] theorem State.awake_updSession (s : State) (i : Nat) (f : Session → Session) :
    (s.updSession i f).awake = s.awake := rfl
@[simp] theorem State.peerSilent_lineTaken (s : State) (ln : Ln) :
    (s.lineTaken ln).peerSilent = s.peerSilent := rfl
@[simp] theorem State.peerSilent_updSession (s : State) (i : Nat) (f : Session → Session) :
    (s.updSession i f).peerSilent = s.peerSilent := rfl
@[simp] theorem State.newerBank_lineTaken (s : State) (ln : Ln) :
    (s.lineTaken ln).newerBank = s.newerBank := rfl
@[simp] theorem State.newerBank_updSession (s : State) (i : Nat) (f : Session → Session) :
    (s.updSession i f).newerBank = s.newerBank := rfl
@[simp] theorem State.canPrime_lineTaken (s : State) (k : TicketSlot) (ln : Ln) :
    (s.lineTaken ln).canPrime k = s.canPrime k := rfl
@[simp] theorem State.canPrime_updSession (s : State) (k : TicketSlot) (i : Nat) (f : Session → Session) :
    (s.updSession i f).canPrime k = s.canPrime k := rfl
@[simp] theorem State.groutImage_lineTaken (s : State) (slot : Nat) (addr : Nat) (ln : Ln) :
    (s.lineTaken ln).groutImage slot addr = s.groutImage slot addr := rfl
@[simp] theorem State.groutImage_updSession (s : State) (slot : Nat) (addr : Nat) (i : Nat) (f : Session → Session) :
    (s.updSession i f).groutImage slot addr = s.groutImage slot addr := rfl
@[simp] theorem State.activeCauses_lineTaken (s : State) (ln : Ln) :
    (s.lineTaken ln).activeCauses = s.activeCauses := rfl
@[simp] theorem State.activeCauses_updSession (s : State) (i : Nat) (f : Session → Session) :
    (s.updSession i f).activeCauses = s.activeCauses := rfl
@[simp] theorem State.verifyRange_lineTaken (s : State) (ln : Ln) :
    (s.lineTaken ln).verifyRange = s.verifyRange := rfl
@[simp] theorem State.verifyRange_updSession (s : State) (i : Nat) (f : Session → Session) :
    (s.updSession i f).verifyRange = s.verifyRange := rfl
@[simp] theorem State.freeSource_lineTaken (s : State) (p : Nat) (ln : Ln) :
    (s.lineTaken ln).freeSource p = s.freeSource p := rfl
@[simp] theorem State.freeSource_updSession (s : State) (p : Nat) (i : Nat) (f : Session → Session) :
    (s.updSession i f).freeSource p = s.freeSource p := rfl
@[simp] theorem State.mirrored_lineTaken (s : State) (ln : Ln) :
    (s.lineTaken ln).mirrored = s.mirrored := rfl
@[simp] theorem State.mirrored_updSession (s : State) (i : Nat) (f : Session → Session) :
    (s.updSession i f).mirrored = s.mirrored := rfl
@[simp] theorem State.batchMode_lineTaken (s : State) (ln : Ln) :
    (s.lineTaken ln).batchMode = s.batchMode := rfl
@[simp] theorem State.batchMode_updSession (s : State) (i : Nat) (f : Session → Session) :
    (s.updSession i f).batchMode = s.batchMode := rfl
@[simp] theorem State.sealedAt_lineTaken (s : State) (c : Nat) (i' : Nat) (ln : Ln) :
    (s.lineTaken ln).sealedAt c i' = s.sealedAt c i' := rfl
@[simp] theorem State.sealedAt_updSession (s : State) (c : Nat) (i' : Nat) (i : Nat) (f : Session → Session) :
    (s.updSession i f).sealedAt c i' = s.sealedAt c i' := rfl
@[simp] theorem State.tapeRefusal_lineTaken (s : State) (ln : Ln) :
    (s.lineTaken ln).tapeRefusal = s.tapeRefusal := rfl
@[simp] theorem State.tapeRefusal_updSession (s : State) (i : Nat) (f : Session → Session) :
    (s.updSession i f).tapeRefusal = s.tapeRefusal := rfl
@[simp] theorem State.num_lineTaken (s : State) (id : Nat) (e : Nat) (ln : Ln) :
    (s.lineTaken ln).num id e = s.num id e := rfl
@[simp] theorem State.num_updSession (s : State) (id : Nat) (e : Nat) (i : Nat) (f : Session → Session) :
    (s.updSession i f).num id e = s.num id e := rfl
@[simp] theorem State.lineMeta_lineTaken (s : State) (slot : Nat) (line : Nat) (ln : Ln) :
    (s.lineTaken ln).lineMeta slot line = s.lineMeta slot line := rfl
@[simp] theorem State.lineMeta_updSession (s : State) (slot : Nat) (line : Nat) (i : Nat) (f : Session → Session) :
    (s.updSession i f).lineMeta slot line = s.lineMeta slot line := rfl
@[simp] theorem State.liveNet_lineTaken (s : State) (id : Nat) (e : Nat) (ln : Ln) :
    (s.lineTaken ln).liveNet id e = s.liveNet id e := rfl
@[simp] theorem State.liveNet_updSession (s : State) (id : Nat) (e : Nat) (i : Nat) (f : Session → Session) :
    (s.updSession i f).liveNet id e = s.liveNet id e := rfl
@[simp] theorem State.courseCount_lineTaken (s : State) (ln : Ln) :
    (s.lineTaken ln).courseCount = s.courseCount := rfl
@[simp] theorem State.courseCount_updSession (s : State) (i : Nat) (f : Session → Session) :
    (s.updSession i f).courseCount = s.courseCount := rfl
@[simp] theorem State.linkMissing_lineTaken (s : State) (t : SelfTest) (ln : Ln) :
    (s.lineTaken ln).linkMissing t = s.linkMissing t := rfl
@[simp] theorem State.linkMissing_updSession (s : State) (t : SelfTest) (i : Nat) (f : Session → Session) :
    (s.updSession i f).linkMissing t = s.linkMissing t := rfl
@[simp] theorem State.backlog_lineTaken (s : State) (x : Session) (ln : Ln) :
    (s.lineTaken ln).backlog x = s.backlog x := rfl
@[simp] theorem State.backlog_updSession (s : State) (x : Session) (i : Nat) (f : Session → Session) :
    (s.updSession i f).backlog x = s.backlog x := rfl
@[simp] theorem State.userRecs_lineTaken (s : State) (ln : Ln) :
    (s.lineTaken ln).userRecs = s.userRecs := rfl
@[simp] theorem State.userRecs_updSession (s : State) (i : Nat) (f : Session → Session) :
    (s.updSession i f).userRecs = s.userRecs := rfl
@[simp] theorem State.planTaken_lineTaken (s : State) (m : MirPlan) (ln : Ln) :
    (s.lineTaken ln).planTaken m = s.planTaken m := rfl
@[simp] theorem State.planTaken_updSession (s : State) (m : MirPlan) (i : Nat) (f : Session → Session) :
    (s.updSession i f).planTaken m = s.planTaken m := rfl
@[simp] theorem State.capstoneDue_lineTaken (s : State) (ln : Ln) :
    (s.lineTaken ln).capstoneDue = s.capstoneDue := rfl
@[simp] theorem State.capstoneDue_updSession (s : State) (i : Nat) (f : Session → Session) :
    (s.updSession i f).capstoneDue = s.capstoneDue := rfl
@[simp] theorem State.diffLines_lineTaken (s : State) (recs : List BankRec) (ln : Ln) :
    (s.lineTaken ln).diffLines recs = s.diffLines recs := rfl
@[simp] theorem State.diffLines_updSession (s : State) (recs : List BankRec) (i : Nat) (f : Session → Session) :
    (s.updSession i f).diffLines recs = s.diffLines recs := rfl
@[simp] theorem State.wireBytes_lineTaken (s : State) (p : Nat) (n : Nat) (enc : Bool) (ln : Ln) :
    (s.lineTaken ln).wireBytes p n enc = s.wireBytes p n enc := rfl
@[simp] theorem State.wireBytes_updSession (s : State) (p : Nat) (n : Nat) (enc : Bool) (i : Nat) (f : Session → Session) :
    (s.updSession i f).wireBytes p n enc = s.wireBytes p n enc := rfl
@[simp] theorem State.groupSettings_lineTaken (s : State) (g : Nat) (ln : Ln) :
    (s.lineTaken ln).groupSettings g = s.groupSettings g := rfl
@[simp] theorem State.groupSettings_updSession (s : State) (g : Nat) (i : Nat) (f : Session → Session) :
    (s.updSession i f).groupSettings g = s.groupSettings g := rfl
@[simp] theorem State.mayEncrypt_lineTaken (s : State) (seq : Nat) (ln : Ln) :
    (s.lineTaken ln).mayEncrypt seq = s.mayEncrypt seq := rfl
@[simp] theorem State.mayEncrypt_updSession (s : State) (seq : Nat) (i : Nat) (f : Session → Session) :
    (s.updSession i f).mayEncrypt seq = s.mayEncrypt seq := rfl
@[simp] theorem State.showWindows_lineTaken (s : State) (conn : Option Nat) (ln : Ln) :
    (s.lineTaken ln).showWindows conn = s.showWindows conn := rfl
@[simp] theorem State.showWindows_updSession (s : State) (conn : Option Nat) (i : Nat) (f : Session → Session) :
    (s.updSession i f).showWindows conn = s.showWindows conn := rfl
@[simp] theorem State.sourceOf_lineTaken (s : State) (c : Nat) (ln : Ln) :
    (s.lineTaken ln).sourceOf c = s.sourceOf c := rfl
@[simp] theorem State.sourceOf_updSession (s : State) (c : Nat) (i : Nat) (f : Session → Session) :
    (s.updSession i f).sourceOf c = s.sourceOf c := rfl
@[simp] theorem State.pendingLot_lineTaken (s : State) (ln : Ln) :
    (s.lineTaken ln).pendingLot = s.pendingLot := rfl
@[simp] theorem State.pendingLot_updSession (s : State) (i : Nat) (f : Session → Session) :
    (s.updSession i f).pendingLot = s.pendingLot := rfl
@[simp] theorem State.gain_lineTaken (s : State) (id : Nat) (n : Nat) (region : Nat) (ln : Ln) :
    (s.lineTaken ln).gain id n region = s.gain id n region := rfl
@[simp] theorem State.gain_updSession (s : State) (id : Nat) (n : Nat) (region : Nat) (i : Nat) (f : Session → Session) :
    (s.updSession i f).gain id n region = s.gain id n region := rfl
@[simp] theorem State.aoCommand_lineTaken (s : State) (n : Nat) (ln : Ln) :
    (s.lineTaken ln).aoCommand n = s.aoCommand n := rfl
@[simp] theorem State.aoCommand_updSession (s : State) (n : Nat) (i : Nat) (f : Session → Session) :
    (s.updSession i f).aoCommand n = s.aoCommand n := rfl
@[simp] theorem State.canPlace_lineTaken (s : State) (k : TicketSlot) (ln : Ln) :
    (s.lineTaken ln).canPlace k = s.canPlace k := rfl
@[simp] theorem State.canPlace_updSession (s : State) (k : TicketSlot) (i : Nat) (f : Session → Session) :
    (s.updSession i f).canPlace k = s.canPlace k := rfl
@[simp] theorem State.formats_lineTaken (s : State) (ln : Ln) :
    (s.lineTaken ln).formats = s.formats := rfl
@[simp] theorem State.formats_updSession (s : State) (i : Nat) (f : Session → Session) :
    (s.updSession i f).formats = s.formats := rfl
@[simp] theorem State.bandEdge_lineTaken (s : State) (i' : Nat) (ln : Ln) :
    (s.lineTaken ln).bandEdge i' = s.bandEdge i' := rfl
@[simp] theorem State.bandEdge_updSession (s : State) (i' : Nat) (i : Nat) (f : Session → Session) :
    (s.updSession i f).bandEdge i' = s.bandEdge i' := rfl
@[simp] theorem State.settingWord_lineTaken (s : State) (n : Nat) (a : Nat) (ln : Ln) :
    (s.lineTaken ln).settingWord n a = s.settingWord n a := rfl
@[simp] theorem State.settingWord_updSession (s : State) (n : Nat) (a : Nat) (i : Nat) (f : Session → Session) :
    (s.updSession i f).settingWord n a = s.settingWord n a := rfl
@[simp] theorem State.drainTicks_lineTaken (s : State) (ln : Ln) :
    (s.lineTaken ln).drainTicks = s.drainTicks := rfl
@[simp] theorem State.drainTicks_updSession (s : State) (i : Nat) (f : Session → Session) :
    (s.updSession i f).drainTicks = s.drainTicks := rfl
@[simp] theorem State.setResult_lineTaken (s : State) (c : Nat) (ln : Ln) :
    (s.lineTaken ln).setResult c = s.setResult c := rfl
@[simp] theorem State.setResult_updSession (s : State) (c : Nat) (i : Nat) (f : Session → Session) :
    (s.updSession i f).setResult c = s.setResult c := rfl
@[simp] theorem State.binCentre_lineTaken (s : State) (x : Learn) (b : LearnBin) (ln : Ln) :
    (s.lineTaken ln).binCentre x b = s.binCentre x b := rfl
@[simp] theorem State.binCentre_updSession (s : State) (x : Learn) (b : LearnBin) (i : Nat) (f : Session → Session) :
    (s.updSession i f).binCentre x b = s.binCentre x b := rfl
@[simp] theorem State.setpoint_lineTaken (s : State) (n : Nat) (ln : Ln) :
    (s.lineTaken ln).setpoint n = s.setpoint n := rfl
@[simp] theorem State.setpoint_updSession (s : State) (n : Nat) (i : Nat) (f : Session → Session) :
    (s.updSession i f).setpoint n = s.setpoint n := rfl
@[simp] theorem State.initCart_lineTaken (s : State) (ln : Ln) :
    (s.lineTaken ln).initCart = s.initCart := rfl
@[simp] theorem State.initCart_updSession (s : State) (i : Nat) (f : Session → Session) :
    (s.updSession i f).initCart = s.initCart := rfl
@[simp] theorem State.epochOf_lineTaken (s : State) (kind : Nat) (ln : Ln) :
    (s.lineTaken ln).epochOf kind = s.epochOf kind := rfl
@[simp] theorem State.epochOf_updSession (s : State) (kind : Nat) (i : Nat) (f : Session → Session) :
    (s.updSession i f).epochOf kind = s.epochOf kind := rfl
@[simp] theorem State.newSet_lineTaken (s : State) (ids : List Nat) (ln : Ln) :
    (s.lineTaken ln).newSet ids = s.newSet ids := rfl
@[simp] theorem State.newSet_updSession (s : State) (ids : List Nat) (i : Nat) (f : Session → Session) :
    (s.updSession i f).newSet ids = s.newSet ids := rfl
@[simp] theorem State.atCut_lineTaken (s : State) (ln : Ln) :
    (s.lineTaken ln).atCut = s.atCut := rfl
@[simp] theorem State.atCut_updSession (s : State) (i : Nat) (f : Session → Session) :
    (s.updSession i f).atCut = s.atCut := rfl
@[simp] theorem State.randomBytes_lineTaken (s : State) (n : Nat) (ln : Ln) :
    (s.lineTaken ln).randomBytes n = s.randomBytes n := rfl
@[simp] theorem State.randomBytes_updSession (s : State) (n : Nat) (i : Nat) (f : Session → Session) :
    (s.updSession i f).randomBytes n = s.randomBytes n := rfl
@[simp] theorem State.liveProbe_lineTaken (s : State) (id : Nat) (e : Nat) (ln : Ln) :
    (s.lineTaken ln).liveProbe id e = s.liveProbe id e := rfl
@[simp] theorem State.liveProbe_updSession (s : State) (id : Nat) (e : Nat) (i : Nat) (f : Session → Session) :
    (s.updSession i f).liveProbe id e = s.liveProbe id e := rfl
@[simp] theorem State.fireUnderWay_lineTaken (s : State) (n : Nat) (ln : Ln) :
    (s.lineTaken ln).fireUnderWay n = s.fireUnderWay n := rfl
@[simp] theorem State.fireUnderWay_updSession (s : State) (n : Nat) (i : Nat) (f : Session → Session) :
    (s.updSession i f).fireUnderWay n = s.fireUnderWay n := rfl
@[simp] theorem State.airSize_lineTaken (s : State) (m : Nat) (ln : Ln) :
    (s.lineTaken ln).airSize m = s.airSize m := rfl
@[simp] theorem State.airSize_updSession (s : State) (m : Nat) (i : Nat) (f : Session → Session) :
    (s.updSession i f).airSize m = s.airSize m := rfl
@[simp] theorem State.newBand_lineTaken (s : State) (m : Nat) (b : Nat) (ln : Ln) :
    (s.lineTaken ln).newBand m b = s.newBand m b := rfl
@[simp] theorem State.newBand_updSession (s : State) (m : Nat) (b : Nat) (i : Nat) (f : Session → Session) :
    (s.updSession i f).newBand m b = s.newBand m b := rfl
@[simp] theorem State.journalImage_lineTaken (s : State) (from_ : Nat) (ln : Ln) :
    (s.lineTaken ln).journalImage from_ = s.journalImage from_ := rfl
@[simp] theorem State.journalImage_updSession (s : State) (from_ : Nat) (i : Nat) (f : Session → Session) :
    (s.updSession i f).journalImage from_ = s.journalImage from_ := rfl
@[simp] theorem State.loopIn_lineTaken (s : State) (n : Nat) (y : Int) (ffc : Int) (ff : Int) (ln : Ln) :
    (s.lineTaken ln).loopIn n y ffc ff = s.loopIn n y ffc ff := rfl
@[simp] theorem State.loopIn_updSession (s : State) (n : Nat) (y : Int) (ffc : Int) (ff : Int) (i : Nat) (f : Session → Session) :
    (s.updSession i f).loopIn n y ffc ff = s.loopIn n y ffc ff := rfl
@[simp] theorem State.loopsRun_lineTaken (s : State) (ln : Ln) :
    (s.lineTaken ln).loopsRun = s.loopsRun := rfl
@[simp] theorem State.loopsRun_updSession (s : State) (i : Nat) (f : Session → Session) :
    (s.updSession i f).loopsRun = s.loopsRun := rfl
@[simp] theorem State.loadArea_lineTaken (s : State) (c : Nat) (ln : Ln) :
    (s.lineTaken ln).loadArea c = s.loadArea c := rfl
@[simp] theorem State.loadArea_updSession (s : State) (c : Nat) (i : Nat) (f : Session → Session) :
    (s.updSession i f).loadArea c = s.loadArea c := rfl
@[simp] theorem State.admission_lineTaken (s : State) (t : Ticket) (ln : Ln) :
    (s.lineTaken ln).admission t = s.admission t := rfl
@[simp] theorem State.admission_updSession (s : State) (t : Ticket) (i : Nat) (f : Session → Session) :
    (s.updSession i f).admission t = s.admission t := rfl
@[simp] theorem State.peaks_lineTaken (s : State) (n : Nat) (ln : Ln) :
    (s.lineTaken ln).peaks n = s.peaks n := rfl
@[simp] theorem State.peaks_updSession (s : State) (n : Nat) (i : Nat) (f : Session → Session) :
    (s.updSession i f).peaks n = s.peaks n := rfl
@[simp] theorem State.openable_lineTaken (s : State) (c : Nat) (ln : Ln) :
    (s.lineTaken ln).openable c = s.openable c := rfl
@[simp] theorem State.openable_updSession (s : State) (c : Nat) (i : Nat) (f : Session → Session) :
    (s.updSession i f).openable c = s.openable c := rfl
@[simp] theorem State.openBonds_lineTaken (s : State) (ln : Ln) :
    (s.lineTaken ln).openBonds = s.openBonds := rfl
@[simp] theorem State.openBonds_updSession (s : State) (i : Nat) (f : Session → Session) :
    (s.updSession i f).openBonds = s.openBonds := rfl
@[simp] theorem State.coursesMove_lineTaken (s : State) (ln : Ln) :
    (s.lineTaken ln).coursesMove = s.coursesMove := rfl
@[simp] theorem State.coursesMove_updSession (s : State) (i : Nat) (f : Session → Session) :
    (s.updSession i f).coursesMove = s.coursesMove := rfl
@[simp] theorem State.velocityIn_lineTaken (s : State) (n : Nat) (vel : Nat) (ln : Ln) :
    (s.lineTaken ln).velocityIn n vel = s.velocityIn n vel := rfl
@[simp] theorem State.velocityIn_updSession (s : State) (n : Nat) (vel : Nat) (i : Nat) (f : Session → Session) :
    (s.updSession i f).velocityIn n vel = s.velocityIn n vel := rfl
@[simp] theorem State.factorySound_lineTaken (s : State) (ln : Ln) :
    (s.lineTaken ln).factorySound = s.factorySound := rfl
@[simp] theorem State.factorySound_updSession (s : State) (i : Nat) (f : Session → Session) :
    (s.updSession i f).factorySound = s.factorySound := rfl
@[simp] theorem State.sealImage_lineTaken (s : State) (slot : Nat) (line : Nat) (ln : Ln) :
    (s.lineTaken ln).sealImage slot line = s.sealImage slot line := rfl
@[simp] theorem State.sealImage_updSession (s : State) (slot : Nat) (line : Nat) (i : Nat) (f : Session → Session) :
    (s.updSession i f).sealImage slot line = s.sealImage slot line := rfl
@[simp] theorem State.learnRho_lineTaken (s : State) (m : Nat) (b : Manifold) (ln : Ln) :
    (s.lineTaken ln).learnRho m b = s.learnRho m b := rfl
@[simp] theorem State.learnRho_updSession (s : State) (m : Nat) (b : Manifold) (i : Nat) (f : Session → Session) :
    (s.updSession i f).learnRho m b = s.learnRho m b := rfl
@[simp] theorem State.bandDown_lineTaken (s : State) (m : Nat) (b : Nat) (ln : Ln) :
    (s.lineTaken ln).bandDown m b = s.bandDown m b := rfl
@[simp] theorem State.bandDown_updSession (s : State) (m : Nat) (b : Nat) (i : Nat) (f : Session → Session) :
    (s.updSession i f).bandDown m b = s.bandDown m b := rfl
@[simp] theorem State.controls_lineTaken (s : State) (p : Nat) (ln : Ln) :
    (s.lineTaken ln).controls p = s.controls p := rfl
@[simp] theorem State.controls_updSession (s : State) (p : Nat) (i : Nat) (f : Session → Session) :
    (s.updSession i f).controls p = s.controls p := rfl
@[simp] theorem State.sqFull_lineTaken (s : State) (c : Nat) (ln : Ln) :
    (s.lineTaken ln).sqFull c = s.sqFull c := rfl
@[simp] theorem State.sqFull_updSession (s : State) (c : Nat) (i : Nat) (f : Session → Session) :
    (s.updSession i f).sqFull c = s.sqFull c := rfl
@[simp] theorem State.stepExit_lineTaken (s : State) (ln : Ln) :
    (s.lineTaken ln).stepExit = s.stepExit := rfl
@[simp] theorem State.stepExit_updSession (s : State) (i : Nat) (f : Session → Session) :
    (s.updSession i f).stepExit = s.stepExit := rfl
@[simp] theorem State.openGeometry_lineTaken (s : State) (ln : Ln) :
    (s.lineTaken ln).openGeometry = s.openGeometry := rfl
@[simp] theorem State.openGeometry_updSession (s : State) (i : Nat) (f : Session → Session) :
    (s.updSession i f).openGeometry = s.openGeometry := rfl
@[simp] theorem State.liveTicket_lineTaken (s : State) (id : Nat) (ln : Ln) :
    (s.lineTaken ln).liveTicket id = s.liveTicket id := rfl
@[simp] theorem State.liveTicket_updSession (s : State) (id : Nat) (i : Nat) (f : Session → Session) :
    (s.updSession i f).liveTicket id = s.liveTicket id := rfl
@[simp] theorem State.velocityOf_lineTaken (s : State) (n : Nat) (vel : Nat) (ln : Ln) :
    (s.lineTaken ln).velocityOf n vel = s.velocityOf n vel := rfl
@[simp] theorem State.velocityOf_updSession (s : State) (n : Nat) (vel : Nat) (i : Nat) (f : Session → Session) :
    (s.updSession i f).velocityOf n vel = s.velocityOf n vel := rfl
@[simp] theorem State.slot_lineTaken (s : State) (i' : Nat) (ln : Ln) :
    (s.lineTaken ln).slot i' = s.slot i' := rfl
@[simp] theorem State.slot_updSession (s : State) (i' : Nat) (i : Nat) (f : Session → Session) :
    (s.updSession i f).slot i' = s.slot i' := rfl
@[simp] theorem State.image_lineTaken (s : State) (ln : Ln) :
    (s.lineTaken ln).image = s.image := rfl
@[simp] theorem State.image_updSession (s : State) (i : Nat) (f : Session → Session) :
    (s.updSession i f).image = s.image := rfl
@[simp] theorem State.evSelect_lineTaken (s : State) (start : Option Nat) (count : Nat) (min : Option Severity) (ln : Ln) :
    (s.lineTaken ln).evSelect start count min = s.evSelect start count min := rfl
@[simp] theorem State.evSelect_updSession (s : State) (start : Option Nat) (count : Nat) (min : Option Severity) (i : Nat) (f : Session → Session) :
    (s.updSession i f).evSelect start count min = s.evSelect start count min := rfl
@[simp] theorem State.refillStep_lineTaken (s : State) (m : Nat) (b : Manifold) (ln : Ln) :
    (s.lineTaken ln).refillStep m b = s.refillStep m b := rfl
@[simp] theorem State.refillStep_updSession (s : State) (m : Nat) (b : Manifold) (i : Nat) (f : Session → Session) :
    (s.updSession i f).refillStep m b = s.refillStep m b := rfl
@[simp] theorem State.pairConn_lineTaken (s : State) (pconn : Nat) (ln : Ln) :
    (s.lineTaken ln).pairConn pconn = s.pairConn pconn := rfl
@[simp] theorem State.pairConn_updSession (s : State) (pconn : Nat) (i : Nat) (f : Session → Session) :
    (s.updSession i f).pairConn pconn = s.pairConn pconn := rfl
@[simp] theorem State.learnFor_lineTaken (s : State) (src : Nat) (k : TicketSlot) (ln : Ln) :
    (s.lineTaken ln).learnFor src k = s.learnFor src k := rfl
@[simp] theorem State.learnFor_updSession (s : State) (src : Nat) (k : TicketSlot) (i : Nat) (f : Session → Session) :
    (s.updSession i f).learnFor src k = s.learnFor src k := rfl
@[simp] theorem State.estimates_lineTaken (s : State) (n : Nat) (ln : Ln) :
    (s.lineTaken ln).estimates n = s.estimates n := rfl
@[simp] theorem State.estimates_updSession (s : State) (n : Nat) (i : Nat) (f : Session → Session) :
    (s.updSession i f).estimates n = s.estimates n := rfl
@[simp] theorem State.evNext_lineTaken (s : State) (l : List EventRec) (count : Nat) (ln : Ln) :
    (s.lineTaken ln).evNext l count = s.evNext l count := rfl
@[simp] theorem State.evNext_updSession (s : State) (l : List EventRec) (count : Nat) (i : Nat) (f : Session → Session) :
    (s.updSession i f).evNext l count = s.evNext l count := rfl
@[simp] theorem State.badChannel_lineTaken (s : State) (ln : Ln) :
    (s.lineTaken ln).badChannel = s.badChannel := rfl
@[simp] theorem State.badChannel_updSession (s : State) (i : Nat) (f : Session → Session) :
    (s.updSession i f).badChannel = s.badChannel := rfl
@[simp] theorem State.nextOrderOf_lineTaken (s : State) (ln : Ln) :
    (s.lineTaken ln).nextOrderOf = s.nextOrderOf := rfl
@[simp] theorem State.nextOrderOf_updSession (s : State) (i : Nat) (f : Session → Session) :
    (s.updSession i f).nextOrderOf = s.nextOrderOf := rfl
@[simp] theorem State.hears_lineTaken (s : State) (p : Nat) (ln : Ln) :
    (s.lineTaken ln).hears p = s.hears p := rfl
@[simp] theorem State.hears_updSession (s : State) (p : Nat) (i : Nat) (f : Session → Session) :
    (s.updSession i f).hears p = s.hears p := rfl
@[simp] theorem State.wanted_lineTaken (s : State) (n : Nat) (ln : Ln) :
    (s.lineTaken ln).wanted n = s.wanted n := rfl
@[simp] theorem State.wanted_updSession (s : State) (n : Nat) (i : Nat) (f : Session → Session) :
    (s.updSession i f).wanted n = s.wanted n := rfl
@[simp] theorem State.learnStep_lineTaken (s : State) (k : TicketSlot) (x : Learn) (ln : Ln) :
    (s.lineTaken ln).learnStep k x = s.learnStep k x := rfl
@[simp] theorem State.learnStep_updSession (s : State) (k : TicketSlot) (x : Learn) (i : Nat) (f : Session → Session) :
    (s.updSession i f).learnStep k x = s.learnStep k x := rfl
@[simp] theorem State.leadTicks_lineTaken (s : State) (k : TicketSlot) (ln : Ln) :
    (s.lineTaken ln).leadTicks k = s.leadTicks k := rfl
@[simp] theorem State.leadTicks_updSession (s : State) (k : TicketSlot) (i : Nat) (f : Session → Session) :
    (s.updSession i f).leadTicks k = s.leadTicks k := rfl
@[simp] theorem State.bandUp_lineTaken (s : State) (m : Nat) (b : Nat) (ln : Ln) :
    (s.lineTaken ln).bandUp m b = s.bandUp m b := rfl
@[simp] theorem State.bandUp_updSession (s : State) (m : Nat) (b : Nat) (i : Nat) (f : Session → Session) :
    (s.updSession i f).bandUp m b = s.bandUp m b := rfl
@[simp] theorem State.slotLine_lineTaken (s : State) (slot : Nat) (ln : Ln) :
    (s.lineTaken ln).slotLine slot = s.slotLine slot := rfl
@[simp] theorem State.slotLine_updSession (s : State) (slot : Nat) (i : Nat) (f : Session → Session) :
    (s.updSession i f).slotLine slot = s.slotLine slot := rfl
@[simp] theorem State.srcPort_lineTaken (s : State) (src : Nat) (ln : Ln) :
    (s.lineTaken ln).srcPort src = s.srcPort src := rfl
@[simp] theorem State.srcPort_updSession (s : State) (src : Nat) (i : Nat) (f : Session → Session) :
    (s.updSession i f).srcPort src = s.srcPort src := rfl
@[simp] theorem State.loopNames_lineTaken (s : State) (out : Nat) (ln : Ln) :
    (s.lineTaken ln).loopNames out = s.loopNames out := rfl
@[simp] theorem State.loopNames_updSession (s : State) (out : Nat) (i : Nat) (f : Session → Session) :
    (s.updSession i f).loopNames out = s.loopNames out := rfl
@[simp] theorem State.now_lineTaken (s : State) (ln : Ln) :
    (s.lineTaken ln).now = s.now := rfl
@[simp] theorem State.now_updSession (s : State) (i : Nat) (f : Session → Session) :
    (s.updSession i f).now = s.now := rfl
@[simp] theorem State.exportFails_lineTaken (s : State) (i' : Nat) (ln : Ln) :
    (s.lineTaken ln).exportFails i' = s.exportFails i' := rfl
@[simp] theorem State.exportFails_updSession (s : State) (i' : Nat) (i : Nat) (f : Session → Session) :
    (s.updSession i f).exportFails i' = s.exportFails i' := rfl
@[simp] theorem State.manifold_lineTaken (s : State) (m : Nat) (ln : Ln) :
    (s.lineTaken ln).manifold m = s.manifold m := rfl
@[simp] theorem State.manifold_updSession (s : State) (m : Nat) (i : Nat) (f : Session → Session) :
    (s.updSession i f).manifold m = s.manifold m := rfl
@[simp] theorem State.liveText_lineTaken (s : State) (k : PKey) (ln : Ln) :
    (s.lineTaken ln).liveText k = s.liveText k := rfl
@[simp] theorem State.liveText_updSession (s : State) (k : PKey) (i : Nat) (f : Session → Session) :
    (s.updSession i f).liveText k = s.liveText k := rfl
@[simp] theorem State.commitRefusal_lineTaken (s : State) (b : Bond) (ln : Ln) :
    (s.lineTaken ln).commitRefusal b = s.commitRefusal b := rfl
@[simp] theorem State.commitRefusal_updSession (s : State) (b : Bond) (i : Nat) (f : Session → Session) :
    (s.updSession i f).commitRefusal b = s.commitRefusal b := rfl
@[simp] theorem State.showState_lineTaken (s : State) (ln : Ln) :
    (s.lineTaken ln).showState = s.showState := rfl
@[simp] theorem State.showState_updSession (s : State) (i : Nat) (f : Session → Session) :
    (s.updSession i f).showState = s.showState := rfl
@[simp] theorem State.memberLine_lineTaken (s : State) (id : Nat) (ln : Ln) :
    (s.lineTaken ln).memberLine id = s.memberLine id := rfl
@[simp] theorem State.memberLine_updSession (s : State) (id : Nat) (i : Nat) (f : Session → Session) :
    (s.updSession i f).memberLine id = s.memberLine id := rfl
@[simp] theorem State.project_lineTaken (s : State) (m : Nat) (start : Tick) (ln : Ln) :
    (s.lineTaken ln).project m start = s.project m start := rfl
@[simp] theorem State.project_updSession (s : State) (m : Nat) (start : Tick) (i : Nat) (f : Session → Session) :
    (s.updSession i f).project m start = s.project m start := rfl
@[simp] theorem State.readyRefusal_lineTaken (s : State) (ln : Ln) :
    (s.lineTaken ln).readyRefusal = s.readyRefusal := rfl
@[simp] theorem State.readyRefusal_updSession (s : State) (i : Nat) (f : Session → Session) :
    (s.updSession i f).readyRefusal = s.readyRefusal := rfl
@[simp] theorem State.levelKey_lineTaken (s : State) (lv : Level) (ln : Ln) :
    (s.lineTaken ln).levelKey lv = s.levelKey lv := rfl
@[simp] theorem State.levelKey_updSession (s : State) (lv : Level) (i : Nat) (f : Session → Session) :
    (s.updSession i f).levelKey lv = s.levelKey lv := rfl
@[simp] theorem State.stateAct_lineTaken (s : State) (v : StateVerb) (ln : Ln) :
    (s.lineTaken ln).stateAct v = s.stateAct v := rfl
@[simp] theorem State.stateAct_updSession (s : State) (v : StateVerb) (i : Nat) (f : Session → Session) :
    (s.updSession i f).stateAct v = s.stateAct v := rfl
@[simp] theorem State.zoneIdle_lineTaken (s : State) (z : Nat) (ln : Ln) :
    (s.lineTaken ln).zoneIdle z = s.zoneIdle z := rfl
@[simp] theorem State.zoneIdle_updSession (s : State) (z : Nat) (i : Nat) (f : Session → Session) :
    (s.updSession i f).zoneIdle z = s.zoneIdle z := rfl
@[simp] theorem State.lineNow_lineTaken (s : State) (ln : Ln) :
    (s.lineTaken ln).lineNow = s.lineNow := rfl
@[simp] theorem State.lineNow_updSession (s : State) (i : Nat) (f : Session → Session) :
    (s.updSession i f).lineNow = s.lineNow := rfl
@[simp] theorem State.coefOf_lineTaken (s : State) (n : Nat) (region : Nat) (ln : Ln) :
    (s.lineTaken ln).coefOf n region = s.coefOf n region := rfl
@[simp] theorem State.coefOf_updSession (s : State) (n : Nat) (region : Nat) (i : Nat) (f : Session → Session) :
    (s.updSession i f).coefOf n region = s.coefOf n region := rfl
@[simp] theorem State.ownSource_lineTaken (s : State) (port : Nat) (pconn : BitVec 16) (ln : Ln) :
    (s.lineTaken ln).ownSource port pconn = s.ownSource port pconn := rfl
@[simp] theorem State.ownSource_updSession (s : State) (port : Nat) (pconn : BitVec 16) (i : Nat) (f : Session → Session) :
    (s.updSession i f).ownSource port pconn = s.ownSource port pconn := rfl
@[simp] theorem State.needsRedo_lineTaken (s : State) (c : Cartridge) (ln : Ln) :
    (s.lineTaken ln).needsRedo c = s.needsRedo c := rfl
@[simp] theorem State.needsRedo_updSession (s : State) (c : Cartridge) (i : Nat) (f : Session → Session) :
    (s.updSession i f).needsRedo c = s.needsRedo c := rfl
@[simp] theorem State.estimate_lineTaken (s : State) (n : Nat) (ln : Ln) :
    (s.lineTaken ln).estimate n = s.estimate n := rfl
@[simp] theorem State.estimate_updSession (s : State) (n : Nat) (i : Nat) (f : Session → Session) :
    (s.updSession i f).estimate n = s.estimate n := rfl
@[simp] theorem State.nextReady_lineTaken (s : State) (ln : Ln) :
    (s.lineTaken ln).nextReady = s.nextReady := rfl
@[simp] theorem State.nextReady_updSession (s : State) (i : Nat) (f : Session → Session) :
    (s.updSession i f).nextReady = s.nextReady := rfl
@[simp] theorem State.livePlumb_lineTaken (s : State) (id : Nat) (e : Nat) (ln : Ln) :
    (s.lineTaken ln).livePlumb id e = s.livePlumb id e := rfl
@[simp] theorem State.livePlumb_updSession (s : State) (id : Nat) (e : Nat) (i : Nat) (f : Session → Session) :
    (s.updSession i f).livePlumb id e = s.livePlumb id e := rfl
@[simp] theorem State.newIndex_lineTaken (s : State) (n : Nat) (svId : Nat) (eId : Nat) (hId : Nat) (direct : Bool) (i' : Nat) (ln : Ln) :
    (s.lineTaken ln).newIndex n svId eId hId direct i' = s.newIndex n svId eId hId direct i' := rfl
@[simp] theorem State.newIndex_updSession (s : State) (n : Nat) (svId : Nat) (eId : Nat) (hId : Nat) (direct : Bool) (i' : Nat) (i : Nat) (f : Session → Session) :
    (s.updSession i f).newIndex n svId eId hId direct i' = s.newIndex n svId eId hId direct i' := rfl
@[simp] theorem State.storedText_lineTaken (s : State) (k : PKey) (v : PVal) (ln : Ln) :
    (s.lineTaken ln).storedText k v = s.storedText k v := rfl
@[simp] theorem State.storedText_updSession (s : State) (k : PKey) (v : PVal) (i : Nat) (f : Session → Session) :
    (s.updSession i f).storedText k v = s.storedText k v := rfl
@[simp] theorem State.firstWords_lineTaken (s : State) (l : LinkId) (delay : Nat) (ln : Ln) :
    (s.lineTaken ln).firstWords l delay = s.firstWords l delay := rfl
@[simp] theorem State.firstWords_updSession (s : State) (l : LinkId) (delay : Nat) (i : Nat) (f : Session → Session) :
    (s.updSession i f).firstWords l delay = s.firstWords l delay := rfl
@[simp] theorem State.compByte_lineTaken (s : State) (n : Nat) (off : Nat) (ln : Ln) :
    (s.lineTaken ln).compByte n off = s.compByte n off := rfl
@[simp] theorem State.compByte_updSession (s : State) (n : Nat) (off : Nat) (i : Nat) (f : Session → Session) :
    (s.updSession i f).compByte n off = s.compByte n off := rfl
@[simp] theorem State.tablePos_lineTaken (s : State) (n : Nat) (vel : Nat) (ln : Ln) :
    (s.lineTaken ln).tablePos n vel = s.tablePos n vel := rfl
@[simp] theorem State.tablePos_updSession (s : State) (n : Nat) (vel : Nat) (i : Nat) (f : Session → Session) :
    (s.updSession i f).tablePos n vel = s.tablePos n vel := rfl
@[simp] theorem State.ringByte_lineTaken (s : State) (n : Nat) (off : Nat) (ln : Ln) :
    (s.lineTaken ln).ringByte n off = s.ringByte n off := rfl
@[simp] theorem State.ringByte_updSession (s : State) (n : Nat) (off : Nat) (i : Nat) (f : Session → Session) :
    (s.updSession i f).ringByte n off = s.ringByte n off := rfl
@[simp] theorem State.helpParam_lineTaken (s : State) (k : PKey) (ln : Ln) :
    (s.lineTaken ln).helpParam k = s.helpParam k := rfl
@[simp] theorem State.helpParam_updSession (s : State) (k : PKey) (i : Nat) (f : Session → Session) :
    (s.updSession i f).helpParam k = s.helpParam k := rfl
@[simp] theorem State.groupPosters_lineTaken (s : State) (g : Nat) (ln : Ln) :
    (s.lineTaken ln).groupPosters g = s.groupPosters g := rfl
@[simp] theorem State.groupPosters_updSession (s : State) (g : Nat) (i : Nat) (f : Session → Session) :
    (s.updSession i f).groupPosters g = s.groupPosters g := rfl
@[simp] theorem State.hasCourse_lineTaken (s : State) (n : Nat) (ln : Ln) :
    (s.lineTaken ln).hasCourse n = s.hasCourse n := rfl
@[simp] theorem State.hasCourse_updSession (s : State) (n : Nat) (i : Nat) (f : Session → Session) :
    (s.updSession i f).hasCourse n = s.hasCourse n := rfl
@[simp] theorem State.isSet_lineTaken (s : State) (id : Nat) (ln : Ln) :
    (s.lineTaken ln).isSet id = s.isSet id := rfl
@[simp] theorem State.isSet_updSession (s : State) (id : Nat) (i : Nat) (f : Session → Session) :
    (s.updSession i f).isSet id = s.isSet id := rfl
@[simp] theorem State.ring_lineTaken (s : State) (r : Nat) (ln : Ln) :
    (s.lineTaken ln).ring r = s.ring r := rfl
@[simp] theorem State.ring_updSession (s : State) (r : Nat) (i : Nat) (f : Session → Session) :
    (s.updSession i f).ring r = s.ring r := rfl
@[simp] theorem State.stepCond_lineTaken (s : State) (ln : Ln) :
    (s.lineTaken ln).stepCond = s.stepCond := rfl
@[simp] theorem State.stepCond_updSession (s : State) (i : Nat) (f : Session → Session) :
    (s.updSession i f).stepCond = s.stepCond := rfl
@[simp] theorem State.secret_lineTaken (s : State) (p : Nat) (ln : Ln) :
    (s.lineTaken ln).secret p = s.secret p := rfl
@[simp] theorem State.secret_updSession (s : State) (p : Nat) (i : Nat) (f : Session → Session) :
    (s.updSession i f).secret p = s.secret p := rfl
@[simp] theorem State.uHi_lineTaken (s : State) (n : Nat) (ln : Ln) :
    (s.lineTaken ln).uHi n = s.uHi n := rfl
@[simp] theorem State.uHi_updSession (s : State) (n : Nat) (i : Nat) (f : Session → Session) :
    (s.updSession i f).uHi n = s.uHi n := rfl
@[simp] theorem State.requested_lineTaken (s : State) (k : TicketSlot) (band : Nat) (e : LineRec) (delta : Int) (ln : Ln) :
    (s.lineTaken ln).requested k band e delta = s.requested k band e delta := rfl
@[simp] theorem State.requested_updSession (s : State) (k : TicketSlot) (band : Nat) (e : LineRec) (delta : Int) (i : Nat) (f : Session → Session) :
    (s.updSession i f).requested k band e delta = s.requested k band e delta := rfl
@[simp] theorem State.peerSynced_lineTaken (s : State) (ln : Ln) :
    (s.lineTaken ln).peerSynced = s.peerSynced := rfl
@[simp] theorem State.peerSynced_updSession (s : State) (i : Nat) (f : Session → Session) :
    (s.updSession i f).peerSynced = s.peerSynced := rfl
@[simp] theorem State.bondLines_lineTaken (s : State) (b : Bond) (ln : Ln) :
    (s.lineTaken ln).bondLines b = s.bondLines b := rfl
@[simp] theorem State.bondLines_updSession (s : State) (b : Bond) (i : Nat) (f : Session → Session) :
    (s.updSession i f).bondLines b = s.bondLines b := rfl
@[simp] theorem State.airTicks_lineTaken (s : State) (k : TicketSlot) (ln : Ln) :
    (s.lineTaken ln).airTicks k = s.airTicks k := rfl
@[simp] theorem State.airTicks_updSession (s : State) (k : TicketSlot) (i : Nat) (f : Session → Session) :
    (s.updSession i f).airTicks k = s.airTicks k := rfl
@[simp] theorem State.startsOn_lineTaken (s : State) (t : Ticket) (ch : Nat) (ln : Ln) :
    (s.lineTaken ln).startsOn t ch = s.startsOn t ch := rfl
@[simp] theorem State.startsOn_updSession (s : State) (t : Ticket) (ch : Nat) (i : Nat) (f : Session → Session) :
    (s.updSession i f).startsOn t ch = s.startsOn t ch := rfl
@[simp] theorem State.ringImage_lineTaken (s : State) (n : Nat) (ln : Ln) :
    (s.lineTaken ln).ringImage n = s.ringImage n := rfl
@[simp] theorem State.ringImage_updSession (s : State) (n : Nat) (i : Nat) (f : Session → Session) :
    (s.updSession i f).ringImage n = s.ringImage n := rfl
@[simp] theorem State.badLong_lineTaken (s : State) (n : Nat) (ln : Ln) :
    (s.lineTaken ln).badLong n = s.badLong n := rfl
@[simp] theorem State.badLong_updSession (s : State) (n : Nat) (i : Nat) (f : Session → Session) :
    (s.updSession i f).badLong n = s.badLong n := rfl
@[simp] theorem State.dev_lineTaken (s : State) (n : Nat) (ln : Ln) :
    (s.lineTaken ln).dev n = s.dev n := rfl
@[simp] theorem State.dev_updSession (s : State) (n : Nat) (i : Nat) (f : Session → Session) :
    (s.updSession i f).dev n = s.dev n := rfl
@[simp] theorem State.reservations_lineTaken (s : State) (m : Nat) (ln : Ln) :
    (s.lineTaken ln).reservations m = s.reservations m := rfl
@[simp] theorem State.reservations_updSession (s : State) (m : Nat) (i : Nat) (f : Session → Session) :
    (s.updSession i f).reservations m = s.reservations m := rfl
@[simp] theorem State.runRefusal_lineTaken (s : State) (ln : Ln) :
    (s.lineTaken ln).runRefusal = s.runRefusal := rfl
@[simp] theorem State.runRefusal_updSession (s : State) (i : Nat) (f : Session → Session) :
    (s.updSession i f).runRefusal = s.runRefusal := rfl
@[simp] theorem State.settingWords_lineTaken (s : State) (n : Nat) (a : Nat) (ln : Ln) :
    (s.lineTaken ln).settingWords n a = s.settingWords n a := rfl
@[simp] theorem State.settingWords_updSession (s : State) (n : Nat) (a : Nat) (i : Nat) (f : Session → Session) :
    (s.updSession i f).settingWords n a = s.settingWords n a := rfl
@[simp] theorem State.grantAccess_lineTaken (s : State) (c : Nat) (rkey : U32) (offset : U32) (n : Nat) (k : AccessKind) (ln : Ln) :
    (s.lineTaken ln).grantAccess c rkey offset n k = s.grantAccess c rkey offset n k := rfl
@[simp] theorem State.grantAccess_updSession (s : State) (c : Nat) (rkey : U32) (offset : U32) (n : Nat) (k : AccessKind) (i : Nat) (f : Session → Session) :
    (s.updSession i f).grantAccess c rkey offset n k = s.grantAccess c rkey offset n k := rfl
@[simp] theorem State.newSession_lineTaken (s : State) (i' : Nat) (conn : Option Nat) (ln : Ln) :
    (s.lineTaken ln).newSession i' conn = s.newSession i' conn := rfl
@[simp] theorem State.newSession_updSession (s : State) (i' : Nat) (conn : Option Nat) (i : Nat) (f : Session → Session) :
    (s.updSession i f).newSession i' conn = s.newSession i' conn := rfl
@[simp] theorem State.causeActive_lineTaken (s : State) (bit : Nat) (ln : Ln) :
    (s.lineTaken ln).causeActive bit = s.causeActive bit := rfl
@[simp] theorem State.causeActive_updSession (s : State) (bit : Nat) (i : Nat) (f : Session → Session) :
    (s.updSession i f).causeActive bit = s.causeActive bit := rfl
@[simp] theorem State.tiltDh_lineTaken (s : State) (n : Nat) (first : Nat) (width : Nat) (ln : Ln) :
    (s.lineTaken ln).tiltDh n first width = s.tiltDh n first width := rfl
@[simp] theorem State.tiltDh_updSession (s : State) (n : Nat) (first : Nat) (width : Nat) (i : Nat) (f : Session → Session) :
    (s.updSession i f).tiltDh n first width = s.tiltDh n first width := rfl
@[simp] theorem State.moistNow_lineTaken (s : State) (ln : Ln) :
    (s.lineTaken ln).moistNow = s.moistNow := rfl
@[simp] theorem State.moistNow_updSession (s : State) (i : Nat) (f : Session → Session) :
    (s.updSession i f).moistNow = s.moistNow := rfl
@[simp] theorem State.fanUp_lineTaken (s : State) (n : Nat) (ln : Ln) :
    (s.lineTaken ln).fanUp n = s.fanUp n := rfl
@[simp] theorem State.fanUp_updSession (s : State) (n : Nat) (i : Nat) (f : Session → Session) :
    (s.updSession i f).fanUp n = s.fanUp n := rfl
@[simp] theorem State.deliveryWaits_lineTaken (s : State) (g : Nat) (gsn : U32) (c : Nat) (ln : Ln) :
    (s.lineTaken ln).deliveryWaits g gsn c = s.deliveryWaits g gsn c := rfl
@[simp] theorem State.deliveryWaits_updSession (s : State) (g : Nat) (gsn : U32) (c : Nat) (i : Nat) (f : Session → Session) :
    (s.updSession i f).deliveryWaits g gsn c = s.deliveryWaits g gsn c := rfl
@[simp] theorem State.scaleIn_lineTaken (s : State) (n : Nat) (x : Int) (ln : Ln) :
    (s.lineTaken ln).scaleIn n x = s.scaleIn n x := rfl
@[simp] theorem State.scaleIn_updSession (s : State) (n : Nat) (x : Int) (i : Nat) (f : Session → Session) :
    (s.updSession i f).scaleIn n x = s.scaleIn n x := rfl
@[simp] theorem State.path2Alive_lineTaken (s : State) (ln : Ln) :
    (s.lineTaken ln).path2Alive = s.path2Alive := rfl
@[simp] theorem State.path2Alive_updSession (s : State) (i : Nat) (f : Session → Session) :
    (s.updSession i f).path2Alive = s.path2Alive := rfl
@[simp] theorem State.showPartners_lineTaken (s : State) (ln : Ln) :
    (s.lineTaken ln).showPartners = s.showPartners := rfl
@[simp] theorem State.showPartners_updSession (s : State) (i : Nat) (f : Session → Session) :
    (s.updSession i f).showPartners = s.showPartners := rfl
@[simp] theorem State.courseLinks_lineTaken (s : State) (ln : Ln) :
    (s.lineTaken ln).courseLinks = s.courseLinks := rfl
@[simp] theorem State.courseLinks_updSession (s : State) (i : Nat) (f : Session → Session) :
    (s.updSession i f).courseLinks = s.courseLinks := rfl
@[simp] theorem State.liveSeal_lineTaken (s : State) (id : Nat) (e : Nat) (ln : Ln) :
    (s.lineTaken ln).liveSeal id e = s.liveSeal id e := rfl
@[simp] theorem State.liveSeal_updSession (s : State) (id : Nat) (e : Nat) (i : Nat) (f : Session → Session) :
    (s.updSession i f).liveSeal id e = s.liveSeal id e := rfl
@[simp] theorem State.liveDry_lineTaken (s : State) (id : Nat) (e : Nat) (ln : Ln) :
    (s.lineTaken ln).liveDry id e = s.liveDry id e := rfl
@[simp] theorem State.liveDry_updSession (s : State) (id : Nat) (e : Nat) (i : Nat) (f : Session → Session) :
    (s.updSession i f).liveDry id e = s.liveDry id e := rfl
@[simp] theorem State.ownBeat_lineTaken (s : State) (ln : Ln) :
    (s.lineTaken ln).ownBeat = s.ownBeat := rfl
@[simp] theorem State.ownBeat_updSession (s : State) (i : Nat) (f : Session → Session) :
    (s.updSession i f).ownBeat = s.ownBeat := rfl
@[simp] theorem State.group_lineTaken (s : State) (g : Nat) (ln : Ln) :
    (s.lineTaken ln).group g = s.group g := rfl
@[simp] theorem State.group_updSession (s : State) (g : Nat) (i : Nat) (f : Session → Session) :
    (s.updSession i f).group g = s.group g := rfl
@[simp] theorem State.badProfile_lineTaken (s : State) (n : Nat) (ln : Ln) :
    (s.lineTaken ln).badProfile n = s.badProfile n := rfl
@[simp] theorem State.badProfile_updSession (s : State) (n : Nat) (i : Nat) (f : Session → Session) :
    (s.updSession i f).badProfile n = s.badProfile n := rfl
@[simp] theorem State.storeBNewer_lineTaken (s : State) (ln : Ln) :
    (s.lineTaken ln).storeBNewer = s.storeBNewer := rfl
@[simp] theorem State.storeBNewer_updSession (s : State) (i : Nat) (f : Session → Session) :
    (s.updSession i f).storeBNewer = s.storeBNewer := rfl
@[simp] theorem State.bandEdgesOk_lineTaken (s : State) (ln : Ln) :
    (s.lineTaken ln).bandEdgesOk = s.bandEdgesOk := rfl
@[simp] theorem State.bandEdgesOk_updSession (s : State) (i : Nat) (f : Session → Session) :
    (s.updSession i f).bandEdgesOk = s.bandEdgesOk := rfl
@[simp] theorem State.pageNow_lineTaken (s : State) (ln : Ln) :
    (s.lineTaken ln).pageNow = s.pageNow := rfl
@[simp] theorem State.pageNow_updSession (s : State) (i : Nat) (f : Session → Session) :
    (s.updSession i f).pageNow = s.pageNow := rfl
@[simp] theorem State.fits_lineTaken (s : State) (p : Nat) (stop : Nat) (f' : TxFrame) (ln : Ln) :
    (s.lineTaken ln).fits p stop f' = s.fits p stop f' := rfl
@[simp] theorem State.fits_updSession (s : State) (p : Nat) (stop : Nat) (f' : TxFrame) (i : Nat) (f : Session → Session) :
    (s.updSession i f).fits p stop f' = s.fits p stop f' := rfl
@[simp] theorem State.crackNow_lineTaken (s : State) (ln : Ln) :
    (s.lineTaken ln).crackNow = s.crackNow := rfl
@[simp] theorem State.crackNow_updSession (s : State) (i : Nat) (f : Session → Session) :
    (s.updSession i f).crackNow = s.crackNow := rfl
@[simp] theorem State.rotRank_lineTaken (s : State) (src : Nat) (ln : Ln) :
    (s.lineTaken ln).rotRank src = s.rotRank src := rfl
@[simp] theorem State.rotRank_updSession (s : State) (src : Nat) (i : Nat) (f : Session → Session) :
    (s.updSession i f).rotRank src = s.rotRank src := rfl
@[simp] theorem State.frameTooLong_lineTaken (s : State) (p : Nat) (w : WorkEntry) (ln : Ln) :
    (s.lineTaken ln).frameTooLong p w = s.frameTooLong p w := rfl
@[simp] theorem State.frameTooLong_updSession (s : State) (p : Nat) (w : WorkEntry) (i : Nat) (f : Session → Session) :
    (s.updSession i f).frameTooLong p w = s.frameTooLong p w := rfl
@[simp] theorem State.text_lineTaken (s : State) (id : Nat) (ln : Ln) :
    (s.lineTaken ln).text id = s.text id := rfl
@[simp] theorem State.text_updSession (s : State) (id : Nat) (i : Nat) (f : Session → Session) :
    (s.updSession i f).text id = s.text id := rfl
@[simp] theorem State.linePeriod_lineTaken (s : State) (ln : Ln) :
    (s.lineTaken ln).linePeriod = s.linePeriod := rfl
@[simp] theorem State.linePeriod_updSession (s : State) (i : Nat) (f : Session → Session) :
    (s.updSession i f).linePeriod = s.linePeriod := rfl
@[simp] theorem State.faultStep_lineTaken (s : State) (t : SelfTest) (ln : Ln) :
    (s.lineTaken ln).faultStep t = s.faultStep t := rfl
@[simp] theorem State.faultStep_updSession (s : State) (t : SelfTest) (i : Nat) (f : Session → Session) :
    (s.updSession i f).faultStep t = s.faultStep t := rfl
@[simp] theorem State.aiOf_lineTaken (s : State) (n : Nat) (ln : Ln) :
    (s.lineTaken ln).aiOf n = s.aiOf n := rfl
@[simp] theorem State.aiOf_updSession (s : State) (n : Nat) (i : Nat) (f : Session → Session) :
    (s.updSession i f).aiOf n = s.aiOf n := rfl
@[simp] theorem State.liveAir_lineTaken (s : State) (id : Nat) (ln : Ln) :
    (s.lineTaken ln).liveAir id = s.liveAir id := rfl
@[simp] theorem State.liveAir_updSession (s : State) (id : Nat) (i : Nat) (f : Session → Session) :
    (s.updSession i f).liveAir id = s.liveAir id := rfl
@[simp] theorem State.cartState_lineTaken (s : State) (c : Cartridge) (ln : Ln) :
    (s.lineTaken ln).cartState c = s.cartState c := rfl
@[simp] theorem State.cartState_updSession (s : State) (c : Cartridge) (i : Nat) (f : Session → Session) :
    (s.updSession i f).cartState c = s.cartState c := rfl
@[simp] theorem State.chute_lineTaken (s : State) (n : Nat) (ln : Ln) :
    (s.lineTaken ln).chute n = s.chute n := rfl
@[simp] theorem State.chute_updSession (s : State) (n : Nat) (i : Nat) (f : Session → Session) :
    (s.updSession i f).chute n = s.chute n := rfl
@[simp] theorem State.filterMoist_lineTaken (s : State) (ln : Ln) :
    (s.lineTaken ln).filterMoist = s.filterMoist := rfl
@[simp] theorem State.filterMoist_updSession (s : State) (i : Nat) (f : Session → Session) :
    (s.updSession i f).filterMoist = s.filterMoist := rfl
@[simp] theorem State.showSource_lineTaken (s : State) (n : Nat) (ln : Ln) :
    (s.lineTaken ln).showSource n = s.showSource n := rfl
@[simp] theorem State.showSource_updSession (s : State) (n : Nat) (i : Nat) (f : Session → Session) :
    (s.updSession i f).showSource n = s.showSource n := rfl
@[simp] theorem State.roleNodes_lineTaken (s : State) (role : Nat) (ln : Ln) :
    (s.lineTaken ln).roleNodes role = s.roleNodes role := rfl
@[simp] theorem State.roleNodes_updSession (s : State) (role : Nat) (i : Nat) (f : Session → Session) :
    (s.updSession i f).roleNodes role = s.roleNodes role := rfl
@[simp] theorem State.liveRest_lineTaken (s : State) (id : Nat) (ln : Ln) :
    (s.lineTaken ln).liveRest id = s.liveRest id := rfl
@[simp] theorem State.liveRest_updSession (s : State) (id : Nat) (i : Nat) (f : Session → Session) :
    (s.updSession i f).liveRest id = s.liveRest id := rfl
@[simp] theorem State.profilesUsed_lineTaken (s : State) (n : Nat) (ln : Ln) :
    (s.lineTaken ln).profilesUsed n = s.profilesUsed n := rfl
@[simp] theorem State.profilesUsed_updSession (s : State) (n : Nat) (i : Nat) (f : Session → Session) :
    (s.updSession i f).profilesUsed n = s.profilesUsed n := rfl
@[simp] theorem State.takes_lineTaken (s : State) (ln : Ln) :
    (s.lineTaken ln).takes = s.takes := rfl
@[simp] theorem State.takes_updSession (s : State) (i : Nat) (f : Session → Session) :
    (s.updSession i f).takes = s.takes := rfl
@[simp] theorem State.peerOrd_lineTaken (s : State) (ln : Ln) :
    (s.lineTaken ln).peerOrd = s.peerOrd := rfl
@[simp] theorem State.peerOrd_updSession (s : State) (i : Nat) (f : Session → Session) :
    (s.updSession i f).peerOrd = s.peerOrd := rfl
@[simp] theorem State.flightRaw_lineTaken (s : State) (n : Nat) (k : TicketSlot) (band : Nat) (ln : Ln) :
    (s.lineTaken ln).flightRaw n k band = s.flightRaw n k band := rfl
@[simp] theorem State.flightRaw_updSession (s : State) (n : Nat) (k : TicketSlot) (band : Nat) (i : Nat) (f : Session → Session) :
    (s.updSession i f).flightRaw n k band = s.flightRaw n k band := rfl
@[simp] theorem State.takenOver_lineTaken (s : State) (tid : Nat) (m : MirTicket) (ln : Ln) :
    (s.lineTaken ln).takenOver tid m = s.takenOver tid m := rfl
@[simp] theorem State.takenOver_updSession (s : State) (tid : Nat) (m : MirTicket) (i : Nat) (f : Session → Session) :
    (s.updSession i f).takenOver tid m = s.takenOver tid m := rfl
@[simp] theorem State.liveFan_lineTaken (s : State) (id : Nat) (ln : Ln) :
    (s.lineTaken ln).liveFan id = s.liveFan id := rfl
@[simp] theorem State.liveFan_updSession (s : State) (id : Nat) (i : Nat) (f : Session → Session) :
    (s.updSession i f).liveFan id = s.liveFan id := rfl
@[simp] theorem State.headStatus_lineTaken (s : State) (x : Conn) (w : WorkEntry) (ln : Ln) :
    (s.lineTaken ln).headStatus x w = s.headStatus x w := rfl
@[simp] theorem State.headStatus_updSession (s : State) (x : Conn) (w : WorkEntry) (i : Nat) (f : Session → Session) :
    (s.updSession i f).headStatus x w = s.headStatus x w := rfl
@[simp] theorem State.measure_lineTaken (s : State) (n : Nat) (ln : Ln) :
    (s.lineTaken ln).measure n = s.measure n := rfl
@[simp] theorem State.measure_updSession (s : State) (n : Nat) (i : Nat) (f : Session → Session) :
    (s.updSession i f).measure n = s.measure n := rfl
@[simp] theorem State.setBlock_lineTaken (s : State) (c : Nat) (ln : Ln) :
    (s.lineTaken ln).setBlock c = s.setBlock c := rfl
@[simp] theorem State.setBlock_updSession (s : State) (c : Nat) (i : Nat) (f : Session → Session) :
    (s.updSession i f).setBlock c = s.setBlock c := rfl
@[simp] theorem State.fixedOut_lineTaken (s : State) (n : Nat) (ln : Ln) :
    (s.lineTaken ln).fixedOut n = s.fixedOut n := rfl
@[simp] theorem State.fixedOut_updSession (s : State) (n : Nat) (i : Nat) (f : Session → Session) :
    (s.updSession i f).fixedOut n = s.fixedOut n := rfl
@[simp] theorem State.requester_lineTaken (s : State) (who : Option Nat) (ln : Ln) :
    (s.lineTaken ln).requester who = s.requester who := rfl
@[simp] theorem State.requester_updSession (s : State) (who : Option Nat) (i : Nat) (f : Session → Session) :
    (s.updSession i f).requester who = s.requester who := rfl
@[simp] theorem State.port_lineTaken (s : State) (p : Nat) (ln : Ln) :
    (s.lineTaken ln).port p = s.port p := rfl
@[simp] theorem State.port_updSession (s : State) (p : Nat) (i : Nat) (f : Session → Session) :
    (s.updSession i f).port p = s.port p := rfl
@[simp] theorem State.exchanges_lineTaken (s : State) (ln : Ln) :
    (s.lineTaken ln).exchanges = s.exchanges := rfl
@[simp] theorem State.exchanges_updSession (s : State) (i : Nat) (f : Session → Session) :
    (s.updSession i f).exchanges = s.exchanges := rfl
@[simp] theorem State.drives_lineTaken (s : State) (x : DevCrown) (l : LinkId) (ln : Ln) :
    (s.lineTaken ln).drives x l = s.drives x l := rfl
@[simp] theorem State.drives_updSession (s : State) (x : DevCrown) (l : LinkId) (i : Nat) (f : Session → Session) :
    (s.updSession i f).drives x l = s.drives x l := rfl
@[simp] theorem State.loop_lineTaken (s : State) (n : Nat) (ln : Ln) :
    (s.lineTaken ln).loop n = s.loop n := rfl
@[simp] theorem State.loop_updSession (s : State) (n : Nat) (i : Nat) (f : Session → Session) :
    (s.updSession i f).loop n = s.loop n := rfl
@[simp] theorem State.freeWord_lineTaken (s : State) (ln : Ln) :
    (s.lineTaken ln).freeWord = s.freeWord := rfl
@[simp] theorem State.freeWord_updSession (s : State) (i : Nat) (f : Session → Session) :
    (s.updSession i f).freeWord = s.freeWord := rfl
@[simp] theorem State.takenTicket_lineTaken (s : State) (src : Nat) (k : TicketSlot) (gap : Bool) (ln : Ln) :
    (s.lineTaken ln).takenTicket src k gap = s.takenTicket src k gap := rfl
@[simp] theorem State.takenTicket_updSession (s : State) (src : Nat) (k : TicketSlot) (gap : Bool) (i : Nat) (f : Session → Session) :
    (s.updSession i f).takenTicket src k gap = s.takenTicket src k gap := rfl
@[simp] theorem State.repointRate_lineTaken (s : State) (ln : Ln) :
    (s.lineTaken ln).repointRate = s.repointRate := rfl
@[simp] theorem State.repointRate_updSession (s : State) (i : Nat) (f : Session → Session) :
    (s.updSession i f).repointRate = s.repointRate := rfl
@[simp] theorem State.simEffOf_lineTaken (s : State) (n : Nat) (working : Nat) (ln : Ln) :
    (s.lineTaken ln).simEffOf n working = s.simEffOf n working := rfl
@[simp] theorem State.simEffOf_updSession (s : State) (n : Nat) (working : Nat) (i : Nat) (f : Session → Session) :
    (s.updSession i f).simEffOf n working = s.simEffOf n working := rfl
@[simp] theorem State.loopLaw_lineTaken (s : State) (n : Nat) (x : LoopIn) (k : Coef) (switch : Bool) (p : Int) (d : Int) (ln : Ln) :
    (s.lineTaken ln).loopLaw n x k switch p d = s.loopLaw n x k switch p d := rfl
@[simp] theorem State.loopLaw_updSession (s : State) (n : Nat) (x : LoopIn) (k : Coef) (switch : Bool) (p : Int) (d : Int) (i : Nat) (f : Session → Session) :
    (s.updSession i f).loopLaw n x k switch p d = s.loopLaw n x k switch p d := rfl
@[simp] theorem State.zone_lineTaken (s : State) (z : Nat) (ln : Ln) :
    (s.lineTaken ln).zone z = s.zone z := rfl
@[simp] theorem State.zone_updSession (s : State) (z : Nat) (i : Nat) (f : Session → Session) :
    (s.updSession i f).zone z = s.zone z := rfl
@[simp] theorem State.macBusy_lineTaken (s : State) (p : Nat) (ln : Ln) :
    (s.lineTaken ln).macBusy p = s.macBusy p := rfl
@[simp] theorem State.macBusy_updSession (s : State) (p : Nat) (i : Nat) (f : Session → Session) :
    (s.updSession i f).macBusy p = s.macBusy p := rfl
@[simp] theorem State.groupLimit_lineTaken (s : State) (g : Nat) (ln : Ln) :
    (s.lineTaken ln).groupLimit g = s.groupLimit g := rfl
@[simp] theorem State.groupLimit_updSession (s : State) (g : Nat) (i : Nat) (f : Session → Session) :
    (s.updSession i f).groupLimit g = s.groupLimit g := rfl
@[simp] theorem State.replayedLine_lineTaken (s : State) (line : Line) (ln : Ln) :
    (s.lineTaken ln).replayedLine line = s.replayedLine line := rfl
@[simp] theorem State.replayedLine_updSession (s : State) (line : Line) (i : Nat) (f : Session → Session) :
    (s.updSession i f).replayedLine line = s.replayedLine line := rfl
@[simp] theorem State.learnOn_lineTaken (s : State) (c : Nat) (ln : Ln) :
    (s.lineTaken ln).learnOn c = s.learnOn c := rfl
@[simp] theorem State.learnOn_updSession (s : State) (c : Nat) (i : Nat) (f : Session → Session) :
    (s.updSession i f).learnOn c = s.learnOn c := rfl
@[simp] theorem State.diOn_lineTaken (s : State) (n : Nat) (ln : Ln) :
    (s.lineTaken ln).diOn n = s.diOn n := rfl
@[simp] theorem State.diOn_updSession (s : State) (n : Nat) (i : Nat) (f : Session → Session) :
    (s.updSession i f).diOn n = s.diOn n := rfl
@[simp] theorem State.currentOk_lineTaken (s : State) (n : Nat) (ln : Ln) :
    (s.lineTaken ln).currentOk n = s.currentOk n := rfl
@[simp] theorem State.currentOk_updSession (s : State) (n : Nat) (i : Nat) (f : Session → Session) :
    (s.updSession i f).currentOk n = s.currentOk n := rfl
@[simp] theorem State.showConn_lineTaken (s : State) (i' : Nat) (ln : Ln) :
    (s.lineTaken ln).showConn i' = s.showConn i' := rfl
@[simp] theorem State.showConn_updSession (s : State) (i' : Nat) (i : Nat) (f : Session → Session) :
    (s.updSession i f).showConn i' = s.showConn i' := rfl
@[simp] theorem State.window_lineTaken (s : State) (reqStart : Tick) (since : Tick) (lateness : Nat) (ln : Ln) :
    (s.lineTaken ln).window reqStart since lateness = s.window reqStart since lateness := rfl
@[simp] theorem State.window_updSession (s : State) (reqStart : Tick) (since : Tick) (lateness : Nat) (i : Nat) (f : Session → Session) :
    (s.updSession i f).window reqStart since lateness = s.window reqStart since lateness := rfl
@[simp] theorem State.startChannels_lineTaken (s : State) (t : Ticket) (ln : Ln) :
    (s.lineTaken ln).startChannels t = s.startChannels t := rfl
@[simp] theorem State.startChannels_updSession (s : State) (t : Ticket) (i : Nat) (f : Session → Session) :
    (s.updSession i f).startChannels t = s.startChannels t := rfl
@[simp] theorem State.rotationOn_lineTaken (s : State) (p : Nat) (ln : Ln) :
    (s.lineTaken ln).rotationOn p = s.rotationOn p := rfl
@[simp] theorem State.rotationOn_updSession (s : State) (p : Nat) (i : Nat) (f : Session → Session) :
    (s.updSession i f).rotationOn p = s.rotationOn p := rfl
@[simp] theorem State.courseUp_lineTaken (s : State) (n : Nat) (ln : Ln) :
    (s.lineTaken ln).courseUp n = s.courseUp n := rfl
@[simp] theorem State.courseUp_updSession (s : State) (n : Nat) (i : Nat) (f : Session → Session) :
    (s.updSession i f).courseUp n = s.courseUp n := rfl
@[simp] theorem State.peerReady_lineTaken (s : State) (ln : Ln) :
    (s.lineTaken ln).peerReady = s.peerReady := rfl
@[simp] theorem State.peerReady_updSession (s : State) (i : Nat) (f : Session → Session) :
    (s.updSession i f).peerReady = s.peerReady := rfl
@[simp] theorem State.nextCrown_lineTaken (s : State) (ln : Ln) :
    (s.lineTaken ln).nextCrown = s.nextCrown := rfl
@[simp] theorem State.nextCrown_updSession (s : State) (i : Nat) (f : Session → Session) :
    (s.updSession i f).nextCrown = s.nextCrown := rfl
@[simp] theorem State.freeConn_lineTaken (s : State) (ln : Ln) :
    (s.lineTaken ln).freeConn = s.freeConn := rfl
@[simp] theorem State.freeConn_updSession (s : State) (i : Nat) (f : Session → Session) :
    (s.updSession i f).freeConn = s.freeConn := rfl
@[simp] theorem State.connsOn_lineTaken (s : State) (p : Nat) (ln : Ln) :
    (s.lineTaken ln).connsOn p = s.connsOn p := rfl
@[simp] theorem State.connsOn_updSession (s : State) (p : Nat) (i : Nat) (f : Session → Session) :
    (s.updSession i f).connsOn p = s.connsOn p := rfl
@[simp] theorem State.liveLedger_lineTaken (s : State) (id : Nat) (ln : Ln) :
    (s.lineTaken ln).liveLedger id = s.liveLedger id := rfl
@[simp] theorem State.liveLedger_updSession (s : State) (id : Nat) (i : Nat) (f : Session → Session) :
    (s.updSession i f).liveLedger id = s.liveLedger id := rfl
@[simp] theorem State.conditionBody_lineTaken (s : State) (z : Nat) (ln : Ln) :
    (s.lineTaken ln).conditionBody z = s.conditionBody z := rfl
@[simp] theorem State.conditionBody_updSession (s : State) (z : Nat) (i : Nat) (f : Session → Session) :
    (s.updSession i f).conditionBody z = s.conditionBody z := rfl
@[simp] theorem State.crackSeen_lineTaken (s : State) (ln : Ln) :
    (s.lineTaken ln).crackSeen = s.crackSeen := rfl
@[simp] theorem State.crackSeen_updSession (s : State) (i : Nat) (f : Session → Session) :
    (s.updSession i f).crackSeen = s.crackSeen := rfl
@[simp] theorem State.crackTerm_lineTaken (s : State) (n : Nat) (region : Nat) (ln : Ln) :
    (s.lineTaken ln).crackTerm n region = s.crackTerm n region := rfl
@[simp] theorem State.crackTerm_updSession (s : State) (n : Nat) (region : Nat) (i : Nat) (f : Session → Session) :
    (s.updSession i f).crackTerm n region = s.crackTerm n region := rfl
@[simp] theorem State.sweepPast_lineTaken (s : State) (r : Nat) (ln : Ln) :
    (s.lineTaken ln).sweepPast r = s.sweepPast r := rfl
@[simp] theorem State.sweepPast_updSession (s : State) (r : Nat) (i : Nat) (f : Session → Session) :
    (s.updSession i f).sweepPast r = s.sweepPast r := rfl
@[simp] theorem State.newIndices_lineTaken (s : State) (n : Nat) (direct : Bool) (ln : Ln) :
    (s.lineTaken ln).newIndices n direct = s.newIndices n direct := rfl
@[simp] theorem State.newIndices_updSession (s : State) (n : Nat) (direct : Bool) (i : Nat) (f : Session → Session) :
    (s.updSession i f).newIndices n direct = s.newIndices n direct := rfl
@[simp] theorem State.peakTicks_lineTaken (s : State) (n : Nat) (ch : Nat) (ln : Ln) :
    (s.lineTaken ln).peakTicks n ch = s.peakTicks n ch := rfl
@[simp] theorem State.peakTicks_updSession (s : State) (n : Nat) (ch : Nat) (i : Nat) (f : Session → Session) :
    (s.updSession i f).peakTicks n ch = s.peakTicks n ch := rfl
@[simp] theorem State.commitAllowed_lineTaken (s : State) (b : Bond) (coursesChange : Bool) (ln : Ln) :
    (s.lineTaken ln).commitAllowed b coursesChange = s.commitAllowed b coursesChange := rfl
@[simp] theorem State.commitAllowed_updSession (s : State) (b : Bond) (coursesChange : Bool) (i : Nat) (f : Session → Session) :
    (s.updSession i f).commitAllowed b coursesChange = s.commitAllowed b coursesChange := rfl
@[simp] theorem State.sealTag_lineTaken (s : State) (slot : Nat) (line : Nat) (ln : Ln) :
    (s.lineTaken ln).sealTag slot line = s.sealTag slot line := rfl
@[simp] theorem State.sealTag_updSession (s : State) (slot : Nat) (line : Nat) (i : Nat) (f : Session → Session) :
    (s.updSession i f).sealTag slot line = s.sealTag slot line := rfl
@[simp] theorem State.sortingDone_lineTaken (s : State) (ln : Ln) :
    (s.lineTaken ln).sortingDone = s.sortingDone := rfl
@[simp] theorem State.sortingDone_updSession (s : State) (i : Nat) (f : Session → Session) :
    (s.updSession i f).sortingDone = s.sortingDone := rfl
@[simp] theorem State.driver_lineTaken (s : State) (out : Nat) (ln : Ln) :
    (s.lineTaken ln).driver out = s.driver out := rfl
@[simp] theorem State.driver_updSession (s : State) (out : Nat) (i : Nat) (f : Session → Session) :
    (s.updSession i f).driver out = s.driver out := rfl
@[simp] theorem State.inAny_lineTaken (s : State) (l : List UnitState) (ln : Ln) :
    (s.lineTaken ln).inAny l = s.inAny l := rfl
@[simp] theorem State.inAny_updSession (s : State) (l : List UnitState) (i : Nat) (f : Session → Session) :
    (s.updSession i f).inAny l = s.inAny l := rfl
@[simp] theorem State.journals_lineTaken (s : State) (ln : Ln) :
    (s.lineTaken ln).journals = s.journals := rfl
@[simp] theorem State.journals_updSession (s : State) (i : Nat) (f : Session → Session) :
    (s.updSession i f).journals = s.journals := rfl
@[simp] theorem State.loopTarget_lineTaken (s : State) (n : Nat) (ln : Ln) :
    (s.lineTaken ln).loopTarget n = s.loopTarget n := rfl
@[simp] theorem State.loopTarget_updSession (s : State) (n : Nat) (i : Nat) (f : Session → Session) :
    (s.updSession i f).loopTarget n = s.loopTarget n := rfl
@[simp] theorem State.bondOpen_lineTaken (s : State) (b : Bond) (ln : Ln) :
    (s.lineTaken ln).bondOpen b = s.bondOpen b := rfl
@[simp] theorem State.bondOpen_updSession (s : State) (b : Bond) (i : Nat) (f : Session → Session) :
    (s.updSession i f).bondOpen b = s.bondOpen b := rfl
@[simp] theorem State.path1Alive_lineTaken (s : State) (ln : Ln) :
    (s.lineTaken ln).path1Alive = s.path1Alive := rfl
@[simp] theorem State.path1Alive_updSession (s : State) (i : Nat) (f : Session → Session) :
    (s.updSession i f).path1Alive = s.path1Alive := rfl
@[simp] theorem State.fanCommand_lineTaken (s : State) (n : Nat) (ln : Ln) :
    (s.lineTaken ln).fanCommand n = s.fanCommand n := rfl
@[simp] theorem State.fanCommand_updSession (s : State) (n : Nat) (i : Nat) (f : Session → Session) :
    (s.updSession i f).fanCommand n = s.fanCommand n := rfl
@[simp] theorem State.groupModeText_lineTaken (s : State) (g : Nat) (ln : Ln) :
    (s.lineTaken ln).groupModeText g = s.groupModeText g := rfl
@[simp] theorem State.groupModeText_updSession (s : State) (g : Nat) (i : Nat) (f : Session → Session) :
    (s.updSession i f).groupModeText g = s.groupModeText g := rfl
@[simp] theorem State.completed_lineTaken (s : State) (id : Nat) (ln : Ln) :
    (s.lineTaken ln).completed id = s.completed id := rfl
@[simp] theorem State.completed_updSession (s : State) (id : Nat) (i : Nat) (f : Session → Session) :
    (s.updSession i f).completed id = s.completed id := rfl
@[simp] theorem State.zonesDone_lineTaken (s : State) (ln : Ln) :
    (s.lineTaken ln).zonesDone = s.zonesDone := rfl
@[simp] theorem State.zonesDone_updSession (s : State) (i : Nat) (f : Session → Session) :
    (s.updSession i f).zonesDone = s.zonesDone := rfl
@[simp] theorem State.livePort_lineTaken (s : State) (id : Nat) (ln : Ln) :
    (s.lineTaken ln).livePort id = s.livePort id := rfl
@[simp] theorem State.livePort_updSession (s : State) (id : Nat) (i : Nat) (f : Session → Session) :
    (s.updSession i f).livePort id = s.livePort id := rfl
@[simp] theorem State.tallyBody_lineTaken (s : State) (n : Nat) (ln : Ln) :
    (s.lineTaken ln).tallyBody n = s.tallyBody n := rfl
@[simp] theorem State.tallyBody_updSession (s : State) (n : Nat) (i : Nat) (f : Session → Session) :
    (s.updSession i f).tallyBody n = s.tallyBody n := rfl
@[simp] theorem State.waitFate_lineTaken (s : State) (w : WorkEntry) (ln : Ln) :
    (s.lineTaken ln).waitFate w = s.waitFate w := rfl
@[simp] theorem State.waitFate_updSession (s : State) (w : WorkEntry) (i : Nat) (f : Session → Session) :
    (s.updSession i f).waitFate w = s.waitFate w := rfl
@[simp] theorem State.flight_lineTaken (s : State) (n : Nat) (k : TicketSlot) (band : Nat) (ln : Ln) :
    (s.lineTaken ln).flight n k band = s.flight n k band := rfl
@[simp] theorem State.flight_updSession (s : State) (n : Nat) (k : TicketSlot) (band : Nat) (i : Nat) (f : Session → Session) :
    (s.updSession i f).flight n k band = s.flight n k band := rfl
@[simp] theorem State.wired_lineTaken (s : State) (n : Nat) (ln : Ln) :
    (s.lineTaken ln).wired n = s.wired n := rfl
@[simp] theorem State.wired_updSession (s : State) (n : Nat) (i : Nat) (f : Session → Session) :
    (s.updSession i f).wired n = s.wired n := rfl
@[simp] theorem State.displaced_lineTaken (s : State) (q : Ticket) (t : Ticket) (ln : Ln) :
    (s.lineTaken ln).displaced q t = s.displaced q t := rfl
@[simp] theorem State.displaced_updSession (s : State) (q : Ticket) (t : Ticket) (i : Nat) (f : Session → Session) :
    (s.updSession i f).displaced q t = s.displaced q t := rfl
@[simp] theorem State.on_lineTaken (s : State) (id : Nat) (e : Nat) (ln : Ln) :
    (s.lineTaken ln).on id e = s.on id e := rfl
@[simp] theorem State.on_updSession (s : State) (id : Nat) (e : Nat) (i : Nat) (f : Session → Session) :
    (s.updSession i f).on id e = s.on id e := rfl
@[simp] theorem State.fixOutcome_lineTaken (s : State) (t : Ticket) (ln : Ln) :
    (s.lineTaken ln).fixOutcome t = s.fixOutcome t := rfl
@[simp] theorem State.fixOutcome_updSession (s : State) (t : Ticket) (i : Nat) (f : Session → Session) :
    (s.updSession i f).fixOutcome t = s.fixOutcome t := rfl
@[simp] theorem State.poisoned_lineTaken (s : State) (slot : Nat) (ln : Ln) :
    (s.lineTaken ln).poisoned slot = s.poisoned slot := rfl
@[simp] theorem State.poisoned_updSession (s : State) (slot : Nat) (i : Nat) (f : Session → Session) :
    (s.updSession i f).poisoned slot = s.poisoned slot := rfl
@[simp] theorem State.writes_lineTaken (s : State) (ln : Ln) :
    (s.lineTaken ln).writes = s.writes := rfl
@[simp] theorem State.writes_updSession (s : State) (i : Nat) (f : Session → Session) :
    (s.updSession i f).writes = s.writes := rfl
@[simp] theorem State.bankImage_lineTaken (s : State) (c : PClass) (gen : U32) (ln : Ln) :
    (s.lineTaken ln).bankImage c gen = s.bankImage c gen := rfl
@[simp] theorem State.bankImage_updSession (s : State) (c : PClass) (gen : U32) (i : Nat) (f : Session → Session) :
    (s.updSession i f).bankImage c gen = s.bankImage c gen := rfl
@[simp] theorem State.bandNow_lineTaken (s : State) (ln : Ln) :
    (s.lineTaken ln).bandNow = s.bandNow := rfl
@[simp] theorem State.bandNow_updSession (s : State) (i : Nat) (f : Session → Session) :
    (s.updSession i f).bandNow = s.bandNow := rfl
@[simp] theorem State.coursesUsed_lineTaken (s : State) (ln : Ln) :
    (s.lineTaken ln).coursesUsed = s.coursesUsed := rfl
@[simp] theorem State.coursesUsed_updSession (s : State) (i : Nat) (f : Session → Session) :
    (s.updSession i f).coursesUsed = s.coursesUsed := rfl
@[simp] theorem State.ulk_lineTaken (s : State) (ln : Ln) :
    (s.lineTaken ln).ulk = s.ulk := rfl
@[simp] theorem State.ulk_updSession (s : State) (i : Nat) (f : Session → Session) :
    (s.updSession i f).ulk = s.ulk := rfl
@[simp] theorem State.outletPeriod_lineTaken (s : State) (ln : Ln) :
    (s.lineTaken ln).outletPeriod = s.outletPeriod := rfl
@[simp] theorem State.outletPeriod_updSession (s : State) (i : Nat) (f : Session → Session) :
    (s.updSession i f).outletPeriod = s.outletPeriod := rfl
@[simp] theorem State.lineImage_lineTaken (s : State) (ln : Ln) :
    (s.lineTaken ln).lineImage = s.lineImage := rfl
@[simp] theorem State.lineImage_updSession (s : State) (i : Nat) (f : Session → Session) :
    (s.updSession i f).lineImage = s.lineImage := rfl
@[simp] theorem State.accessRuns_lineTaken (s : State) (c : Nat) (i' : Nat) (ln : Ln) :
    (s.lineTaken ln).accessRuns c i' = s.accessRuns c i' := rfl
@[simp] theorem State.accessRuns_updSession (s : State) (c : Nat) (i' : Nat) (i : Nat) (f : Session → Session) :
    (s.updSession i f).accessRuns c i' = s.accessRuns c i' := rfl
@[simp] theorem State.rekeyJoins_lineTaken (s : State) (slot : Nat) (ln : Ln) :
    (s.lineTaken ln).rekeyJoins slot = s.rekeyJoins slot := rfl
@[simp] theorem State.rekeyJoins_updSession (s : State) (slot : Nat) (i : Nat) (f : Session → Session) :
    (s.updSession i f).rekeyJoins slot = s.rekeyJoins slot := rfl
@[simp] theorem State.rekeyText_lineTaken (s : State) (slot : Nat) (ln : Ln) :
    (s.lineTaken ln).rekeyText slot = s.rekeyText slot := rfl
@[simp] theorem State.rekeyText_updSession (s : State) (slot : Nat) (i : Nat) (f : Session → Session) :
    (s.updSession i f).rekeyText slot = s.rekeyText slot := rfl
@[simp] theorem State.noticed_lineTaken (s : State) (e : Epoch) (ln : Ln) :
    (s.lineTaken ln).noticed e = s.noticed e := rfl
@[simp] theorem State.noticed_updSession (s : State) (e : Epoch) (i : Nat) (f : Session → Session) :
    (s.updSession i f).noticed e = s.noticed e := rfl
@[simp] theorem State.awaits_lineTaken (s : State) (i' : Nat) (ln : Ln) :
    (s.lineTaken ln).awaits i' = s.awaits i' := rfl
@[simp] theorem State.awaits_updSession (s : State) (i' : Nat) (i : Nat) (f : Session → Session) :
    (s.updSession i f).awaits i' = s.awaits i' := rfl
@[simp] theorem State.stuck_lineTaken (s : State) (x : Session) (ln : Ln) :
    (s.lineTaken ln).stuck x = s.stuck x := rfl
@[simp] theorem State.stuck_updSession (s : State) (x : Session) (i : Nat) (f : Session → Session) :
    (s.updSession i f).stuck x = s.stuck x := rfl
@[simp] theorem State.readBack_lineTaken (s : State) (release : Tick) (ln : Ln) :
    (s.lineTaken ln).readBack release = s.readBack release := rfl
@[simp] theorem State.readBack_updSession (s : State) (release : Tick) (i : Nat) (f : Session → Session) :
    (s.updSession i f).readBack release = s.readBack release := rfl
@[simp] theorem State.frontDisplay_lineTaken (s : State) (ln : Ln) :
    (s.lineTaken ln).frontDisplay = s.frontDisplay := rfl
@[simp] theorem State.frontDisplay_updSession (s : State) (i : Nat) (f : Session → Session) :
    (s.updSession i f).frontDisplay = s.frontDisplay := rfl
@[simp] theorem State.chSets_lineTaken (s : State) (k : TicketSlot) (ln : Ln) :
    (s.lineTaken ln).chSets k = s.chSets k := rfl
@[simp] theorem State.chSets_updSession (s : State) (k : TicketSlot) (i : Nat) (f : Session → Session) :
    (s.updSession i f).chSets k = s.chSets k := rfl
@[simp] theorem State.lane_lineTaken (s : State) (t : Ticket) (view : Ticket → Bool) (ch : Nat) (ln : Ln) :
    (s.lineTaken ln).lane t view ch = s.lane t view ch := rfl
@[simp] theorem State.lane_updSession (s : State) (t : Ticket) (view : Ticket → Bool) (ch : Nat) (i : Nat) (f : Session → Session) :
    (s.updSession i f).lane t view ch = s.lane t view ch := rfl
@[simp] theorem State.takesTag_lineTaken (s : State) (p : Nat) (e : Eth) (ln : Ln) :
    (s.lineTaken ln).takesTag p e = s.takesTag p e := rfl
@[simp] theorem State.takesTag_updSession (s : State) (p : Nat) (e : Eth) (i : Nat) (f : Session → Session) :
    (s.updSession i f).takesTag p e = s.takesTag p e := rfl
@[simp] theorem State.hearsFrame_lineTaken (s : State) (p : Nat) (e : Eth) (ln : Ln) :
    (s.lineTaken ln).hearsFrame p e = s.hearsFrame p e := rfl
@[simp] theorem State.hearsFrame_updSession (s : State) (p : Nat) (e : Eth) (i : Nat) (f : Session → Session) :
    (s.updSession i f).hearsFrame p e = s.hearsFrame p e := rfl
@[simp] theorem State.acceptBytes_lineTaken (s : State) (c : Nat) (ln : Ln) :
    (s.lineTaken ln).acceptBytes c = s.acceptBytes c := rfl
@[simp] theorem State.acceptBytes_updSession (s : State) (c : Nat) (i : Nat) (f : Session → Session) :
    (s.updSession i f).acceptBytes c = s.acceptBytes c := rfl
@[simp] theorem State.powerLight_lineTaken (s : State) (ln : Ln) :
    (s.lineTaken ln).powerLight = s.powerLight := rfl
@[simp] theorem State.powerLight_updSession (s : State) (i : Nat) (f : Session → Session) :
    (s.updSession i f).powerLight = s.powerLight := rfl
@[simp] theorem State.stateLight_lineTaken (s : State) (ln : Ln) :
    (s.lineTaken ln).stateLight = s.stateLight := rfl
@[simp] theorem State.stateLight_updSession (s : State) (i : Nat) (f : Session → Session) :
    (s.updSession i f).stateLight = s.stateLight := rfl
@[simp] theorem State.crownLight_lineTaken (s : State) (ln : Ln) :
    (s.lineTaken ln).crownLight = s.crownLight := rfl
@[simp] theorem State.crownLight_updSession (s : State) (i : Nat) (f : Session → Session) :
    (s.updSession i f).crownLight = s.crownLight := rfl
@[simp] theorem State.portsUsed_lineTaken (s : State) (ln : Ln) :
    (s.lineTaken ln).portsUsed = s.portsUsed := rfl
@[simp] theorem State.portsUsed_updSession (s : State) (i : Nat) (f : Session → Session) :
    (s.updSession i f).portsUsed = s.portsUsed := rfl
@[simp] theorem State.linkLight_lineTaken (s : State) (ln : Ln) :
    (s.lineTaken ln).linkLight = s.linkLight := rfl
@[simp] theorem State.linkLight_updSession (s : State) (i : Nat) (f : Session → Session) :
    (s.updSession i f).linkLight = s.linkLight := rfl
@[simp] theorem State.ledgerLight_lineTaken (s : State) (ln : Ln) :
    (s.lineTaken ln).ledgerLight = s.ledgerLight := rfl
@[simp] theorem State.ledgerLight_updSession (s : State) (i : Nat) (f : Session → Session) :
    (s.updSession i f).ledgerLight = s.ledgerLight := rfl
@[simp] theorem State.alarmLight_lineTaken (s : State) (ln : Ln) :
    (s.lineTaken ln).alarmLight = s.alarmLight := rfl
@[simp] theorem State.alarmLight_updSession (s : State) (i : Nat) (f : Session → Session) :
    (s.updSession i f).alarmLight = s.alarmLight := rfl
@[simp] theorem State.rangeText_lineTaken (s : State) (k : PKey) (ln : Ln) :
    (s.lineTaken ln).rangeText k = s.rangeText k := rfl
@[simp] theorem State.rangeText_updSession (s : State) (k : PKey) (i : Nat) (f : Session → Session) :
    (s.updSession i f).rangeText k = s.rangeText k := rfl
@[simp] theorem State.defaultText_lineTaken (s : State) (k : PKey) (ln : Ln) :
    (s.lineTaken ln).defaultText k = s.defaultText k := rfl
@[simp] theorem State.defaultText_updSession (s : State) (k : PKey) (i : Nat) (f : Session → Session) :
    (s.updSession i f).defaultText k = s.defaultText k := rfl
@[simp] theorem State.pulseOuts_lineTaken (s : State) (line : Line) (ln : Ln) :
    (s.lineTaken ln).pulseOuts line = s.pulseOuts line := rfl
@[simp] theorem State.pulseOuts_updSession (s : State) (line : Line) (i : Nat) (f : Session → Session) :
    (s.updSession i f).pulseOuts line = s.pulseOuts line := rfl
@[simp] theorem State.syncOut_lineTaken (s : State) (n : Nat) (ln : Ln) :
    (s.lineTaken ln).syncOut n = s.syncOut n := rfl
@[simp] theorem State.syncOut_updSession (s : State) (n : Nat) (i : Nat) (f : Session → Session) :
    (s.updSession i f).syncOut n = s.syncOut n := rfl
@[simp] theorem State.rekeyStops_lineTaken (s : State) (slot : Nat) (ln : Ln) :
    (s.lineTaken ln).rekeyStops slot = s.rekeyStops slot := rfl
@[simp] theorem State.rekeyStops_updSession (s : State) (slot : Nat) (i : Nat) (f : Session → Session) :
    (s.updSession i f).rekeyStops slot = s.rekeyStops slot := rfl
@[simp] theorem State.rekeyWaits_lineTaken (s : State) (slot : Nat) (ln : Ln) :
    (s.lineTaken ln).rekeyWaits slot = s.rekeyWaits slot := rfl
@[simp] theorem State.rekeyWaits_updSession (s : State) (slot : Nat) (i : Nat) (f : Session → Session) :
    (s.updSession i f).rekeyWaits slot = s.rekeyWaits slot := rfl
@[simp] theorem State.rawStart_lineTaken (s : State) (id : Nat) (e : Nat) (ln : Ln) :
    (s.lineTaken ln).rawStart id e = s.rawStart id e := rfl
@[simp] theorem State.rawStart_updSession (s : State) (id : Nat) (e : Nat) (i : Nat) (f : Session → Session) :
    (s.updSession i f).rawStart id e = s.rawStart id e := rfl
@[simp] theorem State.numStart_lineTaken (s : State) (id : Nat) (e : Nat) (ln : Ln) :
    (s.lineTaken ln).numStart id e = s.numStart id e := rfl
@[simp] theorem State.numStart_updSession (s : State) (id : Nat) (e : Nat) (i : Nat) (f : Session → Session) :
    (s.updSession i f).numStart id e = s.numStart id e := rfl
@[simp] theorem State.bankValid_lineTaken (s : State) (i' : BankId) (ln : Ln) :
    (s.lineTaken ln).bankValid i' = s.bankValid i' := rfl
@[simp] theorem State.bankValid_updSession (s : State) (i' : BankId) (i : Nat) (f : Session → Session) :
    (s.updSession i f).bankValid i' = s.bankValid i' := rfl
@[simp] theorem State.pastStep_lineTaken (s : State) (o : PendOp) (ln : Ln) :
    (s.lineTaken ln).pastStep o = s.pastStep o := rfl
@[simp] theorem State.pastStep_updSession (s : State) (o : PendOp) (i : Nat) (f : Session → Session) :
    (s.updSession i f).pastStep o = s.pastStep o := rfl
@[simp] theorem State.turnRank_lineTaken (s : State) (src : Nat) (ln : Ln) :
    (s.lineTaken ln).turnRank src = s.turnRank src := rfl
@[simp] theorem State.turnRank_updSession (s : State) (src : Nat) (i : Nat) (f : Session → Session) :
    (s.updSession i f).turnRank src = s.turnRank src := rfl
@[simp] theorem State.hasTurn_lineTaken (s : State) (src : Nat) (ln : Ln) :
    (s.lineTaken ln).hasTurn src = s.hasTurn src := rfl
@[simp] theorem State.hasTurn_updSession (s : State) (src : Nat) (i : Nat) (f : Session → Session) :
    (s.updSession i f).hasTurn src = s.hasTurn src := rfl
@[simp] theorem State.peakOf_lineTaken (s : State) (n : Nat) (p : Plan) (ln : Ln) :
    (s.lineTaken ln).peakOf n p = s.peakOf n p := rfl
@[simp] theorem State.peakOf_updSession (s : State) (n : Nat) (p : Plan) (i : Nat) (f : Session → Session) :
    (s.updSession i f).peakOf n p = s.peakOf n p := rfl
/-! ### The session of the line -/

/-- A change of the first element that `p` names is found where it was. -/
theorem find_updFirst {α : Type} (p : α → Bool) (g : α → α) (h : ∀ x, p (g x) = p x) (l : List α) :
    (updFirst p g l).find? p = (l.find? p).map g := by
  induction l with
  | nil => rfl
  | cons x xs ih => by_cases hx : p x = true <;> simp_all [updFirst]
/-- A session changed, read back. -/
theorem State.session_updSession (s : State) (i : Nat) (f : Session → Session) (h : ∀ x, (f x).idx = x.idx) :
    (s.updSession i f).session? i = (s.session? i).map f :=
  find_updFirst _ f (fun x => by simp [h]) s.sessions
@[simp] theorem Session.takeLine_idx (x : Session) (ln : Ln) (now : Tick) (turn : Nat) : (x.takeLine ln now turn).idx = x.idx := rfl
@[simp] theorem State.session_lineTaken (s : State) (ln : Ln) :
    (s.lineTaken ln).session? ln.ses = (s.session? ln.ses).map (·.takeLine ln s.now s.nextServed) :=
  s.session_updSession _ _ fun _ => rfl
@[simp] theorem State.pendFull_lineTaken (s : State) (ln : Ln) : (s.lineTaken ln).pendFull ln = s.pendFull ln := by
  simp only [State.pendFull, State.session_lineTaken]
  cases s.session? ln.ses <;> rfl
@[simp] theorem State.fresh_lineTaken (s : State) (ln : Ln) : (s.lineTaken ln).fresh ln = s.fresh ln := by
  simp only [State.fresh, State.session_lineTaken]
  cases s.session? ln.ses <;> rfl
@[simp] theorem State.levelOf_lineTaken (s : State) (ln : Ln) : (s.lineTaken ln).levelOf ln = s.levelOf ln := by
  simp only [State.levelOf, State.session_lineTaken]
  cases s.session? ln.ses <;> rfl
@[simp] theorem State.loginOf_lineTaken (s : State) (ln : Ln) : (s.lineTaken ln).loginOf ln = s.loginOf ln := by
  simp only [State.loginOf, State.session_lineTaken]
  cases s.session? ln.ses <;> rfl

end Sys2Proof.Machine
end

