-- ==== Sys2Proof/Laws/UnitSeal.lean ====
section
/-! SUPPORT. Where memory protection, but for what writes the DRAM, leaves the unit state as it is (`State.unit`). -/
namespace Sys2Proof.Machine

/-! ### Seal.lean -/
@[simp] theorem State.touch_unit (s : State) (slot : Nat) (line : Nat) : (s.touch slot line).unit = s.unit := by
  simp [State.touch, apply_ite State.unit]
@[simp] theorem State.writeDram_unit (s : State) (addr : Nat) (l : List Byte) : (s.writeDram addr l).unit = s.unit := by
  simp [State.writeDram]
@[simp] theorem State.zeroLine_unit (s : State) (addr : Nat) : (s.zeroLine addr).unit = s.unit := by simp [State.zeroLine]
@[simp] theorem State.countPartial_unit (s : State) : s.countPartial.unit = s.unit := by simp [State.countPartial]
@[simp] theorem State.busAnswer_unit (s : State) (e : Option BusError) : (s.busAnswer e).unit = s.unit := by
  simp [State.busAnswer]
@[simp] theorem State.putLine_unit (s : State) (slot : Nat) (line : Nat) (off : Nat) (data : List Byte) : (s.putLine slot line
    off data).unit = s.unit := by
  unfold State.putLine
  split <;> simp
@[simp] theorem State.wrongKey_unit (s : State) (who : Option Nat) (key : Nat) (addr : Nat) : (s.wrongKey who key addr).unit =
    s.unit := by
  unfold State.wrongKey
  split <;> simp
@[simp] theorem groutAccess_unit (key : Nat) (addr : Nat) (wr : Option (List Byte)) (len : Nat) (s : State) : (groutAccess key
    addr wr len s).unit = s.unit := by
  unfold groutAccess
  dsimp only
  (repeat' split) <;> simp_all
@[simp] theorem wrongKeyAccess_unit (who : Nat) (key : Nat) (addr : Nat) (s : State) : (wrongKeyAccess who key addr s).unit =
    s.unit := by
  unfold wrongKeyAccess
  split <;> simp
@[simp] theorem State.poisonLine_unit (s : State) (slot : Nat) (line : Nat) : (s.poisonLine slot line).unit = s.unit := by
  simp [State.poisonLine]
@[simp] theorem heldWriteTimeout_unit (s : State) : (heldWriteTimeout s).unit = s.unit := by
  simp [heldWriteTimeout, foldl_unit, apply_ite State.unit]
@[simp] theorem State.takeRekey_unit (s : State) (r : RekeyReq) : (s.takeRekey r).unit = s.unit := by
  simp [State.takeRekey, apply_ite State.unit]
@[simp] theorem State.nextRekey_unit (s : State) : s.nextRekey.unit = s.unit := by
  unfold State.nextRekey
  (repeat' split) <;> simp
@[simp] theorem rekeyBegin_unit (s : State) : (rekeyBegin s).unit = s.unit := by
  unfold rekeyBegin
  split <;> simp
@[simp] theorem rekeyRngRetry_unit (s : State) : (rekeyRngRetry s).unit = s.unit := by
  unfold rekeyRngRetry
  split <;> simp
@[simp] theorem rekeyPeriodExpire_unit (slot : Nat) (s : State) : (rekeyPeriodExpire slot s).unit = s.unit := by
  simp [rekeyPeriodExpire, apply_ite State.unit]
@[simp] theorem State.cleared_unit (s : State) (slot : Nat) : (s.cleared slot).unit = s.unit := by
  unfold State.cleared
  (repeat' split) <;> simp
@[simp] theorem State.finishRekey_unit (s : State) (slot : Nat) : (s.finishRekey slot).unit = s.unit := by
  simp [State.finishRekey, apply_ite State.unit]
@[simp] theorem State.dropHeld_unit (s : State) (slot : Nat) (line : Nat) : (s.dropHeld slot line).unit = s.unit := by
  simp [State.dropHeld]
@[simp] theorem sealRekey_unit (ln : Ln) (slot : Nat) (s : State) : (sealRekey ln slot s).unit = s.unit := by
  unfold sealRekey
  exact State.verb_unit _ _ _ _ fun s => by (repeat' split) <;> simp [apply_ite State.unit]
@[simp] theorem sealRekeyClear_unit (ln : Ln) (slot : Nat) (s : State) : (sealRekeyClear ln slot s).unit = s.unit := by
  unfold sealRekeyClear
  exact State.verb_unit _ _ _ _ fun s => by (repeat' split) <;> simp [apply_ite State.unit]
@[simp] theorem State.repointerStopped_unit (s : State) (slot : Nat) :
    (s.repointerStopped slot).unit = s.unit := by
  unfold State.repointerStopped
  (try dsimp only)
  (repeat' split) <;> simp
@[simp] theorem State.abortRekey_unit (s : State) (slot : Nat) :
    (s.abortRekey slot).unit = s.unit := by
  unfold State.abortRekey
  (try dsimp only)
  (repeat' split) <;> simp
@[simp] theorem State.stopRekey_unit (s : State) (slot : Nat) : (s.stopRekey slot).unit = s.unit := by
  simp [State.stopRekey, apply_ite State.unit]
@[simp] theorem State.repointerTick_unit (s : State) :
    s.repointerTick.unit = s.unit := by
  unfold State.repointerTick
  (repeat' split) <;> simp
@[simp] theorem sealRekeyAbort_unit (ln : Ln) (slot : Nat) (s : State) : (sealRekeyAbort ln slot s).unit = s.unit := by
  unfold sealRekeyAbort
  exact State.verb_unit _ _ _ _ fun s => by (repeat' split) <;> simp
@[simp] theorem sealShow_unit (ln : Ln) (slot : Option Nat) (s : State) : (sealShow ln slot s).unit = s.unit := by
  unfold sealShow
  exact State.verb_unit _ _ _ _ fun s => by (repeat' split) <;> simp
@[simp] theorem State.needFresh_unit (s : State) (ln : Ln) (f : State → VerbRes) (h : ∀ s, (f s).1.unit = s.unit) :
    (s.needFresh ln f).1.unit = s.unit := by
  unfold State.needFresh
  split <;> simp [h]
@[simp] theorem sealShowLedger_unit (ln : Ln) (s : State) : (sealShowLedger ln s).unit = s.unit := by
  unfold sealShowLedger
  exact State.verb_unit _ _ _ _ fun s => by simp [apply_ite State.unit, apply_ite Prod.fst]
@[simp] theorem State.startStore_unit (s : State) (ln : Ln) (f : State → State × Option (List Byte)) (code : Nat)
    (h : ∀ s, (f s).1.unit = s.unit) : (s.startStore ln f code).1.unit = s.unit := by
  unfold State.startStore
  refine State.needFresh_unit _ _ _ fun s => ?_
  split
  · simp
  split
  · simp
  · split
    · simp
    · have e := h s
      split <;> next q =>
        rw [q] at e
        first | exact e | exact (State.startOp_unit _ _ _ _ _ fun s => by simp).trans e
@[simp] theorem sealRekeyLedger_unit (ln : Ln) (s : State) : (sealRekeyLedger ln s).unit = s.unit := by
  unfold sealRekeyLedger
  exact State.verb_unit _ _ _ _ fun s => by simp [apply_ite State.unit, apply_ite Prod.fst]
@[simp] theorem sealRekeyLedgerImport_unit (ln : Ln) (wrapped : List Byte) (s : State) : (sealRekeyLedgerImport ln wrapped
    s).unit = s.unit := by
  unfold sealRekeyLedgerImport
  exact State.verb_unit _ _ _ _ fun s => by simp
@[simp] theorem keyStoreWriteComplete_unit (ok : Bool) (s : State) : (keyStoreWriteComplete ok s).unit = s.unit := by
  unfold keyStoreWriteComplete
  (repeat' split) <;> simp [apply_ite State.unit]
@[simp] theorem lidSwitch_unit (open_ : Bool) (s : State) : (lidSwitch open_ s).unit = s.unit := by
  simp [lidSwitch, apply_ite State.unit]
@[simp] theorem jtagInstruction_unit (ir : JtagIr) (s : State) : (jtagInstruction ir s).unit = s.unit := by
  unfold jtagInstruction
  split <;> simp
@[simp] theorem debugAccessBlocked_unit (engine : Nat) (addr : Nat) (wr : Bool) (s : State) : (debugAccessBlocked engine addr
    wr s).unit = s.unit := by
  simp [debugAccessBlocked, apply_ite State.unit]

end Sys2Proof.Machine
end

