-- ==== Sys2Proof/Laws/UnitLedger.lean ====
section
/-! SUPPORT. Where the ledger leaves the unit state as it is (`State.unit`). -/
namespace Sys2Proof.Machine

/-! ### Ledger.lean -/
@[simp] theorem State.dropRecord_unit (s : State) : s.dropRecord.unit = s.unit := by
  simp [State.dropRecord, apply_ite State.unit]
@[simp] theorem State.enqueue_unit (s : State) (a : Ashlar) : (s.enqueue a).unit = s.unit := by simp [State.enqueue]
@[simp] theorem State.closeAshlar_unit (s : State) (a : Ashlar) : (s.closeAshlar a).unit = s.unit := by
  simp [State.closeAshlar]
@[simp] theorem State.closeForming_unit (s : State) : s.closeForming.unit = s.unit := by
  unfold State.closeForming
  (repeat' split) <;> simp
@[simp] theorem State.formRecord_unit (s : State) (f : Frame) : (s.formRecord f).unit = s.unit := by
  unfold State.formRecord
  dsimp only
  (repeat' split) <;> simp_all
@[simp] theorem State.format_unit (s : State) : s.format.unit = s.unit := by
  simp [State.format, foldl_unit, apply_ite State.unit]
@[simp] theorem ledgerFlushTimer_unit (s : State) : (ledgerFlushTimer s).unit = s.unit := by
  simp [ledgerFlushTimer, apply_ite State.unit]
@[simp] theorem State.markVerified_unit (s : State) (a : Ashlar) : (s.markVerified a).unit = s.unit := by
  simp [State.markVerified]
@[simp] theorem State.reform_unit (s : State) : s.reform.unit = s.unit := by simp [State.reform]
@[simp] theorem State.makeCapstone_unit (s : State) (reason : Nat) : (s.makeCapstone reason).unit = s.unit := by
  unfold State.makeCapstone
  split <;> simp
@[simp] theorem State.putOnTape_unit (s : State) : s.putOnTape.unit = s.unit := by
  unfold State.putOnTape
  (repeat' split) <;> simp
@[simp] theorem tapeStart_unit (s : State) : (tapeStart s).unit = s.unit := by
  unfold tapeStart
  (repeat' split) <;> simp [apply_ite State.unit]
@[simp] theorem State.stood_unit (s : State) (a : Ashlar) (w : Nat) (i : Nat) : (s.stood a w i).unit = s.unit := by
  simp [State.stood]
@[simp] theorem State.setTape_unit (s : State) (seq : Nat) (trailers : Nat) (sound : Bool) : (s.setTape seq trailers
    sound).unit = s.unit := by
  simp [State.setTape]
@[simp] theorem State.redoAshlar_unit (s : State) (a : Ashlar) : (s.redoAshlar a).unit = s.unit := by
  unfold State.redoAshlar
  split <;> simp
@[simp] theorem State.breakOff_unit (s : State) (a : Ashlar) (zoneEnd : Bool) : (s.breakOff a zoneEnd).unit = s.unit := by
  simp [State.breakOff]
@[simp] theorem State.abandon_unit (s : State) (a : Ashlar) (zoneEnd : Bool) : (s.abandon a zoneEnd).unit = s.unit := by
  simp [State.abandon]
@[simp] theorem blockReadback_unit (read : Option RowRead) (ch : Nat) (s : State) : (blockReadback read ch s).unit = s.unit := by
  unfold blockReadback
  (repeat' split) <;> simp [apply_ite State.unit]
@[simp] theorem ashlarWriteEnd_unit (trailers : Nat) (s : State) : (ashlarWriteEnd trailers s).unit = s.unit := by
  unfold ashlarWriteEnd
  (repeat' split) <;> simp [apply_ite State.unit]
@[simp] theorem State.beginUnload_unit (s : State) (close : Bool) : (s.beginUnload close).unit = s.unit := by
  simp [State.beginUnload]
@[simp] theorem State.capVerified_unit (s : State) (reason : Nat) : (s.capVerified reason).unit = s.unit := by
  unfold State.capVerified
  dsimp only
  (repeat' split) <;> simp_all
@[simp] theorem State.ledgerHandover_unit (s : State) : s.ledgerHandover.unit = s.unit := by
  unfold State.ledgerHandover
  split <;> simp
@[simp] theorem cartridgeInserted_unit (c : Cartridge) (s : State) : (cartridgeInserted c s).unit = s.unit := by
  simp [cartridgeInserted, apply_ite State.unit]
@[simp] theorem cartridgeRemoved_unit (s : State) : (cartridgeRemoved s).unit = s.unit := by
  simp [cartridgeRemoved, apply_ite State.unit]
@[simp] theorem ledgerLoad_unit (ln : Ln) (s : State) : (ledgerLoad ln s).unit = s.unit := by
  unfold ledgerLoad
  refine State.verb_unit _ _ _ _ fun s => ?_
  (repeat' split) <;> first | exact State.startOp_unit _ _ _ _ _ fun _ => rfl | simp
@[simp] theorem State.eject_unit (s : State) : s.eject.unit = s.unit := by simp [State.eject]
@[simp] theorem ledgerUnload_unit (ln : Ln) (close : Bool) (s : State) : (ledgerUnload ln close s).unit = s.unit := by
  unfold ledgerUnload
  exact State.verb_unit _ _ _ _ fun s => by (repeat' split) <;> simp
@[simp] theorem ledgerUnloadDone_unit (s : State) : (ledgerUnloadDone s).unit = s.unit := by
  simp [ledgerUnloadDone, apply_ite State.unit]
@[simp] theorem State.beginTape_unit (s : State) (op : LedgerOp) : (s.beginTape op).unit = s.unit := by
  simp [State.beginTape]
@[simp] theorem ledgerSeek_unit (ln : Ln) (t : SeekTarget) (s : State) : (ledgerSeek ln t s).unit = s.unit := by
  unfold ledgerSeek
  exact State.verb_unit _ _ _ _ fun s => by (repeat' split) <;> simp
@[simp] theorem ledgerSeekDone_unit (ok : Bool) (s : State) : (ledgerSeekDone ok s).unit = s.unit := by
  unfold ledgerSeekDone
  split <;> simp
@[simp] theorem ledgerVerify_unit (ln : Ln) (first : Option Nat) (last : Option Nat) (s : State) : (ledgerVerify ln first last
    s).unit = s.unit := by
  unfold ledgerVerify
  exact State.verb_unit _ _ _ _ fun s => by (repeat' split) <;> simp
@[simp] theorem ledgerVerifyDone_unit (s : State) : (ledgerVerifyDone s).unit = s.unit := by
  unfold ledgerVerifyDone
  split <;> simp
@[simp] theorem ledgerReplay_unit (ln : Ln) (serial : Nat) (count : Nat) (off : Nat) (len : Nat) (s : State) : (ledgerReplay
    ln serial count off len s).unit = s.unit := by
  unfold ledgerReplay
  exact State.verb_unit _ _ _ _ fun s => by (repeat' split) <;> simp
@[simp] theorem State.replayEnds_unit (s : State) (o : Out) : (s.replayEnds o).unit = s.unit := by simp [State.replayEnds]
@[simp] theorem State.abortTape_unit (s : State) : s.abortTape.unit = s.unit := by
  unfold State.abortTape
  (repeat' split) <;> simp [apply_ite State.unit]
@[simp] theorem ledgerAbort_unit (ln : Ln) (completion : Option Tick) (s : State) : (ledgerAbort ln completion s).unit =
    s.unit := by
  unfold ledgerAbort
  exact State.verb_unit _ _ _ _ fun s => by (repeat' split) <;> simp
@[simp] theorem State.endLedgerVerbs_unit (s : State) (o : Out) : (s.endLedgerVerbs o).unit = s.unit := by
  simp [State.endLedgerVerbs]
@[simp] theorem State.stagingError_unit (s : State) (who : Nat) : (s.stagingError who).unit = s.unit := by
  unfold State.stagingError
  (repeat' split) <;> simp
@[simp] theorem State.ledgerFault_unit (s : State) (why : Nat) : (s.ledgerFault why).unit = s.unit := by
  unfold State.ledgerFault
  split <;> simp
@[simp] theorem State.loseLedger_unit (s : State) : s.loseLedger.unit = s.unit := by
  simp [State.loseLedger, apply_ite State.unit]
@[simp] theorem ledgerLinkLoss_unit (s : State) : (ledgerLinkLoss s).unit = s.unit := by
  unfold ledgerLinkLoss
  split <;> simp
@[simp] theorem transportFault_unit (why : Nat) (s : State) : (transportFault why s).unit = s.unit := by
  unfold transportFault
  split <;> simp
@[simp] theorem transportSupplyCollapse_unit (s : State) : (transportSupplyCollapse s).unit = s.unit := by
  simp [transportSupplyCollapse, apply_ite State.unit]
@[simp] theorem State.ledgerCollapse_unit (s : State) (offSpeed : Bool) : (s.ledgerCollapse offSpeed).unit = s.unit := by
  unfold State.ledgerCollapse
  dsimp only
  (repeat' split) <;> simp_all
@[simp] theorem conditionRecord_unit (s : State) : (conditionRecord s).unit = s.unit := by
  simp [conditionRecord, apply_ite State.unit]

end Sys2Proof.Machine
end

