-- ==== Sys2Proof/Laws/UnitSet.lean ====
section
/-! SUPPORT. Where SET, bonds and banks leave the unit state as it is (`State.unit`). -/
namespace Sys2Proof.Machine

/-! ### Set.lean -/
@[simp] theorem State.limitsNow_unit (s : State) (z : Nat) : (s.limitsNow z).unit = s.unit := by simp [State.limitsNow]
@[simp] theorem State.geometryNow_unit (s : State) (n : Nat) : (s.geometryNow n).unit = s.unit := by simp [State.geometryNow]
@[simp] theorem State.atOnce_unit (s : State) (b : Bond) : (s.atOnce b).unit = s.unit := by
  unfold State.atOnce
  (repeat' split) <;> simp
@[simp] theorem State.commitBond_unit (s : State) (b : Bond) : (s.commitBond b).unit = s.unit := by simp [State.commitBond]
@[simp] theorem State.commitGeometry_unit (s : State) : s.commitGeometry.unit = s.unit :=
  foldl_unit _ (by simp) _ _
@[simp] theorem bondCommit_unit (ln : Ln) (b : BondRef) (s : State) : (bondCommit ln b s).unit = s.unit := by
  unfold bondCommit
  exact State.verb_unit _ _ _ _ fun s => by (repeat' split) <;> simp
@[simp] theorem bondDiscard_unit (ln : Ln) (b : BondRef) (s : State) : (bondDiscard ln b s).unit = s.unit := by
  unfold bondDiscard
  exact State.verb_unit _ _ _ _ fun s => by (repeat' split) <;> simp
@[simp] theorem bondShow_unit (ln : Ln) (b : Option Bond) (s : State) : (bondShow ln b s).unit = s.unit := by
  unfold bondShow
  exact State.verb_unit _ _ _ _ fun s => by (repeat' split) <;> simp
@[simp] theorem bondEffect_unit (b : Bond) (s : State) : (bondEffect b s).unit = s.unit := by
  unfold bondEffect
  (repeat' split) <;> simp
@[simp] theorem State.writePair_unit (s : State) (ses : Nat) (p : SetPair) : (s.writePair ses p).unit = s.unit := by
  unfold State.writePair
  (repeat' split) <;> simp
@[simp] theorem judgePair_unit (lv : Level) (calOnly : Bool) (s : State) (ses : Nat) (a : State × SetPlan) (i : Nat)
    (r : Option PKey × ValIn) : (judgePair lv calOnly s ses a i r).1.unit = a.1.unit := by
  unfold judgePair
  split
  · rfl
  · dsimp only
    split <;> simp
@[simp] theorem judgePairs_unit (lv : Level) (calOnly : Bool) (s : State) (ses i : Nat) (a : State × SetPlan)
    (l : List (Option PKey × ValIn)) : (judgePairs lv calOnly s ses i a l).1.unit = a.1.unit := by
  induction l generalizing i a with
  | nil => rfl
  | cons r rs ih => unfold judgePairs; rw [ih, judgePair_unit]
@[simp] theorem State.setBand_unit (t : State) (s : State) : (t.setBand s).unit = t.unit := by
  unfold State.setBand
  split <;> simp
@[simp] theorem State.setPlumb_unit (t : State) (s : State) : (t.setPlumb s).unit = t.unit := by
  simp [State.setPlumb, foldl_unit, apply_ite State.unit]
@[simp] theorem State.setAir_unit (t : State) (s : State) : (t.setAir s).unit = t.unit :=
  foldl_unit _ (by simp [apply_ite State.unit]) _ _
@[simp] theorem State.setLoops_unit (t : State) (s : State) : (t.setLoops s).unit = t.unit := by
  simp [State.setLoops, foldl_unit, apply_ite State.unit]
@[simp] theorem State.setRest_unit (t : State) (s : State) : (t.setRest s).unit = t.unit := by
  simp [State.setRest, apply_ite State.unit]
@[simp] theorem State.afterSet_unit (t : State) (s : State) : (t.afterSet s).unit = t.unit := by simp [State.afterSet]
@[simp] theorem State.corrFirst_unit (s : State) (t : State) : (s.corrFirst t).unit = s.unit :=
  foldl_unit _ (by simp [apply_ite State.unit]) _ _
@[simp] theorem State.applyLine_unit (s : State) (ses : Nat) (commit : Bool) (p : SetPlan) : (s.applyLine ses commit p).unit =
    s.unit := by
  unfold State.applyLine
  dsimp only
  rw [State.afterSet_unit]
  split
  · refine (foldl_unit _ (fun s x => ?_) _ _).trans ?_
    · (repeat' split) <;> simp
    · (repeat' split) <;> simp [foldl_unit]
  · (repeat' split) <;> simp [foldl_unit]
@[simp] theorem State.setLine_unit (s : State) (ln : Ln) (calOnly : Bool) (ps : List (PRef × Lit)) : (s.setLine ln calOnly
    ps).1.unit = s.unit := by
  unfold State.setLine
  dsimp only
  (repeat' split) <;> simp_all
@[simp] theorem setVerb_unit (ln : Ln) (ps : List (PRef × Lit)) (s : State) : (setVerb ln ps s).unit = s.unit := by
  unfold setVerb
  exact State.verb_unit _ _ _ _ fun s => by simp
@[simp] theorem calSet_unit (ln : Ln) (ps : List (PRef × Lit)) (s : State) : (calSet ln ps s).unit = s.unit := by
  unfold calSet
  exact State.verb_unit _ _ _ _ fun s => by simp
@[simp] theorem State.clearFlags_unit (s : State) (ks : List PKey) : (s.clearFlags ks).unit = s.unit :=
  foldl_unit _ (by simp [apply_ite State.unit]) _ _
@[simp] theorem getVerb_unit (ln : Ln) (ps : List PRef) (s : State) : (getVerb ln ps s).unit = s.unit := by
  unfold getVerb
  exact State.verb_unit _ _ _ _ fun s => by (repeat' split) <;> simp [apply_ite State.unit, apply_ite Prod.fst]
@[simp] theorem setRequest_unit (c : Nat) (block : List Byte) (s : State) : (setRequest c block s).unit = s.unit := by
  simp [setRequest, apply_ite State.unit]
@[simp] theorem setRequestExec_unit (c : Nat) (s : State) : (setRequestExec c s).unit = s.unit := by
  unfold setRequestExec
  (repeat' split) <;> simp [apply_ite State.unit]

/-! ### Banks.lean -/
@[simp] theorem State.beginNor_unit (s : State) (config : Bool) : (s.beginNor config).unit = s.unit := by
  unfold State.beginNor
  dsimp only
  (repeat' split) <;> simp_all
@[simp] theorem State.endNor_unit (s : State) : s.endNor.unit = s.unit := by
  simp [State.endNor, apply_ite State.unit]
@[simp] theorem State.queueNor_unit (s : State) (config : Bool) : (s.queueNor config).unit = s.unit := by
  unfold State.queueNor
  split <;> simp
@[simp] theorem configSave_unit (ln : Ln) (s : State) : (configSave ln s).unit = s.unit := by
  unfold configSave
  exact State.verb_unit _ _ _ _ fun s => by (repeat' split) <;> simp
@[simp] theorem configSaveAbort_unit (ln : Ln) (stepSix : Option Tick) (s : State) : (configSaveAbort ln stepSix s).unit =
    s.unit := by
  unfold configSaveAbort
  exact State.verb_unit _ _ _ _ fun s => by (repeat' split) <;> simp
@[simp] theorem configSaveComplete_unit (r : NorResult) (s : State) : (configSaveComplete r s).unit = s.unit := by
  unfold configSaveComplete
  (repeat' split) <;> simp
@[simp] theorem State.takeAll_unit (t : State) (s : State) : (t.takeAll s).unit = t.unit := by
  simp [State.takeAll, foldl_unit]
@[simp] theorem configLoad_unit (ln : Ln) (src : CfgSource) (s : State) : (configLoad ln src s).unit = s.unit := by
  unfold configLoad
  exact State.verb_unit _ _ _ _ fun s => by
    dsimp only
    (repeat' split) <;> simp_all
@[simp] theorem configAccept_unit (ln : Ln) (s : State) : (configAccept ln s).unit = s.unit := by
  unfold configAccept
  exact State.verb_unit _ _ _ _ fun s => by (repeat' split) <;> simp
@[simp] theorem configDiff_unit (ln : Ln) (src : Option CfgSource) (s : State) : (configDiff ln src s).unit = s.unit := by
  unfold configDiff
  exact State.verb_unit _ _ _ _ fun s => by
    dsimp only
    (repeat' split) <;> simp_all
@[simp] theorem calShow_unit (ln : Ln) (p : Option PRef) (s : State) : (calShow ln p s).unit = s.unit := by
  unfold calShow
  exact State.verb_unit _ _ _ _ fun s => by
    dsimp only
    (repeat' split) <;> simp_all
@[simp] theorem State.startCal_unit (s : State) (ln : Ln) (op : PendOp) : (s.startCal ln op).1.unit = s.unit := by
  simp [State.startCal]
@[simp] theorem calSaveVerb_unit (ln : Ln) (s : State) : (calSaveVerb ln s).unit = s.unit := by
  unfold calSaveVerb
  exact State.verb_unit _ _ _ _ fun s => by (repeat' split) <;> simp
@[simp] theorem calSaveComplete_unit (r : NorResult) (s : State) : (calSaveComplete r s).unit = s.unit := by
  unfold calSaveComplete
  (repeat' split) <;> simp
@[simp] theorem calRestoreFactory_unit (ln : Ln) (s : State) : (calRestoreFactory ln s).unit = s.unit := by
  unfold calRestoreFactory
  exact State.verb_unit _ _ _ _ fun s => by (repeat' split) <;> simp
@[simp] theorem State.spendWord_unit (s : State) (ln : Ln) : (s.spendWord ln).unit = s.unit := by simp [State.spendWord]
@[simp] theorem State.loadFactory_unit (s : State) : s.loadFactory.unit = s.unit := by simp [State.loadFactory]
@[simp] theorem calRestoreConfirm_unit (ln : Ln) (word : List Byte) (s : State) : (calRestoreConfirm ln word s).unit = s.unit
    := by
  unfold calRestoreConfirm
  exact State.verb_unit _ _ _ _ fun s => by (repeat' split) <;> simp

end Sys2Proof.Machine
end

