-- ==== Sys2Proof/Laws/UnitNet.lean ====
section
/-! SUPPORT. Where Ramalink leaves the unit state as it is (`State.unit`). -/
namespace Sys2Proof.Machine

/-! ### Peer.lean -/
@[simp] theorem State.followPeer_unit (s : State) (b : Heartbeat) : (s.followPeer b).unit = s.unit := by
  simp [State.followPeer]
@[simp] theorem heartbeatReceive_unit (b : Heartbeat) (s : State) : (heartbeatReceive b s).unit = s.unit := by
  simp [heartbeatReceive, apply_ite State.unit]
@[simp] theorem State.peerLost_unit (s : State) : s.peerLost.unit = s.unit := by
  simp [State.peerLost, apply_ite State.unit]

/-! ### Conns.lean -/
@[simp] theorem State.control_unit (s : State) (c : Nat) (f : TxFrame) : (s.control c f).unit = s.unit := by
  simp [State.control]
@[simp] theorem State.controlFirst_unit (s : State) (c : Nat) (f : TxFrame) : (s.controlFirst c f).unit = s.unit := by
  simp [State.controlFirst]
@[simp] theorem State.queueAck_unit (s : State) (c : Nat) : (s.queueAck c).unit = s.unit := by
  simp [State.queueAck, apply_ite State.unit]
@[simp] theorem State.queueNak_unit (s : State) (c : Nat) (code : Nat) (psn : U32) (expected : U32) (delay : Nat) :
    (s.queueNak c code psn expected delay).unit = s.unit := by
  simp [State.queueNak]
@[simp] theorem State.postEntry_unit (s : State) (c : Nat) (w : WorkEntry) : (s.postEntry c w).unit = s.unit := by
  simp [State.postEntry, apply_ite State.unit]
@[simp] theorem State.judgeWaits_unit (s : State) (c : Nat) :
    (s.judgeWaits c).unit = s.unit := by
  simp [State.judgeWaits]
@[simp] theorem State.updPost_unit (s : State) (g : Nat) (gsn : U32) (f : Post → Post) : (s.updPost g gsn f).unit = s.unit := by
  simp [State.updPost]
@[simp] theorem State.updTarget_unit (s : State) (g : Nat) (gsn : U32) (c : Nat) (f : Target → Target) : (s.updTarget g gsn c
    f).unit = s.unit := by
  simp [State.updTarget]
@[simp] theorem State.sendDone_unit (s : State) (g : Nat) (poster : Option Nat) (d : Done) : (s.sendDone g poster d).unit =
    s.unit := by
  unfold State.sendDone
  (repeat' split) <;> simp [apply_ite State.unit]
@[simp] theorem State.finishPost_unit (s : State) (g : Nat) (p : Post) : (s.finishPost g p).unit = s.unit := by
  simp [State.finishPost]
@[simp] theorem State.finishPosts_unit (s : State) (g : Nat) : (s.finishPosts g).unit = s.unit :=
  foldl_unit _ (by simp) _ _
@[simp] theorem State.deliver_unit (s : State) (g : Nat) (p : Post) (c : Nat) : (s.deliver g p c).unit = s.unit := by
  simp [State.deliver, apply_ite State.unit]
@[simp] theorem State.kick_unit (s : State) (g : Nat) (retry : Bool) : (s.kick g retry).unit = s.unit :=
  foldl_unit _ (by simp [apply_ite State.unit]) _ _
@[simp] theorem State.settleGroup_unit (s : State) (g : Nat) : (s.settleGroup g).unit = s.unit := by simp [State.settleGroup]
@[simp] theorem State.groupLost_unit (s : State) (c : Nat) : (s.groupLost c).unit = s.unit :=
  foldl_unit _ (by simp [apply_ite State.unit]) _ _
@[simp] theorem State.leaveOne_unit (s : State) (c : Nat) (st : ConnState) (r : Reason) (first : Option (CqStatus × Nat)) :
    (s.leaveOne c st r first).unit = s.unit := by
  unfold State.leaveOne
  dsimp only
  (repeat' split) <;> simp_all
@[simp] theorem State.settleOne_unit (s : State) (c : Nat) : (s.settleOne c).unit = s.unit := by
  unfold State.settleOne
  dsimp only
  (repeat' split) <;> simp_all
@[simp] theorem settlePasses_unit (n : Nat) (s : State) : (settlePasses n s).unit = s.unit := by
  induction n generalizing s with
  | zero => rfl
  | succ n ih => unfold settlePasses; dsimp only; split <;> simp [ih, foldl_unit]
@[simp] theorem State.settle_unit (s : State) : s.settle.unit = s.unit := by simp [State.settle]
@[simp] theorem State.leave_unit (s : State) (c : Nat) (st : ConnState) (r : Reason) (first : Option (CqStatus × Nat)) :
    (s.leave c st r first).unit = s.unit := by
  simp [State.leave]
@[simp] theorem State.connReady_unit (s : State) (c : Nat) : (s.connReady c).unit = s.unit := by
  unfold State.connReady
  dsimp only
  (repeat' split) <;> simp_all
@[simp] theorem State.takeAck_unit (s : State) (c : Nat) (a : U32) : (s.takeAck c a).unit = s.unit := by
  simp [State.takeAck, apply_ite State.unit]

/-! ### Windows.lean -/
@[simp] theorem State.writeRing_unit (s : State) (n : Nat) (off : Nat) (data : List Byte) : (s.writeRing n off data).unit =
    s.unit := by
  unfold State.writeRing
  split <;> simp
@[simp] theorem State.notice_unit (s : State) (c : Nat) (i : Nat) (a : Nat) (b : Nat) : (s.notice c i a b).unit = s.unit := by
  simp [State.notice, apply_ite State.unit]
@[simp] theorem State.openUser_unit (s : State) (i : Nat) : (s.openUser i).1.unit = s.unit := by simp [State.openUser]
@[simp] theorem windowOpen_unit (ln : Ln) (c : Nat) (off : Nat) (len : Nat) (perm : Perm) (ticket : Bool) (s : State) :
    (windowOpen ln c off len perm ticket s).unit = s.unit := by
  unfold windowOpen
  exact State.verb_unit _ _ _ _ fun s => by
    dsimp only
    (repeat' split) <;> simp_all
@[simp] theorem windowOpenFull_unit (ln : Ln) (c : Nat) (s : State) : (windowOpenFull ln c s).unit = s.unit := by
  unfold windowOpenFull
  exact State.verb_unit _ _ _ _ fun s => by (repeat' split) <;> simp
@[simp] theorem State.revokeDone_unit (s : State) (ln : Ln) (c i : Nat) (text : String) :
    (s.revokeDone ln c i text).1.unit = s.unit := by
  unfold State.revokeDone
  split <;> simp
@[simp] theorem State.revokesEnd_unit (s : State) :
    s.revokesEnd.unit = s.unit := by
  exact foldl_unit _ (fun s r => by simp) _ _
@[simp] theorem windowRevoke_unit (ln : Ln) (c : Nat) (i : Nat) (s : State) : (windowRevoke ln c i s).unit = s.unit := by
  unfold windowRevoke
  exact State.verb_unit _ _ _ _ fun s => by (repeat' split) <;> simp
@[simp] theorem windowRevokeFull_unit (ln : Ln) (c : Nat) (s : State) : (windowRevokeFull ln c s).unit = s.unit := by
  unfold windowRevokeFull
  exact State.verb_unit _ _ _ _ fun s => by (repeat' split) <;> simp

/-! ### Ramalink.lean -/
@[simp] theorem State.dropFrame_unit (s : State) (p : Nat) : (s.dropFrame p).unit = s.unit := by simp [State.dropFrame]
@[simp] theorem State.authFail_unit (s : State) (p : Nat) : (s.authFail p).unit = s.unit := by
  simp [State.authFail, apply_ite State.unit]
@[simp] theorem rlAuthFail_unit (p : Nat) (fcs : Bool) (s : State) : (rlAuthFail p fcs s).unit = s.unit := by
  simp [rlAuthFail, apply_ite State.unit]
@[simp] theorem rlStaleFrame_unit (p : Nat) (dconn : Nat) (s : State) : (rlStaleFrame p dconn s).unit = s.unit := by
  unfold rlStaleFrame
  split <;> simp
/-- What a frame can do at its connection: nothing but bookkeeping, or its body on a state that only bookkeeping has changed. -/
theorem State.arriveWith_unit_cases (s : State) (h : RlHdr) (first body : State → State) (hf : ∀ s, (first s).unit = s.unit) :
    (s.arriveWith h first body).unit = s.unit ∨ ∃ t : State, t.unit = s.unit ∧ s.arriveWith h first body = body t := by
  unfold State.arriveWith
  dsimp only
  split
  · exact .inl rfl
  · split
    · exact .inl (by simp)
    · split
      · exact .inl (by simp)
      · split
        · exact .inl (by simp [apply_ite State.unit])
        · exact .inr ⟨_, by simp [hf, apply_ite State.unit], rfl⟩
/-- The same of an arriving frame. -/
theorem State.arrive_unit_cases (s : State) (h : RlHdr) (body : State → State) :
    (s.arrive h body).unit = s.unit ∨ ∃ t : State, t.unit = s.unit ∧ s.arrive h body = body t := by
  unfold State.arrive
  split
  · exact .inl rfl
  · exact s.arriveWith_unit_cases h id body fun _ => rfl
@[simp] theorem State.arrive_unit (s : State) (h : RlHdr) (body : State → State) (hb : ∀ s, (body s).unit = s.unit) :
    (s.arrive h body).unit = s.unit := by
  obtain e | ⟨t, e, f⟩ := s.arrive_unit_cases h body
  · exact e
  · rw [f, hb, e]
/-- A frame out of its turn, or of a connection that is not READY, is bookkeeping; one in its turn is its body. -/
theorem State.inOrder_unit_cases (s : State) (h : RlHdr) (body : State → State) :
    (s.inOrder h body).unit = s.unit ∨ s.inOrder h body = body s := by
  unfold State.inOrder
  dsimp only
  split
  · exact .inl rfl
  · split
    · exact .inr rfl
    · (repeat' split) <;> exact .inl (by simp)
theorem State.sequenced_unit_cases (s : State) (h : RlHdr) (body : State → State) :
    (s.sequenced h body).unit = s.unit ∨ ∃ t : State, t.unit = s.unit ∧ s.sequenced h body = body t := by
  unfold State.sequenced
  obtain e | ⟨t, e, f⟩ := s.arrive_unit_cases h fun s => _
  · exact .inl e
  · rw [f]
    obtain g | g := t.inOrder_unit_cases h body
    · exact .inl (g.trans e)
    · exact .inr ⟨t, e, g⟩
theorem State.orderly_unit (s : State) (h : RlHdr) (first body : State → State) (hf : ∀ s, (first s).unit = s.unit)
    (hb : ∀ s, (body s).unit = s.unit) : (s.arriveWith h first fun s => s.inOrder h body).unit = s.unit := by
  obtain e | ⟨t, e, f⟩ := s.arriveWith_unit_cases h first (fun s => s.inOrder h body) hf
  · exact e
  · rw [f]
    obtain g | g := t.inOrder_unit_cases h body
    · exact g.trans e
    · rw [g, hb, e]
@[simp] theorem State.sequenced_unit (s : State) (h : RlHdr) (body : State → State) (hb : ∀ s, (body s).unit = s.unit) :
    (s.sequenced h body).unit = s.unit := by
  obtain e | ⟨t, e, f⟩ := s.sequenced_unit_cases h body
  · exact e
  · rw [f, hb, e]
@[simp] theorem State.consume_unit (s : State) (h : RlHdr) : (s.consume h).unit = s.unit := by
  simp [State.consume, apply_ite State.unit]
@[simp] theorem State.violate_unit (s : State) (h : RlHdr) (code : Nat) : (s.violate h code).unit = s.unit := by
  simp [State.violate]
@[simp] theorem State.integrity_unit (s : State) (h : RlHdr) : (s.integrity h).unit = s.unit := by simp [State.integrity]
@[simp] theorem State.beginEntry_unit (s : State) (c : Nat) (first : Bool) (off : Nat) : (s.beginEntry c first off).unit =
    s.unit := by
  simp [State.beginEntry]
@[simp] theorem State.respond_unit (s : State) (c : Nat) (fs : List TxFrame) : (s.respond c fs).unit = s.unit := by
  simp [State.respond]
@[simp] theorem State.noSession_unit (s : State) (c : Nat) : (s.noSession c).unit = s.unit := by simp [State.noSession]
@[simp] theorem State.sendText_unit (s : State) (c : Nat) (data : List Byte) : (s.sendText c data).unit = s.unit := by
  unfold State.sendText
  (repeat' split) <;> simp
@[simp] theorem rlSend_unit (h : RlHdr) (data : List Byte) (s : State) : (rlSend h data s).unit = s.unit := by
  simp [rlSend, apply_ite State.unit]
@[simp] theorem rlAck_unit (h : RlHdr) (s : State) : (rlAck h s).unit = s.unit := by
  unfold rlAck
  exact State.arrive_unit _ _ _ fun s => by (repeat' split) <;> simp
@[simp] theorem State.nakEntry_unit (s : State) (c : Nat) (psn : U32) (code : Nat) : (s.nakEntry c psn code).unit = s.unit := by
  unfold State.nakEntry
  dsimp only
  (repeat' split) <;> simp_all
@[simp] theorem State.goBack_unit (s : State) (c : Nat) : (s.goBack c).unit = s.unit := by simp [State.goBack]
@[simp] theorem State.nakRnr_unit (s : State) (c : Nat) (psn : U32) (delay : Nat) : (s.nakRnr c psn delay).unit = s.unit := by
  simp [State.nakRnr, apply_ite State.unit]
@[simp] theorem State.nakked_unit (s : State) (h : RlHdr) (data : List Byte) :
    (s.nakked h data).unit = s.unit := by
  unfold State.nakked
  (try dsimp only)
  (repeat' split) <;> simp
@[simp] theorem State.nakMarks_unit (s : State) (h : RlHdr) (data : List Byte) :
    (s.nakMarks h data).unit = s.unit := by
  unfold State.nakMarks
  (try dsimp only)
  (repeat' split) <;> simp
@[simp] theorem rlNak_unit (h : RlHdr) (data : List Byte) (s : State) : (rlNak h data s).unit = s.unit := by
  unfold rlNak
  split
  · rfl
  · obtain e | ⟨t, e, f⟩ := s.arriveWith_unit_cases h (fun s => s.nakMarks h data) (fun s => s.nakked h data) fun s => s.nakMarks_unit h data
    · exact e
    · rw [f, State.nakked_unit, e]
@[simp] theorem State.startRekey_unit (s : State) (c : Nat) : (s.startRekey c).unit = s.unit := by
  simp [State.startRekey, apply_ite State.unit]
@[simp] theorem State.askRekey_unit (s : State) (c : Nat) :
    (s.askRekey c).unit = s.unit := by
  simp [State.askRekey, apply_ite State.unit]
@[simp] theorem rlRekey_unit (h : RlHdr) (data : List Byte) (s : State) : (rlRekey h data s).unit = s.unit := by
  simp [rlRekey, apply_ite State.unit]
@[simp] theorem rlRekeyAck_unit (h : RlHdr) (data : List Byte) (s : State) : (rlRekeyAck h data s).unit = s.unit := by
  simp [rlRekeyAck, apply_ite State.unit]
@[simp] theorem rlRekeyReq_unit (h : RlHdr) (data : List Byte) (s : State) : (rlRekeyReq h data s).unit = s.unit := by
  unfold rlRekeyReq
  split <;> simp
@[simp] theorem rlDisconnect_unit (h : RlHdr) (data : List Byte) (s : State) : (rlDisconnect h data s).unit = s.unit := by
  unfold rlDisconnect
  split <;> simp
@[simp] theorem State.portFrame_unit (s : State) (p : Nat) (dest : List Byte) (op : RlOp) (dconn : Nat) (ack : U32) (payload : List Byte) :
    (s.portFrame p dest op dconn ack payload).unit = s.unit := by
  simp [State.portFrame]
@[simp] theorem State.sendRefuse_unit (s : State) (p : Nat) (dest : List Byte) (pconn : Nat) (r : RefuseReason) :
    (s.sendRefuse p dest pconn r).unit = s.unit := by
  simp [State.sendRefuse]
@[simp] theorem State.sendAccept_unit (s : State) (c : Nat) : (s.sendAccept c).unit = s.unit := by simp [State.sendAccept]
@[simp] theorem State.beginOpening_unit (s : State) (p : Nat) (c : Nat) (f : ConnectFrame) : (s.beginOpening p c f).unit =
    s.unit := by
  simp [State.beginOpening]
@[simp] theorem rlConnect_unit (p : Nat) (f : ConnectFrame) (s : State) : (rlConnect p f s).unit = s.unit := by
  unfold rlConnect
  (repeat' split) <;> simp
@[simp] theorem connectTimeout_unit (c : Nat) (s : State) : (connectTimeout c s).unit = s.unit := by
  simp [connectTimeout, apply_ite State.unit]
@[simp] theorem peerConnectRetry_unit (i : Nat) (s : State) : (peerConnectRetry i s).unit = s.unit := by
  unfold peerConnectRetry
  (repeat' split) <;> simp [apply_ite State.unit]
@[simp] theorem rlAccept_unit (p : Nat) (f : AcceptFrame) (s : State) : (rlAccept p f s).unit = s.unit := by
  unfold rlAccept
  dsimp only
  (repeat' split) <;> simp_all
@[simp] theorem rlRefuse_unit (p : Nat) (dconn : Nat) (x2 : RefuseReason) (macOk : Bool) (s : State) : (rlRefuse p dconn x2
    macOk s).unit = s.unit := by
  unfold rlRefuse
  (repeat' split) <;> simp
@[simp] theorem retransmitTimeout_unit (c : Nat) (s : State) : (retransmitTimeout c s).unit = s.unit := by
  unfold retransmitTimeout
  dsimp only
  (repeat' split) <;> simp_all
@[simp] theorem rnrResend_unit (c : Nat) (s : State) : (rnrResend c s).unit = s.unit := by
  unfold rnrResend
  (repeat' split) <;> simp
@[simp] theorem keepalive_unit (c : Nat) (s : State) : (keepalive c s).unit = s.unit := by
  unfold keepalive
  split <;> simp
@[simp] theorem connSilence_unit (c : Nat) (s : State) : (connSilence c s).unit = s.unit := by
  simp [connSilence, apply_ite State.unit]
@[simp] theorem connFlushDone_unit (c : Nat) (s : State) : (connFlushDone c s).unit = s.unit := by
  simp [connFlushDone, apply_ite State.unit]
@[simp] theorem rekeyPeriod_unit (c : Nat) (s : State) : (rekeyPeriod c s).unit = s.unit := by
  simp [rekeyPeriod, apply_ite State.unit]
@[simp] theorem oldEpochExpire_unit (c : Nat) (s : State) : (oldEpochExpire c s).unit = s.unit := by simp [oldEpochExpire]
@[simp] theorem rngHealthFail_unit (s : State) : (rngHealthFail s).unit = s.unit := by
  unfold rngHealthFail
  split <;> simp
@[simp] theorem randomSourceRecovered_unit (s : State) : (randomSourceRecovered s).unit = s.unit := by
  unfold randomSourceRecovered
  split <;> simp

/-! ### Egress.lean -/
@[simp] theorem State.countHeld_unit (s : State) (p : Nat) (stop : Nat) (l : List Offer) : (s.countHeld p stop l).unit =
    s.unit := by
  simp [State.countHeld]
@[simp] theorem State.macTakes_unit (s : State) (p : Nat) (f : TxFrame) : (s.macTakes p f).unit = s.unit := by
  simp [State.macTakes]
@[simp] theorem State.noteDelivery_unit (s : State) (c : Nat) (f : TxFrame) (w : Waits) : (s.noteDelivery c f w).unit = s.unit
    := by
  unfold State.noteDelivery
  split <;> simp
@[simp] theorem State.transmit_unit (s : State) (p : Nat) (o : Offer) : (s.transmit p o).unit = s.unit := by
  unfold State.transmit
  (repeat' split) <;> simp [apply_ite State.unit]
@[simp] theorem egressGrant_unit (p : Nat) (s : State) : (egressGrant p s).unit = s.unit := by
  unfold egressGrant
  dsimp only
  (repeat' split) <;> simp_all
@[simp] theorem workEntryPost_unit (c : Nat) (w : WorkPost) (s : State) : (workEntryPost c w s).unit = s.unit := by
  simp [workEntryPost, apply_ite State.unit]
@[simp] theorem State.reselect_unit (s : State) (p : Nat) : (s.reselect p).unit = s.unit := by
  unfold State.reselect
  split <;> simp
@[simp] theorem State.linkGone_unit (s : State) (p : Nat) : (s.linkGone p).unit = s.unit := by
  simp [State.linkGone, foldl_unit]
@[simp] theorem State.noteLoss_unit (s : State) (p : Nat) : (s.noteLoss p).unit = s.unit := by
  simp [State.noteLoss, apply_ite State.unit]
@[simp] theorem portLinkDown_unit (p : Nat) (s : State) : (portLinkDown p s).unit = s.unit := by
  unfold portLinkDown
  split <;> simp
@[simp] theorem peerLinkLoss_unit (s : State) : (peerLinkLoss s).unit = s.unit := by simp [peerLinkLoss]
@[simp] theorem portLinkUp_unit (p : Nat) (s : State) : (portLinkUp p s).unit = s.unit := by
  simp [portLinkUp, apply_ite State.unit]
@[simp] theorem sfpModuleChange_unit (p : Nat) (m : ModuleKind) (power : Int) (s : State) : (sfpModuleChange p m power s).unit
    = s.unit := by
  simp [sfpModuleChange, apply_ite State.unit]
@[simp] theorem State.closePort_unit (s : State) (p : Nat) (off : Bool) : (s.closePort p off).unit = s.unit :=
  foldl_unit _ (by simp [apply_ite State.unit]) _ _
@[simp] theorem State.portClosed_unit (s : State) (p : Nat) : (s.portClosed p).unit = s.unit := by
  simp [State.portClosed, apply_ite State.unit]
@[simp] theorem egressGuardFault_unit (p : Nat) (s : State) : (egressGuardFault p s).unit = s.unit := by
  unfold egressGuardFault
  split <;> simp
@[simp] theorem linkReset_unit (ln : Ln) (p : Nat) (s : State) : (linkReset ln p s).unit = s.unit := by
  unfold linkReset
  exact State.verb_unit _ _ _ _ fun s => by (repeat' split) <;> simp [apply_ite State.unit, apply_ite Prod.fst]
@[simp] theorem linkResetOff_unit (ln : Ln) (p : Nat) (s : State) : (linkResetOff ln p s).unit = s.unit := by
  unfold linkResetOff
  exact State.verb_unit _ _ _ _ fun s => by (repeat' split) <;> simp [apply_ite State.unit, apply_ite Prod.fst]
@[simp] theorem linkResetTimeout_unit (p : Nat) (s : State) : (linkResetTimeout p s).unit = s.unit := by
  unfold linkResetTimeout
  split <;> simp
@[simp] theorem linkShow_unit (ln : Ln) (port : Option Nat) (s : State) : (linkShow ln port s).unit = s.unit := by
  unfold linkShow
  exact State.verb_unit _ _ _ _ fun s => by (repeat' split) <;> simp

/-! ### Groups.lean -/
@[simp] theorem State.groupPost_unit (s : State) (g : Nat) (poster : Option Nat) (ppsn : U32) (msg : List Byte) : (s.groupPost
    g poster ppsn msg).1.unit = s.unit := by
  unfold State.groupPost
  split <;> simp
@[simp] theorem rlGroupPost_unit (h : RlHdr) (g : Nat) (data : List Byte) (s : State) : (rlGroupPost h g data s).unit = s.unit
    := by
  unfold rlGroupPost
  dsimp only
  split
  · rfl
  · split
    · simp
    · exact State.orderly_unit _ _ _ _ (fun _ => rfl) fun s => by (repeat' split) <;> simp
@[simp] theorem rlGroupResult_unit (h : RlHdr) (data : List Byte) (s : State) : (rlGroupResult h data s).unit = s.unit := by
  unfold rlGroupResult
  refine State.sequenced_unit _ _ _ fun s => ?_
  dsimp only
  (repeat' split) <;> simp
@[simp] theorem groupRetry_unit (g : Nat) (s : State) : (groupRetry g s).unit = s.unit := by simp [groupRetry]
@[simp] theorem State.cancelDeliveries_unit (s : State) (g : Nat) (gsn : U32) : (s.cancelDeliveries g gsn).unit = s.unit := by
  simp [State.cancelDeliveries]
@[simp] theorem groupTimeout_unit (g : Nat) (gsn : U32) (s : State) : (groupTimeout g gsn s).unit = s.unit := by
  unfold groupTimeout
  (repeat' split) <;> simp [apply_ite State.unit]
@[simp] theorem State.groupVerb_unit (s : State) (ln : Ln) (g : Nat) (fault : State → Option Nat) (body : State → VerbRes)
    (h : ∀ s, (body s).1.unit = s.unit) : (s.groupVerb ln g fault body).unit = s.unit := by
  unfold State.groupVerb
  exact State.verb_unit _ _ _ _ fun s => by (repeat' split) <;> simp [h]
@[simp] theorem groupMode_unit (ln : Ln) (g : Nat) (m : GroupMode) (s : State) : (groupMode ln g m s).unit = s.unit := by
  unfold groupMode
  exact State.groupVerb_unit _ _ _ _ _ fun s => by
    dsimp only
    (repeat' split) <;> simp
@[simp] theorem State.setMember_unit (s : State) (g : Nat) (m : Member) (on : Bool) : (s.setMember g m on).unit = s.unit := by
  unfold State.setMember
  split <;> simp
@[simp] theorem groupAdd_unit (ln : Ln) (g : Nat) (m : Member) (s : State) : (groupAdd ln g m s).unit = s.unit := by
  exact State.groupVerb_unit _ _ _ _ _ fun s => by simp
@[simp] theorem groupRemove_unit (ln : Ln) (g : Nat) (m : Member) (s : State) : (groupRemove ln g m s).unit = s.unit := by
  exact State.groupVerb_unit _ _ _ _ _ fun s => by simp
@[simp] theorem groupPostPorts_unit (ln : Ln) (g : Nat) (ports : List Nat) (s : State) : (groupPostPorts ln g ports s).unit =
    s.unit := by
  exact State.groupVerb_unit _ _ _ _ _ fun s => by simp
@[simp] theorem groupTimeoutSet_unit (ln : Ln) (g : Nat) (ms : Lit) (s : State) : (groupTimeoutSet ln g ms s).unit = s.unit := by
  exact State.groupVerb_unit _ _ _ _ _ fun s => by simp
@[simp] theorem groupClass_unit (ln : Ln) (g : Nat) (ticket : Bool) (s : State) : (groupClass ln g ticket s).unit = s.unit := by
  exact State.groupVerb_unit _ _ _ _ _ fun s => by simp
@[simp] theorem groupSend_unit (ln : Ln) (g : Nat) (msg : List Byte) (s : State) : (groupSend ln g msg s).unit = s.unit := by
  unfold groupSend
  exact State.verb_unit _ _ _ _ fun s => by
    dsimp only
    (repeat' split) <;> simp_all

end Sys2Proof.Machine
end

