-- ==== Sys2Proof/Laws/UnitPair.lean ====
section
/-! SUPPORT. Where the crown, waking, collapse and the tick leave the unit state as it is (`State.unit`). -/
namespace Sys2Proof.Machine

/-! ### Mirror.lean -/
@[simp] theorem heartbeatSend_unit (s : State) : (heartbeatSend s).unit = s.unit := by
  unfold heartbeatSend
  dsimp only
  (repeat' split) <;> simp_all
@[simp] theorem State.cutEpoch_unit (s : State) (kind : Nat) : (s.cutEpoch kind).unit = s.unit := by
  unfold State.cutEpoch
  split <;> simp
@[simp] theorem epochCut_unit (s : State) : (epochCut s).unit = s.unit := by
  unfold epochCut
  split <;> simp
@[simp] theorem State.shadowFrom_unit (s : State) (line : Line) (edge : Tick) (phase : BitVec 48) (period : U32) :
    (s.shadowFrom line edge phase period).unit = s.unit := by
  simp [State.shadowFrom]
@[simp] theorem State.takeAverages_unit (s : State) (u : MirUnit) :
    (s.takeAverages u).unit = s.unit := by
  unfold State.takeAverages
  (try dsimp only)
  (repeat' split) <;> simp
@[simp] theorem State.retable_unit (s : State) (ids : List Nat) :
    (s.retable ids).unit = s.unit := by
  unfold State.retable
  exact foldl_unit _ (fun s i => by dsimp only; split <;> simp) _ _
@[simp] theorem State.followEpoch_unit (s : State) (e : Epoch) : (s.followEpoch e).unit = s.unit := by
  unfold State.followEpoch
  (repeat' split) <;> simp_all [foldl_unit, apply_ite State.unit]
@[simp] theorem State.discardEpoch_unit (s : State) : s.discardEpoch.unit = s.unit := by
  unfold State.discardEpoch
  split <;> simp
@[simp] theorem State.applyEpoch_unit (s : State) (e : Epoch) : (s.applyEpoch e).unit = s.unit := by
  simp [State.applyEpoch, apply_ite State.unit]

/-! ### Crown.lean -/
@[simp] theorem crownResend_unit (n : Nat) (s : State) : (crownResend n s).unit = s.unit := by
  simp [crownResend, apply_ite State.unit]
@[simp] theorem State.alignPair_unit (s : State) : s.alignPair.unit = s.unit := by
  unfold State.alignPair
  split <;> simp
@[simp] theorem State.dropLedger_unit (s : State) : s.dropLedger.unit = s.unit := by
  unfold State.dropLedger
  (repeat' split) <;> simp
@[simp] theorem State.ownGenSeen_unit (s : State) (n : Nat) : (s.ownGenSeen n).unit = s.unit := by simp [State.ownGenSeen]
@[simp] theorem lineSyncRelease_unit (s : State) : (lineSyncRelease s).unit = s.unit := by
  unfold lineSyncRelease
  split <;> simp
@[simp] theorem State.takeUnit_unit (s : State) (u : MirUnit) : (s.takeUnit u).unit = s.unit := by simp [State.takeUnit]
@[simp] theorem State.takeLine_unit (s : State) (u : UnitState) : (s.takeLine u).unit = s.unit := by simp [State.takeLine]
@[simp] theorem State.takeTickets_unit (s : State) (handover : Bool) : (s.takeTickets handover).unit = s.unit := by
  unfold State.takeTickets
  exact foldl_unit _ (fun s x => by (repeat' split) <;> simp) _ _
@[simp] theorem State.endLost_unit (s : State) (handover : Bool) : (s.endLost handover).unit = s.unit :=
  foldl_unit _ (by simp [apply_ite State.unit]) _ _
@[simp] theorem State.resendPlans_unit (committed : List Nat) (handover : Bool) (s : State) (n : Nat) : (State.resendPlans
    committed handover s n).unit = s.unit := by
  unfold State.resendPlans
  dsimp only
  (repeat' split) <;> simp_all [foldl_unit_fst]
@[simp] theorem State.openRings_unit (s : State) : s.openRings.unit = s.unit := by simp [State.openRings]
@[simp] theorem State.crownNotWritten_unit (s : State) : s.crownNotWritten.unit = s.unit := by simp [State.crownNotWritten]
@[simp] theorem State.noticeTaken_unit (s : State) (e : Epoch) :
    (s.noticeTaken e).unit = s.unit := by
  unfold State.noticeTaken
  (try dsimp only)
  (repeat' split) <;> simp
@[simp] theorem crownShow_unit (ln : Ln) (s : State) : (crownShow ln s).unit = s.unit := by
  unfold crownShow
  exact State.verb_unit _ _ _ _ fun s => by simp
@[simp] theorem crownYield_unit (ln : Ln) (s : State) : (crownYield ln s).unit = s.unit := by
  unfold crownYield
  refine State.verb_unit _ _ _ _ fun s => ?_
  (repeat' split) <;> first | exact State.startOp_unit _ _ _ _ _ fun _ => rfl | simp
@[simp] theorem yieldAtCut_unit (s : State) : (yieldAtCut s).unit = s.unit := by
  simp [yieldAtCut, foldl_unit, apply_ite State.unit]
@[simp] theorem yieldTimeout_unit (s : State) : (yieldTimeout s).unit = s.unit := by
  unfold yieldTimeout
  (repeat' split) <;> simp
@[simp] theorem fieldRxCrown_unit (d : Dn) (gen : U32) (handover : Bool) (s : State) : (fieldRxCrown d gen handover s).unit =
    s.unit := by
  simp [fieldRxCrown]
@[simp] theorem transportRxCrown_unit (d : Dn) (gen : U32) (handover : Bool) (s : State) : (transportRxCrown d gen handover
    s).unit = s.unit := by
  simp [transportRxCrown]
@[simp] theorem fieldCrownSilence_unit (s : State) : (fieldCrownSilence s).unit = s.unit := by
  unfold fieldCrownSilence
  split <;> simp
@[simp] theorem transportCrownSilence_unit (s : State) : (transportCrownSilence s).unit = s.unit := by
  unfold transportCrownSilence
  split <;> simp

/-! ### Wake.lean -/
@[simp] theorem State.drawKeys_unit (s : State) : s.drawKeys.unit = s.unit :=
  foldl_unit _ (by simp) _ _
@[simp] theorem State.acceptBank_unit (s : State) (k : BankId) (generation : U32) : (s.acceptBank k generation).unit = s.unit
    := by
  simp [State.acceptBank]
@[simp] theorem State.chooseConfig_unit (s : State) : s.chooseConfig.unit = s.unit := by
  unfold State.chooseConfig
  dsimp only
  (repeat' split) <;> simp_all
@[simp] theorem State.calFallback_unit (s : State) : s.calFallback.unit = s.unit := by
  unfold State.calFallback
  split <;> simp
@[simp] theorem State.chooseCal_unit (s : State) : s.chooseCal.unit = s.unit := by
  unfold State.chooseCal
  dsimp only
  (repeat' split) <;> simp_all
@[simp] theorem State.settleLoops_unit (s : State) : s.settleLoops.unit = s.unit :=
  foldl_unit _ (by simp) _ _
@[simp] theorem State.settleStart_unit (s : State) : s.settleStart.unit = s.unit := by simp [State.settleStart]
@[simp] theorem State.settle0_unit (s : State) : s.settle0.unit = s.unit := by
  simp [State.settle0, foldl_unit]
@[simp] theorem State.endUnload_unit (s : State) : s.endUnload.unit = s.unit := by
  unfold State.endUnload
  split <;> simp
@[simp] theorem State.testKeys_unit (s : State) (lid : Bool) : (s.testKeys lid).unit = s.unit := by
  unfold State.testKeys
  (repeat' split) <;> simp
@[simp] theorem State.collapseSaves_unit (s : State) (stepSix : Bool) : (s.collapseSaves stepSix).unit = s.unit := by
  simp [State.collapseSaves, apply_ite State.unit]
@[simp] theorem State.collapseTape_unit (s : State) (unthreading : Bool) : (s.collapseTape unthreading).unit = s.unit := by
  simp [State.collapseTape, apply_ite State.unit]
@[simp] theorem State.collapseRekeys_unit (s : State) : s.collapseRekeys.unit = s.unit :=
  foldl_unit _ (by simp [apply_ite State.unit]) _ _
@[simp] theorem State.collapseSweeps_unit (s : State) : s.collapseSweeps.unit = s.unit := by
  simp [State.collapseSweeps, apply_ite State.unit]
@[simp] theorem State.endConsole_unit (s : State) : s.endConsole.unit = s.unit := by simp [State.endConsole]
@[simp] theorem State.takeRaised_unit (s : State) : s.takeRaised.unit = s.unit :=
  foldl_unit _ (by simp) _ _
@[simp] theorem State.sealMram_unit (s : State) : s.sealMram.unit = s.unit := by simp [State.sealMram]
@[simp] theorem State.finishSaves_unit (s : State) :
    s.finishSaves.unit = s.unit := by
  unfold State.finishSaves
  (try dsimp only)
  (repeat' split) <;> simp

/-! ### Show.lean -/
@[simp] theorem showVerb_unit (ln : Ln) (subj : ShowSubj) (s : State) : (showVerb ln subj s).unit = s.unit := by
  unfold showVerb
  exact State.verb_unit _ _ _ _ fun s => by (repeat' split) <;> simp
@[simp] theorem help_unit (ln : Ln) (topic : HelpTopic) (s : State) : (help ln topic s).unit = s.unit := by
  unfold help
  exact State.verb_unit _ _ _ _ fun s => by (repeat' split) <;> simp

/-! ### Advance.lean -/
@[simp] theorem State.tickBegins_unit (s : State) : s.tickBegins.unit = s.unit := rfl
@[simp] theorem State.refill_unit (s : State) : s.refill.unit = s.unit := by simp [State.refill]
@[simp] theorem State.phaseStep_unit (s : State) : s.phaseStep.unit = s.unit := by
  unfold State.phaseStep
  split <;> simp
@[simp] theorem State.geometrySettles_unit (s : State) : s.geometrySettles.unit = s.unit :=
  foldl_unit _ (by simp [apply_ite State.unit]) _ _
@[simp] theorem State.cycleStarts_unit (s : State) : s.cycleStarts.unit = s.unit := by
  unfold State.cycleStarts
  split <;> simp
@[simp] theorem State.portsSettle_unit (s : State) : s.portsSettle.unit = s.unit := by
  unfold State.portsSettle
  refine foldl_unit _ (fun s x => ?_) _ _
  dsimp only
  (repeat' split) <;> simp
@[simp] theorem State.trimStep_unit (s : State) : s.trimStep.unit = s.unit := by
  unfold State.trimStep
  split <;> simp
@[simp] theorem State.count_unit (s : State) : s.count.unit = s.unit := by simp [State.count]
@[simp] theorem State.sendText1_unit (s : State) (x : Session) :
    (s.sendText1 x).unit = s.unit := by
  unfold State.sendText1
  (try dsimp only)
  (repeat' split) <;> simp
@[simp] theorem State.repliesLeave_unit (s : State) :
    s.repliesLeave.unit = s.unit := by
  exact foldl_unit _ (by simp) _ _
@[simp] theorem State.countLive_unit (s : State) :
    s.countLive.unit = s.unit := by
  unfold State.countLive
  (try dsimp only)
  (repeat' split) <;> simp

end Sys2Proof.Machine
end

