-- ==== Sys2Proof/Laws/Update.lean ====
section
/-! SUPPORT. An update of one part depends on its function at that part alone. -/
namespace Sys2Proof.Machine

theorem updAt_congr {α : Type} (d : α) {i : Nat} {f g : α → α} {l : List α} (h : f (l.getD i d) = g (l.getD i d)) :
    updAt i f l = updAt i g l := by
  unfold updAt
  apply List.ext_getElem
  · simp
  · intro j h1 h2
    have hj : j < l.length := by simpa using h1
    rw [List.getElem_modify, List.getElem_modify]
    split
    · subst_vars
      rwa [List.getD_eq_getElem?_getD, List.getElem?_eq_getElem hj, Option.getD_some] at h
    · rfl
theorem State.updDev_congr {s : State} {n : Nat} {f g : CourseDev → CourseDev} (h : f (s.dev n) = g (s.dev n)) :
    s.updDev n f = s.updDev n g := by
  unfold State.updDev
  rw [updAt_congr {} h]
theorem State.updConn_congr {s : State} {n : Nat} {f g : Conn → Conn} (h : f (s.conn n) = g (s.conn n)) :
    s.updConn n f = s.updConn n g := by
  unfold State.updConn
  rw [updAt_congr {} h]
theorem State.updLoop_congr {s : State} {n : Nat} {f g : Loop → Loop} (h : f (s.loop n) = g (s.loop n)) :
    s.updLoop n f = s.updLoop n g := by
  unfold State.updLoop
  rw [updAt_congr {} h]
theorem State.updFan_congr {s : State} {n : Nat} {f g : Fan → Fan} (h : f (s.fan n) = g (s.fan n)) :
    s.updFan n f = s.updFan n g := by
  unfold State.updFan
  rw [updAt_congr {} h]
/-- What an update leaves of the part it changes. -/
theorem updAt_getD {α : Type} (d : α) (i : Nat) (f : α → α) (l : List α) (h : i < l.length) :
    (updAt i f l).getD i d = f (l.getD i d) := by
  simp [updAt, List.getD_eq_getElem?_getD, h]
/-- An update leaves every other part. -/
theorem updAt_getD_ne {α : Type} (d : α) (i j : Nat) (f : α → α) (l : List α) (h : i ≠ j) :
    (updAt i f l).getD j d = l.getD j d := by
  unfold updAt
  rw [List.getD_eq_getElem?_getD, List.getD_eq_getElem?_getD, List.getElem?_modify]
  simp [h]
/-- Two updates of one part in turn are one. -/
theorem updAt_comp {α : Type} (i : Nat) (f g : α → α) (l : List α) : updAt i g (updAt i f l) = updAt i (fun x => g (f x)) l := by
  unfold updAt
  rw [List.modify_modify_eq]
  rfl
theorem State.updConn_comp (s : State) (n : Nat) (f g : Conn → Conn) :
    (s.updConn n f).updConn n g = s.updConn n fun x => g (f x) := by
  simp only [State.updConn, updAt_comp]

end Sys2Proof.Machine
end

