-- ==== Sys2Proof/Laws/Verb.lean ====
section
/-! SUPPORT. What a Fjart verb does when its line is taken. -/
namespace Sys2Proof.Machine

/-- A line that is taken runs its verb's body, and the body's answer goes out. -/
theorem State.verb_runs {s : State} {ln : Ln} {need : Level} (h : s.Runs ln need) (body : State → VerbRes) :
    s.verb ln need body = ((body (s.lineTaken ln)).2.elim (body (s.lineTaken ln)).1 fun o =>
      (body (s.lineTaken ln)).1.answer ln o).prompt ln.ses := by
  obtain ⟨hf, hh, hl⟩ := h
  have hg : (ln != s.header ln.ses ln.text) = false := by simpa using hh
  unfold State.verb
  simp only [hf, hg, hl, Bool.false_eq_true, if_false]
  cases (body (s.lineTaken ln)).2 <;> rfl
/-- A verb that answers. -/
theorem State.verb_replied {s t : State} {ln : Ln} {need : Level} {body : State → VerbRes} {o : Out} (h : s.Runs ln need)
    (e : body (s.lineTaken ln) = (t, some o)) : s.verb ln need body = t.replied ln o := by
  rw [State.verb_runs h, e]; rfl
/-- A verb that puts its operation pending. -/
theorem State.verb_started {s t : State} {ln : Ln} {need : Level} {body : State → VerbRes} (h : s.Runs ln need)
    (e : body (s.lineTaken ln) = (t, none)) : s.verb ln need body = t.prompt ln.ses := by
  rw [State.verb_runs h, e]; rfl
/-- A verb that starts an operation; the session has room for another (R66). -/
theorem State.verb_starts {s : State} {ln : Ln} {need : Level} {body : State → VerbRes} {op : PendOp} {text : String}
    {f : State → State} (h : s.Runs ln need) (hp : (s.lineTaken ln).pendFull ln = false)
    (e : body (s.lineTaken ln) = (s.lineTaken ln).startOp ln op text f) :
    s.verb ln need body = (s.lineTaken ln).started ln op text f :=
  State.verb_started h (by rw [e, State.startOp, hp]; rfl)

end Sys2Proof.Machine
end

