-- ==== Sys2Proof/WellFormed.lean ====
section
/-! DEFINITION. What a well-formed command is: every part it names by number is one that a KY-620 line can have. The meanings are
total: a verb that names a part the line does not have is answered 401, and any other such command changes nothing. -/
namespace Sys2Proof

/-- A session: 0 is CONSOLE, 1–8 are text queues (R38). -/
def okSession (i : Nat) : Bool := i ≤ 8
/-- An executed line: its session, and a tag of four digits where it has one (R38, R56). -/
def okLn (l : Ln) : Bool := okSession l.ses && l.tag.elim true (· < 10000)
/-- Numbers from 1 to 8: courses, chutes, manifolds, fans (Table 1.1). -/
def okEight (n : Nat) : Bool := 1 ≤ n && n ≤ 8
/-- Ports 1–7 (Table 8.16). -/
def okPort (p : Nat) : Bool := 1 ≤ p && p ≤ 7
/-- Keystone connections 0–63 (R299). -/
def okConn (c : Nat) : Bool := c < 64
/-- Ticket sources 1–16 (R167). -/
def okSource (n : Nat) : Bool := 1 ≤ n && n ≤ 16
/-- Groups 0–15 (R321). -/
def okGroup (g : Nat) : Bool := g < 16
/-- A member of a group. -/
def okMember : Member → Bool
  | .port p => okPort p
  | .conn c => okConn c
/-- Probe rings 1 and 2, and positions 1–48 (R386, R388). -/
def okRing (r : Nat) : Bool := 1 ≤ r && r ≤ 2
def okPos (p : Nat) : Bool := 1 ≤ p && p ≤ 48
/-- Zones 1–5 and loops 0–15 (R335). -/
def okZone (z : Nat) : Bool := 1 ≤ z && z ≤ 5
def okLoop (n : Nat) : Bool := n < 16
/-- Regions 1–6 with a key slot (Table 14.1). -/
def okKeySlot (s : Nat) : Bool := 1 ≤ s && s ≤ 6
/-- Plan slots 0–511 and their banks of 128 (Table 7.6). -/
def okPlanSlot (s : Nat) : Bool := s < 512
def okBank (b : Nat) : Bool := b < 4
/-- Valve channels 0–63 and boost phases 0–5 of a course (R232, R245). -/
def okChannel (c : Nat) : Bool := c < 64
def okPhase (p : Nat) : Bool := p < 6
/-- Digital outputs 1–16, analogue outputs 1–8 (R370). -/
def okOutput (dig : Bool) (n : Nat) : Bool := 1 ≤ n && n ≤ (if dig then 16 else 8)
/-- Tape channels 0–15 (R396) and trailers of an ashlar (R445). -/
def okTape (c : Nat) : Bool := c < 16
def okRead (x : RowRead) : Bool := x.partA.elim true (·.length = 132) && x.partB.elim true (·.length = 132)
def okTrailers (n : Nat) : Bool := n ≤ 16
/-- Cooling fans 1–3 (R539). -/
def okCooling (i : Nat) : Bool := 1 ≤ i && i ≤ 3
/-- Servo, tension or head fault (R457). -/
def okWhy (n : Nat) : Bool := 1 ≤ n && n ≤ 3
/-- A step of Table 4.4. -/
def okStage (n : Nat) : Bool := 1 ≤ n && n ≤ 9
/-- A device's header: course 1–8, or 0 for the field bank and the transport; uplink A or B. -/
def okDn (d : Dn) : Bool := d.course ≤ 8 && d.up ≤ 1
/-- An uplink frame's header. -/
def okUp (u : UpHdr) : Bool := okEight u.course
/-- A course-protocol link. -/
def okLink : LinkId → Bool
  | .course n => okEight n
  | .field => true
  | .ledger => true
/-- A link of Table 1.6. -/
def okLoss : LossLink → Bool
  | .port p => okPort p
  | .course n => okEight n
  | .probeRing r => okRing r
  | .field => true
  | .ledger => true
/-- A Ramalink header. -/
def okHdr (h : RlHdr) : Bool := okPort h.port && okConn h.conn
/-- A bond (Table 3.8, R435). -/
def okBond : Bond → Bool
  | .geometry n => okEight n
  | .tach n => okEight n
  | .limits z => okZone z
  | .sync => true
  | .lot => true
/-- What BOND COMMIT and BOND DISCARD name. -/
def okBondRef : BondRef → Bool
  | .one b => okBond b
  | .geometry => true
  | .all => true
/-- What SHOW names. -/
def okSubj : ShowSubj → Bool
  | .ring n => okSource n
  | .plumb n => okEight n
  | .course n => okEight n
  | .air n => okEight n
  | .fan n => okEight n
  | .conn c => okConn c
  | .windows c => c.elim true okConn
  | .group g => okGroup g
  | .loop n => okLoop n
  | .time => true
  | .partners => true
  | .state => true
  | .tickets => true
  | .conns => true
  | .dryer => true
  | .io => true
  | .cartridge => true
  | .ledger => true
  | .hardware => true
  | .subtree _ => true

/-- An executed line's operands are what its text spells, in the mode that its tag tells (R46, R56). -/
def okText (i : Instr) : Bool :=
  match Machine.lineOf i with
  | some (ln, _) => Machine.spells (if ln.tag.isNone then .typed else .gen) i
  | none => true
/-- The parts that a command names by number are parts of the line. -/
def okParts : Instr → Bool
  | .powerUp _ => true
  | .wakingEnd _ => true
  | .wakingTimeout stage => okStage stage
  | .journalReplay _ => true
  | .lineSyncEdge => true
  | .timePageUpdate => true
  | .clockLockLoss => true
  | .portLinkLoss l => okLoss l
  | .consoleChar _ _ => true
  | .consoleBreak => true
  | .fjartLineRefused ses _ => okSession ses
  | .tagRepeat ses _ => okSession ses
  | .unsolicitedLineSend ses => okSession ses
  | .suppressionLine ses => okSession ses
  | .consoleIdleLogout => true
  | .loginLockoutEnd ses => okSession ses
  | .get ln _ => okLn ln
  | .set ln _ => okLn ln
  | .showCmd ln subj => okLn ln && okSubj subj
  | .help ln _ => okLn ln
  | .mode ln _ => okLn ln
  | .modeEvents ln _ => okLn ln
  | .login ln _ _ => okLn ln
  | .loginResponse ln _ => okLn ln
  | .logout ln => okLn ln
  | .bondCommit ln b => okLn ln && okBondRef b
  | .bondDiscard ln b => okLn ln && okBondRef b
  | .bondShow ln b => okLn ln && b.elim true okBond
  | .bondEffect b => okBond b
  | .configSave ln => okLn ln
  | .configSaveAbort ln _ => okLn ln
  | .configSaveComplete _ => true
  | .configLoad ln _ => okLn ln
  | .configAccept ln => okLn ln
  | .configDiff ln _ => okLn ln
  | .calShow ln _ => okLn ln
  | .calSet ln _ => okLn ln
  | .calSave ln => okLn ln
  | .calSaveComplete _ => true
  | .calRestoreFactory ln => okLn ln
  | .calRestoreConfirm ln _ => okLn ln
  | .setRequest conn _ => okConn conn
  | .setRequestExec conn => okConn conn
  | .stateReady ln => okLn ln
  | .stateRun ln => okLn ln
  | .stateDrain ln => okLn ln
  | .stateHold ln => okLn ln
  | .bringupComplete => true
  | .bringupStepTimeout => true
  | .shutdownComplete => true
  | .shutdownStepTimeout => true
  | .drainComplete => true
  | .drainLimit => true
  | .supplyBelowCollapse _ => true
  | .supplyDipEnd _ _ => true
  | .supplyLow _ => true
  | .collapseDeclared _ _ _ => true
  | .collapseSequenceEnd => true
  | .holdupMeasure _ => true
  | .ticketProdWrite src _ => okSource src
  | .ticketProv src => okSource src
  | .ticketFirm src => okSource src
  | .ticketConf src => okSource src
  | .ticketCancel src => okSource src
  | .commitTick course => okEight course
  | .completionCconsWrite src _ => okSource src
  | .ticketForget => true
  | .tallyRead => true
  | .recipeReport src => okSource src
  | .moistureUpdate => true
  | .outletAvgMissing => true
  | .courseLearn ln n src => okLn ln && okEight n && okSource src
  | .courseLearnStop ln n => okLn ln && okEight n
  | .learnResultRead n _ => okEight n
  | .learnLimit n => okEight n
  | .courseEnable ln n => okLn ln && okEight n
  | .courseEnableComplete n => okEight n
  | .courseDisable ln n => okLn ln && okEight n
  | .courseDisableAbort ln n => okLn ln && okEight n
  | .courseDrainComplete n => okEight n
  | .courseTest ln n ch _ _ _ => okLn ln && okEight n && okChannel ch
  | .courseTestComplete n => okEight n
  | .linkTrain l => okLink l
  | .linkLaneDown l => okLink l
  | .courseSyncSend l => okLink l
  | .planSend n => okEight n
  | .commitResend n => okEight n
  | .courseDownlinkResend l => okLink l
  | .courseStatus up _ => okUp up
  | .courseEnd up _ => okUp up
  | .courseAck l _ => okLink l
  | .courseReadback l _ _ => okLink l
  | .courseEchoReply l _ _ => okLink l
  | .courseRxSync d _ => okDn d
  | .courseRxConfig d _ _ => okDn d
  | .courseRxQuery d _ _ => okDn d
  | .courseRxEcho d _ _ _ => okDn d
  | .courseRxEnable d => okDn d
  | .courseRxDrain d _ => okDn d
  | .courseRxPlan d _ => okDn d
  | .courseRxConfirm d bank _ => okDn d && okBank bank
  | .courseRxCommit d bank _ => okDn d && okBank bank
  | .courseRxDrop d bank _ => okDn d && okBank bank
  | .courseRxExtend d slot _ => okDn d && okPlanSlot slot
  | .courseRxCrown d _ _ _ => okDn d
  | .courseRxIdle d => okDn d
  | .courseStatusSend n => okEight n
  | .coursePrimeStart n ch => okEight n && okChannel ch
  | .coursePeakStart n ch _ => okEight n && okChannel ch
  | .coursePeakEnd n ch _ => okEight n && okChannel ch
  | .courseReleaseStart n ch => okEight n && okChannel ch
  | .boostPhaseFault n phase _ => okEight n && okPhase phase
  | .boostOvervoltage n => okEight n
  | .courseFieldSupplyLow n _ => okEight n
  | .courseFieldSupplyLoss n _ => okEight n
  | .courseUplinkSilence n => okEight n
  | .courseOrphanDrain n => okEight n
  | .courseLinkLoss n => okEight n
  | .airPressureSample m => okEight m
  | .airQuietWindow m => okEight m
  | .airHoldRelease m => okEight m
  | .rlConnect port _ => okPort port
  | .connectTimeout conn => okConn conn
  | .rlWrite h _ => okHdr h
  | .rlWriteWithNotice h _ => okHdr h
  | .rlReadReq h _ => okHdr h
  | .rlReadResp h _ => okHdr h
  | .rlSend h _ => okHdr h
  | .rlAtomicAdd h _ => okHdr h
  | .rlAtomicResp h _ => okHdr h
  | .rlAck h => okHdr h
  | .rlNak h _ => okHdr h
  | .rlRekey h _ => okHdr h
  | .rlRekeyAck h _ => okHdr h
  | .rlRekeyReq h _ => okHdr h
  | .rlDisconnect h _ => okHdr h
  | .rlAuthFail port _ => okPort port
  | .rlStaleFrame port _ => okPort port
  | .retransmitTimeout conn => okConn conn
  | .rnrResend conn => okConn conn
  | .keepalive conn => okConn conn
  | .connSilence conn => okConn conn
  | .portLinkDown port => okPort port
  | .portLinkUp port => okPort port
  | .connFlushDone conn => okConn conn
  | .rekeyPeriod conn => okConn conn
  | .oldEpochExpire conn => okConn conn
  | .egressGrant port => okPort port
  | .egressGuardFault port => okPort port
  | .workEntryPost conn _ => okConn conn
  | .sfpModuleChange port _ _ => okPort port
  | .rngHealthFail => true
  | .windowOpen ln conn _ _ _ _ => okLn ln && okConn conn
  | .windowOpenFull ln conn => okLn ln && okConn conn
  | .windowRevoke ln conn _ => okLn ln && okConn conn
  | .windowRevokeFull ln conn => okLn ln && okConn conn
  | .rlGroupPost h g _ => okHdr h && okGroup g
  | .rlGroupResult h _ => okHdr h
  | .groupRetry g => okGroup g
  | .groupTimeout g _ => okGroup g
  | .groupMode ln g _ => okLn ln && okGroup g
  | .groupAdd ln g m => okLn ln && okGroup g && okMember m
  | .groupRemove ln g m => okLn ln && okGroup g && okMember m
  | .groupPostPorts ln g _ => okLn ln && okGroup g
  | .groupTimeoutSet ln g _ => okLn ln && okGroup g
  | .groupClass ln g _ => okLn ln && okGroup g
  | .groupSend ln g _ => okLn ln && okGroup g
  | .linkShow ln port => okLn ln && port.elim true okPort
  | .linkReset ln port => okLn ln && okPort port
  | .linkResetOff ln port => okLn ln && okPort port
  | .linkResetTimeout port => okPort port
  | .loopSample n => okLoop n
  | .crackUpdate => true
  | .loopInputBadTime n => okLoop n
  | .zonePurgeEnd z => okZone z
  | .batchStepLimit => true
  | .loopMode ln n _ _ => okLn ln && okLoop n
  | .loopOff ln n => okLn ln && okLoop n
  | .loopOffRampDone n => okLoop n
  | .loopFlags ln n => okLn ln && okLoop n
  | .loopBatchStart ln => okLn ln
  | .loopBatchNext ln => okLn ln
  | .loopBatchHold ln => okLn ln
  | .loopBatchResume ln => okLn ln
  | .loopBatchAbort ln => okLn ln
  | .fieldCycle _ => true
  | .diSample _ => true
  | .readbackMismatch dig ch => okOutput dig ch
  | .doCurrentLimit ch => okOutput true ch
  | .fieldFaultBit _ => true
  | .fieldLinkLoss => true
  | .fieldPhantomLimit => true
  | .fieldPhantomRetry => true
  | .tachEdge n _ => okEight n
  | .fanStart ln n _ => okLn ln && okEight n
  | .fanStartWindowEnd n => okEight n
  | .fanRetryWaitEnd n => okEight n
  | .fanStop ln n => okLn ln && okEight n
  | .fanCoastTimeout n => okEight n
  | .fanReset ln n => okLn ln && okEight n
  | .probeSweepStart r => okRing r
  | .probeMeasureWaitEnd r => okRing r
  | .probeSlotEnd r => okRing r
  | .probeReply r _ => okRing r
  | .probeRunStop ln r => okLn ln && okRing r
  | .probeNodeRead r pos _ _ => okRing r && okPos pos
  | .probeNodeMeasure r pos _ _ => okRing r && okPos pos
  | .probeNodeReplyForward r pos _ _ => okRing r && okPos pos
  | .probeConversionDone r pos _ => okRing r && okPos pos
  | .recordJournal => true
  | .stagingPage => true
  | .ledgerFlushTimer => true
  | .tapeStart => true
  | .ashlarWriteEnd trailers => okTrailers trailers
  | .blockReadback read ch => okTape ch && read.elim true okRead
  | .ashlarVerified trailers _ => okTrailers trailers
  | .lotChangeEffect => true
  | .cartridgeInserted _ => true
  | .ledgerLoad ln => okLn ln
  | .ledgerLoadDone _ _ => true
  | .ledgerUnload ln _ => okLn ln
  | .ledgerUnloadDone => true
  | .ledgerSeek ln _ => okLn ln
  | .ledgerSeekDone _ => true
  | .ledgerVerify ln _ _ => okLn ln
  | .ledgerVerifyDone => true
  | .ledgerReplay ln _ _ _ _ => okLn ln
  | .ledgerReplayDone => true
  | .ledgerAbort ln _ => okLn ln
  | .ledgerLinkLoss => true
  | .transportFault why => okWhy why
  | .transportSupplyCollapse => true
  | .journalMramFail => true
  | .sealRead _ _ _ _ _ => true
  | .sealWrite _ _ _ _ _ => true
  | .heldWriteTimeout => true
  | .groutAccess _ _ _ _ => true
  | .wrongKeyAccess _ _ _ => true
  | .eccUncorrectable _ _ => true
  | .rekeyPeriodExpire slot => okKeySlot slot
  | .rekeyBegin => true
  | .rekeyRngRetry => true
  | .repointLine _ => true
  | .sealShow ln slot => okLn ln && slot.elim true okKeySlot
  | .sealShowLedger ln => okLn ln
  | .sealRekey ln slot => okLn ln && okKeySlot slot
  | .sealRekeyAbort ln slot => okLn ln && okKeySlot slot
  | .sealRekeyClear ln slot => okLn ln && okKeySlot slot
  | .sealRekeyLedger ln => okLn ln
  | .sealRekeyLedgerImport ln _ => okLn ln
  | .lidSwitch _ => true
  | .jtagInstruction _ => true
  | .debugAccessBlocked _ _ _ => true
  | .sealEngineFail => true
  | .heartbeatSend => true
  | .heartbeatReceive _ => true
  | .epochCut => true
  | .epochApply _ => true
  | .crownSilenceTakeover _ => true
  | .crownResend n => okEight n
  | .lineSyncRelease => true
  | .fieldCrownSilence => true
  | .transportCrownSilence => true
  | .crownShow ln => okLn ln
  | .crownYield ln => okLn ln
  | .yieldAtCut => true
  | .yieldTimeout => true
  | .crownTake ln _ => okLn ln
  | .peerLinkLoss => true
  | .eventRecord => true
  | .evFlush => true
  | .evRead ln _ _ _ => okLn ln
  | .evFreeze ln => okLn ln
  | .evThaw ln => okLn ln
  | .evAutoThaw => true
  | .evClear ln _ => okLn ln
  | .evMramFail _ => true
  | .coolingFanStop _ => true
  | .overTemperature _ => true
  | .supplyInputLost _ => true
  | .supplyInputRestored _ => true
  | .referenceClockLock => true
  | .rlAccept port _ => okPort port
  | .rlRefuse port _ _ _ => okPort port
  | .peerConnectRetry conn => okConn conn
  | .keyStoreWriteComplete _ => true
  | .conditionRecord => true
  | .courseFieldSupplyReturn n _ => okEight n
  | .fieldRxCrown d _ _ => okDn d
  | .transportRxCrown d _ _ => okDn d
  | .randomSourceRecovered => true
  | .cartridgeRemoved => true

/-- A well-formed command. -/
def Instr.wf (i : Instr) : Bool := okParts i && okText i

end Sys2Proof
end

