-- ==== Sys2Proof/Tests/Slice0.lean ====
section
/-! SUPPORT. Tests: for each statement, a state and operands that meet what it asks; an ill-formed command for each check of
`WellFormed.lean`; and values that the manual, or a standard it names, works out. -/
namespace Sys2Proof.Tests
open Sys2Proof Sys2Proof.Machine
set_option Elab.async false

/-- A session at FACTORY level on CONSOLE with a line at its head, and that line's header. -/
def line : List Byte := bytesOf "LOGOUT"
def ses : Session := { level := .factory, input := [{ text := line }] }
def ln : Ln := { text := line }
/-- A unit in state `st` at tick `t`, with that session. -/
def up (st : UnitState) (t : Tick := 0) : State := { State.reset with
  ctl.state := st
  clk.tick := t
  sessions := [ses] }
/-- The line of `ln` runs in `s`, at every level, and an operation can be put pending. -/
abbrev Ready (s : State) : Prop := s.fate 0 line = .run ∧ ln = s.header 0 line ∧ s.levelOf ln = .factory ∧ s.pendFull ln = false
/-- `Ready` is what the verbs' statements ask of the session. -/
theorem test_runs (s : State) (h : Ready s) : s.Runs ln .engineer ∧ s.Runs ln .operate ∧ s.Runs ln .view ∧ s.Runs ln .none := by
  have l (need : Level) : levelFault (s.levelOf ln) need = none := by rw [h.2.2.1]; cases need <;> rfl
  exact ⟨⟨h.1, h.2.1, l _⟩, ⟨h.1, h.2.1, l _⟩, ⟨h.1, h.2.1, l _⟩, ⟨h.1, h.2.1, l _⟩⟩

/-! ### What the statements ask can be met: one theorem a statement, one part a clause -/

theorem test_meets_supply : (1699 < 1700 ∧ (up .ready).ctl.state ≠ .dark) ∧ (up .dark).ctl.state = .dark ∧
    (let s : State := { up .ready 8000 with ctl.belowSince := some 1 };
      s.ctl.belowSince = some 1 ∧ ticksFrom 1 s.now < 8000 ∧ s.ctl.state ≠ .collapse) ∧
    (let s := up .run;
      s.ctl.state ≠ .collapse ∧ s.ctl.bringup = none ∧ s.ctl.belowSince = none ∧ s.ctl.inputLost[true.toNat]? = some false) ∧
    (let s : State := { up .run with ctl.inputLost := [true, false] };
      s.ctl.inputLost[false.toNat]? = some true) := by decide +kernel
/-- A unit that has taken a configuration, with its hold-up, field link and outlet course 1 in use and ON. -/
def taken (st : UnitState) (t : Tick := 0) : State := { up st t with
  par.accepted := true
  ctl.holdupOk := true
  clk.refLocked := true
  fld.link.up := true
  led.state := .writable
  courses := { state := .on, link := { up := true, kind := 1, present := true } } :: List.replicate 7 {} }
theorem test_meets_state_verbs : (Ready (up .held) ∧ (up .held).ctl.bringup = none ∧ (up .held).ctl.shutdown = none) ∧
    (Ready (taken .held) ∧ (taken .held).readyRefusal = none) ∧
    (Ready (taken .ready) ∧ (taken .ready).runRefusal = none) ∧
    Ready (up .run) ∧ (up .run).ctl.shutdown = none := by decide +kernel
theorem test_meets_session_lines :
    ((up .ready).session? 0 = some ses ∧ ses.mode = .typed ∧ ses.escape = false ∧
      ¬ (65#8) ∈ [13#8, 10#8, 0x1B#8, 0x03#8, 0x08#8, 0x7F#8, 0x15#8]) ∧
    (let f (l : InLine) (c : LineFault) : Prop :=
        let x : Session := { ses with mode := .gen, lastTag := some 7, anyTag := false, lastLine := bytesOf "@0007 GET", input := [l] };
        let s : State := { up .ready with sessions := [x] };
        s.session? 0 = some x ∧ x.input = [l] ∧ s.turn x = true ∧ (x.repeats l.text = true → l.bad = true) ∧
          lineFault x.mode x.expects l.bad l.text = c;
      f { text := bytesOf "@0009 GET" } (.error 105) ∧ f { text := bytesOf "@0008 GET", bad := true } (.error 102) ∧
      f { text := bytesOf "@0008 FROB" } (.error 101) ∧ f { text := [32] } .ignore) ∧
    (let l : InLine := { text := bytesOf "@0007 GET" };
      let x : Session := { ses with mode := .gen, lastTag := some 7, anyTag := false, lastLine := l.text, lastReply := [{ }], input := [l] };
      let s : State := { up .ready with sessions := [x] };
      s.session? 0 = some x ∧ x.input = [l] ∧ s.turn x = true ∧ x.repeats l.text = true ∧ l.bad = false) := by decide +kernel
theorem test_meets_session_timers :
    (let x : Session := { ses with queue := [{}] };
      let s : State := { up .ready with sessions := [x] };
      s.session? 0 = some x ∧ x.queue = [{}]) := by decide +kernel
/-- An image of no values of a class, its crc included. -/
def image (c : PClass) : Bank :=
  let b : Bank := { magic := magicOf c, version := 1, generation := 1, length := 0, build := 0 }
  { b with crc := crc32 b.bytes }
theorem test_meets_reading_verbs :
    (let s := up .ready;
      let u := s.lineTaken ln;
      Ready s ∧ ((resolve (.id 0x012 none)).any fun k => !u.tooLong 0 (" ".intercalate ([k].map u.getText))) = true ∧
      (u.showLines .time).isSome = true ∧ verbsNamed "get" ≠ [] ∧ s.ctl.state ≠ .standby ∧
      resolve (.id 0x012 none) ≠ none ∧ Bond.lot ∈ allBonds ∧ u.sourceRecs ln .factory ≠ none ∧ 1 ≤ (none : Option Nat).getD 20 ∧ (some 1000 : Option Nat).getD 20 ≤ 1000 ∧ 2 ^ 32 - 1 < 2 ^ 32) ∧
    ((resolve (.id 0x303 none)).any fun k => k.desc.cls == .cal) = true ∧
    (let s : State := { up .ready with par.bankA := image .kept, par.validBanks := [.a] };
      (s.lineTaken ln).newerBank = some .a ∧ (s.lineTaken ln).sourceRecs ln .a = some ([], 1)) := by decide +kernel
theorem test_meets_logins :
    (let s := up .ready;
      let u := s.lineTaken ln;
      Ready s ∧ u.sessionPends ln = false ∧ (u.session? 0).any (fun x => !x.locked u.now) = true ∧ u.levelKey .engineer = none ∧
      (List.replicate 16 (65#8)).length ≤ 16) ∧
    (let x : Session := { ses with challenge := some { level := .operate, value := 5, at_ := 0 } };
      let s : State := { up .ready with sessions := [x], par.strs := [{ id := 0x040, text := [] }] };
      let u := s.lineTaken ln;
      (u.session? 0).any (fun y => !y.locked u.now && y.challenge == some { level := .operate, value := 5, at_ := 0 }) = true ∧
        (u.levelKey .operate).isSome = true) := by decide +kernel
/-- A unit with one value staged in each of three bonds, in `st`. -/
def staged (st : UnitState) (t : Tick := 0) : State := { up st t with
  sync.running := true
  par.staged := [{ id := 0x200, raw := 60000 }, { id := courseP 1 1, raw := 1000 }, { id := fanP 0 1, raw := 2 }] }
theorem test_meets_writing_verbs :
    (let s := up .held;
      let u := s.lineTaken ln;
      let ps : List (PRef × Lit) := [(.id 0x012 none, .word "READY")];
      let p := judgeLine (u.levelOf ln) false false 0 (ps.map fun q => (resolve q.1, ValIn.lit q.2)) u;
      let qs : List (PRef × Lit) := [(.id 0x303 none, .dec false 2 0 none)];
      let q := judgeLine (u.levelOf ln) true false 0 (qs.map fun q => (resolve q.1, ValIn.lit q.2)) u;
      Ready s ∧ p.fault = none ∧ u.tooLong 0 (" ".intercalate (p.pairs.map (·.shown))) = false ∧
      ((resolve (.id 0x303 none)).any fun k => (u.valueIn k (.lit (.dec false 2 0 none))).toOption.isSome) = true ∧
      q.fault = none ∧ u.tooLong 0 (" ".intercalate (q.pairs.map (·.shown))) = false) ∧
    (let s : State := { up .held with net.conns := { state := .ready } :: List.replicate 63 {} };
      (s.conn 0).state = .ready) ∧
    (let b := leBytes 4 1 ++ [1, 0, 0, 0] ++ [0x12, 0, 0, 0] ++ leBytes 4 1 ++ List.replicate 48 0#8;
      let s : State := { up .held with
        sessions := [ses, { idx := 1, conn := some 0, mode := .gen, level := .factory }]
        par.setReqs := [(0, b)] };
      s.par.setReqs.find? (fun q => q.1 == 0) = some (0, b) ∧ (s.requestPlan 0 b).fault = none) ∧
    (let u := (staged .held).lineTaken ln;
      Ready (staged .held) ∧ Bond.sync ∈ allBonds ∧ u.bondOpen .sync = true ∧ u.commitRefusal .sync = none ∧
      u.openGeometry ≠ [] ∧ u.geometryRefusal = none) ∧
    (let s : State := { up .held 9 with
        par.committed := [{ bond := .sync }, { bond := .tach 1 }, { bond := .limits 5 }, { bond := .geometry 8 },
          { bond := .lot, vals := [{ id := 0xB29, raw := 3 }] }]
        sync.line := 3
        sync.edge := 9
        sync.running := true
        sync.started := true };
      (∀ b ∈ [Bond.sync, .tach 1, .limits 5, .geometry 8, .lot], (s.committedOf b).isSome = true) ∧ s.sync.edge = s.now ∧
      s.zoneIdle 5 = true ∧ (0 : Tick) ≠ s.now ∧ s.lotDue = true) := by decide +kernel
theorem test_meets_config_banks :
    (let s := up .held;
      let u := (s.lineTaken ln).checkBanks;
      Ready s ∧ u.openBonds = [] ∧ s.par.save = none ∧ u.sourceRecs ln .factory = some ([], 0) ∧ crossCheck .kept [] = none ∧
      u.checksHold = true) ∧
    (let s : State := { up .held with par.bankA := image .kept };
      s.checkBanks.sourceRecs ln .a = some ([], 1)) ∧
    (let s : State := { up .held 7 with par.save := some {}, par.norFirst := some true };
      Ready s ∧ s.par.save ≠ none ∧ s.par.norFirst = some true ∧ tickLe 8 s.now = false) ∧
    (let s : State := { up .held with par.save := some {}, par.norFirst := some false };
      Ready s ∧ s.par.norFirst ≠ some true) := by decide +kernel
/-- A unit in HELD with a FACTORY bank of no records and a confirm word given. -/
def restoring : State := { up .held (120000000#48) with
  sessions := [{ ses with confirm := some ([65, 66, 67, 68, 69, 70], 0) }]
  par.factory := image .cal }
theorem test_meets_cal_banks :
    (Ready (up .ready) ∧ (up .ready).par.calSave = none) ∧
    (let s : State := { up .ready with par.calSave := some { target := .u1 }, par.norFirst := some false };
      s.par.calSave = some { target := .u1 } ∧ s.par.norFirst = some false) ∧
    (let u := restoring.lineTaken ln;
      Ready restoring ∧ u.confirms ln [65, 66, 67, 68, 69, 70] = true ∧ restoring.par.calSave = none ∧
      u.checkBanks.factorySound = true) := by decide +kernel
/-- The sessions after the FACTORY values are loaded are those before. -/
theorem test_meets_cal_restored :
    (let u := restoring.lineTaken ln;
      let t := (u.checkBanks.spendWord ln).loadFactory;
      let v := (t.event 0x1044 0x0E 0 (t.saveTarget .u1 .u2).2.toNat 0 0 (t.loginOf ln)).checkBanks;
      v.pendFull ln = false) := by
  dsimp only
  rw [State.checkBanks_pendFull, State.event_pendFull, State.loadFactory_pendFull (by decide +kernel)]
  decide +kernel
theorem test_meets_unit_progress :
    (let s (f : Field) : State := { up .held 401000 with ctl.bringup := some { since := 1000 }, fld := { f with bankOff := false, cycleAt := some 401000 } };
      let d : Do := { mis := true };
      (s {}).fld.bankOff = false ∧ tickLe 1000 401000 = true ∧ msT ((s {}).num 0x902) ≤ ticksFrom 1000 401000 ∧ (s {}).badChannel = none ∧
      (s { dos := List.replicate 15 {} ++ [d] }).badChannel = some (16, "digital output 16")) ∧
    (let s : State := { taken .held 8000000 with ctl.bringup := some { step := 4 } };
      (∀ n ∈ s.coursesUsed, (s.course n).state = .on) ∧ s.coursesUsed ≠ [] ∧ secT 2 ≤ ticksFrom 0 s.now) ∧
    (let s : State := { up .ready 800000 with ctl.shutdown := some {} };
      (∀ c ∈ s.courses, c.state = .off) ∧ msT 200 ≤ ticksFrom 0 s.now) ∧
    (let s : State := { taken .drain with dry.zones := List.replicate 5 { drain := .complete } };
      let v := ((((s.zonesRest).enter .ready).retargetLoops).finish (· == PendOp.state .drain) (.ok "READY")).finish
        (· == PendOp.state .ready) (.ok "READY");
      s.sortingDone = true ∧ s.zonesDone = true ∧ v.ctl.holdOut = false ∧ v.ctl.runQueued = false) ∧
    (let s : State := { taken .drain with dry.zones := List.replicate 5 { drain := .complete }, ctl.runQueued := true };
      let v := ((((s.zonesRest).enter .ready).retargetLoops).finish (· == PendOp.state .drain) (.ok "READY")).finish
        (· == PendOp.state .ready) (.ok "READY");
      v.ctl.runQueued = true ∧ State.runRefusal { v with ctl.runQueued := false } = none) ∧
    (let s : State := { up .drain (14400000000#48) with
        dry.loops := List.replicate 16 { active := .auto, u := 9 }
        par.vals := ([0, 9] : List Nat).flatMap fun n =>
          [{ id := 0x7A0, elem := n, raw := 1 }, { id := 0x7A3, elem := n, raw := 1 }, { id := 0x7A6, elem := n, raw := 1 }] };
      s.zonesDone = false ∧ secT (s.num 0x014) ≤ s.drainTicks ∧ 5 ≤ s.dry.zones.length ∧
      ((s.zoneLimit 1).loop 0).active ≠ .off ∧ ((s.zoneLimit 4).loop 9).active ≠ .off) := by decide +kernel
/-- A unit in WAKING with its links up. -/
def waking (t : Tick := 0) : State := { taken .waking t with led.link.up := true }
theorem test_meets_waking :
    (State.reset.ctl.state = .dark ∧ State.reset.ctl.imageFail = false ∧ 1920 ≤ 1920) ∧
    (up .held).takesCrown = true ∧ ({ up .waking with par.vals := [{ id := 0x003, raw := 1 }], crown.peerBeat := some { holds := true } } : State).takesCrown = false ∧ (waking 24000000).testing = true ∧
    secT 6 ≤ (waking 24000000).clk.tick.toNat ∧
    (let r : SelfTest := { dramBad := true };
      ((waking.testKeys false).restoreStore false []).setHoldup 100 |>.faultStep r = some 2) ∧
    (let u := ((waking.testKeys false).restoreStore false []).setHoldup 100;
      u.faultStep {} = none ∧ u.linkMissing { fieldAbsent := true } = true ∧ u.linkMissing {} = false) ∧
    waking.takesCrown = true ∧
    (let s : State := { waking with par.trusted := true, par.vals := [{ id := 0x012, raw := 1 }] };
      s.crownAtWaking.on 0x012 = true ∧ s.crownAtWaking.par.trusted = true ∧ s.crownAtWaking.readyRefusal = none) ∧
    (let s : State := { up .held with led.journal.frames := [{}, {}] };
      s.led.replayed = false ∧ s.led.op ≠ .load ∧ s.led.cart = none ∧ 1 < s.led.journal.frames.length) := by decide +kernel
theorem test_meets_clock :
    (let s : State := { up .ready with sync.running := true, sync.edgeDue := true };
      s.sync.running = true ∧ s.sync.edgeDue = true ∧ s.pageRoom = true) ∧
    (let s : State := { up .ready with mp.lines := [{ slot := 3, line := 0, ctr := ctrMax }] };
      s.pageRoom = false) ∧ (taken .ready).clk.refLocked = true ∧ (up .ready).clk.refLocked = false ∧
    (let s : State := { taken .ready with net.ports := List.replicate 7 { link := true } };
      (s.port 1).link = true ∧ (s.port 7).link = true ∧ s.hasCourse 1 = true ∧ (s.course 1).link.up = true) := by decide +kernel
theorem test_meets_collapse :
    (let s : State := { up .run 8000 with ctl.belowSince := some 0 };
      msT 2 ≤ ticksFrom 0 s.now ∧ s.ctl.state ≠ .collapse) ∧ (up .collapse).ctl.state = .collapse ∧
    (let s : State := { up .ready with ctl.coolRun := [true, true, true] };
      s.ctl.coolRun[0]? = some true ∧ s.ctl.coolRun[2]? = some true) ∧
    (let s : State := { up .ready 240000000 with ctl.overTempAt := some 0 };
      85 < (86 : Int) ∧ (∀ a, s.ctl.overTempAt = some a → secT 60 ≤ ticksFrom a s.now)) ∧
    (up .fault 40000000).now.toNat % 40000000 = 0 := by
  refine ⟨by decide +kernel, by decide +kernel, by decide +kernel, ⟨by decide, fun a h => ?_⟩, by decide +kernel⟩
  cases h
  decide +kernel
theorem test_meets_recorder :
    (let s : State := { up .ready with raised := [{ code := 0x8030 }], evr.fixed := true, evr.frozen := some 0 };
      2 ≤ sevRank (sevOf 0x8030) ∧ sevRank (sevOf 0x8031) < 2 ∧ s.evr.frozen ≠ none ∧ s.raised = [{ code := 0x8030 }]) ∧
    (let s : State := { up .ready 240000000 with evr.fixed := true, evr.flushDue := true };
      s.evr.frozen = none ∧ s.evr.mramFailed = false ∧ s.now.toNat % 40000000 = 0 ∧ secT 60 ≤ ticksFrom 0 s.now) ∧
    (let s : State := { up .ready with sessions := [{ ses with freshAt := some 0 }] };
      (s.lineTaken ln).fresh ln = true ∧ u32Before 9 8 = false) := by decide +kernel
/-- The 32 bytes of a ticket slot whose crc holds: its seq, line, object, the word of velocity, class, priority and kind, and its
chute. -/
def slotBytes (seq line object word chute : Nat) : List Byte :=
  let b := leBytes 4 seq ++ leBytes 4 line ++ leBytes 4 object ++ leBytes 4 word ++ leBytes 2 0 ++ leBytes 1 chute ++ List.replicate 11 0#8
  b ++ leBytes 2 (crc16 b).toNat
/-- A unit in RUN with source 1 open and one slot waiting, at tick `t` of a line 7. -/
def slotted (b : List Byte) : State := { taken .run 100 with
  tk.sources := { open_ := true, conn := some 0, prod := 1, slots := writeCells [] 0 b } :: List.replicate 15 {}
  sync := { running := true, started := true, line := 7, edge := 50, period := 3333, record := [{ line := 7, edge := 50, period := 3333 }] } }
/-- A PROV and a FIRM of line 7, and a CONF and a CANCEL of the ticket of seq 3 and object 5. -/
def prov : State := slotted (slotBytes 9 7 5 400000 0)
def firm : State := slotted (slotBytes 9 7 5 (400000 + 2 * 2 ^ 30) 0)
def conf : State := slotted (slotBytes 9 3 5 (2 ^ 30) 0)
def cancel : State := slotted (slotBytes 9 3 5 (3 * 2 ^ 30) 0)
theorem test_meets_tickets :
    (∀ s ∈ [slotted [], prov, firm, conf, cancel], s.takes = true ∧ (s.source 1).open_ = true ∧ (s.source 1).prod ≠ (s.source 1).cons ∧
      (s.source 1).free ≠ 0 ∧ s.hasTurn 1 = true) ∧
    ((slotted []).slotAt 1).crcOk = false ∧ ((slotted []).slotAt 1).kind = .prov ∧
    (∀ k ∈ [(1, TicketKind.conf), (2, .firm), (3, .cancel)], let s := slotted (0 :: (slotBytes 9 7 5 (k.1 * 2 ^ 30) 0).tail);
      (s.slotAt 1).crcOk = false ∧ (s.slotAt 1).kind = k.2) ∧
    ((prov.slotAt 1).crcOk = true ∧ (prov.slotAt 1).kind = .prov ∧ (prov.source 1).judge (prov.slotAt 1).seq = (false, 0) ∧
      (prov.noteSeq 1 9 0 false).badFormat (prov.slotAt 1) = false ∧ (prov.noteSeq 1 9 0 false).on 0x600 = true) ∧
    ((cancel.slotAt 1).crcOk = true ∧ (cancel.slotAt 1).kind = .cancel ∧ (cancel.noteSeq 1 9 0 false).badFormat (cancel.slotAt 1) = false) ∧
    ((firm.slotAt 1).crcOk = true ∧ (firm.slotAt 1).kind = .firm ∧ (firm.source 1).judge (firm.slotAt 1).seq = (false, 0) ∧
      (firm.noteSeq 1 9 0 false).badFormat (firm.slotAt 1) = false) ∧
    ((conf.slotAt 1).crcOk = true ∧ (conf.slotAt 1).kind = .conf ∧ (conf.noteSeq 1 9 0 false).badFormat (conf.slotAt 1) = false) ∧
    (firm.ctl.state = .run ∧ u32Before firm.sync.line (firm.slotAt 1).line = false ∧ (firm.lineRec 7).isSome = true ∧
      firm.canPlace (firm.slotAt 1) = true) ∧
    (let t : Ticket := { tid := 1, src := 1, slot := { seq := 3, object := 5 }, start := 5000, placed := true };
      let s : State := { conf with tk.tickets := [t] };
      s.target? 1 (conf.slotAt 1) = some t ∧ t.endedEarly = false ∧ t.final_ = none ∧ t.inTime s.now = true ∧
      t.confirmed = false) := by decide +kernel
theorem test_meets_rings :
    ((firm.source 1).conn ≠ none ∧ ((4096#32 : U32) - (firm.source 1).cons).toNat ≤ 4096 ∧
      ((firm.source 1).ccons - (firm.source 1).ccons).toNat ≤ ((firm.source 1).cprod - (firm.source 1).ccons).toNat) ∧
    (firm.crown.yieldAt = none ∧ firm.ctl.state ≠ .standby) ∧ (up .held 4000000).now.toNat % 4000000 = 0 ∧
    ((slotted []).source 1).open_ = true ∧ (up .held 4000000).ctl.state = .held := by decide +kernel
theorem test_meets_plumb :
    (let s : State := { up .ready 4000000 with plumb.xSet := true };
      s.now.toNat % 4000000 = 0 ∧ s.plumb.xSet = true) ∧
    (let s := up .ready 1440000000;
      s.plumb.missNoted = false ∧ secT (3 * s.outletPeriod) ≤ ticksFrom s.plumb.lastAvg s.now) ∧
    (let u := firm.lineTaken ln;
      Ready firm ∧ u.hasCourse 1 = true ∧ u.num 0x394 ≠ 0 ∧ u.num 0x393 % u.num 0x394 = 0 ∧ (firm.course 1).state = .on ∧
      (firm.source 1).open_ = true ∧ (firm.chute 1).learn = none ∧ (∀ i < 8, (u.chute (i + 1)).learn = none) ∧
      ({ src := 1, span := u.num 0x393, step := u.num 0x394 } : Learn).steps ≤ 255) ∧
    (let t : Ticket := { tid := 1, src := 1, learn := some (0, 0), entryAt := some 0, final_ := some .fired };
      let s : State := { taken .run 2400000000 with
        tk.tickets := [t]
        plumb.chutes := { learn := some { src := 1 } } :: List.replicate 7 {} };
      s.ticket? 1 = some t ∧ (s.chute 1).learn = some { src := 1 } ∧ secT 1 ≤ ticksFrom 0 s.now ∧ chuteOf t.slot = 1 ∧
      secT (s.num 0x398) ≤ ticksFrom 0 s.now ∧ ((s.lineTaken ln).chute 1).learn ≠ none) := by decide +kernel
/-- A unit in `st` whose course 1 is `c`. -/
def coursed (c : Course) (st : UnitState := .ready) (t : Tick := 0) : State := { up st t with courses := c :: List.replicate 7 {} }
theorem test_meets_course_verbs :
    (∀ x ∈ [CourseState.on, .off, .draining, .enabling], Ready (coursed { state := x }) ∧ ((coursed { state := x }).lineTaken ln).hasCourse 1 = true ∧
      ((coursed { state := x }).course 1).state = x) ∧
    (let s := coursed { state := .draining, drainVerb := true, link := { up := true } };
      (s.course 1).drainVerb = true ∧ (s.course 1).dischargeAt = none) ∧
    (let s := coursed { state := .enabling, step := 3, last := { at_ := 1, n := 6, ready := true, st := .on } };
      tickBefore (s.course 1).enSince (s.course 1).last.at_ = true ∧ (s.course 1).last.n ≠ 0) ∧
    (coursed { state := .enabling, step := 3, last := { at_ := 1 } } |>.course 1).last.n = 0 ∧
    (let s := coursed { state := .draining, last := { at_ := 1 } };
      tickBefore (s.course 1).drainAt (s.course 1).last.at_ = true ∧ (s.course 1).last.st = .off) ∧
    (let u := (coursed {}).lineTaken ln;
      63 < u.num (courseP 0 1) ∧ 200 + u.num (courseP 0x11 1) 63 ≤ 1000 * 1 ∧ 20000 + u.num (courseP 0x11 1) 0 ≤ 1000 * 10000 ∧
      u.num (courseP 0x15 1) 0 + u.num (courseP 0x11 1) 0 ≤ 1000 * 100) ∧
    (1 ≤ 0 + ([(1, .deniedAir)] : List (Nat × Outcome)).length) := by decide +kernel
theorem test_meets_links :
    (∀ l ∈ [LinkId.course 1, .field, .ledger], (up .ready).hasLink l = true ∧ ((up .ready).linkOf l).up = false) ∧
    (let s := coursed { link := { training := true } };
      (s.linkOf (.course 1)).up = false ∧ (s.linkOf (.course 1)).training = true) ∧
    (let s := coursed { link := { training := true, echoes := (List.range 16).map fun i => (i, 900) } } .ready 4096;
      (s.linkOf (.course 1)).training = true ∧ tripsAgree (s.linkOf (.course 1)).echoes = true) ∧
    (∀ st ∈ [UnitState.ready, .standby], let s := coursed { link := { training := true, good := 15 } } st;
      let u := s.updLink (.course 1) fun x => { x with lastRx := s.now, good := if x.training && x.good < 16 then x.good + 1 else x.good };
      (s.linkOf (.course 1)).training = true ∧ (s.linkOf (.course 1)).good = 15 ∧ u.ctl.state = st) ∧
    (let s := coursed { link := { up := true } } .ready 4096;
      (s.linkOf (.course 1)).up = true ∧ s.now.toNat % 4096 = 0 ∧ (s.linkOf (.course 1)).training = false) ∧
    (let e := (List.range 15).map fun i => (i, 900);
      let s := coursed { link := { training := true, good := 16, echoes := e } };
      let f (num clocks : Nat) := ((s.heard (.course 1)).updLink (.course 1) fun x => { x with echoes := assocSet num clocks x.echoes }).linkOf (.course 1);
      (s.linkOf (.course 1)).training = true ∧ 16 ≤ (s.linkOf (.course 1)).good ∧ (f 0 900).echoes.length < 16 ∧ 16 ≤ (f 15 902).echoes.length ∧
      tripsAgree (f 15 902).echoes = true ∧ tripsAgree (f 15 903).echoes = false) ∧
    (let f : DownFrame := { kind := .enable };
      let s := coursed { link := { up := true, sent := [f] } } .ready 64;
      f ∈ (s.linkOf (.course 1)).sent ∧ isCommit f.kind = false ∧ 64 ≤ ticksFrom f.sentAt s.now) := by decide +kernel
theorem test_meets_uplinks :
    (let s (st : UnitState) : State := { coursed {} st with crown := { holds := true, gen := 5 } };
      let u (st : UnitState) (g : U32) := (s st).takeStatus 1 g {};
      let y : State := { s .run with crown := { holds := true, gen := 5, yieldAt := some 0 } };
      (s .run).hasCourse 1 = true ∧ (u .standby 5).ctl.state = .standby ∧ (u .run 5).ctl.state ≠ .standby ∧
      (u .run 5).crown.holds = true ∧ (u .run 5).crown.gen = 5 ∧ laterGen 5 4 = false ∧ laterGen 5 6 = true ∧
      (u .fault 6).ctl.state = .fault ∧ (u .fault 6).crown.yieldAt = none ∧ (y.takeStatus 1 6 {}).ctl.state = .run ∧
      (y.takeStatus 1 6 {}).crown.yieldAt ≠ none ∧ 6 = (y.takeStatus 1 6 {}).crown.gen + 1 ∧
      (u .waking 6).ctl.state = .waking ∧ (u .collapse 6).ctl.state = .collapse ∧ (u .collapse 6).crown.holds = true) ∧
    (let p : Plan := { slot := some 3 };
      (((coursed { plans := [p] }).heard (.course 1)).course 1).plans.find? (fun q => q.slot == some 3) = some p) ∧
    (let u (st a : Nat) := ((coursed { state := .enabling, step := st }).heard (.course 1)).updLink (.course 1) fun x =>
        { x with kind := kindOfWords a [] x.kind, present := x.present || a = 4 };
      ((u 1 7).course 1).state = .enabling ∧ ((u 1 7).course 1).step = 1 ∧ ((u 2 0x23F).course 1).step = 2) ∧
    (let s := coursed { link := { up := true } } .ready 400;
      (s.course 1).link.up = true ∧ 400 ≤ ticksFrom (s.course 1).link.lastRx s.now) ∧
    (let s : State := { up .ready 64 with crown := { holds := true, resendAt := [8] } };
      8 ∈ s.crown.resendAt ∧ 64 ≤ ticksFrom (s.crown.crownSent.getD (ix 8) 0) s.now) := by decide +kernel
/-- A unit whose powered course 1 is `v`. -/
def device (v : CourseDev) (t : Tick := 0) : State := { up .ready t with devs := { v with powered := true } :: List.replicate 7 {} }
theorem test_meets_course_frames :
    (let d : Dn := { gen := 5 };
      let v (st : CourseState) (w : Bool) : CourseDev :=
        (device { state := st, gen := 5, crownUp := some 0, enableOnly := [w, false], words := [(10, 64)] }).dev d.course;
      (∀ st ∈ [CourseState.off, .enabling, .on, .draining], ∀ w, (v st w).obeys d = true ∧ (v st w).powered = true ∧ (v st w).waits d = w ∧
        (v st w).discharge = none ∧ (v st w).state = st) ∧
      (v .on false).obeys { gen := 4 } = false ∧ (v .on false).obeys { up := 1, gen := 5 } = false ∧
      (v .on false).adopts 0 0 6 = true ∧ (v .on false).crownUp = some d.up ∧ 63 < ((v .on false).word 10).toNat % 128) ∧
    (let p : DevPlan := { slot := 511, committed := true, start := 9, dur := 4, gen := 5 };
      let v := (device { gen := 5, plans := [{ p with gen := 4 }, p] } 12).dev 1;
      v.plans.find? (fun p => p.slot == 511 && p.committed && tickBefore (v.tick 12) (tickPlus p.start p.dur) &&
        (p.gen == v.gen || !v.plans.any fun q => q.slot == 511 && q.gen == v.gen)) = some p) := by decide +kernel
theorem test_meets_channels :
    (let p : DevPlan := { ch := 63, primed := true, lead := 100, start := 200, committed := true };
      let s := device { plans := [p], bankV := 65535 } 100;
      let v := s.dev 1;
      (v.plansOn 63).find? (v.primes (v.tick s.now)) = some p ∧ (v.chans.getD 63 {}).isOff s.now = true) ∧
    (let p (c : Bool) : DevPlan := { ch := 63, start := 100, committed := c };
      let s (c : Bool) (b : Nat) (k : Channel) := device { plans := [p c], bankV := b, chans := List.replicate 63 {} ++ [k] } 100;
      (∀ c b, ((s c b {}).dev 1).planOn 63 = some (p c)) ∧ tickBefore (((s true 0 {}).dev 1).tick 100) 100 = false ∧
      ((s true 0 {}).dev 1).ready = false ∧ ((s true 0 {}).dev 1).bounded 100 (p true) = false ∧ ((s true 65535 {}).dev 1).ready = true ∧
      ((s true 0 { phase := .hold, gen := 4 }).dev 1).bounded 100 (p true) = true) ∧
    (let v := (device { chans := [{ phase := .peak, releaseAt := 4000 }], words := [(0x40, 1000 * 65536)] } 4000).dev 1;
      (v.chans.getD 0 {}).phase = .peak ∧ v.peakMax 0 ≤ ticksFrom (v.chans.getD 0 {}).since 4000 ∧ tickLe 4000 (v.tick 4000) = true) := by
  refine ⟨by decide +kernel, ⟨fun c b => by cases c <;> rfl, by decide +kernel⟩, by decide +kernel⟩
theorem test_meets_course_faults :
    (let v := (device { state := .on, phases := [1, 1, 1, 1, 1, 1], crownUp := some 1 } 400).dev 1;
      v.phases.getD (ix 6) 0 = 1 ∧ v.state ≠ .off ∧ 1799 < 1800 ∧ 400 ≤ ticksFrom (v.lastRx.getD 1 0) 400 ∧ v.lost = false) ∧
    (let s := device { lost := true } 8000000;
      (s.dev 1).lost = true ∧ secT 2 ≤ ticksFrom (s.dev 1).lostAt s.now) ∧ ((up .ready).dev 1).powered = false := by decide +kernel
/-- A unit whose ports are up, with connection 0 `x` READY on port 1. -/
def wired (x : Conn := {}) (st : UnitState := .ready) (t : Tick := 0) : State := { up st t with
  net.ports := List.replicate 7 { link := true, module_ := .sr }
  net.conns := { x with state := .ready, port := 1, rxEpoch := 1, epoch := 1 } :: List.replicate 63 {} }
/-- The header of the first frame on that connection, and the state in which its meaning runs. -/
def hdr : RlHdr := { epoch := 1, fseq := 1 }
def heardOn (s : State) : State :=
  (s.updConn 0 fun _ => ((s.conn 0).takeFrame s.now 1 1).getD {}).takeAck 0 0
/-- What the statements about frames ask of the header holds there. -/
theorem test_accepts (s : State) (h : s.hearsFrame 1 hdr.eth = true) (c : s.stale 1 0 = false) (r : (s.conn 0).state ≠ .opening)
    (f : ((s.conn 0).takeFrame s.now 1 1).isSome = true) (q : ((heardOn s).conn 0).state = .ready)
    (n : hdr.psn = ((heardOn s).conn 0).rxPsn) : s.Accepts hdr (heardOn s) ∧ s.AcceptsNext hdr (heardOn s) := by
  have k : s.hears 1 = true := by simp only [State.hearsFrame, Bool.and_eq_true] at h; exact h.1.1
  have a : s.Accepts hdr (heardOn s) :=
    ⟨h, k, rfl, c, s, ((s.conn 0).takeFrame s.now 1 1).getD {}, .inl ⟨r, rfl⟩, by cases e : (s.conn 0).takeFrame s.now 1 1 <;> simp_all [hdr], rfl⟩
  exact ⟨a, a, q, n⟩
/-- The part of it that a small state settles. -/
abbrev Hears (s : State) : Prop := s.hearsFrame 1 hdr.eth = true ∧ s.stale 1 0 = false ∧ (s.conn 0).state ≠ .opening ∧
  ((s.conn 0).takeFrame s.now 1 1).isSome = true ∧ ((heardOn s).conn 0).state = .ready ∧ hdr.psn = ((heardOn s).conn 0).rxPsn
/-- A unit whose connection has a user window on SHARE. -/
def windowed : State := { wired with net.userWins := [{ perm := .rw }] }
def rk : U32 := BitVec.ofNat 32 (2 ^ 16 + 48)
theorem test_meets_accesses : Hears windowed ∧ rkeyBad { hdr with rkey := rk } = false ∧
    (let u := heardOn windowed;
      ((u.conn 0).skipEntry = false) ∧
      ((u.grantAccess 0 rk 0 64 .write).toOption.any fun t =>
        ((u.beginEntry 0 true t.off).writeWindow 0 t (List.replicate 64 1#8)).2) = true ∧
      ((u.grantAccess 0 rk 0 64 .read).toOption.any fun t => (u.readWindow 0 t 64).2.isSome) = true ∧
      ((u.grantAccess 0 rk 56 8 .atomic).toOption.any fun t =>
        (u.readWindow 0 t 8).2.any fun old => ((u.readWindow 0 t 8).1.writeWindow 0 t (leBytes 8 (leNat old + 1))).2) = true) ∧
    (let s := wired { sq := [{ op := .read, length := 8, local_ := some 4096, framed := true, lastPsn := 7 },
        { op := .atomicAdd, length := 8, local_ := some 64, framed := true, lastPsn := 8 }] };
      Hears s ∧ (((heardOn s).consume hdr).conn 0).requestOf .read 7 = some 0 ∧
      (((heardOn s).consume hdr).conn 0).requestOf .atomicAdd 8 = some 1 ∧
      (((heardOn s).consume hdr).conn 0).sq.map (·.local_) = [some 4096, some 64]) ∧
    (let v := (heardOn wired).updConn 0 fun x => { x with recvFree := (heardOn wired).num (0x190 + (x.port - 1)) };
      (heardOn wired).textStuck 0 = false ∧ (v.conn 0).recvFree ≠ 0) ∧
    (let s : State := { wired { sq := [{ op := .send, data := List.replicate 16384 0 }] } with sessions := [ses, { idx := 1, conn := some 0, mode := .gen }] };
      Hears s ∧ (heardOn s).textStuck 0 = true ∧ ((heardOn s).conn 0).recvFree = 0) := by decide +kernel
theorem test_meets_controls : Hears wired ∧ ((heardOn wired).conn 0).state = .ready ∧
    (∀ code ∈ [1, 2, 0x10, 0x25, 0x30], ((leBytes 4 code ++ List.replicate 12 0#8).getD 0 0).toNat = code) ∧
    (let d := leBytes 4 0x30 ++ leBytes 4 7 ++ List.replicate 8 0#8;
      let s := wired { unacked := [{ psn := 7 }], sq := [{ framed := true, lastPsn := 7 }] };
      let u := State.takeAck (State.nakMarks (s.updConn 0 fun _ => ((s.conn 0).takeFrame s.now 1 1).getD {}) hdr d) 0 0;
      Hears s ∧ (u.conn 0).state = .ready ∧ d.length = 16) ∧
    controlBad hdr (leBytes 16 2) 4 = false ∧ epochIn (leBytes 16 2) = ((heardOn wired).conn 0).epoch + 1 ∧
    ((heardOn wired).conn 0).epoch ≠ 0xFFFFFFFF ∧
    (let s := wired.updConn 0 fun x => { x with epoch := 0xFFFFFFFF };
      Hears s ∧ controlBad hdr (leBytes 16 0) 4 = false ∧ ((heardOn s).conn 0).epoch = 0xFFFFFFFF) ∧
    (let s := wired { rekeying := true };
      Hears s ∧ ((heardOn s).conn 0).rekeying = true) ∧ controlBad hdr (List.replicate 16 0) 0 = false ∧
    controlBad hdr (1 :: List.replicate 15 0) 1 = false ∧ wired.hears 7 = true ∧ wired.stale 1 64 = true := by decide +kernel
/-- A payload with its MAC under the pairing secret of port 1 of `opener`, and the CONNECT frame of it. -/
def opener : State := { up .ready with
  net.ports := List.replicate 7 { link := true }
  par.strs := [{ id := secretId 1, text := [] }, { id := secretId 7, text := [] }]
  par.vals := [{ id := 0x003, raw := 1 }] }
def head : List Byte := 1 :: List.replicate 39 0
def sealed : List Byte := List.replicate 48 0 ++ frameMac (opener.secret 1) head (List.replicate 48 0) 48
theorem test_meets_openings :
    (opener.hearsFrame 1 {} = true ∧ opener.hearsFrame 1 { dest := .other } = false ∧ headerVersion (2 :: head.tail) ≠ 1 ∧
      opener.ctl.state ≠ .waking ∧ opener.ctl.state ≠ .collapse ∧ opener.net.rngOk = true ∧ opener.isSet (secretId 1) = true ∧
      headerVersion head = 1 ∧ sliceB sealed 8 16 ∉ (opener.port 1).nps ∧ opener.connsOn 1 = [] ∧
      0 < opener.num (portP 6 1) ∧ (opener.conn 0).state = .closed) ∧
    frameMac (opener.secret 1) head sealed 48 = sliceB sealed 48 16 ∧
    (let c : Conn := { state := .opening, port := 1, opening := true, pconn := 9, connect := List.replicate 64 0 };
      let s : State := { opener with net.conns := c :: List.replicate 63 {}, clk.tick := 40000 };
      (s.conn 0).state = .opening ∧ msT 10 ≤ ticksFrom (s.conn 0).acceptAt s.now ∧
      ((s.connsOn 1).find? fun d => (s.conn d).opening && (s.conn d).state == .opening &&
        ((s.conn d).connect.drop 40).take 16 == sliceB sealed 24 16) = some 0 ∧
      ((s.connsOn 1).find? fun d => (s.conn d).opening && (s.conn d).state == .opening && (s.conn d).pconn.toNat = 9) = some 0) ∧
    -- Which Keystone of a pair opens PEER hangs on the two MAC addresses, which the model leaves open (`opensPeer`).
    (opener.hears 7 = true ∧ opener.paired = true ∧ opener.isSet (secretId 7) = true ∧ opener.connsOn 7 = [] ∧
      opener.crown.peerRetry.getD 1 none = none ∧ opener.freeConn = some 0) := by decide +kernel
theorem test_meets_conn_timers :
    (let s (r : Nat) := wired { unacked := [{}], retries := r } .ready 40000000;
      (((s 0).conn 0).unacked = [{}] ∧ ((s 0).conn 0).resend = [] ∧ ((s 0).conn 0).rnrUntil = none) ∧
      usT ((s 0).num (portP 7 1)) ≤ ticksFrom 0 (s 0).now ∧ ((s 0).conn 0).retries + 1 < (s 0).num (portP 8 1) ∧
      (s 15).num (portP 8 1) ≤ ((s 15).conn 0).retries + 1 ∧ (s 0).isReady 0 = true ∧ msT 1 ≤ ticksFrom 0 (s 0).now ∧
      msT ((s 0).num (portP 0xB 1)) ≤ ticksFrom 0 (s 0).now) ∧
    (let s := wired {} .ready (secT (3600 * wired.num (portP 0xC 1)));
      secT (3600 * s.num (portP 0xC 1)) ≤ ticksFrom (s.conn 0).epochSince s.now ∧ (s.conn 0).rekeying = false ∧
      (s.conn 0).opening = false ∧ (s.conn 0).epoch ≠ 0xFFFFFFFF) ∧
    (let s := wired { rnrUntil := some 5, oldUntil := some 4 } .ready 5;
      (s.conn 0).rnrUntil = some 5 ∧ tickLe 5 s.now = true ∧ tickBefore 4 s.now = true) ∧
    (let s : State := { up .ready with net.conns := { state := .error } :: List.replicate 63 {} };
      (s.conn 0).state = .error) := by decide +kernel
theorem test_meets_ports :
    ((wired.port 1).link = true ∧ (wired.port 7).link = true) ∧
    (let s : State := { up .ready with net.ports := List.replicate 7 { module_ := .lr } };
      (s.port 6).link = false ∧ (s.port 6).off = false ∧ (s.port 6).closingAt = none ∧ (s.port 6).resetAt = none ∧
      (s.port 1).module_ = .lr ∧ s.net.supPort = none) ∧
    (let s : State := { up .ready with net.ports := List.replicate 7 { module_ := .sr, resetAt := some 0 } };
      (s.port 7).link = false ∧ (s.port 7).resetAt ≠ none) ∧
    ((wired {} .ready 192).hears 1 = true ∧ (wired {} .ready 192).now.toNat % 200 = 192) ∧
    (let s := wired { ctl := [{}] } .ready 191;
      let f := s.countHeld 1 192 (s.controls 1 ++ s.offers 1 .bulk);
      s.macBusy 1 = false ∧ s.ticketWindow 1 ≤ s.now.toNat % 200 ∧
      (oldestOffer ((s.controls 1).filter fun o => f.fits 1 192 o.frame)).isSome = true) ∧
    (let s := wired { sq := [{ op := .write, ticket := true, length := 8, data := List.replicate 8 0 }] };
      let f := s.countHeld 1 80 (s.controls 1 ++ s.offers 1 .ticket);
      s.now.toNat % 200 < s.ticketWindow 1 ∧ s.ticketWindow 1 = 80 ∧
      oldestOffer ((s.controls 1).filter fun o => f.fits 1 80 o.frame) = none ∧
      ((s.offers 1 .ticket).find? fun o => f.fits 1 80 o.frame).isSome = true) ∧
    (wired.isReady 0 = true ∧ wired.sqFull 0 = false ∧ lengthOk .write 1048576 = true ∧ lengthOk .write 1048577 = false) := by
  decide +kernel
theorem test_meets_link_verbs :
    (Ready wired ∧ (wired.port 7).closingAt = none ∧ (wired.port 7).off = false ∧ (wired.port 7).resetAt = none) ∧
    (let s : State := { up .ready 8000000 with net.ports := List.replicate 7 { off := true, resetAt := some 0 } };
      (s.port 1).off = true ∧ (s.port 1).resetAt = some 0 ∧ secT 2 ≤ ticksFrom 0 s.now) ∧
    (let s (p : Int) (h : Bool) : State := { up .ready 40000000 with
        par.vals := [{ id := airP 2 1, raw := 1 }, { id := airP 3 1, raw := 1 }]
        fld.ais := { valid := true, value := p } :: List.replicate 7 {}
        air := { held := h, okSince := some 0, okAt := 400000, samples := [(0, 1000000), (1, 1000000)] } :: List.replicate 7 {} };
      (s 0 false).airLearns 1 = true ∧ ((s 0 false).fld.ais.getD ((s 0 false).num (airP 2 1) - 1) {}).valid = true ∧
      0 < 10 * (s 0 false).raw (airP 8 1) ∧ ((s 0 false).manifold 1).held = false ∧ ((s 0 true).manifold 1).held = true ∧
      (s 0 false).fireUnderWay 1 = false ∧ msT ((s 0 false).num 0x580) ≤ ticksFrom 0 (s 0 false).now ∧
      (∀ x ∈ ((s 0 true).manifold 1).samples, 10 * (s 0 true).raw (airP 7 1) ≤ x.2) ∧
      2 ≤ ((s 0 true).manifold 1).samples.length ∧ msT 100 ≤ ticksFrom 0 ((s 0 true).manifold 1).okAt) ∧
    0 < 10 * (up .ready).raw (airP 7 1) := by decide +kernel
theorem test_meets_windows :
    (let u := wired.lineTaken ln;
      Ready wired ∧ (wired.conn 0).state = .ready ∧ (wired.conn 0).port ≠ 7 ∧ (2 ^ 26 - 2 ^ 24) % 64 = 0 ∧ u.sealGate 2 = none ∧
      u.freeWindow = some 48 ∧ wired.ctl.state ≠ .run ∧ wired.ctl.state ≠ .drain) ∧
    ({ perm := .rw } : UserWin) ∈ windowed.net.userWins ∧ ((wired { fullOn := true }).conn 0).fullOn = true ∧
    (wired { fullOn := true }).accessRuns 0 0xFFFF = false ∧
    (∀ i ∈ [48, 0xFFFF], (wired { fullOn := true, resp := [{ wins := [i] }] }).accessRuns 0 i = true) := by decide +kernel
theorem test_meets_groups :
    (let s : State := { wired with par.vals := [{ id := 0x1A0, elem := 15, raw := 1 }, { id := 0x1A4, elem := 15, raw := 1 }] };
      Hears s ∧ postHeader { hdr with conn := 5, rkey := 0 } = hdr ∧ s.takesTag 1 { dest := .group 15 } = true ∧ s.on 0x1A0 15 = true ∧ s.isReady 0 = true ∧ (s.conn 0).port = hdr.port ∧ ((heardOn s).num 0x1A4 15).testBit 0 = true ∧
      (s.lineTaken ln).on 0x1A0 15 = true ∧ (List.replicate 180 (65#8)).length ≤ 180) ∧
    (let p : Post := { gsn := 5, targets := [{ conn := 0, st := .sent }] };
      let s : State := { wired {} .ready 8000000 with net.groups := { posts := [p] } :: List.replicate 15 {} };
      Hears s ∧ controlBad hdr (leBytes 16 5) 6 = false ∧ ((heardOn s).consume hdr).post? 0 5 = some p ∧ s.post? 0 5 = some p ∧
      s.groupLimit 0 ≤ ticksFrom p.at_ s.now) ∧
    (Ready wired ∧ (wired.group 15).posts = [] ∧ memberOk (.port 7) = true ∧ memberOk (.conn 63) = true ∧
      litArg { unit := some .ms, stepD := 10 } 5 1000 (.dec false 100 0 none) = .ok 1000) := by decide +kernel
/-- A unit in `st` whose loop 0 is `l`. -/
def looped (l : Loop) (st : UnitState := .run) (t : Tick := 0) : State := { up st t with dry.loops := l :: List.replicate 15 {} }
theorem test_meets_loop_events :
    (∀ x ∈ [LoopActive.off, .tracking, .stopping, .manual, .auto],
      (let u := (looped { active := x }).batchSample.takeLimits 0;
        let v := if isPlenum 0 = true ∧ (u.loop 0).active ≠ .tracking then u.plenumRules 0 else u;
        (v.loop 0).active = x ∧ v.measure 0 = none)) ∧ (up .run).sourceVal ((up .run).num 0x7A3 0) = none ∧
    (up .run).now.toNat % (4000 * (up .run).num 0x7A2 0) = 250 * 0 ∧
    (let s : State := { looped { active := .auto } with
        par.vals := [{ id := 0x7A3, elem := 0, raw := 1 }, { id := 0x7A4, elem := 0, raw := 0 }, { id := 0x7A5, elem := 0, raw := 10000 }]
        fld.ais := { valid := true, value := 500 } :: List.replicate 7 {} };
      let v := (s.batchSample.takeLimits 0).plenumRules 0;
      isPlenum 0 = true ∧ (v.loop 0).active = .auto ∧ (v.measure 0).isSome = true) ∧
    (let s := looped { badSince := some 0 } .run 14400000000;
      isDrying 0 = true ∧ secT (s.num 0x7BC 0) ≤ ticksFrom 0 s.now) ∧
    (up .fault 4000000).now.toNat % 4000000 = 0 ∧
    (let s : State := { up .drain 40000000000 with dry.zones := { drain := .draining } :: List.replicate 4 {} };
      s.zoneDrained 1 = true) ∧
    (let s : State := { up .run (secT (60 * (up .run).num 0x7F3 0)) with dry.batch := { state := .running } };
      s.stepExit = false ∧ secT (60 * s.num 0x7F3 (stepNum s.dry.batch.step)) ≤ ticksFrom s.dry.batch.since s.now) ∧
    (let s := looped { active := .stopping };
      (s.loop 0).u ≤ s.uLo 0 ∧ (s.loop 0).queued = none) := by decide +kernel
theorem test_meets_loop_verbs :
    (let s : State := { up .run with par.vals := [{ id := 0x7A3, elem := 15, raw := 1 }, { id := 0x7A6, elem := 15, raw := 1 }] };
      let u := s.lineTaken ln;
      Ready s ∧ manualValue false (some (.dec false 100 0 none)) = .ok (some 10000) ∧ u.on 0x7A3 15 = true ∧ u.on 0x7A6 15 = true ∧
      (u.loop 15).active ≠ .stopping) ∧
    (Ready (looped { active := .auto }) ∧ (((looped { active := .auto }).lineTaken ln).loop 0).active ≠ .off) ∧
    (∀ b ∈ [BatchState.idle, .running, .held],
      let s : State := { up .run with par.vals := [{ id := 0x7E0, raw := 1 }], dry.batch := { state := b } };
      Ready s ∧ (s.lineTaken ln).batchMode = true ∧ s.dry.batch.state = b) := by decide +kernel
/-- A unit in `st` at tick `t` with the field link up and field bank fields of `f`. -/
def fielded (f : Field) (st : UnitState := .ready) (t : Tick := 0) : State := { up st t with fld := { f with link.up := true } }
theorem test_meets_field :
    ((fielded {} .ready 1000).now.toNat % 1000 = 0 ∧ (fielded {}).fld.link.up = true ∧ (fielded {}).fld.fault = false) ∧
    (fielded { power := .on }).fld.power = .on ∧
    (let s := fielded { dos := { since := some 0 } :: List.replicate 15 {}, aos := { since := some 0 } :: List.replicate 7 {} } .ready 400000;
      msT (s.num 0x902) ≤ ticksFrom 0 s.now ∧ (s.fld.dos.getD (ix 1) {}).since = some 0 ∧ (s.fld.aos.getD (ix 1) {}).since = some 0) ∧
    (let s := fielded { power := .tripped } .ready 4000000;
      s.fld.power = .tripped ∧ secT 1 ≤ ticksFrom s.fld.powerOffAt s.now) ∧
    (let s := fielded { fans := List.replicate 8 { edges := [4000] } } .run 84000;
      tickLe 84000 s.now = true ∧ ((s.fan 8).edges.all (tickBefore · 84000)) = true ∧
      (meanPeriod (s.num (fanP 0 8)) ((84000 :: (s.fan 8).edges).take 6)).2 ≠ 0) ∧
    (fielded { fault := true }).fld.fault = true := by decide +kernel
theorem test_meets_fans :
    (∀ x ∈ [FanState.stopped, .running, .tachLost, .starting, .fanStall, .driveFault],
      let s := fielded { fans := List.replicate 8 { state := x } };
      Ready s ∧ (s.fan 8).state = x ∧ (s.fan 8).opening = none ∧ (s.fan 8).runIn = false) ∧
    litArg { unit := some .pct, stepD := 100 } 0 10000 (.dec false 100 0 none) = .ok 10000 ∧
    (let s := fielded { fans := List.replicate 8 { state := .starting } } .run 400000000;
      400000 * s.num (fanP 5 8) ≤ ticksFrom (s.fan 8).since s.now) ∧
    (let s := fielded { fans := List.replicate 8 { state := .retryWait, tries := 3 } } .run 360000000;
      secT (backOff (s.fan 8).tries) ≤ ticksFrom (s.fan 8).since s.now) ∧
    (let s := fielded { fans := List.replicate 8 { state := .coasting } } .run 4000000000;
      secT (s.num (fanP 0xC 8)) ≤ ticksFrom (s.fan 8).since s.now) ∧
    (let s (f : Fan) := fielded { fans := List.replicate 8 f };
      ((s { state := .tachLost, relay := true }).fan 8).opening = none ∧
      ((s { state := .running, opening := some .coasting }).fan 8).openSent = false) := by decide +kernel
/-- A READ or MEASURE frame of six bytes with its check. -/
def query (b : List Byte) : List Byte := b ++ leBytes 2 (queryCrc b)
theorem test_meets_probes :
    (let s (w : Option Sweep) (t : Tick) := fielded { rings := List.replicate 2 { sweep := w } } .ready t;
      ((s none 0).on (ringP 2 1) = false ∧ ((s none 0).ring 1).sweep = none ∧
        (s none 2000000).now.toNat % secT ((s none 0).num (ringP 0 2)) = 2000000 * (2 - 1)) ∧
      ((s (some {}) 100000).ring 1).sweep = some {} ∧ 100000 ≤ ticksFrom 0 (s (some {}) 100000).now ∧
      2000 ≤ ticksFrom 0 (s (some { phase := .fromOut }) 2000).now ∧
      (∀ w ∈ [({ phase := .fromOut, got := true } : Sweep), { phase := .fromRet, stopAt := some 1 }, { phase := .fromRet, attempt := 2 }],
        ((s (some w) 2000).ring 1).sweep = some w)) ∧
    (let b : List Byte := [0xA5, 0x81, 1, 0] ++ List.replicate 10 0;
      let f := b ++ leBytes 2 (crc16 b).toNat;
      f.length = 16 ∧ byteAt f 2 = ({} : Sweep).k + 1 ∧ leNat (sliceB f 14 2) = (crc16 (f.take 14)).toNat) ∧
    Ready (up .ready) ∧ queryOk (query [0x5A, 1, 1, 0, 0, 0]) = true ∧ byteAt (query [0x5A, 1, 48, 0, 0, 0]) 2 ≠ 1 := by decide +kernel
/-- A unit in READY with a writable cartridge and the ledger `l`. -/
def ledgered (l : Ledger) (st : UnitState := .ready) (t : Tick := 0) : State := { up st t with
  led := { l with state := .writable, cart := some {}, link.up := true, replayed := true, journal := { l.journal with sealed := false } } }
theorem test_meets_ledger_writing :
    (let s : State := { ledgered {} with made := [{}] };
      s.made = [{}] ∧ s.journals = true ∧ s.led.full = false ∧ s.led.mramFailed = false) ∧
    (let f : Frame := {};
      let s := ledgered { journal.frames := [f] };
      s.led.journal.frames.find? (fun f => !f.staged) = some f ∧ s.led.stagingUsed + frameSize f.record ≤ stagingRoom) ∧
    (let a : Ashlar := {};
      let s := ledgered { forming := some a } .run 2400000000;
      s.formats = true ∧ secT (s.num 0xB16) ≤ ticksFrom a.firstAt s.now) ∧
    (let s := ledgered { closed := [{}] };
      s.writes = true ∧ s.led.onTape = none ∧ s.led.streaming = false ∧ s.capstoneDue = none ∧ s.nextReady = true) ∧
    (let a : Ashlar := {};
      a.perCh.foldl (· + ·) 0 < 256 ∧ wedgesOf { a with perCh := updAt 15 (· + 1) a.perCh } - 1 ≤ zoneLeft a.wrap a.wedge) ∧
    (let s := ledgered { onTape := some {}, awaiting := [{ kind := .capstone }] };
      s.led.onTape = some {} ∧ s.led.journal.sealed = false ∧ s.led.awaiting = [{ kind := .capstone }] ∧
      (State.event s 0x7012 0x0B 0).ctl.state ≠ .collapse ∧ s.led.link.up = true ∧ s.led.state ≠ .empty ∧ s.led.mramFailed = false ∧
      blockFails none = true) := by decide +kernel
/-- A row of zero bytes as it is read back with both parts stands; with one part missing, C1 has no codeword and it fails. -/
def rowBack : List Byte := rowHeader 76874 5 37 4 false false ++ List.replicate 124 0
set_option maxRecDepth 40000 in
theorem test_meets_row_read : headerOf rowBack = some { seq := 76874, matrix := 5, row := 37, channel := 4, kind := 0, rewrite := false } ∧
    rsDecode 20 (sliceB rowBack 8 124 ++ sliceB rowBack 8 124) [] = some (List.replicate 248 0, 0) ∧
    blockFails (some { partA := some rowBack }) = true := by decide +kernel
theorem test_meets_ledger_verbs :
    (let s : State := { up .ready with par.vals := [{ id := 0xB18, raw := 0 }] };
      s.led.cart = none ∧ s.on 0xB18 = false) ∧
    (let s : State := { up .ready with led.link.up := true };
      s.on 0xB18 = true ∧ s.led.state = .empty ∧ s.led.op = .none) ∧
    (let s : State := { up .ready with led := { cart := some {}, link := { up := true } } };
      Ready s ∧ s.led.cart ≠ none ∧ s.led.threaded = false ∧ s.led.linkFault = false ∧ s.led.state = .empty) ∧
    (Ready (ledgered {}) ∧ (ledgered {}).tapeRefusal = none ∧ shareRange (67108864 - 64) 64 = true) ∧
    (let c : Cartridge := { blank := false };
      let s : State := { up .ready with led := { cart := some c, op := .load } };
      s.led.cart = some c ∧ c.blank = false) ∧
    (let s : State := { up .ready with led := { cart := some {}, op := .unload, state := .unloading } };
      s.led.closed = [] ∧ s.capstoneDue = none ∧ (s.eject.finish (· == PendOp.ledgerUnload) (.ok "EMPTY")).led.loadQueued = false) ∧
    (let c : Cartridge := { tape := [{ seq := 2, trailers := 16, sound := true, recs := [{}] }] };
      let s (o : LedgerOp) := { ledgered {} with led := { op := o, cart := some c, seekTo := .seq 2, replay := some {} } };
      seekPlace c (s .seek).led.seekTo = some (2, 0, 100) ∧ ticksFrom (s .replay).led.opAt (s .replay).now < secT 120 ∧
      Ready (s .verify) ∧ (s .verify).verifyRange.length = 1 ∧ (∀ o ∈ [LedgerOp.seek, .verify, .unload], (s o).led.op = o)) := by
  decide +kernel
theorem test_meets_seal_accesses :
    (keyFor 0x124000000 = some 3 ∧ isSeal 3 = true ∧ pastEnd 0x124FFFFC0 64 = false ∧ keyFor 0x124FFFFC0 = some 3) ∧
    (keyFor 0 = some 0 ∧ isSeal 0 = false ∧ pastEnd 0 64 = false) ∧
    (keyFor 0x12DFFFFFF = some 6 ∧ isGrout 6 = true ∧ pastEnd 0x12DFFFFFF 1 = false) ∧ keyFor 0x3F0000000 ≠ some 1 ∧
    keyFor 0x124000000 ≠ some 0 ∧ (slotAt 0x100000000 = some 1 ∧ isSeal 1 = true) ∧
    (slotAt 0x3F0000010 = none ∧ metaOwner 0x3F0000010 = some (1, 1)) ∧ (slotAt 0 = none ∧ metaOwner 0 = none) ∧
    (let s : State := { up .ready 40000 with mp.heldWrites := [{ slot := 1 }] };
      (s.mp.heldWrites.filter fun h => s.mp.running != some h.slot && msT 10 ≤ ticksFrom h.at_ s.now) ≠ []) ∧
    3 ∉ (up .ready).mp.blocked ∧ isMeta 0x3FFFFFFFF = true ∧ (up .ready).mp.lidOpen = false ∧ (up .ready).mp.engineFailed = false := by
  decide +kernel
/-- RFC 3394, 4.6: a 256-bit KEK, 256 bits of key data and their wrapping. -/
def kek : List Byte := (List.range 32).map (BitVec.ofNat 8)
def wrapped : List Byte := hexBytes (bytesOf "28C9F404C4B810F4CBCCB35CFB87F8263F5786E2D80ED326CBC7F0E71A99F43BFB988B9B7A02DD21")
/-- R477, Table 14.7: a bus error of STAGING makes the formatter discard the image being formed. -/
theorem test_staging_error :
    (let s : State := { up .run with mp.lines := [{ slot := 1, line := 0, poison := true }], led.forming := some { serial := 5 } };
      (sealReadBy 1 1 0x100000000 8 none s).led.forming = none ∧ (sealReadBy 1 1 0x100000000 8 none s).led.fmtSerial = 5 ∧
      (sealReadBy 9 1 0x100000000 8 none s).led.forming = some { serial := 5 }) := by decide
theorem test_meets_seal_keys :
    (Ready (up .held) ∧ (up .held).mp.running ≠ some 6 ∧ (up .held).mp.storeBusy = none ∧ (up .held).led.state = .empty) ∧
    (let s : State := { up .ready with mp.queue := [{ slot := 3 }] };
      s.mp.running = none ∧ s.net.rngOk = true ∧ (s.lineTaken ln).rekeyDue 3 = true ∧ (s.lineTaken ln).rekeyStops 3 = false ∧
      (s.lineTaken ln).rekeyDue 6 = false) ∧
    (let s (q : List RekeyReq) : State := { up .ready with mp.running := some 6, mp.stopping := some 0, mp.queue := q };
      Ready (s []) ∧ ((s []).lineTaken ln).rekeyStops 6 = true ∧ ((s []).lineTaken ln).rekeyWaits 6 = false ∧
      ((s [{ slot := 6 }]).lineTaken ln).rekeyWaits 6 = true ∧ ((s []).moveLine 6 0 false).mp.stopping ≠ none) ∧
    (let s : State := { up .ready 14400000000 with par.vals := [{ id := 0xC09, elem := 6, raw := 1 }] };
      0 < s.num 0xC09 6 ∧ secT (3600 * s.num 0xC09 6) ≤ ticksFrom (s.slot 6).changedAt s.now ∧ s.rekeyDue 6 = false) ∧
    (let s (b : Nat) : State := { up .ready with
        mp.running := some 6
        mp.slots := List.replicate 16 { boundary := b } };
      ((s 0).slot 6).boundary + 1 < linesOf 6 ∧ linesOf 6 ≤ ((s (linesOf 6 - 1)).slot 6).boundary + 1) ∧
    (let s : State := { up .held with
        sessions := [{ ses with freshAt := some 0 }]
        par.strs := [{ id := 0xC40, text := bytesOf "000102030405060708090A0B0C0D0E0F101112131415161718191A1B1C1D1E1F" }] };
      (s.lineTaken ln).fresh ln = true ∧ (s.lineTaken ln).isSet 0xC40 = true ∧ wrapped.length = 40 ∧ (s.lineTaken ln).key 0xC40 = kek) ∧
    (let s : State := { up .held with mp.storeBusy := some (1, []) };
      s.mp.storeBusy = some (1, [])) := by decide +kernel
/-- A paired unit in `st` at tick `t` with the crown connections READY on PEER and the crown `c`. -/
def pairedUnit (c : Crown) (st : UnitState) (t : Tick := 0) : State := { up st t with
  par.vals := [{ id := 0x003, raw := 1 }]
  net.conns := [{ state := .ready, port := 7, pconn := 0x0C00 }, { state := .ready, port := 7, pconn := 0x0C01 }] ++ List.replicate 62 {}
  crown := c }
/-- R495, R498, Table 15.2: an epoch that begins a base is of kind BASE; one cut with no base due is a DELTA. -/
theorem test_base_epoch_kind :
    ((pairedUnit { holds := true, baseDue := true } .run 4000).epochOf 0).kind = 1 ∧
    ((pairedUnit { holds := true } .run 4000).epochOf 0).kind = 0 := by decide
theorem test_meets_crown :
    (let h := pairedUnit { holds := true } .run 4000;
      let b := pairedUnit {} .standby 200;
      h.now.toNat % 400 = 0 ∧ b.now.toNat % 400 = 200 ∧ h.pairConn 0x0C00 = some 0 ∧ b.paired = true ∧
      h.now.toNat % 4000 = 0 ∧ h.crown.yieldAsked = false ∧ b.pairConn 0x0C01 ≠ none ∧
      (let s := pairedUnit { synced := .yes, epoch := 4, notices := [(5, 0)] } .standby;
        s.noticed { epoch := 5 } = true ∧ (s.noticeTaken { epoch := 5 }).judgeEpoch { epoch := 5 } = some true)) ∧
    (let s (y : SyncState) := pairedUnit { synced := y } .standby 2400;
      (s .yes).peerSilent = true ∧ (s .yes).on 0xD03 = true ∧ (s .no).crown.synced ≠ .yes ∧ Ready (s .yes)) ∧
    (let s : State := { pairedUnit { holds := true } .run 400 with sync.driving := true };
      s.sync.driving = true ∧ 400 ≤ ticksFrom s.sync.ownGenSince s.now) ∧
    (let s : State := { up .ready 40000 with fld.crown.crownUp := some 1, led.crown.crownUp := some 1 };
      s.crownSilent s.fld.crown .field (msT 10) = true ∧ s.crownSilent s.led.crown .ledger 400 = true) ∧
    (let s := pairedUnit { holds := true, peerBeat := some { synced := true } } .run;
      Ready s ∧ (s.lineTaken ln).peerSynced = true ∧ s.crown.yieldAsked = false ∧ s.crown.yielding = false) ∧
    (let s := pairedUnit { holds := true, yieldAsked := true } .run 4000;
      s.atCut = true ∧ s.crown.yieldAsked = true) ∧
    (let s := pairedUnit { yieldAt := some 0 } .run 20000;
      msT 5 ≤ ticksFrom 0 s.now) := by decide +kernel
theorem test_meets_factory_bank : (∃ t, step { State.reset with pending := [.powerUp { spoiled := [.factory] }] } = .next t) ∧
    BankId.factory ∈ [BankId.factory] := ⟨⟨_, rfl⟩, by decide⟩
theorem test_meets_invariant : State.reset.Inv ∧ (∃ t, step State.reset = .next t) ∧ writesMemory .consoleBreak = false ∧
    movesUnit .consoleBreak = false ∧ ∃ t, exec .consoleBreak State.reset = .next t :=
  ⟨by decide, ⟨_, rfl⟩, rfl, rfl, _, rfl⟩
theorem test_meets_rings_ahead :
    (let s : State := { up .ready with tk.sources := { conn := some 0 } :: List.replicate 15 {} };
      (s.source 1).conn ≠ none ∧ ((4097#32 : U32) - (s.source 1).cons).toNat = 4097 ∧
      ((0x80000000#32 : U32) - (s.source 1).cons).toNat = 2 ^ 31 ∧ 2 ^ 31 < ((0x80000001#32 : U32) - (s.source 1).cons).toNat ∧
      ((s.source 1).cprod - (s.source 1).ccons).toNat < ((1#32 : U32) - (s.source 1).ccons).toNat) := by decide +kernel
theorem test_meets_lid : (up .ready).ctl.state ≠ .dark ∧ (up .ready).mp.lidOpen = false ∧
    (let s : State := { up .waking with mp.lidOpen := true };
      s.ctl.state ≠ .dark ∧ s.mp.lidOpen = true) ∧ State.reset.ctl.state = .dark := by decide +kernel
theorem test_meets_wrong_key : (∀ key ∈ [0, 1, 2, 4, 5, 6, 7, 15], keyFor 0x124000000 ≠ some key) ∧ keyFor 0xFFFFFFFF = some 0 ∧
    regionOf 6 = some (0x12D400000, 12 * 2 ^ 20) ∧ keyFor (0x12D400000 + 12 * 2 ^ 20 - 1) = some 6 ∧ keyFor 0x3EFFFFFFF = some 0 := by
  decide +kernel
theorem test_meets_key_store :
    (let s : State := { up .held with mp.storeBusy := some (1, []), mp.storeB.generation := 1 };
      s.storeBNewer = true) ∧
    (let s : State := { up .held with mp.storeBusy := some (1, []), mp.storeA.generation := 1 };
      s.storeBNewer = false) := by decide +kernel
theorem test_meets_generation :
    (let s := pairedUnit { synced := .yes } .standby 2400;
      s.peerSilent = true ∧ s.on 0xD03 = true ∧ s.crown.silentNoted = false ∧ (s.lineTaken ln).peerSilent = true ∧ Ready s) ∧
    (let s : State := { up .standby with ctl.causes := 16 };
      s.ctl.causes.getLsbD 4 = true) := by decide +kernel
theorem test_meets_read_back :
    (pastEnd 0 64 = false ∧ isSeal 0 = false) ∧
    (0x124FFFFC0 = lineAddr 3 262143 ∧ (up .ready).sealGate 3 = none ∧ ((up .ready).lineMeta 3 262143).ctr ≠ ctrMax) ∧
    (let s : State := { up .ready with mp.lines := [{ slot := 3, line := 262143, poison := true }] };
      s.sealGate 3 = none ∧ (s.lineMeta 3 262143).poison = true ∧ pastEnd (lineAddr 3 262143 + 63) 1 = false) := by decide +kernel
set_option maxRecDepth 20000 in
theorem test_meets_tape_codes : (let c := [1#8, 2, 3] ++ rsParity 4 [1#8, 2, 3];
    rsDecode 4 (c.set 1 9 |>.set 0 7) [0] = some (c, 1) ∧ rsDecode 4 (c.set 1 9 |>.set 2 7) [] = some (c, 2) ∧
    rsDecode 4 (c.set 1 9 |>.set 2 7) [0] = none) := by decide +kernel
theorem test_meets_rounding : 0 < 2 ∧ 2 * |(1 : Int) - 2 * 0| = (2 : Nat) := by decide

/-! ### Ill-formed commands, one for each check of `WellFormed.lean`, and well-formed ones beside them -/

/-- A line of CONSOLE with a text. -/
def said (text : String) : Ln := { text := bytesOf text }
theorem test_refuses_ill_formed : ([.configSave { ses := 9, text := bytesOf "CONFIG SAVE" },
      .configSave { ses := 1, tag := some 10000, text := bytesOf "@0001 CONFIG SAVE" }, .configSave (said "CONFIG ACCEPT"), .configSave {},
      .fanReset (said "FAN 0 RESET") 0, .fanReset (said "FAN 9 RESET") 9, .portLinkUp 0,
      .portLinkUp 8, .keepalive 64, .ticketProv 0, .ticketProv 17, .groupRetry 16, .groupAdd (said "GROUP 0 ADD SUP-B") 0 (.port 8),
      .groupAdd (said "GROUP 0 ADD 64") 0 (.conn 64), .probeSweepStart 3, .probeNodeRead 1 49 false [], .zonePurgeEnd 6, .loopSample 16,
      .rekeyPeriodExpire 7, .rekeyPeriodExpire 0] : List Instr).all (fun i => !i.wf) = true ∧
    ([.courseRxExtend {} 512 0, .courseRxDrop {} 4 0, .coursePrimeStart 1 64, .boostPhaseFault 1 6 false, .readbackMismatch true 17,
      .readbackMismatch false 9, .blockReadback none 16, .blockReadback (some { partA := some [] }) 0, .ashlarWriteEnd 17, .transportFault 4,
      .wakingTimeout 10, .courseRxIdle { course := 9 }, .courseRxIdle { up := 2 }, .courseStatus { course := 0 } {}, .linkTrain (.course 9),
      .portLinkLoss (.port 8), .portLinkLoss (.course 9), .portLinkLoss (.probeRing 3)] : List Instr).all (fun i => !i.wf) = true ∧
    ([.rlAck { port := 8 }, .rlAck { conn := 64 }, .bondEffect (.geometry 9), .bondEffect (.tach 0), .bondEffect (.limits 6),
      .bondCommit (said "BOND COMMIT geometry.0") (.one (.geometry 0)), .showCmd (said "SHOW RING 17") (.ring 17), .showCmd (said "SHOW FAN 9") (.fan 9),
      .showCmd (said "SHOW CONN 64") (.conn 64), .showCmd (said "SHOW GROUP 16") (.group 16), .showCmd (said "SHOW LOOP 16") (.loop 16),
      .showCmd (said "SHOW WINDOWS 64") (.windows (some 64))] : List Instr).all (fun i => !i.wf) = true := by decide +kernel
theorem test_accepts_well_formed : ([.configSave { ses := 8, tag := some 9999, text := bytesOf "@9999 CONFIG SAVE" }, .fanReset (said "FAN 8 RESET") 8,
    .portLinkUp 7, .keepalive 63, .ticketProv 16, .groupRetry 15, .probeNodeRead 2 48 false [], .zonePurgeEnd 5, .loopSample 15, .rekeyPeriodExpire 6,
    .courseRxExtend {} 511 0, .wakingTimeout 9, .blockReadback (some { partA := some rowBack }) 15, .bondCommit (said "bond commit ALL") .all,
    .showCmd (said "SHOW TIME") .time] : List Instr).all (·.wf) = true := by decide +kernel

/-! ### Values that the manual, or a standard it names, works out -/

/-- The check value of CRC-16/CCITT-FALSE and of the CRC-32 of R116 over "123456789". -/
theorem test_crc : crc16 (bytesOf "123456789") = 0x29B1 ∧ crc32 (bytesOf "123456789") = 0xCBF43926 := by decide +kernel
/-- RFC 4231, test case 2: HMAC-SHA-256 with the key "Jefe". -/
theorem test_hmac : (hmac (bytesOf "Jefe") (bytesOf "what do ya want for nothing?")).take 8 =
    [0x5B, 0xDC, 0xC1, 0x46, 0xBF, 0x60, 0x75, 0x4E] := by decide +kernel
/-- Worked case 1.1: what SHOW time answers. -/
theorem test_show_time : State.showLines { up .ready 0xEE6B2C0 with
    sync := { running := true, started := true, line := 1234567, edge := 0xEE6B280, period := 1280000 }
    crown.gen := 7 } .time =
    some ["tick   0x00000EE6B2C0", "line   1234567", "edge   0x00000EE6B280", "period 5000.00", "crown  7"] := by decide +kernel
/-- Worked case 3.1: a setpoint of 75 °C under a high limit of 70 °C fails the check of zone.2.limits, under 80 °C it passes. -/
theorem test_limits : (let v (high id : Nat) : Int := if id = zoneP 0 2 then 7500 else if id = zoneP 1 2 then high * 100 else 4000;
    bondCheck (.limits 2) (v 70) 0 = false ∧ bondCheck (.limits 2) (v 80) 0 = true) := by decide +kernel
/-- Worked case 14.1: the write that brings the time page's counter to 0x0FF00000 queues the rekey of EXPORT and records 0x8002. -/
theorem test_counter_limit : (let s : State := { up .ready with mp.lines := [{ slot := 3, line := 0, ctr := 0x0FEFFFFF }] };
    (s.advance 3 0 false).mp.queue.map (·.slot) = [3] ∧ (s.advance 3 0 false).raised.map (·.code) = [0x8002]) := by decide +kernel
/-- The commands wait in order: a step takes the front one, and on an empty queue it is a tick. -/
theorem test_step : (∀ (c : Instr) (s : State), step { s with pending := [c, .evFlush] } = exec c { s with pending := [.evFlush] }) ∧
    decodeTableWord 8 0 = none ∧ ∀ s, State.withFetchWord s 8 0 = s := ⟨fun _ _ => rfl, rfl, fun _ => rfl⟩

/-! ### What stands on the tape and on the wires -/

/-- The clauses of `EachSlotHoldsOneRow` at the ends of their ranges. -/
theorem test_meets_interleave : (127 < 128 ∧ 95 < 96) ∧ (0 < 128 ∧ 0 < 96) ∧ (15 < 16 ∧ 767 < 768) := by decide
/-- R397: the CRC-8 over the text 123456789. -/
theorem test_crc8 : crc8 (bytesOf "123456789") = 0xF4#8 := by decide +kernel
/-- Table 12.3, rows 8 and 9. -/
theorem test_servo_numbers : grayOf (servoNumber 2 10 2) = 0x1BF#10 ∧ grayOf (servoNumber 5 17 3) = 0x3A4#10 ∧
    grayBack 0x3A4#10 = servoNumber 5 17 3 := by decide
/-- Table 12.5. -/
theorem test_stone_code : stoneSlots [0x4A, 0x2C, 0x01, 0x05] = (true, [0x4A, 0x2C, 0x01, 0x05]) ∧
    stoneSlots [0x12, 0x00, 0x34, 0x00] = (false, [0xA1, 0x12, 0x34, 0xFF]) ∧
    stoneSlots [0, 0, 0, 0] = (false, [0xF1, 0xFF, 0xFF, 0xFF]) := by decide
/-- Worked case 12.1: where row 37 of matrix 5 goes, and the first bytes of its header. -/
theorem test_one_row : rowChannel 5 37 = 4 ∧ rowSlot 5 37 = 301 ∧ slotMatrix 4 301 = 5 ∧ slotRow 4 301 = 37 ∧
    (rowHeader 76874 5 37 4 false false).take 6 = [0x4A, 0x2C, 0x01, 0x05, 0x25, 0x04] := by decide
/-- R403: a codeword vanishes at the roots of the generator. -/
theorem test_parity : let w := [1#8, 2, 3] ++ rsParity 4 [1#8, 2, 3];
    ((List.range 4).map fun i => w.foldl (fun a b => fmul (alphaPow i) a ^^^ b) 0) = [0, 0, 0, 0] := by decide +kernel
/-- Table 8.15, but for ACKREQ, which the manual leaves to the sender: bytes 1 to 31 of the header. -/
theorem test_header : (TxFrame.header {
      op := .write, dconn := 3, psn := 0x00A1B2C4, ack := 0x000F0010, epoch := 2, fseq := 0x1234567,
      payload := List.replicate 32 0, rkey := 0x020003, offset := 0x3E00, first := true, last := true }).drop 1 =
    [0x01, 0x03, 0x00, 0xC4, 0xB2, 0xA1, 0x00, 0x10, 0x00, 0x0F, 0x00, 0x02, 0x00, 0x00, 0x00, 0x67, 0x45, 0x23, 0x01, 0x00, 0x00,
      0x20, 0x00, 0x03, 0x00, 0x02, 0x00, 0x00, 0x3E, 0x00, 0x00] := by decide +kernel
/-- Worked case 8.1: the IV. -/
theorem test_iv : frameIv 2 0x1234567 = [0, 0, 0, 2, 0, 0, 0, 0, 0x01, 0x23, 0x45, 0x67] := by decide
/-- Case 14 of the GCM specification: AES-256, an all-zero block under an all-zero key and IV. -/
theorem test_gcm : gcmText (List.replicate 32 0) (List.replicate 12 0) (List.replicate 16 0) =
    [0xCE, 0xA7, 0x40, 0x3D, 0x4D, 0x60, 0x6B, 0x6E, 0x07, 0x4E, 0xC5, 0xD3, 0xBA, 0xF3, 0x9D, 0x18] := by decide +kernel

end Sys2Proof.Tests
end

section
/-! PROOFS. The order of ticks, and what every command keeps of the queue, the tick, the FACTORY bank and the DRAM, the tick
of an empty queue, and what the commands of the clock and of lost links do (chapter 1). -/
namespace Sys2Proof.Machine

/-! ### The order of ticks (R19) -/

theorem tickBefore_iff (a b : Tick) : tickBefore a b = true ↔ 1 ≤ (b - a).toNat ∧ (b - a).toNat < 2 ^ 47 := by
  simp [tickBefore]
/-- The distance that R19 takes modulo 2^48 is the difference of the 48-bit ticks. -/
theorem toNat_tick_sub (a b : Tick) : ((b - a).toNat : Int) = ((b.toNat : Int) - a.toNat) % 2 ^ 48 := by
  have := a.isLt
  rw [BitVec.toNat_sub]
  omega
@[simp] theorem tickBefore_self (a : Tick) : tickBefore a a = false := by simp [tickBefore]
/-- The two distances between different ticks add up to 2^48, so that they are not both below 2^47. -/
theorem tickBefore_asymm {a b : Tick} (h : tickBefore a b = true) : tickBefore b a = false := by
  rw [← Bool.not_eq_true, tickBefore_iff]
  obtain ⟨near, short⟩ := (tickBefore_iff a b).1 h
  have there := toNat_tick_sub a b
  have back := toNat_tick_sub b a
  omega
@[simp] theorem tickBefore_add_right (a b d : Tick) : tickBefore (a + d) (b + d) = tickBefore a b := by
  unfold tickBefore
  rw [add_sub_add_right_eq_sub]

/-! ### What every command keeps -/

/-- A command answers the one next state of its meaning, so what holds of that state holds of every state it answers. -/
theorem of_next {P : State → Prop} {t u : State} (h : Host.Outcome.next u = (.next t : Res)) (k : P u) : P t := by
  cases h
  exact k
/-- Every command but those that may write the DRAM keeps all four: its meaning's law of `kept` says so. -/
theorem exec_kept {c : Instr} {s t : State} (w : writesMemory c = false) (h : exec c s = .next t) : t.kept = s.kept := by
  cases c
  case powerUp | sealWrite | groutAccess | repointLine | ledgerReplayDone | rlWrite | rlWriteWithNotice | rlAtomicAdd | rlReadResp
    | rlAtomicResp => cases w
  all_goals
    refine of_next (P := fun t => t.kept = s.kept) h ?_
    simp
/-- The commands that may write the DRAM, POWER_UP apart, keep the queue, the tick and the FACTORY bank: they write it by the
memory operations. -/
theorem exec_keeps_of_writesMemory {c : Instr} {s t : State} (w : writesMemory c = true) (p : ∀ q, c ≠ .powerUp q)
    (h : exec c s = .next t) : s.Keeps t := by
  cases c
  case powerUp q => exact absurd rfl (p q)
  case sealWrite => exact of_next h (sealWriteCmd_keeps _ _ _ _ _ _)
  case groutAccess => exact of_next h (groutAccess_keeps _ _ _ _ _)
  case repointLine => exact of_next h (repointLine_keeps _ _)
  case ledgerReplayDone => exact of_next h (ledgerReplayDone_keeps _)
  case rlWrite => exact of_next h (State.writeFrame_keeps _ _ _ false)
  case rlWriteWithNotice => exact of_next h (State.writeFrame_keeps _ _ _ true)
  case rlAtomicAdd => exact of_next h (rlAtomicAdd_keeps _ _ _)
  case rlReadResp => exact of_next h (rlReadResp_keeps _ _ _)
  case rlAtomicResp => exact of_next h (rlAtomicResp_keeps _ _ _)
  all_goals cases w
/-- Every command but POWER_UP keeps the queue, the tick, the FACTORY bank and the memory's canonical form. -/
theorem exec_keeps {c : Instr} {s t : State} (p : ∀ q, c ≠ .powerUp q) (h : exec c s = .next t) : s.Keeps t := by
  cases w : writesMemory c
  · exact .of_kept (exec_kept w h)
  · exact exec_keeps_of_writesMemory w p h
theorem exec_pending {c : Instr} {s t : State} (h : exec c s = .next t) : t.pending = s.pending := by
  by_cases p : ∃ q, c = .powerUp q
  · obtain ⟨q, rfl⟩ := p
    cases (exec_powerUp q s).symm.trans h
    exact (powerUp_keeps q s).1
  · exact (exec_keeps (fun q e => p ⟨q, e⟩) h).pending

/-! ### A tick on an empty queue -/

theorem State.kept_eq_iff {s t : State} : t.kept = s.kept ↔
    t.pending = s.pending ∧ t.clk.tick = s.clk.tick ∧ t.par.factory = s.par.factory ∧ t.mp.dram = s.mp.dram := by
  simp only [State.kept, Prod.mk.injEq]
theorem State.awake_iff (s : State) : s.awake = true ↔ s.ctl.state ≠ .dark := by simp [State.awake]
theorem step_of_empty {s : State} (h : s.pending = []) : step s = .next s.tickOn := by
  unfold step
  rw [h]
theorem State.tickOn_awake {s : State} (h : s.ctl.state ≠ .dark) : s.tickOn.kept = s.count.kept := by
  rw [tickOn_keeps, if_pos (s.awake_iff.2 h)]
theorem State.tickOn_dark {s : State} (h : s.ctl.state = .dark) : s.tickOn.kept = s.kept := by
  rw [tickOn_keeps, if_neg fun a => s.awake_iff.1 a h]

/-! ### The commands of the clock (chapter 1) -/

theorem lineSyncEdge_of_due {s : State} (runs : s.sync.running = true ∨ s.sync.shadow = true) (due : s.sync.edgeDue = true) :
    lineSyncEdge s =
      (let u := (if (s.committedOf .sync).elim false fun c => c.at_ != s.now then s.syncEffect else s).issueEdge
       if u.lotDue then u.lotEffect else u) := by
  have r : (s.sync.running || s.sync.shadow) = true := by simpa using runs
  unfold lineSyncEdge
  rw [r, due]
  rfl
/-- The edge that is issued, but for its line (`State.issueEdge_line`): its tick is now, and it heads the line record. -/
theorem State.issueEdge_edge (s : State) : s.issueEdge.sync.edge = s.now ∧ s.issueEdge.sync.started = true ∧
    s.issueEdge.sync.edgeDue = false ∧
    s.issueEdge.sync.record = ({ line := s.issueEdge.sync.line, edge := s.now, period := s.sync.period } :: s.sync.record).take 65536 := by
  simp only [State.issueEdge, State.updatePage_sync, true_and]
  split <;> exact ⟨rfl, rfl⟩
theorem lotChangeEffect_of_due {s : State} (due : s.lotDue = true) : lotChangeEffect s = s.lotEffect := if_pos due
theorem timePageUpdate_awake {s : State} (a : s.ctl.state ≠ .dark) : timePageUpdate s = s.updatePage := if_pos (s.awake_iff.2 a)
theorem State.updatePage_of_room {s : State} (room : s.pageRoom = true) :
    s.updatePage = State.advance { s with page := s.pageNow } 3 0 false := if_pos room
theorem State.updatePage_full {s : State} (full : s.pageRoom = false) : s.updatePage = s.noteHeld 3 0 := by
  unfold State.updatePage
  rw [full]
  rfl
theorem clockLockLoss_locked {s : State} (a : s.ctl.state ≠ .dark) (locked : s.clk.refLocked = true) :
    clockLockLoss s = ((State.event { s with clk.refLocked := false } 0x1011 0 0).stopLineSync).enterFault 0 := by
  unfold clockLockLoss
  rw [s.awake_iff.2 a, locked]
  rfl
theorem referenceClockLock_unlocked {s : State} (a : s.ctl.state ≠ .dark) (lost : s.clk.refLocked = false) :
    referenceClockLock s = { s with clk.refLocked := true, clk.lockedSince := s.now } := by
  unfold referenceClockLock
  rw [s.awake_iff.2 a, lost]
  rfl

/-! ### PORT_LINK_LOSS (Table 1.6) -/

theorem portLinkDown_of_link {p : Nat} {s : State} (a : s.ctl.state ≠ .dark) (first : 1 ≤ p) (last : p ≤ 7) (link : (s.port p).link = true) :
    portLinkDown p s = (s.linkGone p).noteLoss p := by
  unfold portLinkDown
  rw [s.awake_iff.2 a, link]
  simp [Nat.one_le_iff_ne_zero.1 first, last]
theorem portLinkLoss_port {p : Nat} {s : State} (a : s.ctl.state ≠ .dark) : portLinkLoss (.port p) s = portLinkDown p s := by
  unfold portLinkLoss
  rw [s.awake_iff.2 a]
  rfl
theorem portLinkLoss_course {n : Nat} {s : State} (a : s.ctl.state ≠ .dark) (has : s.hasCourse n = true)
    (up : (s.course n).link.up = true) :
    portLinkLoss (.course n) s = (s.courseLost n).failBringup 601 ("course " ++ natText n ++ " link") := by
  unfold portLinkLoss
  rw [s.awake_iff.2 a]
  simp only [has, up]
  rfl
theorem portLinkLoss_field {s : State} (a : s.ctl.state ≠ .dark) : portLinkLoss .field s = s.loseField := by
  unfold portLinkLoss
  rw [s.awake_iff.2 a]
  rfl
theorem portLinkLoss_ledger {s : State} (a : s.ctl.state ≠ .dark) : portLinkLoss .ledger s = s.loseLedger := by
  unfold portLinkLoss
  rw [s.awake_iff.2 a]
  rfl
theorem portLinkLoss_probeRing {r : Nat} {s : State} (a : s.ctl.state ≠ .dark) (first : 1 ≤ r) (last : r ≤ 2) :
    portLinkLoss (.probeRing r) s = s.event 0x6030 0x0A r (s.ring r).breakAt := by
  unfold portLinkLoss
  rw [s.awake_iff.2 a]
  simp [first, last]

/-! ### The obligations -/

/-- Settles O46: every command but POWER_UP keeps queue and tick, and POWER_UP keeps the queue. -/
theorem commandsKeepQueueAndTick : Obligations.CommandsKeepQueueAndTick :=
  fun _ _ _ h => ⟨exec_pending h, fun p => (exec_keeps p h).tick⟩

/-- Settles O55: the two distances add up to 2^48, and a shift leaves their difference. -/
theorem ticksCompareModulo : Obligations.TicksCompareModulo := by
  intro a b d
  refine ⟨?_, tickBefore_asymm, tickBefore_self a, tickBefore_add_right a b d⟩
  rw [tickBefore_iff, ← toNat_tick_sub]
  omega

/-- Settles O43: outside DARK a tick keeps what counting keeps, in DARK all. -/
theorem anEmptyQueueTicks : Obligations.AnEmptyQueueTicks := by
  intro s empty
  refine ⟨s.tickOn, step_of_empty empty, ?_⟩
  by_cases dark : s.ctl.state = .dark
  · obtain ⟨queue, tick, factory, dram⟩ := State.kept_eq_iff.1 (State.tickOn_dark dark)
    exact ⟨queue.trans empty, dram, factory, fun n => absurd dark n, fun _ => tick⟩
  · obtain ⟨queue, tick, factory, dram⟩ := State.kept_eq_iff.1 (State.tickOn_awake dark)
    exact ⟨queue.trans empty, dram, factory, fun _ => tick, fun d => absurd d dark⟩

/-- Settles O12, by the equation of each command's meaning where it has its own effect. -/
theorem clockCommandsComplete : Obligations.ClockCommandsComplete := by
  refine ⟨?edge, ?record, ?lot, ?page, ?held, ?loss, ?lock, ?port, ?course, ?links, ?ring⟩
  case edge =>
    rintro s u runs due rfl
    rw [exec_lineSyncEdge, lineSyncEdge_of_due runs due]
  case record => exact fun s => ⟨s.issueEdge_line, s.issueEdge_edge⟩
  case lot =>
    intro s due
    rw [exec_lotChangeEffect, lotChangeEffect_of_due due]
  case page =>
    intro s a room
    rw [exec_timePageUpdate, timePageUpdate_awake a, State.updatePage_of_room room]
  case held =>
    intro s a full
    rw [exec_timePageUpdate, timePageUpdate_awake a, State.updatePage_full full]
  case loss =>
    intro s a locked
    rw [exec_clockLockLoss, clockLockLoss_locked a locked]
  case lock =>
    intro s a lost
    rw [exec_referenceClockLock, referenceClockLock_unlocked a lost]
  case port =>
    intro p s a first last link
    rw [exec_portLinkLoss, portLinkLoss_port a, portLinkDown_of_link a first last link]
  case course =>
    intro n s a has up
    rw [exec_portLinkLoss, portLinkLoss_course a has up]
  case links =>
    intro s a
    rw [exec_portLinkLoss, exec_portLinkLoss, portLinkLoss_field a, portLinkLoss_ledger a]
    exact ⟨rfl, rfl⟩
  case ring =>
    intro r s a first last
    rw [exec_portLinkLoss, portLinkLoss_probeRing a first last]

/-- Settles O44: each field holds its default, the courses and the fans eight times the same. -/
theorem resetHolds : Obligations.ResetHolds := by
  refine ⟨rfl, rfl, rfl, rfl, rfl, rfl, rfl, rfl, rfl, rfl, rfl, rfl, rfl, rfl, ?_, ?_⟩
  · intro c m
    rw [List.eq_of_mem_replicate m]
  · intro f m
    rw [List.eq_of_mem_replicate m]

end Sys2Proof.Machine
end

section
/-! SUPPORT. The rounding of R50: how far it lies from a quotient, and where it goes from half way. -/
namespace Sys2Proof.Machine

/-- A negative value rounds as its opposite does. -/
theorem roundDiv_neg (n : Int) {d : Nat} (hd : 0 < d) : roundDiv (-n) d = -roundDiv n d := by
  have h0 : (d : Int) / (2 * d) = 0 := Int.ediv_eq_zero_of_lt (by omega) (by omega)
  unfold roundDiv
  rcases Int.lt_trichotomy n 0 with h | rfl | h
  · rw [if_pos (by omega), if_neg (by omega), neg_neg]
  · simp [h0]
  · rw [if_neg (by omega), if_pos (by omega), neg_neg]
/-- The rounding of a value that is not negative, as the quotient it is: one from n/d - 1/2, not included, to n/d + 1/2. -/
theorem roundDiv_between {n : Int} {d : Nat} (hn : 0 ≤ n) (hd : 0 < d) :
    2 * (d * roundDiv n d) ≤ 2 * n + d ∧ 2 * n + d < 2 * (d * roundDiv n d) + 2 * d := by
  have hq : roundDiv n d = (2 * n + d) / (2 * d) := if_pos hn
  have hlo := Int.mul_ediv_self_le (x := 2 * n + d) (k := 2 * (d : Int)) (by omega)
  have hhi := Int.lt_mul_ediv_self_add (x := 2 * n + d) (k := 2 * (d : Int)) (by omega)
  rw [← hq, mul_assoc] at hlo hhi
  exact ⟨hlo, hhi⟩
/-- The rounding lies half a step away at most. -/
theorem roundDiv_error (n : Int) {d : Nat} (hd : 0 < d) : 2 * |n - d * roundDiv n d| ≤ d := by
  have nonneg : ∀ k : Int, 0 ≤ k → 2 * |k - d * roundDiv k d| ≤ d := fun k hk => by
    have ⟨hlo, hhi⟩ := roundDiv_between hk hd
    rcases abs_cases (k - d * roundDiv k d) with ⟨h, -⟩ | ⟨h, -⟩ <;> rw [h] <;> omega
  rcases le_total 0 n with h | h
  · exact nonneg n h
  · have e : -n - d * roundDiv (-n) d = -(n - d * roundDiv n d) := by rw [roundDiv_neg n hd]; ring
    rw [← abs_neg, ← e]
    exact nonneg (-n) (by omega)
/-- An integer at most half a step away is as near as any. -/
theorem nearest_of_half_step {n q : Int} {d : Nat} (h : 2 * |n - d * q| ≤ d) (m : Int) : |n - d * q| ≤ |n - d * m| := by
  rcases eq_or_ne q m with rfl | hne
  · exact le_rfl
  · have hstep : (d : Int) ≤ |n - d * m - (n - d * q)| := by
      have e : n - d * m - (n - d * q) = d * (q - m) := by ring
      rw [e, abs_mul, Nat.abs_cast]
      exact le_mul_of_one_le_right (by omega) (Int.one_le_abs (sub_ne_zero.2 hne))
    have htri := abs_sub (n - d * m) (n - d * q)
    omega
/-- From half way between two integers a value that is not negative goes to the greater. -/
theorem tie_le_roundDiv {n m : Int} {d : Nat} (hn : 0 ≤ n) (hd : 0 < d) (h : 2 * |n - d * m| = d) :
    0 ≤ m ∧ m ≤ roundDiv n d := by
  have ⟨_, hhi⟩ := roundDiv_between hn hd
  have hside : 2 * n - d ≤ 2 * (d * m) ∧ 2 * (d * m) ≤ 2 * n + d := by
    rcases abs_cases (n - d * m) with ⟨e, -⟩ | ⟨e, -⟩ <;> rw [e] at h <;> constructor <;> omega
  have hpos : (0 : Int) < d := by omega
  have hlow : (d : Int) * (-1) < d * m := by omega
  have hup : (d : Int) * m < d * (roundDiv n d + 1) := by rw [mul_add, mul_one]; omega
  have := lt_of_mul_lt_mul_left hlow hpos.le
  have := lt_of_mul_lt_mul_left hup hpos.le
  omega
/-- From half way between two integers a value goes away from zero. -/
theorem abs_tie_le_roundDiv {n m : Int} {d : Nat} (hd : 0 < d) (h : 2 * |n - d * m| = d) : |m| ≤ |roundDiv n d| := by
  rcases le_total 0 n with hn | hn
  · have ⟨hm, hq⟩ := tie_le_roundDiv hn hd h
    exact abs_le_abs_of_nonneg hm hq
  · have e : -n - d * -m = -(n - d * m) := by ring
    have ⟨hm, hq⟩ := tie_le_roundDiv (n := -n) (m := -m) (by omega) hd (by rw [e, abs_neg]; exact h)
    rw [roundDiv_neg n hd] at hq
    simpa only [abs_neg] using abs_le_abs_of_nonneg hm hq

/-- Settles O58: the rounding is half a step away at most, so nothing lies nearer, and half way it is the greater in size. -/
theorem roundsToTheNearest : Obligations.RoundsToTheNearest := fun n _ hd =>
  ⟨nearest_of_half_step (roundDiv_error n hd), fun _ => abs_tie_le_roundDiv hd, roundDiv_neg n hd⟩

end Sys2Proof.Machine
end

section
/-! SUPPORT. The command language (chapter 2, and the lines of chapter 3): what the bytes and lines of a session do to it, and what each
verb does where it runs. -/
namespace Sys2Proof.Machine

/-! ### CONSOLE bytes -/

section
variable {s : State} {x : Session}

/-- A byte that is no editing key, or that came with an error, joins the line of a TYPED session (R54, R89). -/
theorem consoleChar_enters {b : Byte} {err : Bool} (hx : s.session? 0 = some x) (hm : x.mode = .typed) (he : x.escape = false)
    (hb : err = true ∨ ¬ b ∈ [13#8, 10#8, 0x1B#8, 0x03#8, 0x08#8, 0x7F#8, 0x15#8]) :
    consoleChar b err s = (s.updSession 0 fun y => { y with lastCr := false }).updSession 0 (·.enterByte b err) := by
  unfold consoleChar
  rcases hb with rfl | hb
  · simp [hx]
  · simp only [List.mem_cons, List.not_mem_nil, or_false, not_or] at hb
    obtain ⟨hcr, hlf, hesc, hbreak, hbs, hdel, hnak⟩ := hb
    cases err <;> simp [hx, hm, he, hcr, hlf, hesc, hbreak, hbs, hdel, hnak]
/-- Outside an escape sequence a terminator ends the line (R45). -/
theorem consoleChar_ends {b : Byte} (hx : s.session? 0 = some x) (he : x.escape = false) (hb : b = 13 ∨ b = 10) :
    consoleChar b false s = s.consoleEnd b := by
  unfold consoleChar
  rcases hb with rfl | rfl <;> simp [hx, he]
/-- A carriage return empties the line being entered and hands it over (R45). -/
theorem State.consoleEnd_cr (hx : s.session? 0 = some x) :
    s.consoleEnd 13 = (State.updSession (s.updSession 0 fun y => ({ y with lastCr := true } : Session).clearLine) 0
      fun y => if y.mode == .typed then y.echo [13, 10] else y).receiveLine 0 x.partialLine x.spoiled := by
  simp [State.consoleEnd, hx]
/-- In TYPED mode a break empties the line (R89, Table 2.3). -/
theorem consoleBreak_clears (hx : s.session? 0 = some x) (hm : x.mode = .typed) (he : x.escape = false) :
    consoleBreak s = ((s.updSession 0 fun y => { y with lastCr := false }).updSession 0 (·.clearLine)).prompt 0 := by
  simp [consoleBreak, consoleChar, hx, hm, he]
/-- The line being entered and its echo after one more byte (R54). -/
theorem Session.enterByte_typed {b : Byte} {err : Bool} (hm : x.mode = .typed) :
    (x.enterByte b err).partialLine = x.partialLine ++ [b] ∧ (x.enterByte b err).spoiled = (x.spoiled || err) ∧
      (x.enterByte b err).sent = { out := .echo (if x.partialLine.length < 200 then [b] else [7#8]) } :: x.sent := by
  simp [Session.enterByte, Session.echo, Session.say, hm]

end

/-! ### The line at the head of a session's input, at the session's turn (R42, R91) -/

/-- What the faults of a line that is no repeat make of it (R68). -/
def LineFault.fate : LineFault → LineFate
  | .ignore => .ignore
  | .error c => .refuse c
  | .none => .run

section
variable {s : State} {ses : Nat} {x : Session} {l : InLine} {rest : List InLine}

/-- A line that repeats the last one gets its reply again (R58). -/
theorem State.fate_again (hx : s.session? ses = some x) (hi : x.input = l :: rest) (ht : s.turn x = true)
    (hr : x.repeats l.text = true) (hb : l.bad = false) : s.fate ses l.text = .again := by
  simp [State.fate, hx, hi, ht, hr, hb]
/-- Any other line has the fate that its faults give it (R68). -/
theorem State.fate_of_lineFault (hx : s.session? ses = some x) (hi : x.input = l :: rest) (ht : s.turn x = true)
    (hr : x.repeats l.text = true → l.bad = true) {f : LineFault} (hf : lineFault x.mode x.expects l.bad l.text = f) :
    s.fate ses l.text = f.fate := by
  have hn : (x.repeats l.text && !l.bad) = false := by
    cases hb : l.bad
    · simpa [hb] using hr
    · simp
  simp only [State.fate, hx, hi, ht, hn, hf]
  cases f <;> simp [LineFault.fate]
/-- A refused line gets the first code of its faults; 103, 104 and 105 leave the tag unconsumed (R59, R68). -/
theorem fjartLineRefused_error (hx : s.session? ses = some x) (hi : x.input = l :: rest) (ht : s.turn x = true)
    (hr : x.repeats l.text = true → l.bad = true) {c : Nat} (hf : lineFault x.mode x.expects l.bad l.text = .error c) {ln : Ln}
    (hl : ln = { ses := ses, tag := x.replyTag l.text, text := l.text }) :
    fjartLineRefused ses l.text s =
      if c = 103 ∨ c = 104 ∨ c = 105 then
        ((s.lineDropped ses).say ses { tag := ln.tag, out := .err c (if c = 105 then x.tagDetail else "") }).prompt ses
      else (s.lineTaken ln).replied ln (.err c "") := by
  have hh : s.header ses l.text = ln := by simp [State.header, hx, hl]
  simp [fjartLineRefused, State.fate_of_lineFault hx hi ht hr hf, LineFault.fate, State.lineRefused, hh, hx, or_assoc]
/-- A line without tokens is ignored (R46). -/
theorem fjartLineRefused_ignore (hx : s.session? ses = some x) (hi : x.input = l :: rest) (ht : s.turn x = true)
    (hr : x.repeats l.text = true → l.bad = true) (hf : lineFault x.mode x.expects l.bad l.text = .ignore) :
    fjartLineRefused ses l.text s = (s.lineDropped ses).prompt ses := by
  simp [fjartLineRefused, State.fate_of_lineFault hx hi ht hr hf, LineFault.fate]
/-- A repeated line gets the earlier reply again (R58). -/
theorem tagRepeat_again (hx : s.session? ses = some x) (hi : x.input = l :: rest) (ht : s.turn x = true)
    (hr : x.repeats l.text = true) (hb : l.bad = false) :
    tagRepeat ses l.text s = (s.lineDropped ses).updSession ses fun y => y.lastReply.foldl Session.say y := by
  simp [tagRepeat, State.fate_again hx hi ht hr hb, State.lineAgain]

end

/-- Settles O3: each byte of CONSOLE by its kind, and the line at the head of an input by its fate. -/
theorem sessionLinesComplete : Obligations.SessionLinesComplete := by
  refine ⟨fun b err s x hx hm he hb => ?_, fun s x hx he => ⟨?_, ?_, State.consoleEnd_cr hx⟩, fun s x hx hm he => ?_,
    fun ses s x l rest c ln hx hi ht hr hf hl => ?_, fun ses s x l rest hx hi ht hr hf => ?_,
    fun ses s x l rest hx hi ht hr hb => ?_, fun ln ses s => ⟨rfl, rfl⟩⟩
  · exact ⟨_, by rw [exec_consoleChar, consoleChar_enters hx hm he hb], rfl, Session.enterByte_typed hm⟩
  · rw [exec_consoleChar, consoleChar_ends hx he (.inl rfl)]
  · rw [exec_consoleChar, consoleChar_ends hx he (.inr rfl)]
  · rw [exec_consoleBreak, consoleBreak_clears hx hm he]
  · rw [exec_fjartLineRefused, fjartLineRefused_error hx hi ht hr hf hl]
  · rw [exec_fjartLineRefused, fjartLineRefused_ignore hx hi ht hr hf]
  · rw [exec_tagRepeat, tagRepeat_again hx hi ht hr hb]

/-! ### Event lines and idle sessions -/

/-- The oldest queued event goes out, or is dropped and counted (R69, R72, R91). -/
theorem unsolicitedLineSend_oldest {ses : Nat} {s : State} {x : Session} {r : EventRec} {rest : List EventRec}
    (hx : s.session? ses = some x) (hq : x.queue = r :: rest) :
    unsolicitedLineSend ses s = s.updSession ses fun y =>
      if 20 ≤ (y.recent s.now).length ∨ 16384 ≤ s.backlog y then
        ({ y with queue := rest, sentAt := y.recent s.now } : Session).suppress (sevOf r.ev.code)
      else ({ y with queue := rest, sentAt := y.recent s.now ++ [s.now] } : Session).unsolicited
        (.event (sevOf r.ev.code) r.ev.code r.seq (eventText r.ev.code)) := by
  simp [unsolicitedLineSend, hx, hq, State.bufferFull, State.backlog]
/-- The dropped lines are told once, when the rate and the reply buffer allow (R72, R91). -/
theorem suppressionLine_eq (ses : Nat) (s : State) : suppressionLine ses s = s.updSession ses fun y =>
      if y.suppressed = 0 ∨ 20 ≤ (y.recent s.now).length ∨ 16384 ≤ s.backlog y then y
      else ({ y with sentAt := y.recent s.now ++ [s.now], suppressed := 0, suppressedSev := .info } : Session).unsolicited
        (.suppressed y.suppressedSev y.suppressed) := by
  simp [suppressionLine, State.bufferFull, or_assoc]
/-- CONSOLE is logged out after its idle time, but not while a final reply is awaited (R87). -/
theorem consoleIdleLogout_eq (s : State) : consoleIdleLogout s = s.updSession 0 fun y =>
      if s.num 0x022 ≠ 0 ∧ y.pend = [] ∧ secT (s.num 0x022) ≤ ticksFrom y.idleSince s.now then y.logOut else y := by
  simp [consoleIdleLogout, and_assoc]

/-- Settles O4: each of the four commands changes its session as its rule says, and nothing else. -/
theorem sessionTimersComplete : Obligations.SessionTimersComplete := by
  refine ⟨fun ses s x r rest hx hq => ?_, fun ses s => ?_, fun s => ?_, fun ses s => ?_⟩
  · rw [exec_unsolicitedLineSend, unsolicitedLineSend_oldest hx hq]
  · rw [exec_suppressionLine, suppressionLine_eq]
  · rw [exec_consoleIdleLogout, consoleIdleLogout_eq]; rfl
  · rw [exec_loginLockoutEnd]; rfl

/-! ### What the verbs share -/

/-- A verb that answers from the state `u` that its line meets. -/
theorem State.verb_replied_at {s t u : State} {ln : Ln} {need : Level} {body : State → VerbRes} {o : Out} (h : s.Runs ln need)
    (hu : u = s.lineTaken ln) (e : body u = (t, some o)) : s.verb ln need body = t.replied ln o :=
  State.verb_replied h (hu ▸ e)
/-- A bond of the table exists (Table 3.8). -/
theorem bondExists_of_mem {b : Bond} (h : b ∈ allBonds) : bondExists b = true := List.contains_iff_mem.2 h

/-! ### Verbs that read -/

/-- References that all resolve lose none when they are resolved. -/
theorem filterMap_resolve {ps : List PRef} {ks : List PKey} (h : ps.map resolve = ks.map some) :
    ps.filterMap resolve = ks ∧ ps.length = ks.length := by
  constructor
  · have e := List.filterMap_map (f := resolve) (g := id) (l := ps)
    rw [h, List.filterMap_map] at e
    simpa using e.symm
  · simpa using congrArg List.length h

section
variable {ln : Ln} {s u : State} (h : s.Runs ln .view) (hu : u = s.lineTaken ln)
include h hu

/-- GET answers the values of its parameters; the flags of a loop that it names are cleared (R73, R348). -/
theorem getVerb_values {ps : List PRef} {ks : List PKey} (hne : ps ≠ []) (hk : ps.map resolve = ks.map some)
    (hfit : u.tooLong ln.ses (" ".intercalate (ks.map u.getText)) = false) :
    getVerb ln ps s = (u.clearFlags ks).replied ln (.ok (" ".intercalate (ks.map u.getText))) := by
  obtain ⟨hf, hl⟩ := filterMap_resolve hk
  exact State.verb_replied_at h hu (by simp [hf, hl, hne, hfit, done])
/-- SHOW answers the lines of its subject (R76). -/
theorem showVerb_lines {subj : ShowSubj} {l : List String} (hl : u.showLines subj = some l) :
    showVerb ln subj s = u.replied ln (.multi l) :=
  State.verb_replied_at h hu (by simp only [hl])
/-- Outside STANDBY BOND SHOW answers the lines of one bond, or of every open one (R108, R500). -/
theorem bondShow_lines {b : Option Bond} (hs : u.ctl.state ≠ .standby) (hb : ∀ x, b = some x → x ∈ allBonds) :
    bondShow ln b s = u.replied ln (.multi ((b.elim u.openBonds ([·])).flatMap u.bondLines)) := by
  refine State.verb_replied_at h hu ?_
  cases b with
  | none => simp [hs]
  | some b => simp [hs, bondExists_of_mem (hb b rfl)]
/-- Outside STANDBY CAL SHOW answers the running, USER and FACTORY value of a CAL parameter, or of each (R130, R500). -/
theorem calShow_columns {p : Option PRef} {ks : List PKey} (hs : u.ctl.state ≠ .standby)
    (hp : p = none ∧ ks = classKeys .cal ∨ ∃ r k, p = some r ∧ resolve r = some k ∧ k.desc.cls = .cal ∧ ks = [k]) :
    calShow ln p s = u.replied ln (.multi (ks.map fun k => pathText k ++ " " ++ u.rawText k (u.raw k.id k.elem) ++ " " ++
      u.rawText k (recsVal u.userRecs k.id k.elem) ++ " " ++ u.rawText k (recsVal u.par.factory.recs k.id k.elem))) := by
  refine State.verb_replied_at h hu ?_
  rcases hp with ⟨rfl, hk⟩ | ⟨r, k, rfl, hr, hc, rfl⟩
  · simp only [hk, beq_iff_eq, hs, if_false]
  · simp [hs, hr, hc]
/-- CONFIG DIFF answers what differs from a valid source that it names (R125). -/
theorem configDiff_named {src : CfgSource} {r : List BankRec × U32} (hw : src ≠ .window) (hr : u.sourceRecs ln src = some r) :
    configDiff ln (some src) s = u.replied ln (.multi (u.diffLines r.1)) := by
  refine State.verb_replied_at h hu ?_
  cases src with
  | window => exact absurd rfl hw
  | a | b | factory => simp only [Option.isSome_some, if_true, hr]
/-- CONFIG DIFF answers what differs from the newer valid bank where it names no source (R125). -/
theorem configDiff_newer {k : BankId} {r : List BankRec × U32} (hk : u.newerBank = some k)
    (hr : u.sourceRecs ln (if k = .a then .a else .b) = some r) :
    configDiff ln none s = u.replied ln (.multi (u.diffLines r.1)) := by
  refine State.verb_replied_at h hu ?_
  by_cases ha : k = .a
  · rw [if_pos ha] at hr
    simp [hk, ha, hr]
  · rw [if_neg ha] at hr
    simp [hk, ha, hr]
/-- EV READ answers the records it selects, and the seq that a following read should name (R533). -/
theorem evRead_records {start count : Option Nat} {sev : Option Severity} (hlo : 1 ≤ count.getD 20) (hhi : count.getD 20 ≤ 1000)
    (hq : ∀ q, start = some q → q < 2 ^ 32) :
    evRead ln start count sev s = u.replied ln (.multi ((u.evSelect start (count.getD 20) sev).map evLine ++
      ["next " ++ natText (u.evNext (u.evSelect start (count.getD 20) sev) (count.getD 20)).toNat])) := by
  have hstart : (start.elim false fun q => decide (2 ^ 32 ≤ q)) = false := by
    cases start with
    | none => rfl
    | some q => simpa using hq q rfl
  refine State.verb_replied_at h hu ?_
  simp only [hstart, Nat.not_lt.2 hhi, Nat.not_lt.2 hlo, decide_false, Bool.or_false, Bool.false_eq_true, if_false]

end

section
variable {ln : Ln} {s : State} (h : s.Runs ln .none)
include h

/-- HELP answers the forms of every verb (R77). -/
theorem help_all : help ln .all s = (s.lineTaken ln).replied ln (.multi (verbForms.map (·.1))) := State.verb_replied h rfl
/-- HELP of a verb answers its forms, each with its level (R77). -/
theorem help_verb {v : String} (hv : verbsNamed v ≠ []) :
    help ln (.verb v) s = (s.lineTaken ln).replied ln (.multi ((verbsNamed v).flatMap fun x =>
      [withContent x.1 x.2.1, "level " ++ levelText x.2.2])) :=
  State.verb_replied h (by simp only [List.isEmpty_iff, hv, if_false])
/-- HELP of a parameter answers its attributes (R77). -/
theorem help_param {p : PRef} {k : PKey} (hp : resolve p = some k) :
    help ln (.param p) s = (s.lineTaken ln).replied ln (.multi ((s.lineTaken ln).helpParam k)) :=
  State.verb_replied h (by simp only [hp])

end

/-- Settles O5: each reading verb answers from the state that its line meets. -/
theorem readingVerbsComplete : Obligations.ReadingVerbsComplete := by
  refine ⟨fun ln ps s u ks h hu hne hk hfit => ?_, fun ln subj s l h hl => ?_, fun ln s h => ?_, fun ln v s h hv => ?_,
    fun ln p k s h hp => ?_, fun ln b s u h hu hs hb => ?_, fun ln p s u ks h hu hs hp => ?_,
    fun ln src s u r h hu hw hr => ?_, fun ln k s u r h hu hk hr => ?_, fun ln start count sev s u h hu hlo hhi hq => ?_⟩
  · rw [exec_get, getVerb_values h hu hne hk hfit]
  · rw [exec_showCmd, showVerb_lines h rfl hl]
  · rw [exec_help, help_all h]
  · rw [exec_help, help_verb h hv]
  · rw [exec_help, help_param h hp]
  · rw [exec_bondShow, bondShow_lines h hu (hu ▸ hs) hb]
  · rw [exec_calShow, calShow_columns h hu (hu ▸ hs) hp]
  · rw [exec_configDiff, configDiff_named h hu hw hr]
  · rw [exec_configDiff, configDiff_newer h hu hk hr]
  · rw [exec_evRead, evRead_records h hu hlo hhi hq]

/-! ### Modes and logins -/

section
variable {ln : Ln} {s u : State}

/-- With no operation pending MODE answers in the old mode, then the session changes to the new one (R78). -/
theorem modeSet_runs {m : SesMode} (h : s.Runs ln .none) (hu : u = s.lineTaken ln) (hp : u.sessionPends ln = false) :
    modeSet ln m s = ((u.answer ln (.ok (modeText m))).updSession ln.ses (·.setMode m)).prompt ln.ses := by
  subst hu
  refine State.verb_started h ?_
  simp only [hp, Bool.false_eq_true, if_false]
/-- The event levels that a session may have (R70). -/
theorem evLevelAllowed_of {ses : Nat} {l : EvLevel} (h : ses = 0 → l ≠ .none ∧ l ≠ .alarm) : evLevelAllowed ses l = true := by
  by_cases hs : ses = 0
  · have ⟨hn, ha⟩ := h hs
    cases l <;> simp_all [evLevelAllowed]
  · simp [evLevelAllowed, hs]
/-- With no operation pending MODE EVENTS sets a level that the session may have (R70, R78). -/
theorem modeEvents_runs {l : EvLevel} (h : s.Runs ln .none) (hu : u = s.lineTaken ln) (hp : u.sessionPends ln = false)
    (hl : ln.ses = 0 → l ≠ .none ∧ l ≠ .alarm) :
    modeEvents ln l s =
      (u.updSession ln.ses fun x => { x with evLevel := l }).replied ln (.ok ("EVENTS " ++ evLevelText l)) := by
  refine State.verb_replied_at h hu ?_
  simp only [evLevelAllowed_of hl, hp, Bool.not_true, Bool.false_eq_true, if_false, done]
/-- LOGOUT ends the login (R83). -/
theorem logout_runs (h : s.Runs ln .none) :
    logout ln s = ((s.lineTaken ln).updSession ln.ses (·.logOut)).replied ln (.ok "") := State.verb_replied h rfl

section
variable {x : Session} {who : List Byte} (h : s.Runs ln .none) (hu : u = s.lineTaken ln) (hx : u.session? ln.ses = some x)
  (hlock : x.locked u.now = false) (hw : who.length ≤ 16)
include h hu hx hlock hw

/-- LOGIN VIEW grants VIEW (R80). -/
theorem login_view : login ln .view who s = (u.grant ln.ses .view who).replied ln (.ok "VIEW") := by
  refine State.verb_replied_at h hu ?_
  simp [hx, hlock, Nat.not_lt.2 hw, done]
/-- LOGIN at a level whose key is set issues a challenge (R80). -/
theorem login_challenge {lv : Level} {k : List Byte} (hk : u.levelKey lv = some k) :
    login ln lv who s = ((u.challenge ln.ses lv who).1).replied ln
      (.ok ("challenge " ++ hexText 8 (u.challenge ln.ses lv who).2.toNat)) := by
  refine State.verb_replied_at h hu ?_
  cases lv with
  | none => simp [State.levelKey] at hk
  | view => simp [State.levelKey] at hk
  | operate | engineer | factory => simp [hx, hlock, hk, Nat.not_lt.2 hw, done]
/-- On CONSOLE LOGIN ENGINEER is granted where no key is set for it, and that is noted (R86). -/
theorem login_engineer_unset (hc : ln.ses = 0) (hk : u.levelKey .engineer = none) :
    login ln .engineer who s = ((u.event 0xA003 0x0E 0).grant 0 .engineer who).replied ln (.ok "ENGINEER") := by
  have hx0 : u.session? 0 = some x := hc ▸ hx
  refine State.verb_replied_at h hu ?_
  simp [hx0, hlock, hk, hc, Nat.not_lt.2 hw, done]

end

/-- A response to a challenge: the right one within 60 s grants the level, another fails it (R81, R82). -/
theorem loginAnswer_runs {resp : U32} {x : Session} {c : Challenge} {k : List Byte} (h : s.Runs ln .none)
    (hu : u = s.lineTaken ln) (hx : u.session? ln.ses = some x) (hlock : x.locked u.now = false) (hc : x.challenge = some c)
    (hk : u.levelKey c.level = some k) :
    loginAnswer ln resp s =
      if loginResponse k c.level c.value = resp ∧ ticksFrom c.at_ u.now ≤ secT 60 then
        (u.grant ln.ses c.level x.asked).replied ln (.ok (levelText c.level))
      else (u.failLogin ln.ses c).replied ln (.err 201 "") := by
  split
  · next hgood => exact State.verb_replied_at h hu (by simp [hx, hlock, hc, hk, hgood, done])
  · next hbad =>
    rw [← Bool.and_eq_true_iff.trans (and_congr beq_iff_eq decide_eq_true_iff)] at hbad
    exact State.verb_replied_at h hu (by simp only [hx, hlock, hc, hk, Option.elim_some, hbad]; rfl)

end

/-- Settles O6: each verb where no fault of its own refuses it. -/
theorem loginVerbsComplete : Obligations.LoginVerbsComplete := by
  refine ⟨fun ln m s u h hu hp => ?_, fun x m => ⟨rfl, rfl⟩, fun ln l s u h hu hp hl => ?_,
    fun ln who s u x h hu hx hlock hw => ?_, fun ln lv who s u x k v h hu hx hlock hw hk hv => ?_,
    fun ln who s u x h hu hc hx hlock hw hk => ?_, fun ln resp s u x c k h hu hx hlock hc hk => ?_, fun ln s h => ?_⟩
  · rw [exec_mode, modeSet_runs h hu hp]
  · rw [exec_modeEvents, modeEvents_runs h hu hp hl]
  · rw [exec_login, login_view h hu hx hlock hw]
  · rw [exec_login, login_challenge h hu hx hlock hw hk, hv]; rfl
  · rw [exec_login, login_engineer_unset h hu (hc ▸ hx) hlock hw hc hk]
  · rw [exec_loginResponse, loginAnswer_runs h hu hx hlock hc hk]
  · rw [exec_logout, logout_runs h]; rfl

/-! ### A line of pairs -/

@[simp] theorem SetPlan.put_pairs (p : SetPlan) (code i : Nat) (why : String) : (p.put code i why).pairs = p.pairs := by
  unfold SetPlan.put
  split
  · split <;> rfl
  · rfl
/-- A pair whose value can be read joins the plan with it, whatever else is wrong with the pair (R68). -/
theorem judgePair_pairs {lv : Level} {calOnly : Bool} {s : State} {ses : Nat} {a : State × SetPlan} {i : Nat} {k : PKey} {r : ValIn}
    {v : PVal} (h : a.1.valueIn k r = .ok v) :
    (judgePair lv calOnly s ses a i (some k, r)).2.pairs = a.2.pairs ++ [{ key := k, val := v, shown := a.1.storedText k v }] := by
  simp only [judgePair, h, apply_ite SetPlan.pairs, SetPlan.put_pairs, ite_self]
/-- A line judged without fault, whose reply fits, is applied whole and answers the stored values (R46, R74). -/
theorem State.setLine_applied {u : State} {ln : Ln} {calOnly : Bool} {ps : List (PRef × Lit)} {p : SetPlan} (hne : ps ≠ [])
    (hp : p = judgeLine (u.levelOf ln) calOnly false ln.ses (ps.map fun q => (resolve q.1, ValIn.lit q.2)) u) (hf : p.fault = none)
    (hfit : u.tooLong ln.ses (" ".intercalate (p.pairs.map (·.shown))) = false) :
    u.setLine ln calOnly ps = (u.applyLine ln.ses false p, some (.ok (" ".intercalate (p.pairs.map (·.shown))))) := by
  simp only [State.setLine, List.isEmpty_iff, hne, if_false, ← hp, hfit, hf, Bool.and_false, Bool.false_eq_true, done]

/-! ### Set requests -/

/-- On a READY connection the block is copied, or answered 302 with four waiting (R101, R104). -/
theorem setRequest_ready {c : Nat} {block : List Byte} {s : State} (ha : s.ctl.state ≠ .dark) (hc : (s.conn c).state = .ready) :
    setRequest c block s = if (s.par.setReqs.filter fun q => q.1 == c).length < 4 then
        { s with par.setReqs := s.par.setReqs ++ [(c, padTo 64 block)] }
      else { s with par.results := assocSet c { s.setResult c with
        request := BitVec.ofNat 32 (leNat (sliceB (padTo 64 block) 0 4)), code := 302, pair := 0xFF } s.par.results } := by
  have hawake : s.awake = true := by simp [State.awake, ha]
  by_cases h4 : (s.par.setReqs.filter fun q => q.1 == c).length < 4
  · rw [if_pos h4]
    simp [setRequest, hawake, hc, h4]
  · rw [if_neg h4]
    simp [setRequest, hawake, hc, Nat.not_lt.1 h4]
/-- The oldest copied block of a connection, judged without fault, is applied as one line, and its result is written (R102, R103). -/
theorem setRequestExec_applied {c : Nat} {b : List Byte} {s t : State} {p : SetPlan}
    (hb : s.par.setReqs.find? (fun q => q.1 == c) = some (c, b)) (hp : p = s.requestPlan c b) (hf : p.fault = none)
    (ht : t = s.applyLine ((s.textSession? c).elim 0 (·.idx)) ((b.getD 5 0).getLsbD 0) p) :
    setRequestExec c s = { t with
      par.setReqs := t.par.setReqs.eraseP fun q => q.1 == c
      par.results := assocSet c { request := BitVec.ofNat 32 (leNat (sliceB b 0 4)), code := 0, pair := 0xFF,
                                  done := (s.setResult c).done + 1 } t.par.results } := by
  simp only [setRequestExec, hb, ← hp, hf, Option.isSome_none, Bool.false_eq_true, if_false, Option.getD_none, ← ht]
  rfl

/-! ### Bonds, outside STANDBY -/

section
variable {ln : Ln} {s u : State}

section
variable (h : s.Runs ln .engineer) (hu : u = s.lineTaken ln) (hs : u.ctl.state ≠ .standby)
include h hu hs

/-- An open bond that nothing refuses is committed (R110, R113). -/
theorem bondCommit_one {b : Bond} (hb : b ∈ allBonds) (ho : u.bondOpen b = true) (hr : u.commitRefusal b = none) :
    bondCommit ln (.one b) s = (u.commitBond b).replied ln (.ok (bondName b)) :=
  State.verb_replied_at h hu (by simp [bondExists_of_mem hb, hs, ho, hr, done])
/-- The open geometry bonds that nothing refuses are committed as one set (R113). -/
theorem bondCommit_geometry (ho : u.openGeometry ≠ []) (hr : u.geometryRefusal = none) :
    bondCommit ln .geometry s = u.commitGeometry.replied ln (.ok "geometry") :=
  State.verb_replied_at h hu (by simp [hs, ho, hr, done])
/-- An open bond drops its staged values (R111). -/
theorem bondDiscard_one {b : Bond} (hb : b ∈ allBonds) (ho : u.bondOpen b = true) :
    ∃ text, bondDiscard ln (.one b) s = (u.unstage (ownMembers b)).replied ln (.ok text) :=
  ⟨_, State.verb_replied_at h hu (by
    simp only [bondExists_of_mem hb, ho, beq_iff_eq, hs, Bool.not_true, Bool.false_eq_true, if_false, done]; rfl)⟩
/-- Every staged value is dropped (R111). -/
theorem bondDiscard_all : bondDiscard ln .all s = State.replied { u with par.staged := [] } ln (.ok "ALL") :=
  State.verb_replied_at h hu (by simp [hs, done])
/-- sys.courses and the geometry bonds drop their staged values (R111, R113). -/
theorem bondDiscard_geometry (ho : u.openGeometry ≠ []) :
    bondDiscard ln .geometry s = (u.unstage (0x002 :: (List.range 8).flatMap fun i =>
      ownMembers (.geometry (i + 1)))).replied ln (.ok "geometry") :=
  State.verb_replied_at h hu (by simp [hs, ho, done])

end

/-- BOND_EFFECT takes a committed set of each kind at its effect point (R112, Table 3.8). -/
theorem bondEffect_takes {b : Bond} {c : Committed} (hc : s.committedOf b = some c) :
    (∀ n, b = .tach n → bondEffect b s = s.takeCommitted b) ∧
    (b = .sync → s.sync.running = false ∨ c.at_ ≠ s.now ∧ s.sync.edge = s.now ∧ s.sync.started = true →
      bondEffect b s = s.syncEffect) ∧
    (∀ z, b = .limits z → s.zoneIdle z = true → bondEffect b s = s.limitsNow z) ∧
    (∀ n, b = .geometry n → c.at_ ≠ s.now → bondEffect b s = s.geometryNow n) ∧
    (b = .lot → s.lotDue = true → bondEffect b s = s.lotEffect) := by
  refine ⟨?_, ?_, ?_, ?_, ?_⟩
  · rintro n rfl
    simp [bondEffect, hc]
  · rintro rfl (hrun | ⟨hat, hedge, hstart⟩)
    · simp [bondEffect, hc, hrun]
    · simp [bondEffect, hc, hat, hedge, hstart]
  · rintro z rfl hz
    simp [bondEffect, hc, hz]
  · rintro n rfl hat
    simp [bondEffect, hc, hat]
  · rintro rfl hd
    simp [bondEffect, hc, hd]

end

/-- Settles O7: a line or a request judged without fault is applied; a bond is committed, dropped or taken as its rule says. -/
theorem writingVerbsComplete : Obligations.WritingVerbsComplete := by
  refine ⟨fun ln ps s u p h hu hne hp hf hfit => ?_, fun ln ps s u p h hu hne hp hf hfit => ?_,
    fun lv ses k r s v hv => judgePair_pairs hv, fun c block s ha hc => ?_, fun c b s t p hb hp hf ht => ?_,
    fun ln b s u h hu hb hs ho => ⟨fun hr => ?_, ?_⟩, fun ln s u h hu hs => ?_,
    fun ln s u h hu hs ho => ⟨fun hr => ?_, ?_⟩, fun b s c hc => ?_⟩
  · rw [exec_set, setVerb, State.verb_replied_at h hu (State.setLine_applied hne hp hf hfit)]
  · rw [exec_calSet, calSet, State.verb_replied_at h hu (State.setLine_applied hne hp hf hfit)]
  · rw [exec_setRequest, setRequest_ready ha hc]
  · rw [exec_setRequestExec, setRequestExec_applied hb hp hf ht]
  · rw [exec_bondCommit, bondCommit_one h hu (hu ▸ hs) hb ho hr]
  · obtain ⟨text, e⟩ := bondDiscard_one h hu (hu ▸ hs) hb ho
    exact ⟨text, by rw [exec_bondDiscard, e]⟩
  · rw [exec_bondDiscard, bondDiscard_all h hu (hu ▸ hs)]
  · rw [exec_bondCommit, bondCommit_geometry h hu (hu ▸ hs) ho hr]
  · rw [exec_bondDiscard, bondDiscard_geometry h hu (hu ▸ hs) ho]
  · simpa only [exec_bondEffect, Host.Outcome.next.injEq] using bondEffect_takes hc

end Sys2Proof.Machine
end

section
/-! PROOFS. A whole new set of parameters, as a bank brings it, touches no session (R119, R131). -/
namespace Sys2Proof.Machine

theorem foldl_sessions {α : Type} (g : State → α → State) (h : ∀ s x, (g s x).sessions = s.sessions) (l : List α) (s : State) :
    (l.foldl g s).sessions = s.sessions := foldl_same State.sessions g h l s

@[simp] theorem State.setRaw_sessions (s : State) (id e : Nat) (v : Int) : (s.setRaw id e v).sessions = s.sessions := by
  unfold State.setRaw
  split <;> rfl
@[simp] theorem State.loadRecs_sessions (s : State) (c : PClass) (recs : List BankRec) :
    (s.loadRecs c recs).sessions = s.sessions := rfl
@[simp] theorem State.buildTables_keeps_sessions (s : State) : s.buildTables.sessions = s.sessions :=
  (Prod.mk.inj s.buildTables_sessions).1
@[simp] theorem State.resetCorr_sessions (s : State) (n : Nat) : (s.resetCorr n).sessions = s.sessions := by
  simp [State.resetCorr, foldl_sessions]
@[simp] theorem State.corrFirst_sessions (s t : State) : (s.corrFirst t).sessions = s.sessions :=
  foldl_sessions _ (fun _ _ => by split <;> simp) _ _
@[simp] theorem State.setBand_sessions (t s : State) : (t.setBand s).sessions = t.sessions := by
  unfold State.setBand
  split <;> rfl

/-! ### Manifolds -/

@[simp] theorem State.cutLevel_sessions (s : State) (m : Nat) : (s.cutLevel m).sessions = s.sessions := rfl
@[simp] theorem State.airFixed_sessions (s : State) (m : Nat) : (s.airFixed m).sessions = s.sessions := by
  unfold State.airFixed State.releaseHold State.fixRho
  (repeat' split) <;> simp
@[simp] theorem State.setAir_sessions (t s : State) : (t.setAir s).sessions = t.sessions :=
  foldl_sessions _ (fun _ _ => by dsimp only; (repeat' split) <;> simp) _ _

/-! ### Loops -/

@[simp] theorem State.lowAnew_sessions (s : State) (n : Nat) : (s.lowAnew n).sessions = s.sessions := by
  unfold State.lowAnew
  split <;> simp
@[simp] theorem State.retargetLoop_sessions (s : State) (n : Nat) : (s.retargetLoop n).sessions = s.sessions := by
  simp [State.retargetLoop, State.loopOffNow, State.enterLoop, apply_ite State.sessions]
@[simp] theorem State.noteHeats_sessions (s : State) : s.noteHeats.sessions = s.sessions :=
  foldl_sessions _ (fun _ _ => by simp [State.noteHeat, apply_ite State.sessions]) _ _
@[simp] theorem State.setLoops_sessions (t s : State) : (t.setLoops s).sessions = t.sessions := by
  simp [State.setLoops, foldl_sessions, apply_ite State.sessions]
@[simp] theorem State.takeLimits_sessions (s : State) (n : Nat) : (s.takeLimits n).sessions = s.sessions := by
  simp [State.takeLimits, State.takeCommitted_sessions, apply_ite State.sessions]
@[simp] theorem State.limitsNow_sessions (s : State) (z : Nat) : (s.limitsNow z).sessions = s.sessions :=
  foldl_sessions _ (by simp) _ _

/-! ### Probe rings, where a stop can complete the sweep first (R391) -/

@[simp] theorem State.updSweep_sessions (s : State) (r : Nat) (f : Sweep → Sweep) : (s.updSweep r f).sessions = s.sessions := rfl
@[simp] theorem State.sendMeasure_sessions (s : State) (r : Nat) (fromRet : Bool) :
    (s.sendMeasure r fromRet).sessions = s.sessions := rfl
@[simp] theorem State.sendRead_sessions (s : State) (r attempt : Nat) : (s.sendRead r attempt).sessions = s.sessions := by
  unfold State.sendRead
  split <;> simp
@[simp] theorem State.markLost_sessions (s : State) (r i : Nat) : (s.markLost r i).sessions = s.sessions := by
  unfold State.markLost
  split <;> simp
@[simp] theorem State.setAvg_sessions (s : State) (i : Nat) (ok : Bool) : (s.setAvg i ok).sessions = s.sessions := by
  simp [State.setAvg, apply_ite State.sessions]
@[simp] theorem State.formAvgs_sessions (s : State) : s.formAvgs.sessions = s.sessions := by
  unfold State.formAvgs
  dsimp only
  split <;> simp [State.batchAverage]
@[simp] theorem State.finishSweep_sessions (s : State) (r : Nat) : (s.finishSweep r).sessions = s.sessions := by
  unfold State.finishSweep
  split <;> simp [foldl_sessions, apply_ite State.sessions]
@[simp] theorem State.nextRead_sessions (s : State) (r : Nat) : (s.nextRead r).sessions = s.sessions := by
  unfold State.nextRead
  (repeat' split) <;> simp
@[simp] theorem State.abortSweep_sessions (s : State) (r : Nat) : (s.abortSweep r).sessions = s.sessions := by
  unfold State.abortSweep
  split <;> simp
@[simp] theorem probeMeasureWaitEnd_sessions (r : Nat) (s : State) : (probeMeasureWaitEnd r s).sessions = s.sessions := by
  unfold probeMeasureWaitEnd
  (repeat' split) <;> simp
@[simp] theorem probeSlotEnd_sessions (r : Nat) (s : State) : (probeSlotEnd r s).sessions = s.sessions := by
  unfold probeSlotEnd
  (repeat' split) <;> simp
@[simp] theorem State.stopSweep_sessions (s : State) (r : Nat) : (s.stopSweep r).sessions = s.sessions := by
  simp [State.stopSweep, apply_ite State.sessions]

/-! ### The whole set -/

@[simp] theorem State.setRest_sessions (t s : State) : (t.setRest s).sessions = t.sessions := by
  simp [State.setRest, apply_ite State.sessions]
@[simp] theorem State.takeAll_sessions (t s : State) : (t.takeAll s).sessions = t.sessions := by
  simp [State.takeAll, foldl_sessions]
@[simp] theorem State.loadFactory_sessions (s : State) : s.loadFactory.sessions = s.sessions := by
  simp [State.loadFactory]

/-- The login id of a line's session stands in the sessions alone. -/
theorem State.loginOf_of_sessions {s t : State} (h : t.sessions = s.sessions) (ln : Ln) : t.loginOf ln = s.loginOf ln := by
  unfold State.loginOf State.session?
  rw [h]
@[simp] theorem State.loginOf_spendWord (s : State) (ln : Ln) : (s.spendWord ln).loginOf ln = s.loginOf ln := by
  have hs := s.session_updSession ln.ses (fun x => { x with confirm := none }) fun _ => rfl
  simp only [State.loginOf, State.spendWord, hs]
  cases s.session? ln.ses <;> rfl
/-- The restore keeps the login under which it was confirmed. -/
theorem State.loginOf_restored (u : State) (ln : Ln) :
    ((u.checkBanks.spendWord ln).loadFactory).loginOf ln = u.loginOf ln := by
  rw [State.loginOf_of_sessions (State.loadFactory_sessions _), State.loginOf_spendWord]
  rfl

end Sys2Proof.Machine
end

section
/-! PROOFS. What the banks of configuration and calibration do (R114 to R132), and the FACTORY bank at a step (R126, R134). -/
namespace Sys2Proof.Machine

/-! ### Banks of configuration (R114 to R125) -/

@[simp] theorem State.lineTaken_ctl (s : State) (ln : Ln) : (s.lineTaken ln).ctl = s.ctl := rfl
@[simp] theorem State.lineTaken_par (s : State) (ln : Ln) : (s.lineTaken ln).par = s.par := rfl
@[simp] theorem State.checkBanks_ctl (s : State) : s.checkBanks.ctl = s.ctl := rfl
@[simp] theorem State.checkBanks_openBonds (s : State) : s.checkBanks.openBonds = s.openBonds := rfl

section
variable {ln : Ln} {s u : State} (h : s.Runs ln .engineer)
include h

/-- A verb of a session with room for another operation puts the one it starts pending (R66), at the state that it has made of
the one its line meets. -/
theorem State.verb_starts_at {v : State} {body : State → VerbRes} {op : PendOp} {text : String} {f : State → State}
    (room : v.pendFull ln = false) (e : body (s.lineTaken ln) = v.startOp ln op text f) :
    s.verb ln .engineer body = v.started ln op text f :=
  State.verb_started h (by rw [e, State.startOp, room]; rfl)

/-- CONFIG SAVE with no bond open and none running starts (R114, R117). -/
theorem configSave_starts (hu : u = (s.lineTaken ln).checkBanks) (closed : u.openBonds = []) (idle : s.par.save = none)
    (room : s.pendFull ln = false) :
    configSave ln s = u.started ln .configSave (u.norText ("writing bank " ++ bankText (u.saveTarget .a .b).1)) fun v =>
      State.queueNor { v with
        par.save := some { target := (u.saveTarget .a .b).1, image := v.bankImage .kept (u.saveTarget .a .b).2 } } true := by
  subst hu
  rw [State.checkBanks_openBonds] at closed
  exact State.verb_starts_at h (by simpa using room) (by
    simp only [closed, State.lineTaken_par, idle, List.isEmpty_nil, Option.isSome_none, Bool.not_true, Bool.false_eq_true,
      if_false])

section
variable {six : Option Tick} (hu : u = s.lineTaken ln) (runs : s.par.save ≠ none)
include hu runs

/-- CONFIG SAVE ABORT before step 6 ends the save that holds NOR, which the other save may then take (R118). -/
theorem configSaveAbort_writing (nor : s.par.norFirst = some true) (early : ∀ t, six = some t → tickLe t s.now = false) :
    configSaveAbort ln six s = ((State.endNor { u with par.save := none }).finish (· == PendOp.configSave)
      (.err 301 "aborted")).replied ln (.ok "aborted") := by
  have runs' : u.par.save.isNone = false := by simpa [hu, Option.isSome_iff_ne_none] using runs
  have nor' : (u.par.norFirst == some true) = true := by simpa [hu] using nor
  have early' : (six.elim false fun t => tickLe t u.now) = false := by
    cases six with
    | none => rfl
    | some t => exact hu ▸ early t rfl
  exact State.verb_replied_at h hu (by simp only [runs', nor', early', Bool.and_false, Bool.false_eq_true, if_false, if_true, done])
/-- CONFIG SAVE ABORT ends a save that waits for NOR (R118). -/
theorem configSaveAbort_waiting (nor : s.par.norFirst ≠ some true) :
    configSaveAbort ln six s = (State.finish { u with par.save := none } (· == PendOp.configSave)
      (.err 301 "aborted")).replied ln (.ok "aborted") := by
  have runs' : u.par.save.isNone = false := by simpa [hu, Option.isSome_iff_ne_none] using runs
  have nor' : (u.par.norFirst == some true) = false := by simpa [hu] using nor
  exact State.verb_replied_at h hu (by simp only [runs', nor', Bool.false_and, Bool.false_eq_true, if_false, done])

end

/-- CONFIG LOAD in HELD takes the values of a source that passes the cross-check (R114, R119, R123). -/
theorem configLoad_loads {src : CfgSource} {recs : List BankRec} {g : U32} (hu : u = (s.lineTaken ln).checkBanks)
    (held : s.ctl.state = .held) (closed : u.openBonds = []) (found : u.sourceRecs ln src = some (recs, g))
    (unstaged : ∀ r ∈ recs, r.kind ≠ 1) (sound : crossCheck .kept recs = none) :
    configLoad ln src s = ((State.takeAll { (u.loadRecs .kept recs).loadKeys recs with
        par.source := src
        par.generation := g
        par.accepted := true } u).event 0x1042 0 0 (sourceOrd src) g.toNat 0 (u.loginOf ln)).replied ln
      (.ok ("loaded " ++ cfgText src ++ " generation " ++ natText g.toNat)) := by
  have held' : (u.ctl.state != .held) = false := by simpa [hu] using held
  have unstaged' : (recs.any fun r => r.kind == 1) = false := by simpa using unstaged
  refine State.verb_replied h ?_
  simp only [← hu, found, unstaged', sound, closed, held', List.isEmpty_nil, Bool.not_true, Bool.or_false, Bool.false_eq_true,
    if_false, done]
/-- CONFIG ACCEPT in HELD accepts running values that pass their checks (R122). -/
theorem configAccept_accepts (hu : u = s.lineTaken ln) (held : s.ctl.state = .held) (closed : u.openBonds = [])
    (sound : u.checksHold = true) :
    configAccept ln s = (State.event { u with par.accepted := true } 0x1042 0 0 (sourceOrd u.par.source)
      u.par.generation.toNat 0 (u.loginOf ln)).replied ln (.ok "accepted") := by
  have held' : (u.ctl.state != .held) = false := by simpa [hu] using held
  exact State.verb_replied_at h hu (by
    simp only [sound, closed, held', List.isEmpty_nil, Bool.not_true, Bool.false_eq_true, if_false, done])

end

/-- The end of the save that holds NOR writes its bank, or is recorded and answered 601 (R117, R132). -/
theorem configSaveComplete_ends {r : NorResult} {s : State} {w : Save} (runs : s.par.save = some w)
    (nor : s.par.norFirst = some true) :
    configSaveComplete r s =
      if r = .ok then ((State.endNor { (State.putBank { s with par.save := none } w.target w.image true) with
          par.source := if w.target = .a then .a else .b
          par.generation := w.image.generation }).finish (· == PendOp.configSave)
            (.ok (savedText w.target w.image.generation)))
      else ((State.event { s with par.save := none } 0x1045 0 0 (bankNum w.target)).endNor).finish (· == PendOp.configSave)
        (.err 601 "") := by
  simp [configSaveComplete, runs, nor]

/-- Settles O8: a save starts, ends early or is written, a load and an acceptance take effect, where nothing refuses them. -/
theorem configBankCommandsComplete : Obligations.ConfigBankCommandsComplete := by
  refine ⟨fun ln s u h hu closed idle room => ?_, fun ln six s u h hu runs nor early => ?_, fun ln six s u h hu runs nor => ?_,
    fun r s w runs nor => ?_, fun ln src s u recs g h hu held closed found unstaged sound => ?_,
    fun ln s u h hu held closed sound => ?_⟩
  · rw [exec_configSave, configSave_starts h hu closed idle room]
  · rw [exec_configSaveAbort, configSaveAbort_writing h hu runs nor early]
  · rw [exec_configSaveAbort, configSaveAbort_waiting h hu runs nor]
  · rw [exec_configSaveComplete, configSaveComplete_ends runs nor]
  · rw [exec_configLoad, configLoad_loads h hu held closed found unstaged sound]
  · rw [exec_configAccept, configAccept_accepts h hu held closed sound, hu]
    rfl

/-! ### Banks of calibration (R126 to R132) -/

/-- A write to the older USER copy starts once the banks have been checked, where the session has room (R129, R134). -/
theorem State.startCal_eq (s : State) (ln : Ln) (op : PendOp) :
    s.startCal ln op = s.checkBanks.startOp ln op (s.checkBanks.norText "writing USER") fun v => State.queueNor { v with
      par.calSave := some { target := (s.checkBanks.saveTarget .u1 .u2).1,
                            image := v.bankImage .cal (s.checkBanks.saveTarget .u1 .u2).2 } } false := rfl

section
variable {ln : Ln} {s u : State} (h : s.Runs ln .engineer)
include h

/-- CAL SAVE outside STANDBY and COLLAPSE with none running starts (R129). -/
theorem calSaveVerb_starts (hu : u = (s.lineTaken ln).checkBanks) (present : s.ctl.state ≠ .standby)
    (powered : s.ctl.state ≠ .collapse) (idle : s.par.calSave = none) (room : s.pendFull ln = false) :
    calSaveVerb ln s = u.started ln .calSave (u.norText "writing USER") fun v => State.queueNor { v with
      par.calSave := some { target := (u.saveTarget .u1 .u2).1, image := v.bankImage .cal (u.saveTarget .u1 .u2).2 } } false := by
  subst hu
  have allowed : (s.lineTaken ln).inAny [.standby, .collapse] = false := by
    simpa [State.inAny] using And.intro present powered
  exact State.verb_starts_at h (by simpa using room) (by
    simp only [allowed, State.lineTaken_par, idle, Option.isSome_none, Bool.false_eq_true, if_false, State.startCal_eq])
/-- The first line of a restore is answered a confirm word, which the session holds (R131). -/
theorem calRestoreFactory_answers {w : List Byte} (hu : u = s.lineTaken ln) (present : s.ctl.state ≠ .standby)
    (hw : w = confirmWord (u.randomBytes 6)) :
    calRestoreFactory ln s = (u.drew.updSession ln.ses fun x => { x with confirm := some (w, u.now) }).replied ln
      (.ok ("confirm " ++ textOf w)) := by
  have present' : (u.ctl.state == .standby) = false := by simpa [hu] using present
  exact State.verb_replied_at h hu (by simp only [present', hw, Bool.false_eq_true, if_false, done])
/-- The second line with the word in time makes the FACTORY values the running ones, and their save starts (R131). -/
theorem calRestoreConfirm_starts {word : List Byte} {t v : State} (hu : u = s.lineTaken ln)
    (confirmed : u.confirms ln word = true) (still : s.ctl.state = .held ∨ s.ctl.state = .ready) (idle : s.par.calSave = none)
    (room : s.pendFull ln = false) (sound : u.checkBanks.factorySound = true)
    (ht : t = (u.checkBanks.spendWord ln).loadFactory)
    (hv : v = (t.event 0x1044 0x0E ln.ses (t.saveTarget .u1 .u2).2.toNat 0 0 (t.loginOf ln)).checkBanks)
    (room' : v.pendFull ln = false) :
    calRestoreConfirm ln word s = v.started ln .calRestore (v.norText "writing USER") fun x => State.queueNor { x with
      par.calSave := some { target := (v.saveTarget .u1 .u2).1, image := x.bankImage .cal (v.saveTarget .u1 .u2).2 } } false := by
  have allowed : u.inAny [.held, .ready] = true := by simpa [hu, State.inAny] using still
  have idle' : u.par.calSave = none := hu ▸ idle
  have roomy : u.pendFull ln = false := by simpa [hu] using room
  have login : t.loginOf ln = u.loginOf ln := ht ▸ u.loginOf_restored ln
  refine State.verb_starts_at h room' ?_
  simp only [← hu, confirmed, allowed, idle', roomy, sound, ← ht, ← login, Option.isSome_none, Bool.or_self, Bool.not_true,
    Bool.false_eq_true, if_false, State.startCal_eq, ← hv]

end

/-- The end of the USER save that holds NOR writes its copy, or is recorded and answered 601 (R126, R132). -/
theorem calSaveComplete_ends {r : NorResult} {s : State} {w : Save} (runs : s.par.calSave = some w)
    (nor : s.par.norFirst = some false) :
    calSaveComplete r s =
      if r = .ok then ((State.endNor { (State.putBank { s with par.calSave := none } w.target w.image true) with
          par.calSource := .user
          par.calGeneration := w.image.generation }).finish (fun o => o == .calSave || o == .calRestore)
            (.ok (savedText w.target w.image.generation)))
      else ((State.event { s with par.calSave := none } 0x1045 0 0 (bankNum w.target)).endNor).finish
        (fun o => o == .calSave || o == .calRestore) (.err 601 "") := by
  simp [calSaveComplete, runs, nor]

/-- Settles O9: a USER save starts and is written, and the two lines of a restore take effect, where nothing refuses them. -/
theorem calBankCommandsComplete : Obligations.CalBankCommandsComplete := by
  refine ⟨fun ln s u h hu present powered idle room => ?_, fun r s w runs nor => ?_, fun ln s u w h hu present hw => ?_,
    fun ln word s u t v h hu confirmed still idle room sound ht hv room' => ?_, fun u => ⟨rfl, rfl⟩⟩
  · rw [exec_calSave, calSaveVerb_starts h hu present powered idle room]
  · rw [exec_calSaveComplete, calSaveComplete_ends runs nor]
  · rw [exec_calRestoreFactory, calRestoreFactory_answers h hu present hw]
  · rw [exec_calRestoreConfirm, calRestoreConfirm_starts h hu confirmed still idle room sound ht hv room']

/-! ### The FACTORY bank (R126, R134) -/

/-- A tick leaves the FACTORY bank: all it can move of what commands keep is the tick. -/
theorem State.tickOn_factory (s : State) : s.tickOn.par.factory = s.par.factory := by
  have counted : (if s.awake then s.count else s).par.factory = s.par.factory := by split <;> rfl
  obtain ⟨-, -, factory, -⟩ := State.kept_eq_iff.1 (tickOn_keeps s)
  exact factory.trans counted
/-- POWER_UP leaves the FACTORY bank unless a NOR fault names it, and then its records stand (R134). -/
theorem powerUp_factory (p : PowerOn) (s : State) : (powerUp p s).par.factory = s.par.factory ∨
    .factory ∈ p.spoiled ∧ { (powerUp p s).par.factory with crc := s.par.factory.crc } = s.par.factory := by
  obtain ⟨-, records, unnamed, -⟩ := powerUp_keeps p s
  by_cases named : BankId.factory ∈ p.spoiled
  · exact .inr ⟨named, records⟩
  · exact .inl (unnamed named)

/-- Settles O49: a tick and every command but POWER_UP keep the bank, and POWER_UP but where a NOR fault spoils it. -/
theorem theFactoryBankStands : Obligations.TheFactoryBankStands := by
  intro s t h
  cases e : s.pending with
  | nil => exact .inl (of_next (P := fun t => t.par.factory = s.par.factory) ((step_of_empty e).symm.trans h) s.tickOn_factory)
  | cons c rest =>
    replace h : exec c { s with pending := rest } = .next t := by rwa [step, e] at h
    by_cases up : ∃ p, c = .powerUp p
    · obtain ⟨p, rfl⟩ := up
      cases (exec_powerUp p _).symm.trans h
      exact (powerUp_factory p { s with pending := rest }).imp_right fun ⟨named, records⟩ => ⟨p, rest, rfl, named, records⟩
    · exact .inl (exec_keeps (fun p ep => up ⟨p, ep⟩) h).factory

end Sys2Proof.Machine
end

section
/-! SUPPORT. What an update of a part keeps, what sys.drain.limit leaves of a zone and of its heat demand (R153), and the states in
which a bring-up and a DRAIN end. -/
namespace Sys2Proof.Machine

/-! ### The zones at the drain limit (R153) -/

/-- An update of one part keeps what its function keeps of every part. -/
theorem updAt_getD_of_keeps {α β : Type} (d : α) (i j : Nat) {f : α → α} {g : α → β} (keeps : ∀ x, g (f x) = g x)
    (l : List α) : g ((updAt i f l).getD j d) = g (l.getD j d) := by
  by_cases e : i = j
  · subst e
    by_cases short : i < l.length
    · rw [updAt_getD d i f l short, keeps]
    · simp [updAt, List.getD_eq_getElem?_getD, Nat.not_lt.1 short]
  · rw [updAt_getD_ne d i j f l e]
/-- An update that keeps whether the drain limit has ended a zone keeps it for every zone. -/
theorem State.updZone_limited (s : State) (i z : Nat) {f : Zone → Zone} (keeps : ∀ k, (f k).limited = k.limited) :
    ((s.updZone i f).zone z).limited = (s.zone z).limited := updAt_getD_of_keeps ({} : Zone) (ix i) (ix z) keeps s.dry.zones
theorem State.lowAnew_limited (s : State) (n z : Nat) : ((s.lowAnew n).zone z).limited = (s.zone z).limited := by
  unfold State.lowAnew
  split
  · exact s.updZone_limited _ z fun _ => rfl
  · rfl
theorem State.retargetLoop_limited (s : State) (n z : Nat) : ((s.retargetLoop n).zone z).limited = (s.zone z).limited := by
  unfold State.retargetLoop
  dsimp only
  (repeat' split)
  · rfl
  · exact State.lowAnew_limited _ n z
  · rfl
  · exact State.lowAnew_limited _ n z
@[simp] theorem State.updLoop_zone (s : State) (n : Nat) (f : Loop → Loop) (z : Nat) : (s.updLoop n f).zone z = s.zone z := rfl
theorem State.setInhibit_limited (s : State) (i bit : Nat) (on : Bool) (z : Nat) :
    ((s.setInhibit i bit on).zone z).limited = (s.zone z).limited := s.updZone_limited i z fun _ => rfl
theorem State.zoneComplete_limited (s : State) (i z : Nat) : ((s.zoneComplete i).zone z).limited = (s.zone z).limited := by
  have loops : List.range 3 = [0, 1, 2] := rfl
  unfold State.zoneComplete
  rw [loops]
  simp only [List.foldl_cons, List.foldl_nil, State.retargetLoop_limited, State.setInhibit_limited]
  exact s.updZone_limited i z fun _ => rfl
/-- The limit is held of the zone, whatever completing it does to its loops (R153). -/
theorem State.zoneLimit_limited (s : State) {z : Nat} (first : 1 ≤ z) (has : z ≤ s.dry.zones.length) :
    ((s.zoneLimit z).zone z).limited = true := by
  have place : ix z < s.dry.zones.length := by unfold ix; split <;> omega
  have set : ((s.updZone z fun k => { k with limited := true }).zone z).limited = true := by
    unfold State.zone State.updZone
    rw [updAt_getD {} (ix z) _ s.dry.zones place]
  have done := (State.zoneComplete_limited (s.updZone z fun k => { k with limited := true }) z z).trans set
  simp only [State.zoneLimit, apply_ite fun t : State => (t.zone z).limited, State.updLoop_zone, ite_self, done]
/-- A plenum loop that is not OFF stands at output 0, which is 4 mA (R153). -/
theorem State.zoneLimit_heat (s : State) {z : Nat} (last : z ≤ 4)
    (on : ((s.zoneLimit z).loop (3 * (z - 1))).active ≠ .off) : ((s.zoneLimit z).loop (3 * (z - 1))).u = 0 := by
  have dries : isDrying (3 * (z - 1)) = true := by simp [isDrying]; omega
  unfold State.zoneLimit at on ⊢
  simp only [dries, if_true] at on ⊢
  generalize (s.updZone z fun k => { k with limited := true }).zoneComplete z = t at on ⊢
  unfold State.loop State.updLoop at on ⊢
  by_cases has : 3 * (z - 1) < t.dry.loops.length
  · rw [updAt_getD {} _ _ _ has] at on ⊢
    generalize t.dry.loops.getD (3 * (z - 1)) {} = x at on ⊢
    by_cases off : x.active = .off
    · simp [off] at on
    · simp [off]
  · simp [updAt, List.getD_eq_getElem?_getD, Nat.not_lt.1 has]
/-- The late zones are those that have not completed, in their order. -/
theorem State.zonesLimit_late (s : State) :
    s.zonesLimit.2 = (([1, 2, 3, 4, 5] : List Nat).filter fun z => (s.zone z).drain != .complete) :=
  (List.filter_map (p := fun z => (s.zone z).drain != .complete) (f := (· + 1)) (l := List.range 5)).symm

/-! ### The ends of bring-up and DRAIN (Table 4.5, R152) -/

/-- The state in which a bring-up ends: READY, with STATE READY answered (Table 4.5). -/
def State.bringupEnded (s : State) : State :=
  ((State.enter { s with ctl.bringup := none } .ready).retargetLoops).finish (· == PendOp.state .ready) (.ok "READY")
theorem State.bringupEnded_unit (s : State) : s.bringupEnded.unit = .ready := by simp [State.bringupEnded]
/-- The state in which DRAIN ends: READY, with STATE DRAIN and STATE READY answered (R152). -/
def State.drainEnded (s : State) : State :=
  ((((s.zonesRest).enter .ready).retargetLoops).finish (· == PendOp.state .drain) (.ok "READY")).finish
    (· == PendOp.state .ready) (.ok "READY")
theorem State.drainEnded_unit (s : State) : s.drainEnded.unit = .ready := by simp [State.drainEnded]

section
variable {s : State} (free : s.drainEnded.ctl.holdOut = false)
include free

/-- With no STATE HOLD outstanding and no STATE RUN queued the unit stays READY (R152). -/
theorem State.endDrain_rests (calm : s.drainEnded.ctl.runQueued = false) : s.endDrain = s.drainEnded := by
  unfold State.endDrain
  dsimp only
  rw [← State.drainEnded, if_neg (by simp [free]), if_neg (by simp [calm])]
/-- A queued STATE RUN that no condition of Table 4.6 refuses runs in full (R152). -/
theorem State.endDrain_runs (queued : s.drainEnded.ctl.runQueued = true)
    (allowed : State.runRefusal { s.drainEnded with ctl.runQueued := false } = none) :
    s.endDrain = State.enterRun { s.drainEnded with ctl.runQueued := false } := by
  unfold State.endDrain
  dsimp only
  rw [← State.drainEnded, if_neg (by simp [free]), if_pos queued, allowed]

end

end Sys2Proof.Machine
end

section
/-! PROOFS. The unit state (chapter 4): which commands move it, the STATE verbs, and how bring-up, shutdown and DRAIN go on. -/
namespace Sys2Proof.Machine

/-! ### What moves the unit (Tables 4.2, 4.3 and 4.7) -/

/-- Every command but the listed ones keeps the unit state: its meaning's law of `unit` says so. -/
theorem exec_unit {c : Instr} {s t : State} (m : movesUnit c = false) (h : exec c s = .next t) : t.unit = s.unit := by
  cases c <;> cases m
  all_goals
    refine of_next (P := fun t => t.unit = s.unit) h ?_
    simp

/-- Settles O48: the unit state is what no other command moves. -/
theorem onlyTheseMoveTheUnit : Obligations.OnlyTheseMoveTheUnit := fun _ _ _ h m => exec_unit m h

/-! ### The STATE verbs (Table 4.3, R143) -/

/-- A STATE verb in a state of Table 4.3, outside a bring-up and a shutdown, does what the table says. -/
theorem State.stateAct_idle {s : State} (v : StateVerb) (up : s.ctl.bringup = none) (down : s.ctl.shutdown = none)
    (serves : s.ctl.state ∈ [.held, .ready, .run, .drain, .fault]) : s.stateAct v = s.actIdle v := by
  have serves' : s.inAny [.held, .ready, .run, .drain, .fault] = true := List.contains_iff_mem.2 serves
  simp [State.stateAct, serves', up, down]

section
variable {ln : Ln} {s : State} (h : s.Runs ln .operate) (up : s.ctl.bringup = none) (down : s.ctl.shutdown = none)
include h up down

theorem State.stateVerb_starts {v : StateVerb} {text : String} {f : State → State}
    (serves : s.ctl.state ∈ [.held, .ready, .run, .drain, .fault]) (room : s.pendFull ln = false)
    (act : (s.lineTaken ln).actIdle v = .soon text f) (named : text ≠ "") :
    s.stateVerb ln v = (s.lineTaken ln).started ln (.state v) text f := by
  have soon := (State.stateAct_idle (s := s.lineTaken ln) v up down serves).trans act
  exact State.verb_starts h (by simpa using room) (by simp [soon, named])
theorem State.stateVerb_answers {v : StateVerb} {o : Out} (serves : s.ctl.state ∈ [.held, .ready, .run, .drain, .fault])
    (act : (s.lineTaken ln).actIdle v = .now o) : s.stateVerb ln v = (s.lineTaken ln).replied ln o := by
  have now := (State.stateAct_idle (s := s.lineTaken ln) v up down serves).trans act
  exact State.verb_replied h (by simp only [now])

theorem stateReady_held (room : s.pendFull ln = false) (held : s.ctl.state = .held) (allowed : s.readyRefusal = none) :
    stateReady ln s = (s.lineTaken ln).started ln (.state .ready) "bringing up" (·.beginBringup false) := by
  have allowed' : (s.lineTaken ln).readyRefusal = none := allowed
  exact State.stateVerb_starts h up down (by simp [held]) room (by simp [State.actIdle, held, allowed', unlessRefused])
    (by decide)
theorem stateRun_ready (room : s.pendFull ln = false) (ready : s.ctl.state = .ready) (allowed : s.runRefusal = none) :
    stateRun ln s = (s.lineTaken ln).started ln (.state .run) "starting" State.enterRun := by
  have allowed' : (s.lineTaken ln).runRefusal = none := allowed
  exact State.stateVerb_starts h up down (by simp [ready]) room (by simp [State.actIdle, ready, allowed', unlessRefused])
    (by decide)
theorem stateDrain_run (room : s.pendFull ln = false) (run : s.ctl.state = .run) :
    stateDrain ln s = (s.lineTaken ln).started ln (.state .drain) "draining" State.enterDrain :=
  State.stateVerb_starts h up down (by simp [run]) room (by simp [State.actIdle, run]) (by decide)
theorem stateHold_ready (room : s.pendFull ln = false) (ready : s.ctl.state = .ready) :
    stateHold ln s = (s.lineTaken ln).started ln (.state .hold) "holding" (·.beginShutdown none) :=
  State.stateVerb_starts h up down (by simp [ready]) room (by simp [State.actIdle, ready]) (by decide)
/-- A STATE verb that names the present state is answered at once (Table 4.3). -/
theorem stateHold_held (held : s.ctl.state = .held) : stateHold ln s = (s.lineTaken ln).replied ln (.ok "HELD") :=
  State.stateVerb_answers h up down (by simp [held]) (by simp [State.actIdle, held])
theorem stateReady_ready (ready : s.ctl.state = .ready) : stateReady ln s = (s.lineTaken ln).replied ln (.ok "READY") :=
  State.stateVerb_answers h up down (by simp [ready]) (by simp [State.actIdle, ready])
theorem stateRun_run (run : s.ctl.state = .run) : stateRun ln s = (s.lineTaken ln).replied ln (.ok "RUN") :=
  State.stateVerb_answers h up down (by simp [run]) (by simp [State.actIdle, run])

end

@[simp] theorem State.started_unit (s : State) (ln : Ln) (op : PendOp) (text : String) (f : State → State) :
    (s.started ln op text f).unit = (f (s.pend ln op text)).unit := rfl

/-- Settles O2: each verb does what its cell of Table 4.3 says, and the unit state is that of the operation it starts. -/
theorem stateVerbsStart : Obligations.StateVerbsStart := by
  refine ⟨fun ln s h room up down held allowed => ⟨_, ?_, rfl, held, rfl, rfl⟩,
    fun ln s h room up down ready allowed => ⟨_, ?_, rfl, (State.started_unit ..).trans (State.enterRun_unit _)⟩,
    fun ln s h room up down run => ⟨_, ?_, rfl, (State.started_unit ..).trans (State.enterDrain_unit _)⟩,
    fun ln s h room up down ready =>
      ⟨_, ?_, rfl, (State.started_unit ..).trans ((State.beginShutdown_unit _ none).trans ready)⟩,
    fun ln s h up down => ⟨fun held => ?_, fun ready => ?_, fun run => ?_⟩⟩
  · rw [exec_stateReady, stateReady_held h up down room held allowed]
  · rw [exec_stateRun, stateRun_ready h up down room ready allowed]
  · rw [exec_stateDrain, stateDrain_run h up down room run]
  · rw [exec_stateHold, stateHold_ready h up down room ready]
  · rw [exec_stateHold, stateHold_held h up down held]
  · rw [exec_stateReady, stateReady_ready h up down ready]
  · rw [exec_stateRun, stateRun_run h up down run]

/-! ### Bring-up, shutdown and DRAIN (Table 4.5, R152, R153, R164) -/

theorem State.readBack_of_cycle {s : State} {release t0 : Tick} (bank : s.fld.bankOff = false) (cycled : s.fld.cycleAt = some t0)
    (after : tickLe release t0 = true) (settled : msT (s.num 0x902) ≤ ticksFrom release t0) : s.readBack release = true := by
  simp [State.readBack, bank, cycled, after, settled]

section
variable {s : State} {b : Bringup}

section
variable {t0 : Tick} (up : s.ctl.bringup = some b) (first : b.step = 1) (read : s.readBack b.since = true)
include up first read

theorem bringupComplete_agrees (agrees : s.badChannel = none) {v : State}
    (hv : v = State.startLineSync { s with ctl.bringup := some { b with step := 3, since := s.now } }) :
    bringupComplete s = v.coursesUsed.foldl (fun u n => u.beginEnable n) v := by
  subst hv
  simp only [bringupComplete, State.advanceBringup, up, first, if_true, read, Bool.not_true, Bool.false_eq_true, if_false, agrees]
theorem bringupComplete_disagrees {c : Nat} {d : String} (bad : s.badChannel = some (c, d)) :
    bringupComplete s = (s.event 0x1013 0 0 1 c).failBringup 601 d := by
  simp only [bringupComplete, State.advanceBringup, up, first, if_true, read, Bool.not_true, Bool.false_eq_true, if_false, bad]

end

/-- With every course in use ON the bring-up ends, and the verbs that waited go on (Table 4.5, R145). -/
theorem bringupComplete_enabled (up : s.ctl.bringup = some b) (last : b.step ≠ 1)
    (on : ∀ n ∈ s.coursesUsed, (s.course n).state = .on) : bringupComplete s = s.bringupEnded.resume := by
  have on' : (s.coursesUsed.all fun n => (s.course n).state == .on) = true := by simpa using on
  simp only [bringupComplete, State.advanceBringup, up, last, if_false, on', if_true, State.endBringup, State.bringupEnded]
theorem bringupStepTimeout_due (up : s.ctl.bringup = some b) (due : secT 2 ≤ ticksFrom b.since s.now) :
    bringupStepTimeout s = (s.event 0x1013 0 0 b.step).beginShutdown (some (601, "step " ++ natText b.step)) := by
  simp [bringupStepTimeout, up, Nat.not_lt.2 due, State.failBringup]
theorem shutdownComplete_off {x : Shutdown} (down : s.ctl.shutdown = some x) (off : ∀ c ∈ s.courses, c.state = .off) :
    shutdownComplete s = s.endShutdown x.failWith := by
  have off' : (s.courses.all fun c => c.state == .off) = true := by simpa using off
  simp only [shutdownComplete, down, off', if_true]
theorem shutdownStepTimeout_due {x : Shutdown} (down : s.ctl.shutdown = some x) (due : msT 200 ≤ ticksFrom x.since s.now) :
    shutdownStepTimeout s = (s.event 0x1013 0 0 x.step).goFault 5 := by
  simp only [shutdownStepTimeout, down, Nat.not_lt.2 due, if_false]
theorem drainComplete_done (drain : s.ctl.state = .drain) (sorted : s.sortingDone = true) (dried : s.zonesDone = true) :
    drainComplete s = s.endDrain := by
  simp [drainComplete, drain, sorted, dried]
theorem drainLimit_due (drain : s.ctl.state = .drain) (late : s.zonesDone = false) (due : secT (s.num 0x014) ≤ s.drainTicks) :
    drainLimit s = (s.zonesLimit.2.foldl (fun (u : State) z => u.event 0x1014 7 z) s.zonesLimit.1).endDrain := by
  simp [drainLimit, drain, late, due]

end

/-- Settles O10: each command goes on or ends what is under way where its condition holds. -/
theorem unitProgressComplete : Obligations.UnitProgressComplete := by
  refine ⟨fun s v b t0 up first bank cycled after settled agrees hv => ?_,
    fun s b t0 c d up first bank cycled after settled bad => ?_,
    fun s b up last on => ⟨s.bringupEnded, ?_, s.bringupEnded_unit, rfl⟩,
    fun s b up due => ⟨_, ?_, ?_, rfl⟩, fun s x down off => ?_, fun s x down due => ⟨_, ?_, State.goFault_unit _ 5, rfl⟩,
    fun s v drain sorted dried hv free => ?_,
    fun s drain late due => ⟨?_, s.zonesLimit_late, rfl⟩, fun s z first _ has => s.zoneLimit_limited first has,
    fun s z _ last on => s.zoneLimit_heat last on⟩
  · rw [exec_bringupComplete, bringupComplete_agrees up first (State.readBack_of_cycle bank cycled after settled) agrees hv]
  · rw [exec_bringupComplete, bringupComplete_disagrees up first (State.readBack_of_cycle bank cycled after settled) bad]
  · rw [exec_bringupComplete, bringupComplete_enabled up last on]
  · rw [exec_bringupStepTimeout, bringupStepTimeout_due up due]
  · exact State.beginShutdown_unit _ _
  · rw [exec_shutdownComplete, shutdownComplete_off down off]
  · rw [exec_shutdownStepTimeout, shutdownStepTimeout_due down due]
  · rw [← State.drainEnded] at hv
    rw [hv] at free ⊢
    refine ⟨s.drainEnded_unit, fun calm => ?_, fun queued allowed => ?_⟩
    · rw [exec_drainComplete, drainComplete_done drain sorted dried, State.endDrain_rests free calm]
    · rw [exec_drainComplete, drainComplete_done drain sorted dried, State.endDrain_runs free queued allowed]
  · rw [exec_drainLimit, drainLimit_due drain late due]

end Sys2Proof.Machine
end

section
/-! PROOFS. The supply, collapse and the environment (chapters 4 and 17). -/
namespace Sys2Proof.Machine

/-! ### The supply (R160, R162, R545) -/

/-- The number of a supply input, counted from 0 (R545). -/
theorem supplyInput_ix (b : Bool) : (if b then 1 else 0) = b.toNat := by cases b <;> rfl

theorem supplyBelowCollapse_awake {bus : Nat} {s : State} (low : bus < 1700) (awake : s.ctl.state ≠ .dark) :
    supplyBelowCollapse bus s = { s with ctl.bus := bus, ctl.belowSince := some (s.ctl.belowSince.getD s.now) } := by
  simp [supplyBelowCollapse, Nat.not_le.2 low, awake]
theorem supplyBelowCollapse_dark {bus : Nat} {s : State} (low : bus < 1700) (dark : s.ctl.state = .dark) :
    supplyBelowCollapse bus s = { s with ctl.bus := bus, ctl.imageFail := false } := by
  simp [supplyBelowCollapse, Nat.not_le.2 low, dark]
theorem supplyDipEnd_short {low bus : Nat} {s : State} {since : Tick} (below : s.ctl.belowSince = some since) (back : 1700 ≤ bus)
    (short : ticksFrom since s.now < 8000) (stands : s.ctl.state ≠ .collapse) :
    supplyDipEnd low bus s = (State.event { s with ctl.belowSince := none } 0x1021 0 0 low).takeBus bus := by
  simp [supplyDipEnd, below, Nat.not_lt.2 back, msT, Nat.not_le.2 short, stands]
theorem State.takeBus_low {bus : Nat} (s : State) (low : bus < 1920) :
    s.takeBus bus = if s.ctl.lowNoted then { s with ctl.bus := bus }
      else State.event { s with ctl.bus := bus, ctl.lowNoted := true } 0x1022 0 0 bus := by
  simp only [State.takeBus, if_neg (Nat.not_le.2 low)]
theorem State.takeBus_normal {bus : Nat} (s : State) (normal : 1920 ≤ bus) :
    s.takeBus bus = { s with ctl.bus := bus, ctl.lowNoted := false } := by
  simp only [State.takeBus, if_pos normal]
theorem supplyLow_awake {bus : Nat} {s : State} (awake : s.ctl.state ≠ .dark) (above : 1700 ≤ bus) :
    supplyLow bus s = s.takeBus bus := by
  simp [supplyLow, s.awake_iff.2 awake, Nat.not_lt.2 above]
theorem State.setHoldup_short {pct : Nat} (s : State) (short : pct < 100) :
    s.setHoldup pct = State.event { s with ctl.holdup := pct, ctl.holdupOk := false } 0x1030 0 0 pct := by
  simp [State.setHoldup, short, Nat.not_le.2 short, (by omega : min 200 pct = pct)]
theorem State.failBringup_idle {s : State} (idle : s.ctl.bringup = none) (code : Nat) (detail : String) :
    s.failBringup code detail = s := by
  simp [State.failBringup, idle]

section
variable {pct : Nat} {s : State} (awake : s.ctl.state ≠ .dark) (stands : s.ctl.state ≠ .collapse)
include awake stands

theorem holdupMeasure_enough (enough : 100 ≤ pct) :
    holdupMeasure pct s = { s with ctl.holdup := min 200 pct, ctl.holdupOk := true } := by
  simp [holdupMeasure, State.setHoldup, s.awake_iff.2 awake, stands, Nat.not_lt.2 enough, enough]
theorem holdupMeasure_short (idle : s.ctl.bringup = none) (short : pct < 100) :
    holdupMeasure pct s = State.event { s with ctl.holdup := pct, ctl.holdupOk := false } 0x1030 0 0 pct := by
  have unmet : (s.setHoldup pct).ctl.bringup = none := by rw [State.setHoldup_short s short]; exact idle
  rw [← State.setHoldup_short s short]
  simp [holdupMeasure, s.awake_iff.2 awake, stands, short, State.failBringup_idle unmet]

end

section
variable {b : Bool} {s : State} (awake : s.ctl.state ≠ .dark)
include awake

theorem supplyInputLost_present (above : s.ctl.belowSince = none) (present : s.ctl.inputLost[b.toNat]? = some false) :
    supplyInputLost b s = State.event { s with ctl.inputLost := s.ctl.inputLost.set b.toNat true } 0x1052 0 0 b.toNat := by
  simp [supplyInputLost, supplyInput_ix, s.awake_iff.2 awake, above, present]
theorem supplyInputRestored_lost (lost : s.ctl.inputLost[b.toNat]? = some true) :
    supplyInputRestored b s = State.event { s with ctl.inputLost := s.ctl.inputLost.set b.toNat false } 0x1053 0 0 b.toNat := by
  simp [supplyInputRestored, supplyInput_ix, s.awake_iff.2 awake, lost]

end

/-- Settles O1, by the equation of each command's meaning where it has its own effect. -/
theorem supplyCommandsComplete : Obligations.SupplyCommandsComplete := by
  refine ⟨fun bus s low awake => ?_, fun bus s low dark => ?_, fun low bus s since below back short stands => ?_,
    fun bus s awake above low => ⟨?_, s.takeBus_low low⟩, fun bus s awake normal => ⟨?_, s.takeBus_normal normal⟩,
    fun pct s awake stands enough => ?_, fun pct s awake stands idle short => ?_, fun b s awake above present => ?_,
    fun b s awake lost => ?_⟩
  · rw [exec_supplyBelowCollapse, supplyBelowCollapse_awake low awake]
  · rw [exec_supplyBelowCollapse, supplyBelowCollapse_dark low dark]
  · rw [exec_supplyDipEnd, supplyDipEnd_short below back short stands]
  · rw [exec_supplyLow, supplyLow_awake awake above]
  · rw [exec_supplyLow, supplyLow_awake awake (by omega)]
  · rw [exec_holdupMeasure, holdupMeasure_enough awake stands enough]
  · rw [exec_holdupMeasure, holdupMeasure_short awake stands idle short]
  · rw [exec_supplyInputLost, supplyInputLost_present awake above present]
  · rw [exec_supplyInputRestored, supplyInputRestored_lost awake lost]

/-! ### Collapse and the environment (R160, R161, R421, R539) -/

section
variable {s : State}

theorem collapseDeclared_due {a b c : Bool} {t0 : Tick} (below : s.ctl.belowSince = some t0) (due : msT 2 ≤ ticksFrom t0 s.now)
    (awake : s.ctl.state ≠ .dark) (stands : s.ctl.state ≠ .collapse) : collapseDeclared a b c s = s.enterCollapse a b c := by
  simp [collapseDeclared, below, Nat.not_lt.2 due, s.awake_iff.2 awake, stands]
@[simp] theorem State.enterCollapse_unit (s : State) (a b c : Bool) : (s.enterCollapse a b c).unit = .collapse := by
  simp [State.enterCollapse]
theorem collapseSequenceEnd_collapse (collapse : s.ctl.state = .collapse) {u : State}
    (hu : u = (State.sealMram ((s.led.onTape.elim s fun a => s.breakOff a false).takeRaised.journalMade)).finishSaves) :
    collapseSequenceEnd s = { u with
      ctl.state := .dark
      ctl.prev := .collapse
      ctl.since := u.now
      ctl.belowSince := none
      sessions := []
      orphans := []
      led.headsUp := true
      led.streaming := false } := by
  subst hu
  unfold collapseSequenceEnd
  rw [if_neg (by simp [collapse])]
  cases s.led.onTape <;> rfl
theorem coolingFanStop_turning {i : Nat} (awake : s.ctl.state ≠ .dark) (turns : s.ctl.coolRun[i]? = some true) :
    coolingFanStop (i + 1) s = State.event { s with
      ctl.coolRun := s.ctl.coolRun.set i false
      ctl.coolRpm := s.ctl.coolRpm.set i 0 } 0x1050 0 0 (i + 1) := by
  simp [coolingFanStop, ix, s.awake_iff.2 awake, turns]

/-- A temperature that calls for no record is kept (R539). -/
theorem overTemperature_quiet {c : Int} (awake : s.ctl.state ≠ .dark)
    (quiet : c ≤ 85 ∨ ∃ a, s.ctl.overTempAt = some a ∧ ticksFrom a s.now < secT 60) :
    overTemperature c s = { s with ctl.temp := c } := by
  have silent : (c ≤ 85 || s.ctl.overTempAt.elim false fun a => ticksFrom a s.now < secT 60) = true := by
    rcases quiet with cool | ⟨a, at_, recent⟩
    · simp [cool]
    · simp [at_, recent]
  unfold overTemperature
  rw [s.awake_iff.2 awake]
  exact if_pos silent
/-- One above 85 °C is recorded where none was within the last minute (R539). -/
theorem overTemperature_records {c : Int} (awake : s.ctl.state ≠ .dark) (hot : 85 < c)
    (apart : ∀ a, s.ctl.overTempAt = some a → secT 60 ≤ ticksFrom a s.now) :
    overTemperature c s = State.event { s with ctl.temp := c, ctl.overTempAt := some s.now } 0x1051 0 0 c.toNat := by
  have loud : ¬ (c ≤ 85 || s.ctl.overTempAt.elim false fun a => ticksFrom a s.now < secT 60) = true := by
    cases last : s.ctl.overTempAt with
    | none => simp [hot]
    | some a => simp [hot, apart a last]
  unfold overTemperature
  rw [s.awake_iff.2 awake]
  exact if_neg loud
theorem conditionRecord_due (serves : s.ctl.state ∈ [.held, .ready, .run, .drain, .fault]) (due : s.now.toNat % 40000000 = 0) :
    conditionRecord s = ([1, 2, 3, 4, 5] : List Nat).foldl (fun u z =>
      if ([0, 1, 2] : List Nat).any fun i => (u.loop (3 * (z - 1) + i)).active != .off then
        u.makeRecord 3 u.lineNow (u.conditionBody z)
      else u) s := by
  have serves' : s.inAny [.held, .ready, .run, .drain, .fault] = true := List.contains_iff_mem.2 serves
  unfold conditionRecord
  rw [serves', due]
  rfl

end

/-- Settles O13, by the equation of each command's meaning where it has its own effect. -/
theorem collapseAndEnvironmentComplete : Obligations.CollapseAndEnvironmentComplete := by
  refine ⟨fun a b c s t0 below due awake stands => ⟨_, ?_, rfl, State.enterCollapse_unit s a b c⟩, fun s u collapse hu => ?_,
    fun i s awake turns => ?_, fun c s awake => ⟨fun quiet => ?_, fun hot apart => ?_⟩, fun s serves due => ?_⟩
  · rw [exec_collapseDeclared, collapseDeclared_due below due awake stands]
  · rw [exec_collapseSequenceEnd, collapseSequenceEnd_collapse collapse hu]
  · rw [exec_coolingFanStop, coolingFanStop_turning awake turns]
  · rw [exec_overTemperature, overTemperature_quiet awake quiet]
  · rw [exec_overTemperature, overTemperature_records awake hot apart]
  · rw [exec_conditionRecord, conditionRecord_due serves due]

end Sys2Proof.Machine
end

section
/-! PROOFS. The LINK verbs (chapters 4 and 8) and the pressure of header air (chapter 7). -/
namespace Sys2Proof.Machine

/-! ### The LINK verbs (R156 to R158, R331) -/

section
variable {ln : Ln} {p : Nat} {s : State}

theorem linkShow_all (h : s.Runs ln .view) :
    linkShow ln none s = (s.lineTaken ln).replied ln (.multi ([1, 2, 3, 4, 5, 6, 7].map (s.lineTaken ln).portLine)) :=
  State.verb_replied h rfl
theorem linkShow_port (h : s.Runs ln .view) (first : 1 ≤ p) (last : p ≤ 7) :
    linkShow ln (some p) s = (s.lineTaken ln).replied ln (.multi [(s.lineTaken ln).portLine p]) :=
  State.verb_replied h (by simp [Nat.not_lt.2 last, Nat.one_le_iff_ne_zero.1 first])
@[simp] theorem State.lineTaken_port (s : State) (ln : Ln) (p : Nat) : (s.lineTaken ln).port p = s.port p := rfl

section
variable (h : s.Runs ln .engineer) (first : 1 ≤ p) (last : p ≤ 7) (room : s.pendFull ln = false)
  (stays : (s.port p).closingAt = none)
include h first last room stays

/-- From OFF the port trains at once (R331). -/
theorem linkReset_trains (off : (s.port p).off = true) :
    linkReset ln p s = (s.lineTaken ln).started ln (.linkReset p) ("resetting " ++ portName p) fun v =>
      v.updPort p fun y => { y with off := false, resetAt := some v.now } :=
  State.verb_starts h (by simpa using room) (by simp [Nat.not_lt.2 last, Nat.one_le_iff_ne_zero.1 first, stays, off])
theorem linkReset_closes (on : (s.port p).off = false) (idle : (s.port p).resetAt = none) :
    linkReset ln p s = (s.lineTaken ln).started ln (.linkReset p) ("resetting " ++ portName p) (·.closePort p false) :=
  State.verb_starts h (by simpa using room) (by simp [Nat.not_lt.2 last, Nat.one_le_iff_ne_zero.1 first, stays, on, idle])
theorem linkResetOff_starts (on : (s.port p).off = false) :
    linkResetOff ln p s = (s.lineTaken ln).started ln (.linkOff p) ("closing " ++ portName p) fun v =>
      (v.finish (· == PendOp.linkReset p) (.err 301 "cancelled")).closePort p true :=
  State.verb_starts h (by simpa using room) (by simp [Nat.not_lt.2 last, Nat.one_le_iff_ne_zero.1 first, stays, on])

end

end

/-- Two seconds without a link end the reset; the port stays enabled (R331). -/
theorem linkResetTimeout_due {p : Nat} {s : State} {t : Tick} (trains : (s.port p).resetAt = some t)
    (due : secT 2 ≤ ticksFrom t s.now) : linkResetTimeout p s =
      (s.updPort p fun x => { x with resetAt := none }).finish (· == PendOp.linkReset p) (.ok "DOWN, no signal") := by
  simp [linkResetTimeout, trains, due]

/-! ### Header pressure (R252, R253) -/

section
variable {m : Nat} {s : State} (awake : s.awake = true)
include awake

/-- A sample of a valid input is kept; one below p_low begins a hold, which is recorded (R252, R253). -/
theorem airPressureSample_valid (learns : s.airLearns m = true) {p : Int} {u : State}
    (valid : (s.fld.ais.getD (s.num (airP 2 m) - 1) {}).valid = true) (hp : p = (s.fld.ais.getD (s.num (airP 2 m) - 1) {}).value)
    (hu : u = (s.updManifold m fun b => { b with
      pressure := roundDiv p 10
      samples := b.samples ++ [(s.now, p)]
      held := b.held || p < 10 * s.raw (airP 8 m)
      okSince := if 10 * s.raw (airP 8 m) + 2000 ≤ p then some (b.okSince.getD s.now) else none
      okAt := s.now })) :
    airPressureSample m s = if p < 10 * s.raw (airP 8 m) ∧ (s.manifold m).held = false then
      u.event 0x3040 5 m (roundDiv p 10).toNat else u := by
  subst hp hu
  simp only [airPressureSample, awake, learns, valid, Bool.not_true, Bool.or_self, Bool.false_eq_true, if_false, decide_eq_true_eq,
    Bool.and_eq_true, Bool.not_eq_true']

section
variable (learns : s.airLearns m = true) (quiet : s.fireUnderWay m = false)
  (due : msT (s.num 0x580) ≤ ticksFrom (s.manifold m).quietSince s.now) (many : 2 ≤ (s.manifold m).samples.length)
include learns quiet due many

theorem airQuietWindow_below (below : ∀ x ∈ (s.manifold m).samples, x.2 < 10 * s.raw (airP 7 m)) :
    airQuietWindow m s = s.updManifold m fun b => { s.learnRho m b with samples := [], quietSince := s.now } := by
  have below' : ((s.manifold m).samples.all fun x => decide (x.2 < 10 * s.raw (airP 7 m))) = true := by simpa using below
  simp only [airQuietWindow, awake, learns, quiet, Nat.not_lt.2 due, Nat.not_lt.2 many, below', decide_false, Bool.not_true,
    Bool.or_self, Bool.false_eq_true, if_false, if_true]
/-- Samples at or above the nominal pressure are not all below it, for there are two at least. -/
theorem airQuietWindow_above (above : ∀ x ∈ (s.manifold m).samples, 10 * s.raw (airP 7 m) ≤ x.2) :
    airQuietWindow m s = s.updManifold m fun b => { b with level := s.airSize m, samples := [], quietSince := s.now } := by
  have above' : ((s.manifold m).samples.all fun x => decide (10 * s.raw (airP 7 m) ≤ x.2)) = true := by simpa using above
  have reached : ((s.manifold m).samples.all fun x => decide (x.2 < 10 * s.raw (airP 7 m))) = false := by
    obtain ⟨x, mem⟩ := List.exists_mem_of_length_pos (by omega : 0 < (s.manifold m).samples.length)
    rw [List.all_eq_false]
    exact ⟨x, mem, by simpa using above x mem⟩
  simp only [airQuietWindow, awake, learns, quiet, Nat.not_lt.2 due, Nat.not_lt.2 many, above', reached, decide_false,
    Bool.not_true, Bool.or_self, Bool.false_eq_true, if_false, if_true]

end

theorem airHoldRelease_due {t : Tick} (since : (s.manifold m).okSince = some t)
    (due : msT 100 ≤ ticksFrom t (s.manifold m).okAt) (held : (s.manifold m).held = true) :
    airHoldRelease m s =
      (s.updManifold m fun b => { b with held := false, okSince := none }).event 0x3041 5 m (s.manifold m).pressure.toNat := by
  simp [airHoldRelease, State.releaseHold, awake, since, due, held]

end

/-- Settles O29, by the equation of each command's meaning where it has its own effect. -/
theorem linkAndAirComplete : Obligations.LinkAndAirComplete := by
  refine ⟨fun ln s u h hu => ⟨?_, fun p first last => ?_⟩,
    fun ln p s u h hu first last room stays => ⟨fun off => ?_, fun on idle => ?_, fun on => ?_⟩, fun p s t trains due => ?_,
    fun m s u p awake learns valid hp hu => ⟨fun low free => ?_, fun quiet => ?_⟩,
    fun m s awake learns quiet due many => ⟨fun below => ?_, fun above => ?_⟩, fun m s t awake since due held => ?_⟩
  · rw [exec_linkShow, linkShow_all h, hu]
  · rw [exec_linkShow, linkShow_port h first last, hu]
  · rw [exec_linkReset, hu, linkReset_trains h first last room stays off]
  · rw [exec_linkReset, hu, linkReset_closes h first last room stays on idle]
  · rw [exec_linkResetOff, linkResetOff_starts h first last room stays on, hu]
  · rw [exec_linkResetTimeout, linkResetTimeout_due trains due]
  · rw [exec_airPressureSample, airPressureSample_valid awake learns valid hp hu, if_pos ⟨low, free⟩]
  · have silent : ¬ (p < 10 * s.raw (airP 8 m) ∧ (s.manifold m).held = false) := by
      rintro ⟨low, free⟩
      rcases quiet with high | held
      · omega
      · simp [held] at free
    rw [exec_airPressureSample, airPressureSample_valid awake learns valid hp hu, if_neg silent]
  · rw [exec_airQuietWindow, airQuietWindow_below awake learns quiet due many below]
  · rw [exec_airQuietWindow, airQuietWindow_above awake learns quiet due many above]
  · rw [exec_airHoldRelease, airHoldRelease_due awake since due held]

end Sys2Proof.Machine
end

section
/-! PROOFS. Tickets (chapter 5): the slots of a source's ring and how they are taken, what becomes of one that is sound, and the
rest of the ticket path. -/
namespace Sys2Proof.Machine

/-! ### The index windows of a source (R170, R172, R203, R204) -/

section
variable {src : Nat} {s : State} (conn : (s.source src).conn ≠ none)
include conn

section
variable {prod : U32}

theorem ticketProdWrite_within (near : (prod - (s.source src).cons).toNat ≤ 4096) :
    ticketProdWrite src prod s = s.updSource src fun q => { q with prod := prod } := by
  unfold ticketProdWrite
  rw [if_neg (by simpa using conn), if_neg (by omega), if_neg (by omega)]
/-- The slots that prod has overwritten are skipped (R203). -/
theorem ticketProdWrite_overrun {n : Nat} (hn : n = (prod - (s.source src).cons).toNat) (far : 4096 < n) (forward : n ≤ 2 ^ 31) :
    ticketProdWrite src prod s = (s.updSource src fun q => { q with
      prod := prod
      cons := prod - 4096
      overrun := true
      overruns := q.overruns + BitVec.ofNat 32 (n - 4096) }).event 0x2010 4 src (n - 4096) := by
  subst hn
  unfold ticketProdWrite
  rw [if_neg (by simpa using conn), if_neg (by omega), if_pos far]
/-- A prod that moves more than 2^31 ahead counts as unchanged (R204). -/
theorem ticketProdWrite_backward (back : 2 ^ 31 < (prod - (s.source src).cons).toNat) :
    ticketProdWrite src prod s = s.event 0x2011 4 src 0 := by
  unfold ticketProdWrite
  rw [if_neg (by simpa using conn), if_pos back]

end

section
variable {ccons : U32}

theorem completionCconsWrite_within
    (written : (ccons - (s.source src).ccons).toNat ≤ ((s.source src).cprod - (s.source src).ccons).toNat) :
    completionCconsWrite src ccons s =
      s.updSource src fun q => { q with ccons := ccons, stalled := q.stalled && q.ccons == ccons } := by
  unfold completionCconsWrite
  rw [if_neg (by simpa using conn), if_neg (by omega)]
/-- A ccons past cprod or moved backwards is ignored (R204). -/
theorem completionCconsWrite_beyond
    (beyond : ((s.source src).cprod - (s.source src).ccons).toNat < (ccons - (s.source src).ccons).toNat) :
    completionCconsWrite src ccons s = s.event 0x2011 4 src 1 := by
  unfold completionCconsWrite
  rw [if_neg (by simpa using conn), if_pos beyond]

end

end

/-- Settles O50, by the equation of each write beyond its window. -/
theorem ringsThatRunAhead : Obligations.RingsThatRunAhead := by
  refine ⟨fun src n prod s conn hn => ⟨fun far forward => ?_, fun back => ?_⟩, fun src ccons s conn beyond => ?_,
    by decide, by decide⟩
  · rw [exec_ticketProdWrite, ticketProdWrite_overrun conn hn far forward]
  · rw [exec_ticketProdWrite, ticketProdWrite_backward conn (hn ▸ back)]
  · rw [exec_completionCconsWrite, completionCconsWrite_beyond conn beyond]

/-! ### Taking a slot (R29, R170, R171, R174, R176) -/

/-- The state with the slot at the consumer index taken: cons advances, and an entry is reserved (R170, R171). -/
def State.slotTaken (s : State) (src : Nat) : State :=
  let w := s.updSource src fun q => { q with cons := q.cons + 1, reserved := q.reserved + 1, stalled := false }
  { w with tk.taken := w.tk.taken + 1 }

section
variable {src : Nat} {s : State} {kind : TicketKind} {act : TicketSlot → Nat → Bool → State → State} (takes : s.takes = true)
  (opened : (s.source src).open_ = true) (waits : (s.source src).prod ≠ (s.source src).cons)
  (room : (s.source src).free ≠ 0) (turn : s.hasTurn src = true) (hkind : (s.slotAt src).kind = kind)
include takes opened waits hkind

theorem State.slot_offered : ¬ (!s.takes || !(s.source src).open_ || (s.source src).prod == (s.source src).cons ||
    (s.slotAt src).kind != kind) = true := by
  simp [takes, opened, waits, hkind]

include room turn

/-- With a bad crc the slot is refused with reason 1 (R174). -/
theorem State.take_badCrc (bad : (s.slotAt src).crcOk = false) : s.take src kind act =
    (s.slotTaken src).refuseSlot src (s.slotAt src) ((s.source src).cons.toNat % 4096) (s.slotTaken src).now 1 :=
  (if_neg (State.slot_offered takes opened waits hkind)).trans <| (if_neg room).trans <| (if_neg (by simp [turn])).trans <|
    if_pos (by simp [bad])
/-- A sound slot in sequence moves next and goes to what its kind calls for (R176). -/
theorem State.take_sound {gap : U32} {v : State} (good : (s.slotAt src).crcOk = true)
    (judged : (s.source src).judge (s.slotAt src).seq = (false, gap))
    (hv : v = (s.slotTaken src).noteSeq src (s.slotAt src).seq gap false) (format : v.badFormat (s.slotAt src) = false)
    (served : kind = .prov → v.on 0x600 = true) :
    s.take src kind act = act (s.slotAt src) ((s.source src).cons.toNat % 4096) (gap != 0) v := by
  have unserved : ¬ ((s.slotAt src).kind == .prov && !v.on 0x600) = true := by
    intro both
    obtain ⟨prov, off⟩ := Bool.and_eq_true_iff.1 both
    simp [served (hkind ▸ eq_of_beq prov)] at off
  subst hv
  refine (if_neg (State.slot_offered takes opened waits hkind)).trans <| (if_neg room).trans <| (if_neg (by simp [turn])).trans <|
    (if_neg (by simp [good])).trans ?_
  rw [judged]
  exact (if_neg (Bool.eq_false_iff.1 format)).trans <| (if_neg unserved).trans (if_neg nofun)

end

/-! ### Placing, confirming and cancelling (R178, R185, R199, R208) -/

/-- In RUN a request whose line has passed and stands in the line record gets the start of R208 and is placed (R178). -/
theorem State.openRequest_placed {src idx : Nat} {k : TicketSlot} {gap : Bool} {s u : State} {t : Ticket} {e : LineRec} {d : Int}
    {l : Option (Nat × Nat)} {r : Tick × Bool} (run : s.ctl.state = .run) (passed : u32Before s.sync.line k.line = false)
    (line : s.lineRec k.line = some e) (place : s.canPlace k = true)
    (ht : t = (if s.replayedLine k.line then { s.takenTicket src k gap with detail := (s.takenTicket src k gap).detail ||| 0x200#16 }
      else s.takenTicket src k gap))
    (learn : s.assignLearn src k = (u, d, l)) (hr : r = u.requested k t.band e d) :
    State.openRequest src k idx gap s = ((u.countPlumb (chuteOf k) k t.band).keep { t with
      reqStart := r.1
      computed := true
      primedPlan := r.2
      learn := l
      dur := if (u.learnFor src k).isSome then 4 * u.num 0x397 else t.dur }).placeTicket t.tid := by
  subst ht hr
  simp [State.openRequest, run, passed, line, place, learn]

section
variable {src idx : Nat} {k : TicketSlot} {gap : Bool} {s : State} {t : Ticket} (target : s.target? src k = some t)
  (early : t.endedEarly = false) (lives : t.final_ = none) (inTime : t.inTime s.now = true)
include target early lives inTime

theorem State.applyConf_inTime (unconfirmed : t.confirmed = false) :
    State.applyConf src k idx gap s = (s.returnEntry src).confirmTicket t := by
  simp [State.applyConf, target, early, lives, inTime, unconfirmed]
theorem State.applyCancel_inTime :
    State.applyCancel src k idx gap s = ((s.returnEntry src).endTicket t.tid .cancelled).rebuild (chuteOf t.slot) := by
  simp [State.applyCancel, target, early, lives, inTime]

end

/-- Settles O15: a slot is taken by its crc and its sequence, and what its kind calls for is the equation of that kind. -/
theorem ticketsTakenComplete : Obligations.TicketsTakenComplete := by
  refine ⟨fun src s u v k idx gap takes opened waits room turn hk hidx hu => ⟨fun bad => ?_, fun good judged hv format => ?_⟩,
    fun src idx k gap s u t e d l r run passed line place ht learn hr =>
      State.openRequest_placed run passed line place ht learn hr,
    fun src idx k gap s t target early lives inTime =>
      ⟨State.applyConf_inTime target early lives inTime, State.applyCancel_inTime target early lives inTime⟩⟩
  · subst hk hidx hu
    have refused {kind act} (h : (s.slotAt src).kind = kind) :=
      State.take_badCrc (act := act) takes opened waits room turn h bad
    exact ⟨fun h => congrArg _ (refused h), fun h => congrArg _ (refused h), fun h => congrArg _ (refused h),
      fun h => congrArg _ (refused h)⟩
  · subst hk hidx hu
    have sound {kind act} (h : (s.slotAt src).kind = kind) :=
      State.take_sound (act := act) takes opened waits room turn h good judged hv format
    exact ⟨fun h on => congrArg _ (sound h fun _ => on), fun h => congrArg _ (sound h nofun),
      fun h => congrArg _ (sound h nofun), fun h => congrArg _ (sound h nofun)⟩

/-! ### Commit ticks, tallies and recipes (R175, R185, R186, R201, R202, R512) -/

theorem commitTick_holds {n : Nat} {s : State} (awake : s.ctl.state ≠ .dark) (active : s.ctl.state ≠ .standby)
    (keeps : s.crown.yieldAt = none) : commitTick n s = s.commitDue n s.now := by
  simp [commitTick, s.awake_iff.2 awake, active, keeps]
theorem tallyRead_due {s : State} (serves : s.ctl.state ∈ [.held, .ready, .run, .drain, .fault])
    (due : s.now.toNat % 4000000 = 0) :
    tallyRead s = { s.tallySweep.tallyRecords with tk.confirmedSec := List.replicate 8 0 } := by
  have serves' : s.inAny [.held, .ready, .run, .drain, .fault] = true := List.contains_iff_mem.2 serves
  simp [tallyRead, serves', due]
theorem recipeReport_open {src mask : Nat} {s : State} {b : List Byte} (opened : (s.source src).open_ = true)
    (hb : b = readCells (s.source src).recipe 0 80) (hmask : mask = leNat (sliceB b 4 1)) :
    recipeReport src s =
      if leNat (sliceB b 5 11) = 0 ∧ mask ≠ 0 ∧ mask < 2 ^ s.courseCount then
        s.makeRecord 5 (if s.sync.running then some (BitVec.ofNat 32 (leNat (sliceB b 0 4))) else none)
          (leBytes 1 src ++ leBytes 1 mask ++ List.replicate 6 0#8 ++ sliceB b 16 64)
      else s.event 0x2013 4 src := by
  subst hmask hb
  simp only [recipeReport, opened, Bool.not_true, Bool.false_eq_true, if_false, Bool.and_eq_true, decide_eq_true_eq, bne_iff_ne,
    and_assoc]

/-- Settles O16, by the equation of each command's meaning where it has its own effect. -/
theorem ticketRingsComplete : Obligations.TicketRingsComplete := by
  refine ⟨fun src prod s conn near => ?_, fun src ccons s conn written => ?_, fun n s awake active keeps => ?_, exec_ticketForget,
    fun s serves due => ?_, fun src s b mask opened hb hmask => ?_⟩
  · rw [exec_ticketProdWrite, ticketProdWrite_within conn near]
  · rw [exec_completionCconsWrite, completionCconsWrite_within conn written]
  · rw [exec_commitTick, commitTick_holds awake active keeps]
  · rw [exec_tallyRead, tallyRead_due serves due]
  · rw [exec_recipeReport, recipeReport_open opened hb hmask]

end Sys2Proof.Machine
end

section
/-! PROOFS. The channels of a course (chapter 7). -/
namespace Sys2Proof.Machine

/-- A plan primes from its priming start up to its fire start, an unconfirmed PROV only while the boost is ready (R193, R195). -/
theorem CourseDev.primes_iff (v : CourseDev) (t : Tick) (p : DevPlan) : v.primes t p = true ↔ p.primed = true ∧ p.lead ≠ 0 ∧
    tickLe (tickPlus p.start (-p.lead)) t = true ∧ tickBefore t p.start = true ∧ (p.prov = false ∨ v.ready = true) := by
  simp [CourseDev.primes, and_assoc]

section
variable {n ch : Nat} {s : State} (power : (s.dev n).powered = true)
include power

theorem coursePrimeStart_off {p : DevPlan} (next : ((s.dev n).plansOn ch).find? ((s.dev n).primes ((s.dev n).tick s.now)) = some p)
    (off : ((s.dev n).chans.getD ch {}).isOff s.now = true) :
    coursePrimeStart n ch s = s.updDev n fun x => x.updChan ch fun c => { c with
      phase := .prime, slot := p.slot, since := s.now, ceil := p.ceil, profile := p.profile, reached := false, gen := p.gen
      onSince := some s.now } := by
  simp only [coursePrimeStart, next, power, off, Bool.and_self, if_true]

/-! ### The fire start (R195, R248, R264, R504) -/

/-- At the fire start the plan is judged in this order: commitment, then an older fire on the channel, then the boost. -/
theorem coursePeakStart_begun {reached : Bool} {p : DevPlan} (next : (s.dev n).planOn ch = some p)
    (begun : tickBefore ((s.dev n).tick s.now) p.start = false) : coursePeakStart n ch reached s =
    if p.committed = false then s.updDev n (·.refusePlan s.now 2 p)
    else if (s.dev n).bounded s.now p = true then s.updDev n (·.refusePlan s.now 3 p)
    else if (s.dev n).ready = true then s.updDev n (·.startPeak s.now p reached)
    else s.updDev n fun x => (x.plans.filter fun q => q.start == p.start && q.committed).foldl (fun v q => v.refusePlan s.now 1 q)
      (x.shed s.now) := by
  simp [coursePeakStart, next, power, begun]

/-! ### HOLD, RELEASE and STATUS (R232, R233, R245, R254, R256) -/

theorem coursePeakEnd_peak {peak : Bool} (inPeak : ((s.dev n).chans.getD ch {}).phase = .peak)
    (ended : peak = true ∨ (s.dev n).peakMax ch ≤ ticksFrom ((s.dev n).chans.getD ch {}).since s.now) :
    coursePeakEnd n ch peak s = s.updDev n fun x => x.updChan ch fun c => { c with phase := .hold, since := s.now } :=
  State.updDev_congr (if_pos (by rw [power, inPeak]; simpa using ended))
theorem courseReleaseStart_due {c : Channel} (hc : c = (s.dev n).chans.getD ch {}) (fires : c.phase = .peak ∨ c.phase = .hold)
    (due : tickLe c.releaseAt ((s.dev n).tick s.now) = true) :
    courseReleaseStart n ch s = s.updDev n fun x =>
      (CourseDev.updChan { x with plans := x.plans.filter fun p => !(p.slot == c.slot && p.gen == c.gen) } ch
        fun c => c.letGo s.now 600).sendEnd { slot := c.slot, code := 0, primed := c.reached, release := (s.dev n).tick s.now } := by
  subst hc
  exact State.updDev_congr (if_pos (by rcases fires with h | h <;> rw [power, h, due] <;> rfl))
theorem courseStatusSend_powered : courseStatusSend n s = s.updDev n fun x => { (x.settle s.now).shed s.now with
    statusAt := s.now
    statusSent := some (((x.settle s.now).shed s.now).statusOf s.now) } := by
  simp [courseStatusSend, power]

end

/-! ### What drives a channel (Table 7.1, R232, R237, R243) -/

/-- Table 7.1: a phase fixes what is applied; a released channel is clamped until its current is zero. -/
theorem CourseDev.drive_cases {v : CourseDev} {t : Tick} {ch : Nat} {c : Channel} (hc : c = v.chans.getD ch {}) :
    (c.phase = .off → v.drive t ch = .none) ∧
    (c.phase = .prime → v.drive t ch = .prime ((c.ceil : Int) * v.iPeak c.profile) 100) ∧
    (c.phase = .peak → v.drive t ch = .peak (v.iPeak c.profile) 1) ∧
    (c.phase = .hold → v.drive t ch =
      .hold (v.holdTarget c.profile (ticksFrom c.since t)).1 (v.holdTarget c.profile (ticksFrom c.since t)).2) ∧
    (c.phase = .release → tickLe c.zeroBy t = false → v.drive t ch = .clamp) ∧
    (c.phase = .release → tickLe c.zeroBy t = true → v.drive t ch = .none) := by
  subst hc
  refine ⟨fun h => ?_, fun h => ?_, fun h => ?_, fun h => ?_, fun h late => ?_, fun h zero => ?_⟩
  · rw [CourseDev.drive, h]
  · rw [CourseDev.drive, h]
  · rw [CourseDev.drive, h]
  · rw [CourseDev.drive, h]
  · rw [CourseDev.drive, h]
    exact if_neg (Bool.eq_false_iff.1 late)
  · rw [CourseDev.drive, h]
    exact if_pos zero

/-- Settles O22, by the equation of each command's meaning where the phase and the tick call for its effect. -/
theorem courseChannelsComplete : Obligations.CourseChannelsComplete := by
  rintro n ch s v rfl power
  refine ⟨fun p next off => ?_, (s.dev n).primes_iff, fun p reached next begun => ?_, fun peak inPeak ended => ?_,
    fun c hc fires due => ?_, fun t c hc => CourseDev.drive_cases hc, ?_⟩
  · rw [exec_coursePrimeStart, coursePrimeStart_off power next off]
  · rw [exec_coursePeakStart, coursePeakStart_begun power next begun]
    refine ⟨fun uncommitted => ?_, fun committed old => ?_, fun committed free ready => ?_, fun committed free unready => ?_⟩
    · rw [if_pos uncommitted]
    · rw [if_neg (by simp [committed]), if_pos old]
    · rw [if_neg (by simp [committed]), if_neg (by simp [free]), if_pos ready]
      rfl
    · rw [if_neg (by simp [committed]), if_neg (by simp [free]), if_neg (by simp [unready])]
  · rw [exec_coursePeakEnd, coursePeakEnd_peak power inPeak ended]
  · rw [exec_courseReleaseStart, courseReleaseStart_due power hc fires due]
  · rw [exec_courseStatusSend, courseStatusSend_powered power]

end Sys2Proof.Machine
end

section
/-! PROOFS. The plumb model and the drop test (chapter 6): moisture and its bands, the outlet averages, and a COURSE LEARN sweep. -/
namespace Sys2Proof.Machine

/-! ### Moisture and outlet averages (R218, R219, R229) -/

section
variable {s : State} (awake : s.ctl.state ≠ .dark)
include awake

/-- Once a second the filtered moisture is kept, and a band that it moves is recorded (R218, R219). -/
theorem moistureUpdate_due {m b : Nat} (due : s.now.toNat % 4000000 = 0) (average : s.plumb.xSet = true) (hm : m = s.filterMoist)
    (hb : b = s.newBand m s.plumb.band) :
    moistureUpdate s = if b = s.plumb.band then { s with plumb.moist := m, plumb.moistSet := true }
      else State.event { s with
        plumb.moist := m
        plumb.moistSet := true
        plumb.band := b
        plumb.bandPrev := s.plumb.band
        plumb.bandAt := s.now } 0x2030 0 0 s.plumb.band b (roundDiv m (2 ^ 20)).toNat := by
  rw [hb, hm]
  exact if_neg (by simp [s.awake_iff.2 awake, due, average])
/-- Three sweep periods without an average are noted once (R229). -/
theorem outletAvgMissing_due (quiet : s.plumb.missNoted = false)
    (due : secT (3 * s.outletPeriod) ≤ ticksFrom s.plumb.lastAvg s.now) :
    outletAvgMissing s = State.event { s with plumb.missNoted := true } 0x2031 0 0 :=
  if_pos (by simp [s.awake_iff.2 awake, quiet, due])

end

/-! ### COURSE LEARN (R222 to R224, R227) -/

section
variable {ln : Ln} {n src : Nat} {s : State} (h : s.Runs ln .engineer) (course : (s.lineTaken ln).hasCourse n = true)
include h course

theorem courseLearnStop_sweeping (sweeps : ((s.lineTaken ln).chute n).learn ≠ none) :
    courseLearnStop ln n s = ((s.lineTaken ln).learnDrop n "stopped" 1).replied ln (.ok "stopped") :=
  State.verb_replied h <| (if_neg (by simp [course])).trans <| if_neg (by simpa using sweeps)

/-- A sweep whose steps fit starts in RUN on a course that is ON, where neither its chute nor its source has one (R222). -/
theorem courseLearn_starts {x : Learn} (first : 1 ≤ src) (last : src ≤ 16) (stepped : (s.lineTaken ln).num 0x394 ≠ 0)
    (even : (s.lineTaken ln).num 0x393 % (s.lineTaken ln).num 0x394 = 0) (run : s.ctl.state = .run) (on : (s.course n).state = .on)
    (opened : (s.source src).open_ = true) (free : (s.chute n).learn = none)
    (alone : ∀ i < 8, ∀ y, (s.chute (i + 1)).learn = some y → y.src ≠ src) (room : s.pendFull ln = false)
    (hx : x = { src := src, since := (s.lineTaken ln).now, cls := (s.lineTaken ln).num 0x392, span := (s.lineTaken ln).num 0x393
                step := (s.lineTaken ln).num 0x394 }) (fits : x.steps ≤ 255) :
    courseLearn ln n src s = (s.lineTaken ln).started ln (.courseLearn n)
      ("learning chute " ++ natText n ++ " class " ++ natText x.cls ++ " steps " ++ natText x.steps) fun v =>
        ((v.grantLearn src true).updChute n fun c => { c with learn := some x, learnGen := nextGen c.learnGen }).updSource src
          fun q => { q with learnWin := [] } := by
  have sole : ((List.range 8).any fun i => ((s.chute (i + 1)).learn).elim false fun y => y.src = src) = false := by
    rw [List.any_eq_false]
    intro i hi
    cases sweep : (s.chute (i + 1)).learn with
    | none => exact Bool.false_ne_true
    | some y => simpa using alone i (List.mem_range.1 hi) y sweep
  subst hx
  refine State.verb_starts h (by simpa using room) ?_
  refine (if_neg ?named).trans <| (if_neg ?steps).trans <| (if_neg ?serves).trans <| (if_neg ?idle).trans <| if_neg ?sole
  case named => simp [course, Nat.not_lt.2 first, Nat.not_lt.2 last]
  case steps =>
    simp only [stepped, even, Nat.not_lt.2 fits, decide_false, bne_self_eq_false, Bool.or_self, Bool.false_eq_true, not_false_iff]
  case serves => simp [run, on, opened]
  case idle => simpa using free
  case sole => simpa using sole

end

section
variable {n : Nat} {s : State} {x : Learn} (sweep : (s.chute n).learn = some x)
include sweep

/-- One second after its entry a learn ticket's byte is read; one that fired and was judged counts in its bin, and bins that are all
full end the sweep (R223, R224, R227). -/
theorem learnResultRead_due {tid bin step : Nat} {u v : State} {t : Ticket} {a : Tick} {b : Byte} (ticket : s.ticket? tid = some t)
    (learns : t.learn = some (bin, step)) (entered : t.entryAt = some a) (due : secT 1 ≤ ticksFrom a s.now)
    (chute : chuteOf t.slot = n) (source : t.src = x.src) (hb : b = cellAt (s.source t.src).learnWin (t.slot.seq.toNat % 4096))
    (hu : u = s.updTicket tid (fun k => { k with learn := none }))
    (hv : v = (if t.final_ = some .fired ∧ (b = 1 ∨ b = 2) then u.countLearn n bin step (b = 1) else u)) :
    learnResultRead n tid s = if (v.chute n).learn.elim false v.binsFull then v.learnApply n else v := by
  subst hv hu hb
  simp only [learnResultRead, ticket, sweep, learns, entered, Nat.not_lt.2 due, chute, source, decide_false, bne_self_eq_false,
    Bool.or_self, Bool.false_eq_true, if_false, Bool.and_eq_true, Bool.or_eq_true, beq_iff_eq, decide_eq_true_eq]
theorem learnLimit_due (due : secT (s.num 0x398) ≤ ticksFrom x.since s.now) : learnLimit n s = s.learnApply n := by
  rw [learnLimit, sweep]
  exact if_pos due

end

/-- Settles O17, by the equation of each command's meaning where it has its own effect. -/
theorem plumbCommandsComplete : Obligations.PlumbCommandsComplete := by
  refine ⟨fun s m b awake due average hm hb => ?_, fun s awake quiet due => ?_,
    fun ln n src s u x h hu course first last stepped even run on opened free alone room hx fits => ?_,
    fun ln n s u h hu course sweeps => ?_,
    fun n tid bin step s u v t x a b ticket sweep learns entered due chute source hb hu hv => ?_, fun n s x sweep due => ?_⟩
  · rw [exec_moistureUpdate, moistureUpdate_due awake due average hm hb]
  · rw [exec_outletAvgMissing, outletAvgMissing_due awake quiet due]
  · subst hu
    rw [exec_courseLearn, courseLearn_starts h course first last stepped even run on opened free alone room hx fits]
  · subst hu
    rw [exec_courseLearnStop, courseLearnStop_sweeping h course sweeps]
  · rw [exec_learnResultRead, learnResultRead_due sweep ticket learns entered due chute source hb hu hv]
  · rw [exec_learnLimit, learnLimit_due sweep due]

end Sys2Proof.Machine
end

section
/-! PROOFS. The COURSE verbs and the ends of enable, drain and test (chapter 7). -/
namespace Sys2Proof.Machine

theorem State.inAny_iff (s : State) (l : List UnitState) : s.inAny l = true ↔ s.ctl.state ∈ l := by simp [State.inAny]

/-! ### COURSE ENABLE and DISABLE (R254 to R257) -/

section
variable {ln : Ln} {n : Nat} {s : State} (h : s.Runs ln .operate) (course : (s.lineTaken ln).hasCourse n = true)
include h course

section
variable (serves : s.inAny [.ready, .run] = true)
include serves

theorem courseEnable_on (on : (s.course n).state = .on) : courseEnable ln n s = (s.lineTaken ln).replied ln (.ok "ON") :=
  State.verb_replied h (by simp [course, serves, on, done])
theorem courseEnable_off (off : (s.course n).state = .off) (room : s.pendFull ln = false) :
    courseEnable ln n s = (s.lineTaken ln).started ln (.courseEnable n) ("enabling course " ++ natText n) (·.beginEnable n) :=
  State.verb_starts h (by simpa using room) (by simp [course, serves, off])
/-- An ENABLE of a course that drains waits for the end of the drain (R256). -/
theorem courseEnable_draining (drains : (s.course n).state = .draining) (room : s.pendFull ln = false) :
    courseEnable ln n s = (s.lineTaken ln).started ln (.courseEnable n) "queued" fun u =>
      u.updCourse n fun c => { c with enQueued := true } :=
  State.verb_starts h (by simpa using room) (by simp [course, serves, drains])
theorem courseDisable_off (off : (s.course n).state = .off) :
    courseDisable ln n s = (s.lineTaken ln).replied ln (.ok "OFF") :=
  State.verb_replied h (by simp [course, serves, off, done])
theorem courseDisable_drains (powered : (s.course n).state ∈ [.on, .enabling]) (room : s.pendFull ln = false) :
    courseDisable ln n s =
      (s.lineTaken ln).started ln (.courseDisable n) ("draining course " ++ natText n) (·.startDrain n true) := by
  refine State.verb_starts h (by simpa using room) ?_
  obtain on | enabling : (s.course n).state = .on ∨ (s.course n).state = .enabling := by simpa using powered
  · simp [course, serves, on]
  · simp [course, serves, enabling]

end

/-- A drain that COURSE DISABLE started is aborted until the discharge begins (R257). -/
theorem courseDisableAbort_drains (drains : (s.course n).state = .draining) (byVerb : (s.course n).drainVerb = true)
    (charged : (s.course n).dischargeAt = none) :
    courseDisableAbort ln n s = ((s.lineTaken ln).abortDrain n).replied ln (.ok "aborted") :=
  State.verb_replied h (by simp [course, drains, byVerb, charged, done])

end

/-! ### The ends of enable and drain (R254, R256, R267) -/

section
variable {n : Nat} {s : State}

section
variable (enabling : (s.course n).state = .enabling) (charging : (s.course n).step = 3)
  (reported : tickBefore (s.course n).enSince (s.course n).last.at_ = true)
include enabling charging reported

theorem courseEnableComplete_no_phase (gone : (s.course n).last.n = 0) :
    courseEnableComplete n s = (s.event 0x3002 1 n 0).failEnable n 601 "no boost phase" := by
  simp [courseEnableComplete, enabling, charging, reported, gone]
theorem courseEnableComplete_ready (left : (s.course n).last.n ≠ 0) (ready : (s.course n).last.ready = true)
    (on : (s.course n).last.st = .on) : courseEnableComplete n s = s.courseOn n := by
  simp [courseEnableComplete, enabling, charging, reported, left, ready, on]

end

/-- A drain ends with a STATUS since its start that says OFF, or without a link that could report it (R256). -/
theorem courseDrainComplete_ends (drains : (s.course n).state = .draining)
    (ended : (tickBefore (s.course n).drainAt (s.course n).last.at_ = true ∧ (s.course n).last.st = .off) ∨
      (s.course n).link.up = false) : courseDrainComplete n s = s.courseOff n :=
  if_pos (by simpa [drains] using ended)

/-! ### Test pulses (R258) -/

/-- COURSE TEST in READY, with its times in their ranges and its pulses apart, places the first of them (R258). -/
theorem courseTest_starts {ln : Ln} {ch d p : Nat} {dur period : Option Lit} {count : Option Nat} (h : s.Runs ln .engineer)
    (hd : testTime .us 200 20000 ((s.lineTaken ln).num (courseP 0x15 n) ch) dur = .ok d)
    (hp : testTime .ms 1 10000 100 period = .ok p) (course : (s.lineTaken ln).hasCourse n = true)
    (channel : ch < (s.lineTaken ln).num (courseP 0 n)) (long : 200 ≤ d) (short : d ≤ 20000) (positive : 1 ≤ count.getD 1)
    (few : count.getD 1 ≤ 1000) (apart : d + (s.lineTaken ln).num (courseP 0x11 n) ch ≤ 1000 * p) (ready : s.ctl.state = .ready)
    (idle : (s.course n).test = none) (room : s.pendFull ln = false) :
    courseTest ln n ch dur count period s = (s.lineTaken ln).started ln (.courseTest n)
      ("testing course " ++ natText n ++ " ch " ++ natText ch) fun v =>
        (v.updCourse n fun c => { c with test := some { ch := ch, dur := d, count := count.getD 1, period := p } }).placePulse n := by
  refine State.verb_starts h (by simpa using room) ?_
  simp only [hd, hp]
  refine (if_neg ?named).trans <| (if_neg ?serves).trans <| if_neg ?idle
  case named =>
    simp only [course, Nat.not_le.2 channel, Nat.not_lt.2 long, Nat.not_lt.2 short, Nat.not_lt.2 positive, Nat.not_lt.2 few,
      Nat.not_lt.2 apart, decide_false, Bool.not_true, Bool.or_self, Bool.false_eq_true, not_false_iff]
  case serves => simp [ready]
  case idle => simp [idle]
/-- A test is over once every pulse has fired or been denied. -/
theorem courseTestComplete_over {x : CourseTest} (tests : (s.course n).test = some x)
    (ended : x.count ≤ x.fired + x.denials.length) :
    courseTestComplete n s = ((s.updCourse n fun c => { c with test := none }).event 0x3030 1 n x.ch x.fired x.count).finish
      (· == .courseTest n) (.ok ("fired " ++ natText x.fired ++ " of " ++ natText x.count ++ denialText x.denials)) := by
  simp only [courseTestComplete, tests, Nat.not_lt.2 ended, if_false]

end

/-- Settles O18, by the equation of each command's meaning where it has its own effect. -/
theorem courseVerbsComplete : Obligations.CourseVerbsComplete := by
  refine ⟨fun ln n s u h hu course serves' => ?_, fun ln n s u h hu course drains byVerb charged => ?_,
    fun n s enabling charging reported => ⟨fun gone => ?_, fun left ready on => ?_⟩, fun n s drains ended => ?_,
    fun ln n ch d k p dur period count s u h hu hd hk hp course channel long short positive few _ _ apart ready idle room => ?_,
    fun n s x tests ended => ?_⟩
  · subst hu
    have serves := (s.inAny_iff _).2 serves'
    refine ⟨fun on => ?_, fun off room => ?_, fun drains room => ?_, fun off => ?_, fun powered room => ?_⟩
    · rw [exec_courseEnable, courseEnable_on h course serves on]
    · rw [exec_courseEnable, courseEnable_off h course serves off room]
    · rw [exec_courseEnable, courseEnable_draining h course serves drains room]
    · rw [exec_courseDisable, courseDisable_off h course serves off]
    · rw [exec_courseDisable, courseDisable_drains h course serves powered room]
  · subst hu
    rw [exec_courseDisableAbort, courseDisableAbort_drains h course drains byVerb charged, State.abortDrain]
  · rw [exec_courseEnableComplete, courseEnableComplete_no_phase enabling charging reported gone]
  · rw [exec_courseEnableComplete, courseEnableComplete_ready enabling charging reported left ready on, State.courseOn]
  · rw [exec_courseDrainComplete, courseDrainComplete_ends drains ended]
  · subst hu hk
    rw [exec_courseTest, courseTest_starts h hd hp course channel long short positive few apart ready idle room]
  · rw [exec_courseTestComplete, courseTestComplete_over tests ended]

end Sys2Proof.Machine
end

section
/-! PROOFS. The frame layer of the course-protocol links (chapter 7): training, acknowledgement and sending again. -/
namespace Sys2Proof.Machine

section
variable {s : State} (awake : s.awake = true)
include awake

/-! ### Training (R260, R261) -/

section
variable {l : LinkId}

section
variable (has : s.hasLink l = true)
include has

theorem linkTrain_down (down : (s.linkOf l).up = false) : linkTrain l s = s.train l :=
  if_pos (by simp [awake, has, down])
/-- A link that is up is lost before it trains again (R261). -/
theorem linkLaneDown_up (up : (s.linkOf l).up = true) : linkLaneDown l s = (s.linkLost l).train l := by
  simp [linkLaneDown, awake, has, up]
theorem linkLaneDown_training (down : (s.linkOf l).up = false) (training : (s.linkOf l).training = true) :
    linkLaneDown l s = s.train l := by
  simp [linkLaneDown, awake, has, down, training]

end

section
variable (holds : s.ctl.state ≠ .standby) (due : s.now.toNat % 4096 = 0)
include holds due

/-- The first SYNC after the delay has been measured ends the training, and the identity is asked for (R261, R263). -/
theorem courseSyncSend_measured (training : (s.linkOf l).training = true) (measured : tripsAgree (s.linkOf l).echoes = true) :
    courseSyncSend l s = (((s.send l (.sync s.now)).updLink l fun x =>
      { x with up := true, training := false, lastRx := (s.send l (.sync s.now)).now }).linkReturned l).send l (.query 0 2) := by
  simp only [courseSyncSend, awake, beq_false_of_ne holds, due, training, measured, Bool.or_true, Bool.not_true, bne_self_eq_false,
    Bool.or_self, Bool.and_self, Bool.false_eq_true, if_false, if_true]
theorem courseSyncSend_up (up : (s.linkOf l).up = true) (trained : (s.linkOf l).training = false) :
    courseSyncSend l s = s.send l (.sync s.now) := by
  simp only [courseSyncSend, awake, beq_false_of_ne holds, due, up, trained, Bool.true_or, Bool.not_true, bne_self_eq_false,
    Bool.or_self, Bool.false_and, Bool.false_eq_true, if_false]

end

/-- Each round trip is kept; the sixteenth ends the round (R261). -/
theorem courseEchoReply_measures {num clocks : Nat} {u : State} (training : (s.linkOf l).training = true)
    (heard : 16 ≤ (s.linkOf l).good) (known : num < 16)
    (hu : u = (s.heard l).updLink l fun x => { x with echoes := assocSet num clocks x.echoes }) :
    courseEchoReply l num clocks s =
      if (u.linkOf l).echoes.length < 16 then u
      else if tripsAgree (u.linkOf l).echoes then
        (u.updLink l fun x => { x with delay := cableDelay (u.linkOf l).echoes }).send l
          (.config 8 (u.firstWords l (cableDelay (u.linkOf l).echoes)))
      else u.startEchoes l := by
  subst hu
  exact if_neg (by simp [awake, training, heard, known])

end

/-! ### Acknowledgement and sending again (R259, R264, R269, R566) -/

theorem courseAck_frees {l : LinkId} {seq : BitVec 16} :
    courseAck l seq s = (s.heard l).updLink l fun x => { x with sent := ackUpTo seq x.sent } :=
  if_neg (by simp [awake])
theorem commitResend_late {n : Nat} : commitResend n s = s.updLink (.course n) fun x => { x with
    sent := x.sent.map fun f =>
      if isCommit f.kind = true ∧ f.resent = false ∧ 16 ≤ ticksFrom f.sentAt s.now then { f with resent := true, sentAt := s.now }
      else f } := by
  simp [commitResend, awake, and_assoc]
theorem courseDownlinkResend_late {l : LinkId} {f : DownFrame} (sent : f ∈ (s.linkOf l).sent) (other : isCommit f.kind = false)
    (late : 64 ≤ ticksFrom f.sentAt s.now) : courseDownlinkResend l s = s.updLink l fun x => { x with
      sent := x.sent.map fun f => if isCommit f.kind then f else { f with sentAt := s.now } } := by
  have due : ((s.linkOf l).sent.any fun f => !isCommit f.kind && 64 ≤ ticksFrom f.sentAt s.now) = true :=
    List.any_eq_true.2 ⟨f, sent, by simp [other, late]⟩
  exact if_neg (by simp only [awake, due, Bool.not_true, Bool.or_self, Bool.false_eq_true, not_false_iff])
theorem planSend_up {n : Nat} (holds : s.ctl.state ≠ .standby) (up : (s.course n).link.up = true) :
    planSend n s = (sortBy (fun a b => tickBefore a.start b.start) ((s.course n).plans.filter fun p =>
      p.slot.isNone && !p.committed && tickDist s.now p.start ≤ 5000)).foldl (fun u p => u.sendPlan n p) s :=
  if_neg (by simp [awake, holds, up])

end

/-! ### A valid frame heard (R261) -/

/-- The sixteenth valid frame in a row of a link in training brings its direction up. -/
theorem State.heard_eq {s u : State} {l : LinkId} (hu : u = s.updLink l fun x =>
    { x with lastRx := s.now, good := if x.training && x.good < 16 then x.good + 1 else x.good }) :
    s.heard l = if (s.linkOf l).training = true ∧ (s.linkOf l).good = 15 then u.directionUp l else u := by
  simp only [hu, State.heard, Bool.and_eq_true, decide_eq_true_eq]
/-- A standby sends no frame: its link is up once its direction is (assumption 61). -/
theorem State.directionUp_standby {u : State} (l : LinkId) (standby : u.ctl.state = .standby) :
    u.directionUp l = u.updLink l fun x => { x with up := true, training := false } :=
  if_pos (by simp [standby])
/-- Every other Keystone measures the delay; a holder's CROWN goes first (assumption 50). -/
theorem State.directionUp_holds {u : State} (l : LinkId) (holds : u.ctl.state ≠ .standby) : u.directionUp l =
    (u.sends l (if u.crown.holds then [.crown u.crown.gen u.crown.horizon false] else [])).startEchoes l :=
  if_neg (by simp [holds])

/-- Settles O19, by the equation of each command's meaning where the link calls for its effect. -/
theorem linkCommandsComplete : Obligations.LinkCommandsComplete := by
  refine ⟨fun l s awake has down => ?_, fun l s awake has => ⟨fun up => ?_, fun down training => ?_⟩,
    fun l s awake holds due => ⟨fun training measured => ?_, fun up trained => ?_⟩,
    fun l s u hu => ⟨State.heard_eq hu, State.directionUp_standby l, State.directionUp_holds l, rfl⟩,
    fun l num clocks s u awake training heard known hu => ?_, fun l seq s awake => ?_, fun n s awake => ?_,
    fun l s f awake sent other late => ?_, fun n s awake holds up => ?_⟩
  all_goals replace awake := s.awake_iff.2 awake
  · rw [exec_linkTrain, linkTrain_down awake has down]
  · rw [exec_linkLaneDown, linkLaneDown_up awake has up]
  · rw [exec_linkLaneDown, linkLaneDown_training awake has down training]
  · rw [exec_courseSyncSend, courseSyncSend_measured awake holds due training measured]
  · rw [exec_courseSyncSend, courseSyncSend_up awake holds due up trained]
  · rw [exec_courseEchoReply, courseEchoReply_measures awake training heard known hu]
    refine ⟨fun more => ?_, fun all agree => ?_, fun all differ => ?_⟩
    · rw [if_pos more]
    · rw [if_neg (Nat.not_lt.2 all), if_pos agree]
    · rw [if_neg (Nat.not_lt.2 all), if_neg (Bool.eq_false_iff.1 differ)]
  · rw [exec_courseAck, courseAck_frees awake]
  · rw [exec_commitResend, commitResend_late awake]
  · rw [exec_courseDownlinkResend, courseDownlinkResend_late awake sent other late]
  · rw [exec_planSend, planSend_up awake holds up]

end Sys2Proof.Machine
end

section
/-! PROOFS. What the courses send up (chapter 7), and the crown at the field bank and the transport (chapter 15). -/
namespace Sys2Proof.Machine

section
variable {s : State} (awake : s.awake = true)
include awake

/-! ### STATUS and the crown (R492, R512, R515, R516, R519) -/

section
variable {up : UpHdr} {f : StatusFrame} {u : State} (has : s.hasCourse up.course = true)
  (taken : u = s.takeStatus up.course up.gen f)
include has taken

/-- A standby notes with the STATUS that the course hears a crown (R492). -/
theorem courseStatus_standby (standby : u.ctl.state = .standby) :
    courseStatus up f s = if f.crownLive then { u with crown.path2 := u.now, crown.silentNoted := false } else u := by
  simp only [courseStatus, awake, has, ← taken, standby, Bool.not_true, Bool.or_self, Bool.false_eq_true, if_false, beq_self_eq_true,
    if_true]

section
variable (holder : u.ctl.state ≠ .standby) (holds : u.crown.holds = true)
include holder holds

/-- A holder compares the generation that the course reports with its own. -/
theorem courseStatus_holder : courseStatus up f s =
    if up.gen = u.crown.gen then u.ownGenSeen up.course
    else if laterGen u.crown.gen up.gen = true then
      if u.inAny [.held, .ready, .run, .drain, .fault] = false then u
      else if u.crown.yieldAt.isSome && up.gen == u.crown.gen + 1 && u.inAny [.ready, .run, .drain] then u.yieldDone up.gen
      else u.stepDown up.gen
    else { u with crown.resendAt := u.crown.resendAt.filter (· != up.course) ++ [up.course] } := by
  simp only [courseStatus, awake, has, ← taken, beq_false_of_ne holder, holds, beq_iff_eq, Bool.not_true, Bool.or_self,
    Bool.false_eq_true, if_false, Bool.not_eq_true']
theorem courseStatus_own (own : up.gen = u.crown.gen) : courseStatus up f s = u.ownGenSeen up.course := by
  rw [courseStatus_holder awake has taken holder holds, if_pos own]
/-- A course that reads an earlier generation is offered the crown again (R519). -/
theorem courseStatus_earlier (other : up.gen ≠ u.crown.gen) (earlier : laterGen u.crown.gen up.gen = false) :
    courseStatus up f s = { u with crown.resendAt := u.crown.resendAt.filter (· != up.course) ++ [up.course] } := by
  rw [courseStatus_holder awake has taken holder holds, if_neg other, if_neg (Bool.eq_false_iff.1 earlier)]

section
variable (later : laterGen u.crown.gen up.gen = true) (other : up.gen ≠ u.crown.gen)
include later other

theorem courseStatus_stepDown (serves : u.ctl.state ∈ [.held, .ready, .run, .drain, .fault]) (stays : u.crown.yieldAt = none) :
    courseStatus up f s = u.stepDown up.gen := by
  rw [courseStatus_holder awake has taken holder holds, if_neg other, if_pos later, if_neg (by simp [(u.inAny_iff _).2 serves]),
    if_neg (by simp [stays])]
theorem courseStatus_yieldDone (serves : u.ctl.state ∈ [.ready, .run, .drain]) (yields : u.crown.yieldAt ≠ none)
    (next : up.gen = u.crown.gen + 1) : courseStatus up f s = u.yieldDone up.gen := by
  have serves' : u.ctl.state ∈ [.held, .ready, .run, .drain, .fault] := List.mem_cons_of_mem _ (List.mem_append_left [_] serves)
  rw [courseStatus_holder awake has taken holder holds, if_neg other, if_pos later, if_neg (by simp [(u.inAny_iff _).2 serves']),
    if_pos (by simp [(u.inAny_iff _).2 serves, Option.isSome_iff_ne_none.2 yields, next])]
/-- In WAKING and COLLAPSE a later generation changes no state. -/
theorem courseStatus_idle (idle : u.ctl.state = .waking ∨ u.ctl.state = .collapse) : courseStatus up f s = u := by
  have idle' : u.inAny [.held, .ready, .run, .drain, .fault] = false := by
    rcases idle with waking | collapse
    · rw [State.inAny, waking]
      rfl
    · rw [State.inAny, collapse]
      rfl
  rw [courseStatus_holder awake has taken holder holds, if_neg other, if_pos later, if_pos idle']

end

end

end

/-! ### END, READBACK and the loss of a link (R248, R254, R263, R264, R268, R566) -/

/-- The END of a plan frees its slot and settles its tickets (R248, R264, R566). -/
theorem courseEnd_settles {up : UpHdr} {f : EndBody} {u v : State} {p : Plan} (hu : u = s.heard (.course up.course))
    (planned : (u.course up.course).plans.find? (fun p => p.slot == some f.slot) = some p)
    (hv : v = u.updCourse up.course fun c => { c with plans := c.plans.filter fun q => q.slot != some f.slot }) :
    courseEnd up f s = (if f.code = 0 then p.tids.foldl (fun w tid => w.endChannel p.ch f.primed tid)
        ((v.fireRan up.course p f).noteCut up.course p f.primed)
      else v.endRefused p (if f.code = 1 then .deniedBoost else if f.code = 2 then .deniedLate else .droppedFailover)).judgeDischarge
        up.course := by
  simp only [courseEnd, awake, ← hu, planned, ← hv, Bool.not_true, Bool.false_eq_true, if_false]

section
variable {addr : Nat} {ws : List U32}

/-- A course that is being enabled is judged by its identity, then by its words (R254, R263). -/
theorem courseReadback_enabling {n : Nat} {u v : State} (hu : u = (s.heard (.course n)).updLink (.course n) fun x =>
      { x with kind := kindOfWords addr ws x.kind, present := x.present || addr = 4 })
    (enabling : (u.course n).state = .enabling)
    (asked : (u.course n).step = 1 ∧ addr < 8 ∨ (u.course n).step = 2 ∧ 8 ≤ addr ∧ addr < 0x240)
    (hv : v = u.updCourse n fun c =>
      { c with wordsBack := (ws.mapIdx fun i w => (addr + i, w)).foldl (fun l p => assocSet p.1 p.2 l) c.wordsBack }) :
    courseReadback (.course n) addr ws s = if (u.course n).step = 1 then v.judgeIdentity n else v.judgeWords n addr ws := by
  have asked' : (decide ((u.course n).step = 1) && decide (addr < 8) ||
      decide ((u.course n).step = 2) && decide (8 ≤ addr) && decide (addr < 0x240)) = true := by
    simpa only [Bool.or_eq_true, Bool.and_eq_true, decide_eq_true_eq, and_assoc] using asked
  simp only [courseReadback, awake, ← hu, enabling, asked', ← hv, bne_self_eq_false, Bool.not_true, Bool.or_self,
    Bool.false_eq_true, if_false]
theorem courseReadback_other {l : LinkId} (other : l = .field ∨ l = .ledger) : courseReadback l addr ws s =
    (s.heard l).updLink l fun x => { x with kind := kindOfWords addr ws x.kind, present := x.present || addr = 4 } := by
  rcases other with rfl | rfl
  all_goals simp only [courseReadback, awake, Bool.not_true, Bool.false_eq_true, if_false]

end

theorem courseLinkLoss_silent {n : Nat} (has : s.hasCourse n = true) (up : (s.course n).link.up = true)
    (silent : 400 ≤ ticksFrom (s.course n).link.lastRx s.now) :
    courseLinkLoss n s = (s.courseLost n).failBringup 601 ("course " ++ natText n ++ " link") :=
  if_neg (by simp [awake, has, up, silent])
/-- Every 64 ticks the crown is offered again to a course that does not report its generation (R519). -/
theorem crownResend_due {n : Nat} {u : State} (holds : s.crown.holds = true) (unheard : n ∈ s.crown.resendAt)
    (due : 64 ≤ ticksFrom (s.crown.crownSent.getD (ix n) 0) s.now)
    (hu : u = s.crownOn s.crown.gen s.crown.horizon false (.course n)) :
    crownResend n s = { u with crown.crownSent := updAt (ix n) (fun _ => u.now) u.crown.crownSent } := by
  subst hu
  exact if_neg (by simp only [awake, holds, List.contains_iff_mem.2 unheard, Nat.not_lt.2 due, decide_false, Bool.not_true,
    Bool.or_self, Bool.false_eq_true, not_false_iff])

end

/-- Settles O20, by the equation of each command's meaning where the frame calls for its effect. -/
theorem uplinkCommandsComplete : Obligations.UplinkCommandsComplete := by
  refine ⟨fun up f s u awake has taken => ?_, fun up f s u v p awake hu planned hv => ?_, fun n p f s => rfl,
    fun n addr ws s u v awake hu enabling asked hv => ?_, fun l addr ws s awake other => ?_,
    fun n s awake has up silent => ?_, fun n s awake holds unheard due => ?_, exec_fieldRxCrown, fun d gen ho s x hx => ?_⟩
  · replace awake := s.awake_iff.2 awake
    rw [exec_courseStatus]
    refine ⟨fun standby => ?_, fun holder holds => ⟨fun own => ?_, fun other earlier => ?_,
      fun later other => ⟨fun serves stays => ?_, fun serves yields next => ?_, fun idle => ?_⟩⟩⟩
    · rw [courseStatus_standby awake has taken standby]
    · rw [courseStatus_own awake has taken holder holds own, State.ownGenSeen]
    · rw [courseStatus_earlier awake has taken holder holds other earlier]
    · rw [courseStatus_stepDown awake has taken holder holds later other serves stays]
    · rw [courseStatus_yieldDone awake has taken holder holds later other serves yields next]
    · rw [courseStatus_idle awake has taken holder holds later other idle]
  · rw [exec_courseEnd, courseEnd_settles (s.awake_iff.2 awake) hu planned hv]
  · rw [exec_courseReadback, courseReadback_enabling (s.awake_iff.2 awake) hu enabling asked hv]
  · rw [exec_courseReadback, courseReadback_other (s.awake_iff.2 awake) other]
  · rw [exec_courseLinkLoss, courseLinkLoss_silent (s.awake_iff.2 awake) has up silent]
  · rw [exec_crownResend, crownResend_due (s.awake_iff.2 awake) holds unheard due rfl]
  · rw [exec_transportRxCrown, hx]
    rfl

end Sys2Proof.Machine
end

section
/-! PROOFS. What a powered course does with a downlink frame (chapter 7; R503). -/
namespace Sys2Proof.Machine

section
variable {d : Dn} {s : State} (power : (s.dev d.course).powered = true)
include power

/-! ### Who a course obeys (R265, R268) -/

theorem State.devHear_powered (f : CourseDev → CourseDev) : s.devHear d f = s.updDev d.course fun x => f (x.hear s.now d) :=
  if_pos power
/-- A frame that the course does not obey is counted and does nothing else (R265). -/
theorem State.devDo_stale (deaf : (s.dev d.course).obeys d = false) (f : CourseDev → CourseDev) :
    s.devDo d f = s.updDev d.course fun x => { x.hear s.now d with stale := x.stale + 1 } := by
  rw [State.devDo, State.devHear_powered power]
  exact State.updDev_congr (if_neg (Bool.eq_false_iff.1 deaf))
theorem State.devDrive_stale (deaf : (s.dev d.course).obeys d = false) (f : CourseDev → CourseDev) :
    s.devDrive d f = s.updDev d.course fun x => { x.hear s.now d with stale := x.stale + 1 } :=
  State.devDo_stale power deaf _

theorem courseRxIdle_powered : courseRxIdle d s = s.updDev d.course fun x => { x with
    lastRx := x.lastRx.set d.up s.now
    lost := x.lost && !(x.crownUp == some d.up && d.gen == x.gen)
    stale := if x.obeys d then x.stale else x.stale + 1 } :=
  if_pos power

/-! ### CROWN (R503) -/

theorem courseRxCrown_powered {gen : U32} {h : Tick} {handover : Bool} :
    courseRxCrown d gen h handover s = s.updDev d.course fun x =>
      if handover then if x.crownUp == some d.up then { x.hear s.now d with handover := some gen } else x.hear s.now d
      else if x.adopts s.now d.up gen then (x.hear s.now d).adopt s.now d.up gen h
      else x.hear s.now d := by
  rw [courseRxCrown, power]
  exact if_neg (by decide)
theorem courseRxCrown_adopts {gen : U32} {h : Tick} (adopts : (s.dev d.course).adopts s.now d.up gen = true) :
    courseRxCrown d gen h false s = s.updDev d.course fun x => (x.hear s.now d).adopt s.now d.up gen h := by
  rw [courseRxCrown_powered power]
  exact State.updDev_congr ((if_neg Bool.false_ne_true).trans (if_pos adopts))
theorem courseRxCrown_handover {gen : U32} {h : Tick} (crown : (s.dev d.course).crownUp = some d.up) :
    courseRxCrown d gen h true s = s.updDev d.course fun x => { x.hear s.now d with handover := some gen } := by
  rw [courseRxCrown_powered power]
  exact State.updDev_congr ((if_pos rfl).trans (if_pos (beq_iff_eq.2 crown)))

section
variable (obeys : (s.dev d.course).obeys d = true)
include obeys

theorem State.devDo_obeys (f : CourseDev → CourseDev) : s.devDo d f = s.updDev d.course fun x => f (x.hear s.now d) := by
  rw [State.devDo, State.devHear_powered power]
  exact State.updDev_congr (if_pos obeys)
/-- After a loss a frame that drives the course is heard and does nothing else (R268, assumptions 41 and 61). -/
theorem State.devDrive_waits (waits : (s.dev d.course).waits d = true) (f : CourseDev → CourseDev) :
    s.devDrive d f = s.updDev d.course (·.hear s.now d) := by
  rw [State.devDrive, State.devDo_obeys power obeys]
  exact State.updDev_congr (if_pos waits)

/-! ### Training, settings, enable and drain (R254, R256, R257, R260 to R263) -/

theorem courseRxQuery_groups {addr groups : Nat} (aligned : addr % 4 = 0) (first : 1 ≤ groups) (last : groups ≤ 64) :
    courseRxQuery d addr groups s = s.updDev d.course fun x => { x.hear s.now d with
      readbacks := (List.range groups).map fun g =>
        (addr + 4 * g, (List.range 4).map fun i => (x.hear s.now d).readWord (addr + 4 * g + i)) } := by
  rw [courseRxQuery, State.devDo_obeys power obeys]
  exact State.updDev_congr (if_neg (by simp [aligned, Nat.not_lt.2 last, Nat.one_le_iff_ne_zero.1 first]))
theorem courseRxConfig_writes {addr : Nat} {ws : List U32}
    (idle : (s.dev d.course).state = .off ∨ (s.dev d.course).state = .enabling) (aligned : addr % 4 = 0) :
    courseRxConfig d addr ws s = s.updDev d.course fun x =>
      (ws.mapIdx fun i w => (addr + i, w)).foldl (fun v p => v.putWord p.1 p.2) (x.hear s.now d) := by
  rw [courseRxConfig, State.devDo_obeys power obeys]
  refine State.updDev_congr (if_pos ?_)
  rw [Bool.and_eq_true, Bool.or_eq_true, beq_iff_eq, beq_iff_eq, decide_eq_true_eq]
  exact ⟨idle, aligned⟩
theorem courseRxEnable_off (off : (s.dev d.course).state = .off) :
    courseRxEnable d s = s.updDev d.course fun x => { x.hear s.now d with
      enableOnly := x.enableOnly.set d.up false
      state := .enabling
      phases := List.replicate 6 1
      clamp := false
      discharge := none } := by
  rw [courseRxEnable, State.devDo_obeys power obeys]
  exact State.updDev_congr (if_pos (beq_iff_eq.2 off))
theorem courseRxDrain_drains : courseRxDrain d false s = s.updDev d.course fun x => (x.hear s.now d).drain s.now :=
  State.devDo_obeys power obeys _
theorem courseRxDrain_aborts (drains : (s.dev d.course).state = .draining) (charged : (s.dev d.course).discharge = none)
    (free : (s.dev d.course).waits d = false) :
    courseRxDrain d true s = s.updDev d.course fun x => { x.hear s.now d with state := .on } := by
  rw [courseRxDrain, State.devDo_obeys power obeys]
  refine State.updDev_congr ((if_neg (by decide)).trans (if_pos ?_))
  rw [Bool.and_eq_true, Bool.and_eq_true, beq_iff_eq, Option.isNone_iff_eq_none, Bool.not_eq_true']
  exact ⟨⟨drains, charged⟩, free⟩

/-! ### Plans (R193, R240, R259, R264) -/

section
variable (free : (s.dev d.course).waits d = false)
include free

theorem State.devDrive_free (f : CourseDev → CourseDev) :
    s.devDrive d f = s.updDev d.course fun x => f (x.hear s.now d) := by
  rw [State.devDrive, State.devDo_obeys power obeys]
  exact State.updDev_congr (if_neg (Bool.eq_false_iff.1 free))

/-- A plan of a channel in use takes its slot from the one of the same generation there; its ceiling is 45 % at most. -/
theorem courseRxPlan_on {p : PlanBody} (on : (s.dev d.course).state = .on) (slot : p.slot < 512)
    (channel : p.ch < ((s.dev d.course).word 10).toNat % 128) :
    courseRxPlan d p s = s.updDev d.course fun x => { x.hear s.now d with
      plans := x.plans.filter (fun r => !(r.slot == p.slot && r.gen == x.gen)) ++
        [{ slot := p.slot, ch := p.ch, prov := p.prov, primed := p.primed, ceil := min 45 p.ceil, profile := p.profile
           start := p.start, dur := 4 * p.durUs, lead := 4 * p.leadUs, gen := x.gen }] } := by
  rw [courseRxPlan, State.devDrive_free power obeys free]
  refine State.updDev_congr (if_neg ?_)
  rw [Bool.or_eq_true, Bool.or_eq_true, bne_iff_ne, decide_eq_true_eq, decide_eq_true_eq]
  rintro ((other | beyond) | unused)
  · exact other on
  · exact Nat.not_le.2 slot beyond
  · exact Nat.not_le.2 channel unused
theorem courseRxConfirm_confirms {bank : Nat} {mask : BitVec 128} :
    courseRxConfirm d bank mask s = s.updDev d.course fun x => { x.hear s.now d with
      plans := updAll (x.named bank mask) (fun p => { p with prov := false }) x.plans } :=
  State.devDrive_free power obeys free _
theorem courseRxCommit_commits {bank : Nat} {mask : BitVec 128} :
    courseRxCommit d bank mask s = s.updDev d.course fun x => { x.hear s.now d with
      plans := updAll (x.named bank mask) (fun p => { p with committed := true, prov := false }) x.plans } :=
  State.devDrive_free power obeys free _
theorem courseRxDrop_drops {bank : Nat} {mask : BitVec 128} :
    courseRxDrop d bank mask s = s.updDev d.course fun x =>
      (x.hear s.now d).dropPlans s.now (fun p => x.named bank mask p && !p.committed) 384 :=
  State.devDrive_free power obeys free _
/-- The RELEASE of a committed fire moves with its plan (R240). -/
theorem courseRxExtend_moves {slot dur : Nat} {hit : DevPlan → Bool} {p : DevPlan}
    (hits : hit = fun p => p.slot == slot && p.committed &&
      tickBefore ((s.dev d.course).tick s.now) (tickPlus p.start p.dur) &&
      (p.gen == (s.dev d.course).gen || !(s.dev d.course).plans.any fun q => q.slot == slot && q.gen == (s.dev d.course).gen))
    (found : (s.dev d.course).plans.find? hit = some p) :
    courseRxExtend d slot dur s = s.updDev d.course fun x => { x.hear s.now d with
      plans := updFirst hit (fun p => { p with dur := 4 * dur }) x.plans
      chans := x.chans.map fun c =>
        if (c.phase == .peak || c.phase == .hold) && c.slot == slot && c.gen == p.gen then
          { c with releaseAt := tickPlus p.start (4 * dur) } else c } := by
  subst hits
  rw [courseRxExtend, State.devDrive_free power obeys free]
  refine State.updDev_congr ?_
  dsimp only
  split
  case _ missing => exact absurd (missing.symm.trans found) (Option.some_ne_none p).symm
  case _ q hq =>
    obtain rfl : q = p := Option.some.inj (hq.symm.trans found)
    rfl

end

end

end

/-- Settles O21: what a frame does follows from whether the course obeys it, and whether its uplink waits for ENABLE. -/
theorem courseFramesComplete : Obligations.CourseFramesComplete := by
  rintro d s v rfl power
  refine ⟨?_, fun gen h adopts => ?_, fun gen h crown => ?_,
    fun deaf addr groups clk num bank slot dur t ws p mask abort c hc => ?_,
    fun obeys => ⟨fun addr groups aligned first last => ?_, fun t clk num => ?_, fun t => ?_, fun addr ws idle aligned => ?_,
      fun off => ?_, ?_, fun drains charged free => ?_⟩,
    fun obeys waits bank slot dur p mask c hc => ?_,
    fun obeys free => ⟨fun p on slot channel => ?_, fun bank mask => ⟨?_, ?_, ?_⟩, fun slot dur hit p hits found => ?_⟩⟩
  · rw [exec_courseRxIdle, courseRxIdle_powered power]
  · rw [exec_courseRxCrown, courseRxCrown_adopts power adopts]
  · rw [exec_courseRxCrown, courseRxCrown_handover power crown]
  · simp only [List.mem_cons, List.not_mem_nil, or_false] at hc
    rcases hc with rfl | rfl | rfl | rfl | rfl | rfl | rfl | rfl | rfl | rfl | rfl
    iterate 6 exact congrArg Host.Outcome.next (State.devDo_stale power deaf _)
    all_goals exact congrArg Host.Outcome.next (State.devDrive_stale power deaf _)
  · rw [exec_courseRxQuery, courseRxQuery_groups power obeys aligned first last]
  · rw [exec_courseRxEcho, courseRxEcho, State.devDo_obeys power obeys]
  · rw [exec_courseRxSync, courseRxSync, State.devDo_obeys power obeys]
    rfl
  · rw [exec_courseRxConfig, courseRxConfig_writes power obeys idle aligned]
  · rw [exec_courseRxEnable, courseRxEnable_off power obeys off]
  · rw [exec_courseRxDrain, courseRxDrain_drains power obeys]
  · rw [exec_courseRxDrain, courseRxDrain_aborts power obeys drains charged free]
  · simp only [List.mem_cons, List.not_mem_nil, or_false] at hc
    rcases hc with rfl | rfl | rfl | rfl | rfl
    all_goals exact congrArg Host.Outcome.next (State.devDrive_waits power obeys waits _)
  · rw [exec_courseRxPlan, courseRxPlan_on power obeys free on slot channel]
  · rw [exec_courseRxConfirm, courseRxConfirm_confirms power obeys free]
  · rw [exec_courseRxCommit, courseRxCommit_commits power obeys free]
  · rw [exec_courseRxDrop, courseRxDrop_drops power obeys free]
  · rw [exec_courseRxExtend, courseRxExtend_moves power obeys free hits found]

end Sys2Proof.Machine
end

section
/-! PROOFS. Faults of a course (chapter 7): boost, field supply, uplink silence and orphan drain. -/
namespace Sys2Proof.Machine

section
variable {n : Nat} {s : State} (power : (s.dev n).powered = true)
include power

/-- A working phase that fails is marked LOST or SENSE; the last one takes the course into its drain (R267). -/
theorem boostPhaseFault_working {phase : Nat} {sense : Bool} (works : (s.dev n).phases.getD (ix phase) 0 = 1) :
    boostPhaseFault n phase sense s = s.updDev n fun x =>
      if CourseDev.working { x with phases := x.phases.set (ix phase) (if sense then 3 else 2) } = 0 then
        CourseDev.drain { x with phases := x.phases.set (ix phase) (if sense then 3 else 2) } s.now
      else { x with phases := x.phases.set (ix phase) (if sense then 3 else 2) } :=
  State.updDev_congr (if_neg (by rw [power, works]; decide))
theorem boostOvervoltage_on (on : (s.dev n).state ≠ .off) :
    boostOvervoltage n s = s.updDev n fun x => { x.drain s.now with clamp := true } :=
  State.updDev_congr (if_pos (by simp [power, on]))
/-- Below 18.0 V a bank that was ready has some voltage below V_ready, a free value (R195, R267). -/
theorem courseFieldSupplyLow_below {volts : Nat} (low : volts < 1800) :
    courseFieldSupplyLow n volts s = s.drew.updDev n fun x => CourseDev.shed { x with
      fieldV := volts
      low := true
      bankV := if x.ready then s.freeWord.toNat % ((9 * x.setpoint + 9) / 10) else x.bankV } s.now :=
  if_neg (by simp [power, low])
theorem courseFieldSupplyReturn_powered {volts : Nat} (high : 1920 ≤ volts) :
    courseFieldSupplyReturn n volts s = s.updDev n fun x => { x with fieldV := volts, low := false } :=
  (if_neg (Nat.not_lt.2 high)).trans (State.updDev_congr (if_pos power))
/-- 400 ticks without a valid frame on the crown uplink end what the course may still be told to do (R268). -/
theorem courseUplinkSilence_silent {c : Nat} (crown : (s.dev n).crownUp = some c)
    (silent : 400 ≤ ticksFrom ((s.dev n).lastRx.getD c 0) s.now) (first : (s.dev n).lost = false) :
    courseUplinkSilence n s = s.updDev n fun x =>
      { x.dropUncommitted s.now with lost := true, lostAt := s.now, enableOnly := x.enableOnly.set c true } := by
  refine State.updDev_congr ((if_pos ?_).trans ?_)
  · simp only [power, crown, first, Option.elim_some, silent, decide_true, Bool.not_false, Bool.and_self]
  · simp only [crown, Option.elim_some]
theorem courseOrphanDrain_lost (lost : (s.dev n).lost = true) (due : secT 2 ≤ ticksFrom (s.dev n).lostAt s.now) :
    courseOrphanDrain n s = s.updDev n fun x => x.drain s.now :=
  State.updDev_congr (if_pos (by simp [power, lost, due]))

end

/-- At 19.2 V or more a course that lost its electronics starts from power-up (R267, R548). -/
theorem courseFieldSupplyReturn_unpowered {n volts : Nat} {s : State} (high : 1920 ≤ volts) (dark : (s.dev n).powered = false) :
    courseFieldSupplyReturn n volts s = s.updDev n fun x => { x.bare volts with powered := true } :=
  (if_neg (Nat.not_lt.2 high)).trans (State.updDev_congr (if_neg (Bool.eq_false_iff.1 dark)))

/-- Settles O23, by the equation of each fault's meaning where it meets the course. -/
theorem courseFaultsComplete : Obligations.CourseFaultsComplete := by
  refine ⟨?_, fun n volts s gone => ?_, fun n volts s high dark => ?_⟩
  · rintro n phase volts sense s v rfl power
    refine ⟨fun works => ?_, fun on => ?_, fun low => ?_, fun high => ?_, fun c crown silent first => ?_, fun lost due => ?_⟩
    · rw [exec_boostPhaseFault, boostPhaseFault_working power works]
    · rw [exec_boostOvervoltage, boostOvervoltage_on power on]
    · rw [exec_courseFieldSupplyLow, courseFieldSupplyLow_below power low]
      rfl
    · rw [exec_courseFieldSupplyReturn, courseFieldSupplyReturn_powered power high]
    · rw [exec_courseUplinkSilence, courseUplinkSilence_silent power crown silent first]
    · rw [exec_courseOrphanDrain, courseOrphanDrain_lost power lost due]
  · rw [exec_courseFieldSupplyLoss, courseFieldSupplyLoss, if_neg (Nat.not_le.2 gone)]
    rfl
  · rw [exec_courseFieldSupplyReturn, courseFieldSupplyReturn_unpowered high dark]
    rfl

end Sys2Proof.Machine
end

section
/-! PROOFS. Control frames of Ramalink (chapter 8): what ACK, NAK, the REKEY frames and DISCONNECT do once they are accepted, and
frames that are dropped. -/
namespace Sys2Proof.Machine

/-! ### ACK and NAK (R289, R291, R292) -/

theorem rlAck_accepted {h : RlHdr} {s u : State} (accepts : s.Accepts h u) (sound : h.bad = false) :
    rlAck h s = if h.ackreq = true ∧ (u.conn h.conn).state = .ready then u.queueAck h.conn else u := by
  simp [rlAck, State.arrive_accepted accepts, sound, State.isReady]

theorem rlNak_accepted {h : RlHdr} {data : List Byte} {s u : State} (addressed : s.hearsFrame h.port h.eth = true)
    (accepts : s.AcceptsWith h (·.nakMarks h data) u) : rlNak h data s = u.nakked h data := by
  rw [rlNak, addressed, State.arriveWith_accepted accepts]
  rfl

section
variable {h : RlHdr} {data : List Byte} (sound : h.bad = false) (size : data.length = 16)
include sound size

/-- Only a NAK INTEGRITY, code 0x30, marks its entry before the acknowledgement is taken (Table 8.11). -/
theorem State.nakMarks_sound (s : State) : s.nakMarks h data =
    if (data.getD 0 0).toNat = 0x30 then s.nakEntry h.conn (BitVec.ofNat 32 (leNat (sliceB data 4 4))) 0x30 else s := by
  have code : data.getD 0 0 = 0x30 ↔ (data.getD 0 0).toNat = 0x30 := BitVec.toNat_inj.symm
  simp only [State.nakMarks, sound, size, ← code, Bool.not_false, decide_true, Bool.and_true, Bool.true_and, beq_iff_eq]

/-- A NAK on a READY connection does what its code asks for, once ACKREQ is answered (Table 8.11). -/
theorem State.nakked_sound {s w : State} {code : Nat} {psn : U32} (ready : (s.conn h.conn).state = .ready)
    (hcode : code = (data.getD 0 0).toNat) (hpsn : psn = BitVec.ofNat 32 (leNat (sliceB data 4 4)))
    (acks : w = if h.ackreq then s.queueAck h.conn else s) : s.nakked h data =
      if code = 1 then w.goBack h.conn
      else if code = 2 then w.nakRnr h.conn psn (leNat (sliceB data 12 2))
      else if code = 0x30 then w.settle
      else if 0x10 ≤ code ∧ code ≤ 0x25 then
        ((w.nakEntry h.conn psn code).event 0x4101 3 h.conn h.port code psn.toNat
          (((w.conn h.conn).unacked.find? fun (f : TxFrame) => f.psn == psn).elim 0 fun f => f.offset.toNat)).leave
            h.conn .error .violationReceived
      else w.violate h 0x10 := by
  subst hcode hpsn acks
  simp only [State.nakked, ready, sound, size, bne_self_eq_false, Bool.or_self, Bool.false_eq_true, if_false, Bool.and_eq_true,
    decide_eq_true_eq]

end

/-! ### Rekeying and closing (R277, R296 to R298) -/

section
variable {h : RlHdr} {data : List Byte} {s u : State} (next : s.AcceptsNext h u)
include next

section
variable (sound : controlBad h data 4 = false)
include sound

/-- The last epoch cannot advance (R298). -/
theorem rlRekey_last (last : (u.conn h.conn).epoch = 0xFFFFFFFF) :
    rlRekey h data s = (u.consume h).leave h.conn .error .epochLimit := by
  simp [rlRekey, State.sequenced_accepted next, sound, last]
theorem rlRekey_advances (more : (u.conn h.conn).epoch ≠ 0xFFFFFFFF) (follows : epochIn data = (u.conn h.conn).epoch + 1) :
    rlRekey h data s = ((u.consume h).updConn h.conn fun x => x.nextEpoch u.now).controlFirst h.conn
      { op := .rekeyAck, first := true, last := true, payload := leBytes 16 (epochIn data).toNat } := by
  rw [rlRekey, State.sequenced_accepted next, sound]
  exact (if_neg more).trans (if_pos (beq_iff_eq.2 follows))
theorem rlRekeyAck_completes (rekeys : (u.conn h.conn).rekeying = true) (follows : epochIn data = (u.conn h.conn).epoch + 1) :
    rlRekeyAck h data s =
      ((u.consume h).updConn h.conn fun x => x.nextEpoch u.now).event 0x4301 3 h.conn (epochIn data).toNat := by
  rw [rlRekeyAck, State.sequenced_accepted next, sound]
  exact if_pos (Bool.and_eq_true_iff.2 ⟨rekeys, beq_iff_eq.2 follows⟩)

end

theorem rlRekeyReq_starts (sound : controlBad h data 0 = false) : rlRekeyReq h data s = (u.consume h).startRekey h.conn := by
  rw [rlRekeyReq, State.sequenced_accepted next, sound]
  rfl
theorem rlDisconnect_closes (sound : controlBad h data 1 = false) :
    rlDisconnect h data s = ((u.consume h).queueAck h.conn).leave h.conn .closing .peerClose := by
  rw [rlDisconnect, State.sequenced_accepted next, sound]
  rfl

end

/-! ### Frames dropped (R271, R295, R300) -/

section
variable {p : Nat} {s : State} (hears : s.hears p = true)
include hears

theorem rlAuthFail_fcs : rlAuthFail p true s = (s.dropFrame p).updPort p fun x => { x with fcs := x.fcs + 1 } := by
  rw [rlAuthFail, hears]
  rfl
theorem rlAuthFail_auth : rlAuthFail p false s = s.authFail p := by
  rw [rlAuthFail, hears]
  rfl
theorem rlStaleFrame_drops {dconn : Nat} (stale : s.stale p dconn = true) : rlStaleFrame p dconn s = s.dropFrame p := by
  rw [rlStaleFrame, hears, stale]
  rfl

end

/-- Settles O25: an accepted frame runs its meaning in the state that acceptance leaves, and the meaning follows its payload. -/
theorem controlFramesComplete : Obligations.ControlFramesComplete := by
  refine ⟨fun h s u accepts sound => ?_, ?_,
    fun h data s u next sound => ⟨fun last => ?_, fun more follows => ?_, fun rekeys follows => ?_⟩,
    fun h data s u next sound => ?_, fun h data s u next sound => ?_, fun p s hears => ⟨?_, ?_, fun dconn stale => ?_⟩⟩
  · rw [exec_rlAck, rlAck_accepted accepts sound]
  · intro h data s u w code psn addressed accepts ready sound size hcode hpsn acks
    rw [exec_rlNak, rlNak_accepted addressed accepts, State.nakked_sound sound size ready hcode hpsn acks]
    refine ⟨fun v => ?_, fun again => ?_, fun rnr => ?_, fun integrity => ?_, fun v low high hv => ?_⟩
    · rw [State.nakMarks_sound sound size, hcode, hpsn]
    · rw [if_pos again, State.goBack]
    · simp [rnr]
    · simp [integrity]
    · rw [if_neg (by omega), if_neg (by omega), if_neg (by omega), if_pos ⟨low, high⟩, hv]
  · rw [exec_rlRekey, rlRekey_last next sound last]
  · rw [exec_rlRekey, rlRekey_advances next sound more follows]
  · rw [exec_rlRekeyAck, rlRekeyAck_completes next sound rekeys follows]
  · rw [exec_rlRekeyReq, rlRekeyReq_starts next sound]
  · rw [exec_rlDisconnect, rlDisconnect_closes next sound]
  · rw [exec_rlAuthFail, rlAuthFail_fcs hears, State.dropFrame]
  · rw [exec_rlAuthFail, rlAuthFail_auth hears]
  · rw [exec_rlStaleFrame, rlStaleFrame_drops hears stale, State.dropFrame]

end Sys2Proof.Machine
end

section
/-! PROOFS. Opening Ramalink connections (chapter 8; R491): CONNECT, ACCEPT, REFUSE, the PEER connections and the random source. -/
namespace Sys2Proof.Machine

section
variable {p c : Nat} {s : State}

/-! ### Frames not addressed to the port, and of another version (R270, R271, R273) -/

theorem rlConnect_ignored {f : ConnectFrame} (other : s.hearsFrame p f.eth = false) : rlConnect p f s = s :=
  if_pos (by rw [other]; rfl)
theorem rlAccept_ignored {f : AcceptFrame} (other : s.hearsFrame p f.eth = false) : rlAccept p f s = s :=
  if_pos (by rw [other]; rfl)
theorem rlConnect_version {f : ConnectFrame} (hears : s.hearsFrame p f.eth = true) (other : headerVersion f.header ≠ 1) :
    rlConnect p f s = s.dropFrame p := by
  rw [rlConnect, hears]
  exact if_pos (bne_iff_ne.2 other)
theorem rlAccept_version {f : AcceptFrame} (hears : s.hearsFrame p f.eth = true) (other : headerVersion f.header ≠ 1) :
    rlAccept p f s = s.dropFrame p := by
  rw [rlAccept, hears]
  exact if_pos (bne_iff_ne.2 other)

/-! ### CONNECT (R275) -/

theorem State.freeConn_lowest (inRange : c < 64) (closed : (s.conn c).state = .closed)
    (lowest : ∀ d < c, (s.conn d).state ≠ .closed) : s.freeConn = some c := by
  rw [State.freeConn, List.find?_range_eq_some]
  exact ⟨beq_iff_eq.2 closed, List.mem_range.2 inRange, fun d hd => by simpa using lowest d hd⟩
/-- A CONNECT for which none of the steps 1 to 4 of R275 answers opens the lowest connection that is CLOSED. -/
theorem rlConnect_opens {f : ConnectFrame} (hears : s.hearsFrame p f.eth = true) (tested : s.ctl.state ≠ .waking)
    (powered : s.ctl.state ≠ .collapse) (random : s.net.rngOk = true) (secret : s.isSet (secretId p) = true)
    (mac : frameMac (s.secret p) f.header f.payload 48 = sliceB f.payload 48 16) (version : headerVersion f.header = 1)
    (first : ∀ d ∈ s.connsOn p, (s.conn d).state ≠ .opening ∨ (s.conn d).connect ≠ f.header ++ f.payload)
    (fresh : sliceB f.payload 8 16 ∉ (s.port p).nps) (room : (s.connsOn p).length < s.num (portP 6 p))
    (free : s.freeConn = some c) : rlConnect p f s = s.beginOpening p c f := by
  have unknown : (s.connsOn p).find? (fun d => (s.conn d).state == .opening && (s.conn d).connect == f.header ++ f.payload) =
      none := by
    rw [List.find?_eq_none]
    intro d hd
    simpa [imp_iff_not_or] using first d hd
  simp [rlConnect, hears, version, tested, powered, random, secret, mac, unknown, fresh, free, Nat.not_le.2 room]

/-! ### The end of an attempt (R276) -/

theorem connectTimeout_due (opening : (s.conn c).state = .opening) (due : msT 10 ≤ ticksFrom (s.conn c).acceptAt s.now) :
    connectTimeout c s = s.updConn c Conn.closed :=
  if_pos (by simp [opening, due])
theorem rlAccept_readies {f : AcceptFrame} (hears : s.hearsFrame p f.eth = true) (version : headerVersion f.header = 1)
    (mac : frameMac (s.secret p) f.header f.payload 48 = sliceB f.payload 48 16)
    (own : ((s.connsOn p).find? fun d => (s.conn d).opening && (s.conn d).state == .opening &&
      ((s.conn d).connect.drop 40).take 16 == sliceB f.payload 24 16) = some c) :
    rlAccept p f s = (s.connReady c).updConn c fun x => { x with
      kconn := BitVec.ofNat 16 (leNat (sliceB f.payload 0 2))
      prq := leNat (sliceB f.payload 2 2)
      rxPsn := BitVec.ofNat 32 (leNat (sliceB f.payload 4 4))
      nk := sliceB f.payload 8 16
      prk := prkOf (s.secret p) (sliceB f.payload 24 16) (sliceB f.payload 8 16) } := by
  simp only [rlAccept, hears, version, mac, own, Bool.not_true, bne_self_eq_false, Bool.false_eq_true, if_false]
theorem rlRefuse_ends {dconn : Nat} {r : RefuseReason} (hears : s.hears p = true)
    (own : ((s.connsOn p).find? fun d => (s.conn d).opening && (s.conn d).state == .opening && (s.conn d).pconn.toNat = dconn) =
      some c) :
    rlRefuse p dconn r true s = { s.updConn c Conn.closed with
      crown.peerRetry := s.crown.peerRetry.map fun _ => some (tickPlus s.now (msT 100 : Nat)) } := by
  simp only [rlRefuse, hears, own, Bool.not_true, Bool.or_self, Bool.false_eq_true, if_false]
  rfl

/-! ### PEER (R491) and the random source (R302) -/

/-- Nothing keeps this Keystone from a CONNECT for connection `i` of PEER: the port serves, the pair and its secret are set, this
Keystone's address is the lower, the connection does not stand, and the 100 ms of the last attempt are past (R276, R491). -/
theorem peerConnectRetry_may_go {i : Nat} (pair : i ≤ 1) (hears : s.hears 7 = true) (powered : s.ctl.state ≠ .collapse)
    (paired : s.paired = true) (lower : opensPeer = true) (random : s.net.rngOk = true) (secret : s.isSet (secretId 7) = true)
    (missing : ∀ d ∈ s.connsOn 7, (s.conn d).pconn.toNat ≠ 0x0C00 + i)
    (past : s.crown.peerRetry.getD i none = none ∨
      ∃ t, s.crown.peerRetry.getD i none = some t ∧ tickBefore s.now t = false) :
    (decide (1 < i) || !s.hears 7 || s.ctl.state == .collapse || !s.paired || !opensPeer || !s.net.rngOk || !s.isSet (secretId 7) ||
      ((s.connsOn 7).any fun d => (s.conn d).pconn.toNat = 0x0C00 + i) ||
      ((s.crown.peerRetry.getD i none).elim false fun t => tickBefore s.now t)) = false := by
  have waits : ((s.crown.peerRetry.getD i none).elim false fun t => tickBefore s.now t) = false := by
    rcases past with first | ⟨t, last, past⟩
    · rw [first]
      rfl
    · rw [last]
      exact past
  have stands : ((s.connsOn 7).any fun d => (s.conn d).pconn.toNat = 0x0C00 + i) = false := by simpa using missing
  simp only [waits, stands, hears, paired, lower, random, secret, Nat.not_lt.2 pair, decide_false, beq_eq_false_iff_ne.2 powered,
    Bool.not_true, Bool.or_self]

theorem rngHealthFail_first (awake : s.awake = true) (works : s.net.rngOk = true) :
    rngHealthFail s = State.event { s with net.rngOk := false } 0x4203 0 0 :=
  if_pos (by rw [awake, works]; rfl)
theorem randomSourceRecovered_awake (awake : s.awake = true) : randomSourceRecovered s = { s with net.rngOk := true } :=
  if_pos awake

end

/-- Settles O26, by the equation of each command's meaning where it has its own effect. -/
theorem openingCommandsComplete : Obligations.OpeningCommandsComplete := by
  refine ⟨?_, fun c s opening due => ?_, fun p f g s => ⟨?_, ?_, ?_, ?_⟩, fun p c f s hears version mac own => ?_,
    fun p c dconn r s t hears own ht => ?_, ?_, fun s awake works => ?_, fun s awake => ?_⟩
  · intro p c f s hears tested powered random secret mac version first fresh room inRange closed lowest
    rw [exec_rlConnect, rlConnect_opens hears tested powered random secret mac version first fresh room
      (State.freeConn_lowest inRange closed lowest)]
  · rw [exec_connectTimeout, connectTimeout_due opening due]
    rfl
  · intro hears other
    rw [exec_rlConnect, rlConnect_version hears other]
  · intro hears other
    rw [exec_rlAccept, rlAccept_version hears other]
  · intro other
    rw [exec_rlConnect, rlConnect_ignored other]
  · intro other
    rw [exec_rlAccept, rlAccept_ignored other]
  · rw [exec_rlAccept, rlAccept_readies hears version mac own]
  · rw [exec_rlRefuse, rlRefuse_ends hears own, ht]
  · intro i c s v t np b hd psn pair hears powered paired lower random secret missing past free hnp hpsn hhd hb hv ht
    rw [exec_peerConnectRetry, peerConnectRetry,
      peerConnectRetry_may_go pair hears powered paired lower random secret missing past, free, ht, hv, hb, hhd, hpsn, hnp]
    rfl
  · rw [exec_rngHealthFail, rngHealthFail_first awake works]
  · rw [exec_randomSourceRecovered, randomSourceRecovered_awake awake]

end Sys2Proof.Machine
end

section
/-! PROOFS. The timers of a Ramalink connection (chapter 8). -/
namespace Sys2Proof.Machine

section
variable {c : Nat} {s : State}

theorem State.isReady_iff : s.isReady c = true ↔ (s.conn c).state = .ready := beq_iff_eq

/-! ### Sending again (R289, Table 8.11) -/

/-- A retransmit timeout counts a retry, and the last of net.retry ends the connection (R289, assumption 16). -/
theorem retransmitTimeout_due {f : TxFrame} {l : List TxFrame} (waits : (s.conn c).unacked = f :: l)
    (ready : (s.conn c).state = .ready) (idle : (s.conn c).resend = []) (free : (s.conn c).rnrUntil = none)
    (due : usT (s.num (portP 7 (s.conn c).port)) ≤ ticksFrom f.queuedAt s.now) : retransmitTimeout c s =
      if s.num (portP 8 (s.conn c).port) ≤ (s.conn c).retries + 1 then s.leave c .error .retry (some (.retry, 0))
      else s.updConn c fun x => { x with retries := x.retries + 1, resend := x.unacked } := by
  simp [retransmitTimeout, waits, ready, idle, free, Nat.not_lt.2 due, State.goBack, State.updConn_comp]
theorem rnrResend_due {t : Tick} (ready : s.isReady c = true) (until_ : (s.conn c).rnrUntil = some t)
    (due : tickLe t s.now = true) :
    rnrResend c s = s.updConn c fun x => { x with rnrUntil := none, resend := x.unacked } := by
  simp [rnrResend, ready, until_, due, State.goBack, State.updConn_comp]

/-! ### Silence and the period of the keys (R279, R296, R297) -/

theorem keepalive_due (ready : s.isReady c = true) (due : msT 1 ≤ ticksFrom (s.conn c).lastTx s.now) :
    keepalive c s = s.queueAck c :=
  if_pos (by simp [ready, due])
theorem connSilence_due (ready : s.isReady c = true)
    (due : msT (s.num (portP 0xB (s.conn c).port)) ≤ ticksFrom (s.conn c).lastRx s.now) :
    connSilence c s = s.leave c .error .silence :=
  if_pos (by simp [ready, due])
theorem State.startRekey_starts (ready : s.isReady c = true) (idle : (s.conn c).rekeying = false)
    (partners : (s.conn c).opening = false) (more : (s.conn c).epoch ≠ 0xFFFFFFFF) :
    s.startRekey c = (s.updConn c fun x => { x with rekeying := true }).control c
      { op := .rekey, first := true, last := true, payload := leBytes 16 ((s.conn c).epoch + 1).toNat } := by
  rw [State.startRekey, State.isReady_iff.1 ready, idle, partners]
  exact if_neg more
theorem rekeyPeriod_due (ready : s.isReady c = true)
    (due : secT (3600 * s.num (portP 0xC (s.conn c).port)) ≤ ticksFrom (s.conn c).epochSince s.now) :
    rekeyPeriod c s = s.startRekey c :=
  if_pos (by simp [ready, due])
theorem oldEpochExpire_due {t : Tick} (until_ : (s.conn c).oldUntil = some t) (due : tickBefore t s.now = true) :
    oldEpochExpire c s = s.updConn c fun x => { x with oldUntil := none, oldSeen := [] } :=
  State.updConn_congr (if_pos (by rw [until_]; exact due))

/-! ### The flush (R277) -/

theorem connFlushDone_ended (ended : (s.conn c).state = .error ∨ (s.conn c).state = .closing) :
    connFlushDone c s = s.updConn c Conn.closed :=
  if_pos (by simpa using ended)

end

/-- Settles O27, by the equation of each timer's meaning where the timer is due. -/
theorem connectionTimersComplete : Obligations.ConnectionTimersComplete := by
  refine ⟨fun c s f l waits ready idle free due => ⟨fun more => ?_, fun last => ?_⟩, fun c s t ready until_ due => ?_,
    fun c s ready => ⟨fun due => ?_, fun due => ?_, fun due idle partners more => ?_⟩, fun c s ended => ?_,
    fun c s t until_ due => ?_⟩
  · rw [exec_retransmitTimeout, retransmitTimeout_due waits ready idle free due, if_neg (Nat.not_le.2 more)]
  · rw [exec_retransmitTimeout, retransmitTimeout_due waits ready idle free due, if_pos last]
  · rw [exec_rnrResend, rnrResend_due ready until_ due]
  · rw [exec_keepalive, keepalive_due ready due]
  · rw [exec_connSilence, connSilence_due ready due]
  · rw [exec_rekeyPeriod, rekeyPeriod_due ready due, State.startRekey_starts ready idle partners more]
  · rw [exec_connFlushDone, connFlushDone_ended ended]
    rfl
  · rw [exec_oldEpochExpire, oldEpochExpire_due until_ due]

end Sys2Proof.Machine
end

section
/-! PROOFS. The 10 Gb/s ports (chapters 8 and 9): their links and modules, the guard, the egress arbiter, and posted work
entries. -/
namespace Sys2Proof.Machine

section
variable {p : Nat} {s : State}

/-! ### Links and modules (R17, R36, R279, R301, R542) -/

theorem State.moduleOk_iff : s.moduleOk p = true ↔ p = 6 ∨ (s.port p).module_ = .sr ∨ (s.port p).module_ = .lr := by
  simp [State.moduleOk, or_assoc]

section
variable (awake : s.awake = true) (first : 1 ≤ p) (last : p ≤ 7)
include awake first last

/-- The Keystone runs and has the port. -/
theorem portGuard_passes : (!s.awake || decide (p < 1) || decide (7 < p)) = false := by
  simp [awake, Nat.one_le_iff_ne_zero.1 first, last]

/-- A port that may run comes up; of SUP and SUP-T the first is the one used, and a LINK RESET that waits for the link ends (R17,
R331). -/
theorem portLinkUp_runs {u v : State} (down : (s.port p).link = false) (on : (s.port p).off = false)
    (stays : (s.port p).closingAt = none) (may : s.moduleOk p = true)
    (hu : u = s.updPort p fun x => { x with link := true, resetAt := none })
    (hv : v = if isSup p ∧ s.net.supPort = none then { u with net.supPort := some p } else u) :
    portLinkUp p s =
      if (s.port p).resetAt = none then v else v.finish (· == PendOp.linkReset p) (.ok "UP") := by
  subst hu hv
  rw [portLinkUp, portGuard_passes awake first last]
  cases (s.port p).resetAt <;> simp [down, on, stays, may]

section
variable (cage : p ≠ 6) {m : ModuleKind} {w : Int}
include cage

theorem sfpModuleChange_accepted (accepted : m = .sr ∨ m = .lr) :
    sfpModuleChange p m w s = s.updPort p fun x => { x with module_ := m, rxPower := w } := by
  rw [sfpModuleChange, portGuard_passes awake first last]
  simp [accepted, cage]
/-- A module removed or of another kind takes the link down and is recorded (R301, R542). -/
theorem sfpModuleChange_drops (notSr : m ≠ .sr) (notLr : m ≠ .lr) (changes : m ≠ .none ∨ (s.port p).module_ ≠ .none)
    (up : (s.port p).link = true) (other : p ≠ 7) : sfpModuleChange p m w s =
      ((s.updPort p fun x => { x with module_ := m, rxPower := w }).linkGone p).event 0x4011 2 p 1 := by
  have changed : (m == .none && (s.port p).module_ == .none) = false := by simpa [imp_iff_not_or] using changes
  rw [sfpModuleChange, portGuard_passes awake first last]
  simp [cage, notSr, notLr, changed, up, isPeer, other]

end

end

/-! ### The guard and the arbiter (R314 to R318, R334) -/

section
variable (hears : s.hears p = true)
include hears

theorem egressGuardFault_guard (guard : s.now.toNat % 200 = 192) :
    egressGuardFault p s = (s.event 0x4011 2 p 0).closePort p false :=
  if_neg (by simp [hears, guard])

/-- The arbiter sends the oldest control frame that fits, else the first head frame that fits of the class whose window the cycle is
in (R314 to R318). -/
theorem egressGrant_grants {stop : Nat} {cls : FrameClass} {o : Offer} {t : State} (free : s.macBusy p = false)
    (early : s.now.toNat % 200 < 192)
    (window : s.now.toNat % 200 < s.ticketWindow p ∧ stop = s.ticketWindow p ∧ cls = .ticket ∨
      s.ticketWindow p ≤ s.now.toNat % 200 ∧ stop = 192 ∧ cls = .bulk)
    (ht : t = s.countHeld p stop (s.controls p ++ s.offers p cls))
    (chosen : oldestOffer ((s.controls p).filter fun o => t.fits p stop o.frame) = some o ∨
      oldestOffer ((s.controls p).filter fun o => t.fits p stop o.frame) = none ∧
      (s.offers p cls).find? (fun o => t.fits p stop o.frame) = some o) :
    egressGrant p s = t.transmit p o := by
  have starts : (!s.hears p || s.macBusy p || decide (192 ≤ s.now.toNat % 200)) = false := by simp [hears, free, early]
  have opens : (if s.now.toNat % 200 < s.ticketWindow p then s.ticketWindow p else 192) = stop ∧
      (if s.now.toNat % 200 < s.ticketWindow p then FrameClass.ticket else .bulk) = cls := by
    rcases window with ⟨inside, rfl, rfl⟩ | ⟨past, rfl, rfl⟩
    · simp [inside]
    · simp [Nat.not_lt.2 past]
  obtain ⟨hstop, hcls⟩ := opens
  rw [egressGrant, starts]
  simp only [Bool.false_eq_true, if_false, hstop, hcls, ← ht]
  rcases chosen with control | ⟨none_, head⟩
  · rw [control]
  · rw [none_, head]

end

end

/-! ### Work entries (R280, R317) -/

section
variable {c : Nat} {w : WorkPost} {s : State} {e : WorkEntry} (ready : s.isReady c = true) (room : s.sqFull c = false)
  (he : e = { op := w.op, ticket := w.ticket, length := w.length, rkey := w.rkey, offset := w.offset, local_ := some w.local_,
              data := w.data, id := w.id })
include ready room he

theorem workEntryPost_posts (plain : w.reserved = false) (fits : lengthOk w.op w.length = true) :
    workEntryPost c w s = (s.postEntry c e).settle := by
  simp [workEntryPost, ready, room, plain, fits, he]
theorem workEntryPost_local (malformed : w.reserved = true ∨ lengthOk w.op w.length = false) :
    workEntryPost c w s = (s.updConn c fun x => { x with sq := x.sq ++ [{ e with fate := some CqStatus.local_ }] }).settle := by
  simp [workEntryPost, ready, room, malformed, he]

end

/-- Settles O28, by the equation of each command's meaning where it has its own effect. -/
theorem portCommandsComplete : Obligations.PortCommandsComplete := by
  refine ⟨fun p s awake first last up => ⟨?_, ?_⟩,
    fun p s u v awake first last down on stays may hu hv => ⟨fun idle => ?_, fun resets => ?_⟩,
    fun p m w s u awake first last cage hu => ⟨fun accepted => ?_, fun notSr notLr changes up other => ?_⟩,
    fun p s hears guard => ?_, fun p stop cls s o hears free early window chosen => ?_,
    fun c w s e ready room he => ⟨fun plain fits => ?_, fun malformed => ?_⟩⟩
  · rw [exec_portLinkDown, portLinkDown_of_link (s.awake_iff.1 awake) first last up]
  · rintro rfl
    rw [exec_peerLinkLoss, peerLinkLoss, portLinkDown_of_link (s.awake_iff.1 awake) first last up]
  · rw [exec_portLinkUp, portLinkUp_runs awake first last down on stays (State.moduleOk_iff.2 may) hu hv, if_pos idle]
  · rw [exec_portLinkUp, portLinkUp_runs awake first last down on stays (State.moduleOk_iff.2 may) hu hv, if_neg resets]
  · rw [exec_sfpModuleChange, sfpModuleChange_accepted awake first last cage accepted, hu]
  · rw [exec_sfpModuleChange, sfpModuleChange_drops awake first last cage notSr notLr changes up other, hu]
  · rw [exec_egressGuardFault, egressGuardFault_guard hears guard]
  · rw [exec_egressGrant, egressGrant_grants hears free early window rfl chosen]
  · rw [exec_workEntryPost, workEntryPost_posts ready room he plain fits]
  · rw [exec_workEntryPost, workEntryPost_local ready room he malformed]

end Sys2Proof.Machine
end

section
/-! PROOFS. Accesses and text on an accepted Ramalink frame (chapters 1, 8 and 9). -/
namespace Sys2Proof.Machine

section
variable {h : RlHdr} {data : List Byte} {s u : State} (next : s.AcceptsNext h u) (sound : h.bad = false)
include next sound

/-! ### Accesses of a partner (R285 to R288, R308) -/

section
variable {v : State} {t : Admitted} (plain : rkeyBad h = false)
include plain

/-- A WRITE frame whose entry is not skipped stores its bytes, and the last one of an entry with notice gives the notice. -/
theorem State.writeFrame_granted {notice : Bool} (filled : data ≠ []) (fits : data.length ≤ 1440)
    (taken : (u.conn h.conn).skipEntry = false ∨ h.first = true)
    (granted : u.grantAccess h.conn h.rkey h.offset data.length .write = .ok t)
    (stored : (u.beginEntry h.conn h.first t.off).writeWindow h.conn t data = (v, true)) :
    s.writeFrame h data notice = State.consume (if notice && h.last then
      v.notice h.conn t.index (v.conn h.conn).entryStart (t.off + data.length) else v) h := by
  have taken' : ((u.conn h.conn).skipEntry && !h.first) = false := by simpa [imp_iff_not_or] using taken
  rw [State.writeFrame, State.sequenced_accepted next]
  refine (if_neg ?sound).trans <| (if_neg (Bool.eq_false_iff.1 taken')).trans ?stores
  case sound => simp [sound, plain, filled, Nat.not_lt.2 fits]
  case stores => simp only [granted, stored]
theorem rlReadReq_granted {n : Nat} {l : List Byte} (size : data.length = 4) (hn : n = leNat data) (positive : n ≠ 0)
    (most : n ≤ 1048576) (granted : u.grantAccess h.conn h.rkey h.offset n .read = .ok t)
    (read : u.readWindow h.conn t n = (v, some l)) :
    rlReadReq h data s = (v.consume h).respond h.conn (respFrames v.now h.psn t l) := by
  subst hn
  simp [rlReadReq, State.sequenced_accepted next, sound, plain, size, positive, Nat.not_lt.2 most, granted, read]
theorem rlAtomicAdd_granted {old : List Byte} {w : State} (size : data.length = 8)
    (granted : u.grantAccess h.conn h.rkey h.offset 8 .atomic = .ok t) (read : u.readWindow h.conn t 8 = (v, some old))
    (stored : v.writeWindow h.conn t (leBytes 8 (leNat old + leNat data)) = (w, true)) :
    rlAtomicAdd h data s = (w.consume h).respond h.conn
      [{ op := .atomicResp, rkey := h.psn, first := true, last := true, cls := if t.ticket then .ticket else .bulk
         payload := old, queuedAt := w.now, wins := t.wins }] := by
  simp [rlAtomicAdd, State.sequenced_accepted next, sound, plain, size, granted, read, stored]

end

/-! ### Answers to the Keystone's own accesses (R280, R282, R285) -/

section
variable {i : Nat}

theorem rlReadResp_stores (filled : data ≠ []) (fits : data.length ≤ 1440)
    (asked : ((u.consume h).conn h.conn).requestOf .read h.rkey = some i) :
    rlReadResp h data s =
      (((u.consume h).storeAt (((u.consume h).conn h.conn).sq.getD i {}) h.offset.toNat data).updConn h.conn fun x => { x with
        sq := updAt i (fun w => { w with
          got := w.got + data.length
          answered := w.length ≤ w.got + data.length }) x.sq }).settle := by
  simp [rlReadResp, State.sequenced_accepted next, sound, filled, Nat.not_lt.2 fits, asked]
theorem rlAtomicResp_stores (size : data.length = 8)
    (asked : ((u.consume h).conn h.conn).requestOf .atomicAdd h.rkey = some i) :
    rlAtomicResp h data s =
      (((u.consume h).storeAt (((u.consume h).conn h.conn).sq.getD i {}) 0 data).updConn h.conn fun x => { x with
        sq := updAt i (fun w => { w with got := 8, data := data, answered := true }) x.sq }).settle := by
  simp [rlAtomicResp, State.sequenced_accepted next, sound, size, asked]

end

/-! ### SEND (R39, R289, Table 8.11) -/

/-- A SEND takes a receive entry, or waits with RNR where none is free once its session's lines are taken. -/
theorem rlSend_sound {v : State} (first : h.first = true) (last : h.last = true) (filled : data ≠ [])
    (fits : data.length ≤ 1440) (hv : v = (if u.textStuck h.conn then u else u.updConn h.conn fun x =>
      { x with recvFree := u.num (0x190 + (x.port - 1)) })) :
    rlSend h data s =
      if (v.conn h.conn).recvFree = 0 then v.drew.queueNak h.conn 2 h.psn 0 (v.freeWord.toNat % 65536)
      else ((v.updConn h.conn fun x => { x with recvFree := x.recvFree - 1 }).sendText h.conn data).consume h := by
  simp [rlSend, State.sequenced_accepted next, sound, first, last, filled, Nat.not_lt.2 fits, ← hv]

end

/-- Settles O24: an accepted frame runs its meaning in the state that acceptance leaves, where its own check passes. -/
theorem accessFramesComplete : Obligations.AccessFramesComplete := by
  refine ⟨?_, ?_, ?_, ?_, fun w off a data s at_ => ?_, ?_, ?_⟩
  · intro h data s u v t next sound plain filled fits taken granted stored
    have writes (notice : Bool) := State.writeFrame_granted (notice := notice) next sound plain filled fits taken granted stored
    refine ⟨?_, ?_⟩
    · rw [exec_rlWrite, rlWrite, writes false]
      rfl
    · rw [exec_rlWriteWithNotice, rlWriteWithNotice, writes true, Bool.true_and]
  · intro h data s u v t n l next sound plain size hn positive most granted read
    rw [exec_rlReadReq, rlReadReq_granted next sound plain size hn positive most granted read]
  · intro h data old s u v w t next sound plain size granted read stored
    rw [exec_rlAtomicAdd, rlAtomicAdd_granted next sound plain size granted read stored]
  · intro h data s u v i next sound filled fits asked hv
    rw [exec_rlReadResp, rlReadResp_stores next sound filled fits asked, hv]
  · rw [State.storeAt, at_]
  · intro h data s u v i next sound size asked hv
    rw [exec_rlAtomicResp, rlAtomicResp_stores next sound size asked, hv]
  · intro h data s u v next sound first last filled fits hv
    rw [exec_rlSend, rlSend_sound next sound first last filled fits hv]
    exact ⟨fun free => by rw [if_neg free], fun none_ => by rw [if_pos none_]⟩

end Sys2Proof.Machine
end

section
/-! PROOFS. The WINDOW verbs (chapter 9). -/
namespace Sys2Proof.Machine

section
variable {ln : Ln} {c : Nat} {s u : State} (h : s.Runs ln .engineer) (hu : u = s.lineTaken ln)

/-! ### WINDOW OPEN (R305, R307, R313, R332) -/

theorem State.openable_of_ready (inRange : c < 64) (ready : (s.conn c).state = .ready) (notPeer : (s.conn c).port ≠ 7) :
    s.openable c = true := by
  simp [State.openable, State.isReady_iff, inRange, ready, notPeer]

section
include h hu

/-- An aligned range of SHARE opens at the lowest free entry, whose generation advances. -/
theorem windowOpen_opens {off len i g : Nat} {perm : Perm} {ticket : Bool} {v : State} (inRange : c < 64)
    (may : u.openable c = true) (start : off % 64 = 0) (lines : len % 64 = 0) (least : 64 ≤ len) (most : len ≤ 2 ^ 24)
    (ends : off + len ≤ 2 ^ 26) (gate : u.sealGate 2 = none) (free : u.freeWindow = some i) (hg : g = nextGen (u.net.userGen.getD (i - 48) 0))
    (hv : v = { u.updConn c fun x => { x with revoked := x.revoked.filter (· != i) } with
      net.userGen := updAt (i - 48) (fun _ => g) u.net.userGen
      net.userWins := u.net.userWins ++
        [{ index := i, gen := g, conn := c, base := off, length := len, perm := perm, ticket := ticket }] }) :
    windowOpen ln c off len perm ticket s =
      v.replied ln (.ok (handleText (hexText 2 i) g (hexText 2 g ++ "00" ++ hexText 2 i))) := by
  subst hv hg
  refine State.verb_replied_at h hu <| (if_neg ?range).trans <| (if_neg ?named).trans ?opens
  case range => simp only [Nat.not_le.2 inRange, start, lines, Nat.not_lt.2 least, Nat.not_lt.2 most, Nat.not_lt.2 ends,
    decide_false, bne_self_eq_false, Bool.or_self, Bool.false_eq_true, not_false_iff]
  case named => simp [may]
  case opens =>
    simp only [free, gate]
    rfl
theorem windowOpenFull_opens {g : Nat} (inRange : c < 64) (may : u.openable c = true)
    (stands : isCls (s.conn c).port = false ∨ (s.ctl.state ≠ .run ∧ s.ctl.state ≠ .drain))
    (hg : g = nextGen (s.conn c).fullGen) :
    windowOpenFull ln c s = (u.updConn c fun x => { x with fullOn := true, fullGen := g }).replied ln
      (.ok (handleText "FFFF" g (hexText 2 g ++ "FFFF"))) := by
  have stands' : (isCls (u.conn c).port && u.inAny [.run, .drain]) = false := by
    rw [hu]
    simpa [State.inAny, imp_iff_not_or] using stands
  subst hg
  refine State.verb_replied_at h hu <| (if_neg (Nat.not_le.2 inRange)).trans <| (if_neg ?named).trans <|
    (if_neg (Bool.eq_false_iff.1 stands')).trans ?opens
  case named => simp [may]
  case opens => rw [hu]; rfl

/-! ### WINDOW REVOKE (R304, R310, R311, R313) -/

/-- A revoke is answered at once, or by the end of the last access that was admitted. -/
theorem State.verb_revokes {i : Nat} {v : State} {text : String} {body : State → VerbRes}
    (e : body u = v.revokeDone ln c i text) :
    s.verb ln .engineer body =
      if v.accessRuns c i then
        State.prompt { v with net.revoking := v.net.revoking ++ [{ conn := c, index := i, ln := ln, text := text }] } ln.ses
      else v.replied ln (.ok text) := by
  rw [State.revokeDone] at e
  split at e
  · next runs => rw [if_pos runs, State.verb_started h (hu ▸ e)]
  · next ended => rw [if_neg ended, State.verb_replied_at h hu e]

theorem windowRevoke_revokes {i : Nat} {w : UserWin} {v : State} (mem : w ∈ s.net.userWins) (index : w.index = i)
    (conn : w.conn = c) (hv : v = { u.updConn c fun x => { x with revoked := i :: x.revoked.filter (· != i) } with
      net.userWins := s.net.userWins.filter fun w => !(w.index = i && w.conn = c) }) :
    windowRevoke ln c i s =
      if v.accessRuns c i then State.prompt { v with
        net.revoking := v.net.revoking ++ [{ conn := c, index := i, ln := ln, text := "index 0x" ++ hexText 2 i }] } ln.ses
      else v.replied ln (.ok ("index 0x" ++ hexText 2 i)) := by
  have opened : (u.net.userWins.any fun w => w.index = i && w.conn = c) = true :=
    List.any_eq_true.2 ⟨w, hu ▸ mem, by simp [index, conn]⟩
  exact State.verb_revokes h hu ((if_pos opened).trans (by rw [hv, hu]; rfl))
theorem windowRevokeFull_revokes {v : State} (inRange : c < 64) (given : (s.conn c).fullOn = true)
    (notPeer : (s.conn c).port ≠ 7) (hv : v = u.updConn c fun x => { x with fullOn := false }) :
    windowRevokeFull ln c s =
      if v.accessRuns c 0xFFFF then State.prompt { v with
        net.revoking := v.net.revoking ++ [{ conn := c, index := 0xFFFF, ln := ln, text := "index 0xFFFF" }] } ln.ses
      else v.replied ln (.ok "index 0xFFFF") := by
  have opened : (c < 64 && (u.conn c).fullOn && (u.conn c).port != 7) = true := by
    rw [hu]
    simpa [inRange] using And.intro given notPeer
  exact State.verb_revokes h hu ((if_pos opened).trans (by rw [hv]))

end

end

/-- Settles O30, by the equation of each form of WINDOW where nothing refuses it. -/
theorem windowVerbsComplete : Obligations.WindowVerbsComplete := by
  refine ⟨?_, fun ln c s u g h hu inRange ready notPeer stands hg => ?_, fun ln c i s u v w h hu mem index conn hv => ?_,
    fun ln c s u v h hu inRange given notPeer hv => ?_⟩
  · intro ln c off len i perm ticket s u v g h hu inRange ready notPeer start lines least most ends gate free hg hv
    have may : u.openable c = true := hu ▸ State.openable_of_ready inRange ready notPeer
    have hg' : g = nextGen (u.net.userGen.getD (i - 48) 0) := by
      rw [hg, hu]
      rfl
    rw [exec_windowOpen, windowOpen_opens h hu inRange may start lines least most ends gate free hg' hv]
    rfl
  · have may : u.openable c = true := hu ▸ State.openable_of_ready inRange ready notPeer
    rw [exec_windowOpenFull, windowOpenFull_opens h hu inRange may stands hg]
    rfl
  · rw [exec_windowRevoke, windowRevoke_revokes h hu mem index conn hv]
    exact ⟨fun ended => by simp [ended], fun runs => by rw [if_pos runs]⟩
  · rw [exec_windowRevokeFull, windowRevokeFull_revokes h hu inRange given notPeer hv]
    exact ⟨fun ended => by simp [ended], fun runs => by rw [if_pos runs]⟩

end Sys2Proof.Machine
end

section
/-! PROOFS. Multicast groups (chapter 9): posts, answers, timeouts and the GROUP verb. -/
namespace Sys2Proof.Machine

/-! ### Posts (R321, R323, R329) -/

/-- A GROUP-POST to the port or the group, of a connection READY on the port, posts where the port may. -/
theorem rlGroupPost_posts {hdr h : RlHdr} {g : Nat} {data : List Byte} {s u : State} (header : postHeader hdr = h)
    (dest : h.eth.dest = .port ∨ h.eth.dest = .group g) (tag : s.takesTag h.port h.eth = true) (accepts : s.AcceptsWith h id u)
    (ready : (u.conn h.conn).state = .ready) (psn : h.psn = (u.conn h.conn).rxPsn) (sound : h.bad = false) (inRange : g < 16)
    (used : s.on 0x1A0 g = true) (stands : s.isReady h.conn = true) (port : (s.conn h.conn).port = h.port)
    (key : h.rkey.toNat < 65536) (offset : h.offset = 0) (first : h.first = true) (last : h.last = true) (filled : data ≠ [])
    (fits : data.length ≤ 1440) (may : (u.num 0x1A4 g).testBit (h.port - 1) = true) :
    rlGroupPost hdr g data s = ((u.consume h).groupPost g (some h.conn) h.psn data).1 := by
  have dest' : postDest h.eth g = true := by simpa [postDest] using dest
  have hears : s.hears h.port = true := accepts.1
  have version : h.version = 1 := accepts.2.1
  rw [rlGroupPost, header]
  refine (if_neg ?taken).trans <| (if_neg ?known).trans <| (State.arriveWith_accepted accepts _).trans ?posts
  case taken => simp [hears, dest', tag]
  case known => simp [version, Nat.not_le.2 inRange, used, stands, port]
  case posts =>
    simp [State.inOrder, ready, psn, sound, Nat.not_le.2 key, offset, first, last, filled, Nat.not_lt.2 fits, may]

/-! ### Answers and timeouts (R325 to R327) -/

theorem rlGroupResult_settles {h : RlHdr} {data : List Byte} {s u v : State} {gsn : U32} {g : Nat} {p : Post}
    (next : s.AcceptsNext h u) (sound : controlBad h data 6 = false) (first : h.first = true) (last : h.last = true)
    (result : (data.getD 5 0).toNat ≤ 1) (hgsn : gsn = BitVec.ofNat 32 (leNat (sliceB data 0 4)))
    (hg : g = (data.getD 4 0).toNat) (inRange : g < 16) (hv : v = u.consume h) (posted : v.post? g gsn = some p)
    (waits : ∃ t ∈ p.targets, t.conn = h.conn ∧ t.st = .sent) :
    rlGroupResult h data s = (v.updTarget g gsn h.conn fun t => t.answered ((data.getD 5 0).toNat = 0)
      (v.num 0x1A0 g = 1 && ticksFrom p.at_ v.now < v.groupLimit g) v.now).settleGroup g := by
  have waits' : (p.targets.any fun t => t.conn = h.conn && t.st == .sent) = true := by simpa using waits
  simp only [rlGroupResult, State.sequenced_accepted next, sound, first, last, Nat.not_lt.2 result, ← hgsn, ← hg, inRange,
    ← hv, posted, waits', if_true, decide_false, Bool.not_true, Bool.or_self, Bool.false_eq_true, if_false]
theorem groupTimeout_due {g : Nat} {gsn : U32} {s : State} {p : Post} (posted : s.post? g gsn = some p)
    (due : s.groupLimit g ≤ ticksFrom p.at_ s.now) :
    groupTimeout g gsn s = ((s.cancelDeliveries g gsn).updPost g gsn fun q => { q with
      targets := updAll (fun (t : Target) => s.groupLimit g + msT 1 ≤ ticksFrom p.at_ s.now || t.st == .waiting)
        Target.end_ q.targets }).settle.settleGroup g := by
  rw [groupTimeout, posted]
  exact if_neg (Nat.not_lt.2 due)

/-! ### The GROUP verb (R330, Table 9.5) -/

section
variable {ln : Ln} {g : Nat} {s u : State} (h : s.Runs ln .engineer) (hu : u = s.lineTaken ln) (inRange : g < 16)
include h hu inRange

section
variable (idle : (s.group g).posts = []) {m : Member} {v : State}
include idle

/-- A form of GROUP with sound arguments changes a group that has no post outstanding. -/
theorem State.groupVerb_done {fault : State → Option Nat} {body : State → VerbRes} {text : String}
    (sound : fault u = none) (e : body u = done v text) : s.groupVerb ln g fault body = v.replied ln (.ok text) := by
  have idle' : (!(u.group g).posts.isEmpty) = false := by
    rw [hu]
    simpa using idle
  refine State.verb_replied_at h hu ((if_neg (Nat.not_le.2 inRange)).trans ?_)
  rw [sound]
  exact (if_neg (Bool.eq_false_iff.1 idle')).trans e

theorem groupMode_uses {mode : GroupMode} {ord : Int} (code : mode = .reliable ∧ ord = 1 ∨ mode = .unreliable ∧ ord = 2)
    (hv : v = u.setRaw 0x1A0 g ord) : groupMode ln g mode s = v.replied ln (.ok (v.groupSettings g)) := by
  subst hv
  obtain ⟨rfl, rfl⟩ | ⟨rfl, rfl⟩ := code
  · exact State.groupVerb_done h hu inRange idle rfl rfl
  · exact State.groupVerb_done h hu inRange idle rfl rfl
/-- A group that is freed has no members. -/
theorem groupMode_frees (hv : v = ((u.setRaw 0x1A0 g 0).setRaw 0x1A1 g 0).updGroup g fun x => { x with conns := 0 }) :
    groupMode ln g .free s = v.replied ln (.ok (v.groupSettings g)) := by
  subst hv
  exact State.groupVerb_done h hu inRange idle rfl rfl
theorem groupAdd_adds (exists_ : memberOk m = true) (ready : ∀ c, m = .conn c → (s.conn c).state = .ready)
    (hv : v = u.setMember g m true) : groupAdd ln g m s = v.replied ln (.ok (v.groupMembers g)) := by
  subst hv
  refine State.groupVerb_done h hu inRange idle ((if_neg (by simp [exists_])).trans ?_) rfl
  cases m with
  | port p => rfl
  | conn c => exact if_pos (State.isReady_iff.2 (hu ▸ ready c rfl))
theorem groupRemove_removes (exists_ : memberOk m = true) (hv : v = u.setMember g m false) :
    groupRemove ln g m s = v.replied ln (.ok (v.groupMembers g)) := by
  subst hv
  exact State.groupVerb_done h hu inRange idle (if_pos exists_) rfl
theorem groupPostPorts_sets {ports : List Nat} {n : Nat} (exist : ∀ p ∈ ports, 1 ≤ p ∧ p ≤ 7)
    (hn : n = sumOf (fun i => if ports.contains (i + 1) then 2 ^ i else 0) (List.range 7)) (hv : v = u.setRaw 0x1A4 g (n : Nat)) :
    groupPostPorts ln g ports s = v.replied ln (.ok (v.groupPosters g)) := by
  have none_ : ¬ (ports.any fun p => p < 1 || 7 < p) = true := by simpa [Nat.one_le_iff_ne_zero] using exist
  subst hv hn
  exact State.groupVerb_done h hu inRange idle (if_neg none_) rfl
theorem groupTimeoutSet_sets {ms : Lit} {n : Int} (arg : litArg { unit := some .ms, stepD := 10 } 5 1000 ms = .ok n)
    (hv : v = u.setRaw 0x1A5 g n) : groupTimeoutSet ln g ms s = v.replied ln (.ok (v.groupSettings g)) := by
  rw [groupTimeoutSet, arg, hv]
  exact State.groupVerb_done h hu inRange idle rfl rfl
theorem groupClass_sets {ticket : Bool} (hv : v = u.setRaw 0x1A6 g (if ticket then 1 else 0)) :
    groupClass ln g ticket s = v.replied ln (.ok (v.groupSettings g)) := by
  subst hv
  exact State.groupVerb_done h hu inRange idle rfl rfl

end

theorem groupSend_posts {msg : List Byte} {v : State} {gsn : U32} (filled : msg ≠ []) (fits : msg.length ≤ 180)
    (used : u.on 0x1A0 g = true) (posts : u.groupPost g none 0 msg = (v, gsn)) :
    groupSend ln g msg s = v.replied ln (.ok ("gsn " ++ natText gsn.toNat)) := by
  refine State.verb_replied_at h hu <| (if_neg ?sound).trans <| (if_neg ?used).trans ?posts
  case sound => simp [Nat.not_le.2 inRange, filled, Nat.not_lt.2 fits]
  case used => simp [used]
  case posts =>
    rw [posts]
    rfl

end

/-- Settles O31, by the equation of each group command where it has its own effect. -/
theorem groupCommandsComplete : Obligations.GroupCommandsComplete := by
  refine ⟨?_, ?_, fun g s => ?_, fun g gsn s p posted due => ?_, ?_,
    fun ln g msg s u v gsn h hu inRange filled fits used posts => ?_⟩
  · intro hdr h g data s u header dest tag accepts ready psn sound inRange used stands port key offset first last filled fits may
    rw [exec_rlGroupPost, rlGroupPost_posts header.symm dest tag accepts ready psn sound inRange used stands port key offset first
      last filled fits may]
  · intro h data s u v gsn g p next sound first last result hgsn hg inRange hv posted waits
    rw [exec_rlGroupResult, rlGroupResult_settles next sound first last result hgsn hg inRange hv posted waits]
  · rw [exec_groupRetry, groupRetry]
  · rw [exec_groupTimeout, groupTimeout_due posted due, posted]
    rfl
  · intro ln g s u h hu inRange idle
    refine ⟨fun v hv => ?_, fun v hv => ?_, fun v hv => ?_, fun m v exists_ ready hv => ?_, fun m v exists_ hv => ?_,
      fun ports n v exist hn hv => ?_, fun ms n v arg hv => ?_, fun ticket v hv => ?_⟩
    · rw [exec_groupMode, groupMode_uses h hu inRange idle (.inl ⟨rfl, rfl⟩) hv]
    · rw [exec_groupMode, groupMode_uses h hu inRange idle (.inr ⟨rfl, rfl⟩) hv]
    · rw [exec_groupMode, groupMode_frees h hu inRange idle hv]
    · rw [exec_groupAdd, groupAdd_adds h hu inRange idle exists_ ready hv]
    · rw [exec_groupRemove, groupRemove_removes h hu inRange idle exists_ hv]
    · rw [exec_groupPostPorts, groupPostPorts_sets h hu inRange idle exist hn hv]
    · rw [exec_groupTimeoutSet, groupTimeoutSet_sets h hu inRange idle arg hv]
    · rw [exec_groupClass, groupClass_sets h hu inRange idle hv]
  · rw [exec_groupSend, groupSend_posts h hu inRange filled fits used posts]

end Sys2Proof.Machine
end

section
/-! PROOFS. Conditioning (chapter 10): a loop's sample, zones and batch as they run by themselves, and the LOOP verb. -/
namespace Sys2Proof.Machine

/-! ### A loop's sample (R339, R341, R342, R361, R362) -/

section
variable {n : Nat} {s u v : State} (awake : s.awake = true) (inRange : n < 16)
  (due : s.now.toNat % (4000 * s.num 0x7A2 n) = 250 * n) (hu : u = s.batchSample.takeLimits n)
  (hv : v = if isPlenum n = true ∧ (u.loop n).active ≠ .tracking then u.plenumRules n else u)

include awake inRange due in
/-- At its sample tick a loop of an awake unit passes the guard of LOOP_SAMPLE (R342). -/
theorem loopSample_passes : ¬ (!s.awake || 16 ≤ n || s.now.toNat % (4000 * s.num 0x7A2 n) != 250 * n) = true := by
  simp [awake, Nat.not_le.2 inRange, due]
include hv in
theorem State.plenumTaken : (if isPlenum n && (u.loop n).active != .tracking then u.plenumRules n else u) = v := by
  simpa using hv.symm

include awake inRange due hu hv

theorem loopSample_rests (mode : (v.loop n).active = .off ∨ (v.loop n).active = .tracking) : loopSample n s = v := by
  refine (if_neg (loopSample_passes awake inRange due)).trans ?_
  obtain off | tracking := mode
  · simp only [← hu, State.plenumTaken hv, off]
  · simp only [← hu, State.plenumTaken hv, tracking]
theorem loopSample_ramps (mode : (v.loop n).active = .stopping) : loopSample n s = v.rampLoop n := by
  refine (if_neg (loopSample_passes awake inRange due)).trans ?_
  simp only [← hu, State.plenumTaken hv, mode]

section
variable (mode : (v.loop n).active = .manual ∨ (v.loop n).active = .auto)
include mode

/-- A loop that runs is frozen while its source is invalid, and past bad_time its zone gets cause INPUT (R362). -/
theorem loopSample_freezes (invalid : v.measure n = none) : loopSample n s = (loopInputBadTime n v).freezeLoop n := by
  refine (if_neg (loopSample_passes awake inRange due)).trans ?_
  obtain manual | auto := mode
  · simp only [← hu, State.plenumTaken hv, manual, invalid]
  · simp only [← hu, State.plenumTaken hv, auto, invalid]
theorem loopSample_computes {y : Int} {clip est : Bool} (valid : v.measure n = some (y, clip, est)) :
    loopSample n s = v.sampleLoop n y clip est := by
  refine (if_neg (loopSample_passes awake inRange due)).trans ?_
  obtain manual | auto := mode
  · simp only [← hu, State.plenumTaken hv, manual, valid]
  · simp only [← hu, State.plenumTaken hv, auto, valid]

end

end

/-! ### The plenum's rules and cause INPUT (R338, R341, R362) -/

section
variable {n : Nat} {s : State} (drying : isDrying n = true)
include drying

/-- The 600 s of R341 begin again at every sample while the plenum has no valid source. -/
theorem State.plenumRules_invalid (invalid : s.sourceVal (s.num 0x7A3 n) = none) :
    s.plenumRules n = (s.noteHeat (loopZone n)).updZone (loopZone n) fun k => { k with lowSince := none } := by
  simp [State.plenumRules, invalid, drying]
theorem State.lowAnew_drying : s.lowAnew n = s.updZone (loopZone n) fun k => { k with lowSince := none } := if_pos drying
theorem loopInputBadTime_due {t : Tick} (bad : (s.loop n).badSince = some t) (due : secT (s.num 0x7BC n) ≤ ticksFrom t s.now) :
    loopInputBadTime n s = s.updZone (loopZone n) fun x => { x with inhibit := x.inhibit ||| (1#8 <<< causeInput) } := by
  have badLong : s.badLong n = true := by simp [State.badLong, drying, bad, due]
  exact if_pos badLong

end

/-! ### The crack index, the drain of a zone, the batch limit, the end of an off ramp (R352, R356, R358, R361) -/

section
variable {n z : Nat} {s : State}

theorem crackUpdate_due (serves : s.inAny [.held, .ready, .run, .drain, .fault] = true) (due : s.now.toNat % 4000000 = 0) :
    crackUpdate s = { s with
      dry.crackPrev := s.dry.crack
      dry.crackAt := s.now
      dry.crackCount := BitVec.ofNat 32 s.crackSeen
      dry.crack := ((s.dry.crack : Int) + roundDiv (((s.crackSeen : Int) * 2 ^ 20 - s.dry.crack) * 17331) (2 ^ 20)).toNat } :=
  if_neg (by simp [serves, due])
theorem zonePurgeEnd_drained (drained : s.zoneDrained z = true) : zonePurgeEnd z s = s.zoneComplete z := if_pos drained
theorem State.batchHold_running (running : s.dry.batch.state = .running) :
    s.batchHold = (State.setInhibits { s with dry.batch.state := .held } causeBatch true).event 0x5041 0 0
      (stepNum s.dry.batch.step) :=
  if_neg (by simp [running])
/-- A step that has not met its exit within its limit holds the batch (R356). -/
theorem batchStepLimit_due (running : s.dry.batch.state = .running) (serves : s.inAny [.run, .drain] = true)
    (stays : s.stepExit = false) (due : secT (60 * s.num 0x7F3 (stepNum s.dry.batch.step)) ≤ ticksFrom s.dry.batch.since s.now) :
    batchStepLimit s = s.batchHold :=
  if_pos (by simp [running, serves, stays, due])
theorem State.loopStopped_alone (alone : (s.loop n).queued = none) :
    s.loopStopped n = ((s.loopOffNow n).updLoop n fun l => { l with queued := none }).finish (· == PendOp.loopOff n) (.ok "OFF") := by
  rw [State.loopStopped, alone]
theorem loopOffRampDone_low (stops : (s.loop n).active = .stopping) (low : (s.loop n).u ≤ s.uLo n) :
    loopOffRampDone n s = s.loopStopped n :=
  if_pos (by simp [stops, low])

end

/-- Settles O32, by the equation of each command of conditioning where it is due. -/
theorem loopEventsComplete : Obligations.LoopEventsComplete := by
  refine ⟨?_, ?_, fun n s t drying bad due => ?_, fun s serves due => ?_, fun z s drained => ?_, ?_, ?_⟩
  · intro n s u v awake inRange due hu hv
    refine ⟨fun mode => ?_, fun mode => ?_, fun mode invalid => ?_, fun y clip est mode valid => ?_⟩
    · rw [exec_loopSample, loopSample_rests awake inRange due hu hv mode]
    · rw [exec_loopSample, loopSample_ramps awake inRange due hu hv mode]
    · rw [exec_loopSample, loopSample_freezes awake inRange due hu hv mode invalid, loopInputBadTime]
    · rw [exec_loopSample, loopSample_computes awake inRange due hu hv mode valid]
  · rintro n s _ _ rfl rfl drying
    exact ⟨State.plenumRules_invalid drying, State.lowAnew_drying drying⟩
  · rw [exec_loopInputBadTime, loopInputBadTime_due drying bad due]
  · rw [exec_crackUpdate, crackUpdate_due serves due]
  · rw [exec_zonePurgeEnd, zonePurgeEnd_drained drained]
  · rintro s _ running serves stays due rfl
    rw [exec_batchStepLimit, batchStepLimit_due running serves stays due, State.batchHold_running running]
  · rintro n s _ stops low alone rfl
    rw [exec_loopOffRampDone, loopOffRampDone_low stops low, State.loopStopped_alone alone]

/-! ### The LOOP verb (R348, R360, R361) -/

/-- LOOP is accepted wherever a loop may ramp. -/
theorem State.inAny_ready_of_runs {s : State} (runs : s.inAny [.run, .drain] = true) : s.inAny [.ready, .run, .drain] = true :=
  (s.inAny_iff _).2 (List.mem_cons_of_mem _ ((s.inAny_iff _).1 runs))
@[simp] theorem State.lineTaken_dry (s : State) (ln : Ln) : (s.lineTaken ln).dry = s.dry := rfl

section
variable {ln : Ln} {n : Nat} {s u : State} (h : s.Runs ln .operate) (hu : u = s.lineTaken ln)
include h hu

section
variable (inRange : n < 16)
include inRange

/-- MANUAL or AUTO of a wired loop that is not stopping takes effect at once (R336, R360). -/
theorem loopMode_enables {auto : Bool} {value : Option Lit} {v : Option Int} (arg : manualValue auto value = .ok v)
    (serves : s.inAny [.ready, .run, .drain] = true) (input : u.on 0x7A3 n = true) (output : u.on 0x7A6 n = true)
    (stays : (u.loop n).active ≠ .stopping) :
    loopMode ln n auto value s = (u.enableLoop n auto v).replied ln (.ok ((u.enableLoop n auto v).loopReply n auto)) := by
  have allowed : u.loopRefusal n = none := by
    have serves' : u.loopsRun = true := hu ▸ serves
    simp [State.loopRefusal, serves', input, output]
  refine State.verb_replied_at h hu ?_
  rw [arg]
  refine (if_neg (Nat.not_le.2 inRange)).trans ?_
  rw [allowed]
  exact if_neg (by simpa using stays)

section
variable (stays : (u.loop n).active ≠ .stopping)
include stays

/-- A loop that runs stops by its off ramp (R361). -/
theorem loopOff_ramps (runs : s.inAny [.run, .drain] = true) (on : (u.loop n).active ≠ .off) (room : s.pendFull ln = false) :
    loopOff ln n s =
      u.started ln (.loopOff n) ("stopping loop " ++ natText n) fun v => (v.setRaw 0x7A0 n 0).stopLoop n := by
  subst hu
  refine State.verb_starts h (by simpa using room) <| (if_neg (Nat.not_le.2 inRange)).trans <| (if_neg ?serves).trans <|
    (if_neg ?stays).trans <| if_pos ?ramps
  case serves => simp [State.loopsRun, State.inAny_ready_of_runs runs]
  case stays => simpa using stays
  case ramps => simpa [runs] using on
/-- In READY a loop is off at once (R361). -/
theorem loopOff_ready (ready : s.ctl.state = .ready) :
    loopOff ln n s = ((u.setRaw 0x7A0 n 0).retargetLoop n).replied ln (.ok "OFF") := by
  refine State.verb_replied_at h hu <| (if_neg (Nat.not_le.2 inRange)).trans <| (if_neg ?serves).trans <|
    (if_neg ?stays).trans <| if_neg ?rests
  case serves => simp [hu, State.loopsRun, State.inAny, ready]
  case stays => simpa using stays
  case rests => simp [hu, State.inAny, ready]

end

theorem loopFlags_clears (serves : s.inAny [.ready, .run, .drain] = true) :
    loopFlags ln n s = (u.updLoop n fun l => { l with flags := 0 }).replied ln (.ok (flagText (u.loop n).flags)) := by
  refine State.verb_replied_at h hu <| (if_neg (Nat.not_le.2 inRange)).trans <| if_neg ?_
  simp [hu, State.loopsRun, serves]

end

/-! ### LOOP BATCH (R357, R359) -/

/-- A form of LOOP BATCH that may run answers the batch's state and step as it leaves them. -/
theorem State.batchVerb_runs {ok : State → Bool} {f : State → State} {v : State} (serves : s.inAny [.ready, .run, .drain] = true)
    (may : ok u = true) (hv : v = f u) :
    s.batchVerb ln ok f = v.replied ln (.ok (batchText v.dry.batch.state ++ " " ++ stepText v.dry.batch.step)) := by
  have serves' : u.loopsRun = true := hu ▸ serves
  subst hv
  exact State.verb_replied_at h hu (if_pos (by rw [serves', may, Bool.and_self]))

end

section
variable {ln : Ln} {s u v : State} (h : s.Runs ln .operate) (hu : u = s.lineTaken ln)
include h hu

theorem loopBatchStart_starts (run : s.ctl.state = .run) (batch : u.batchMode = true) (idle : s.dry.batch.state = .idle)
    (hv : v = State.batchEnter { u with dry.batch.state := .running } .fill) :
    loopBatchStart ln s = v.replied ln (.ok (batchText v.dry.batch.state ++ " " ++ stepText v.dry.batch.step)) := by
  refine State.batchVerb_runs h hu (by simp [State.inAny, run]) ?_ hv
  rw [batch, hu]
  simp [run, idle]
theorem loopBatchResume_resumes (runs : s.inAny [.run, .drain] = true) (held : s.dry.batch.state = .held)
    (hv : v = u.batchResume) :
    loopBatchResume ln s = v.replied ln (.ok (batchText v.dry.batch.state ++ " " ++ stepText v.dry.batch.step)) :=
  State.batchVerb_runs h hu (State.inAny_ready_of_runs runs) (by simp [hu, runs, held]) hv

section
variable (serves : s.inAny [.ready, .run, .drain] = true)
include serves

theorem loopBatchNext_marks (running : s.dry.batch.state = .running) (hv : v = { u with dry.batch.next_ := true }) :
    loopBatchNext ln s = v.replied ln (.ok (batchText v.dry.batch.state ++ " " ++ stepText v.dry.batch.step)) :=
  State.batchVerb_runs h hu serves (by simp [hu, running]) hv
theorem loopBatchHold_holds (running : s.dry.batch.state = .running) (hv : v = u.batchHold) :
    loopBatchHold ln s = v.replied ln (.ok (batchText v.dry.batch.state ++ " " ++ stepText v.dry.batch.step)) :=
  State.batchVerb_runs h hu serves (by simp [hu, running]) hv
theorem loopBatchAbort_idles (busy : s.dry.batch.state ≠ .idle) (hv : v = (u.setInhibits causeBatch true).batchIdle) :
    loopBatchAbort ln s = v.replied ln (.ok (batchText v.dry.batch.state ++ " " ++ stepText v.dry.batch.step)) :=
  State.batchVerb_runs h hu serves (by simp [hu, busy]) hv

end

end

/-- Settles O33, by the equation of each form of LOOP where nothing refuses it. -/
theorem loopVerbsComplete : Obligations.LoopVerbsComplete := by
  refine ⟨?_, fun ln n s u h hu inRange stays => ?_, fun ln n s u h hu inRange serves => ?_, fun ln s u h hu => ?_⟩
  · intro ln n auto value s u v h hu arg inRange serves input output stays
    rw [exec_loopMode, loopMode_enables h hu inRange arg serves input output stays]
  · refine ⟨fun runs on room => ?_, fun ready => ?_⟩
    · rw [exec_loopOff, loopOff_ramps h hu inRange stays runs on room]
    · rw [exec_loopOff, loopOff_ready h hu inRange stays ready]
  · rw [exec_loopFlags, loopFlags_clears h hu inRange serves]
  · refine ⟨fun v run batch idle hv => ?_, fun v serves running hv => ?_, fun v serves running hv => ?_,
      fun v runs held hv => ?_, fun v serves busy hv => ?_⟩
    · rw [exec_loopBatchStart, loopBatchStart_starts h hu run batch idle hv]
    · rw [exec_loopBatchNext, loopBatchNext_marks h hu serves running hv]
    · rw [exec_loopBatchHold, loopBatchHold_holds h hu serves running hv]
    · rw [exec_loopBatchResume, loopBatchResume_resumes h hu runs held hv]
    · rw [exec_loopBatchAbort, loopBatchAbort_idles h hu serves busy hv]

end Sys2Proof.Machine
end

section
/-! PROOFS. The field bank (chapter 11): its cycle, inputs and outputs, its fault bit and its link. -/
namespace Sys2Proof.Machine

/-! ### The field cycle and the inputs (R366, R367) -/

theorem State.exchanges_iff (s : State) :
    s.exchanges = true ↔ s.awake = true ∧ s.ctl.state ≠ .standby ∧ s.fld.link.up = true := by
  simp [State.exchanges, and_assoc]
/-- A word that is built bit by bit holds the bits that it was built from. -/
theorem foldl_range_getLsbD {w : Nat} (p : Nat → Bool) (n : Nat) {i : Nat} (inRange : i < w) :
    ((List.range n).foldl (fun (b : BitVec w) i => if p i then b ||| (1#w <<< i) else b) 0).getLsbD i =
      (decide (i < n) && p i) := by
  have step (b : BitVec w) (j : Nat) :
      (if p j then b ||| (1#w <<< j) else b).getLsbD i = (b.getLsbD i || decide (i = j) && p i) := by
    have bit : (1#w <<< j).getLsbD i = decide (i = j) := by
      simp [inRange]
      grind
    by_cases same : i = j
    · subst same
      cases p i <;> simp [bit]
    · cases p j <;> simp [bit, same]
  induction n with
  | zero => simp
  | succ n ih =>
    rw [List.range_succ, List.foldl_concat, step, ih, ← Bool.and_or_distrib_right]
    simp only [Nat.lt_succ_iff_lt_or_eq, Bool.decide_or]
theorem State.noteHeat_fld (s : State) (z : Nat) : (s.noteHeat z).fld = s.fld := by simp [State.noteHeat, apply_ite State.fld]
@[simp] theorem State.noteHeats_fld (s : State) : s.noteHeats.fld = s.fld :=
  foldl_same State.fld _ (fun _ _ => State.noteHeat_fld _ _) _ _
/-- A cycle brings each input as it stood after the last sample before it (R366). -/
theorem State.takeDi_getLsbD {s : State} {i : Nat} (inRange : i < 24) : s.takeDi.fld.diSet.getLsbD i =
    if s.fld.diAt = s.now then (s.fld.di.getD i {}).was else (s.fld.di.getD i {}).state := by
  simp only [State.takeDi, State.noteHeats_fld, foldl_range_getLsbD _ _ inRange, inRange, decide_true, Bool.true_and, beq_iff_eq]
/-- A cycle that is due runs its parts in turn (R366). -/
theorem fieldCycle_due {inp : FieldIn} {s s1 s2 s3 s4 s5 s6 : State} (exchanges : s.exchanges = true)
    (due : s.now.toNat % 1000 = 0)
    (h1 : s1 = { s.bankHeard with
      fld.loadV := inp.loadV
      fld.bankOff := s.bankHeard.fld.bankOff && !s.bankHeard.fld.released
      fld.cycleAt := some s.bankHeard.now })
    (h2 : s2 = (List.range 8).foldl (fun s i => s.takeAi i (inp.ai.getD i 0)) s1.takeDi) (h3 : s3 = s2.takeReadbacks inp)
    (h4 : s4 = (List.range 8).foldl (fun s i => s.takeFan i inp) s3)
    (h5 : s5 = (List.range 8).foldl (fun s i => s.openDue (i + 1)) s4)
    (h6 : s6 = (List.range 8).foldl (fun s i => s.classify (i + 1)) s5) :
    fieldCycle inp s = s6.judgeFans.settleOutputs.demandSent := by
  rw [h6, h5, h4, h3, h2, h1]
  exact if_neg (by simp [exchanges, due])
theorem diSample_due {levels : BitVec 24} {s : State} (awake : s.awake = true) (due : s.now.toNat % 400 = 0)
    (powered : s.fld.power = .on ∨ s.on 0x003 = true) :
    diSample levels s = { s with
      fld.di := s.fld.di.mapIdx fun i d => d.sample (s.num 0x910 i) (levels.getLsbD i)
      fld.diAt := s.now } :=
  if_neg (by simpa [awake, due, or_iff_not_imp_left] using powered)

/-! ### Mismatches and the power of the Keystone side (R368, R540) -/

theorem lasted_due {now t : Tick} {rb : Nat} {since : Option Tick} (stands : since = some t) (due : msT rb ≤ ticksFrom t now) :
    lasted now rb since = true := by
  simp [lasted, stands, due]

section
variable {ch : Nat} {s : State} {t : Tick} (due : msT (s.num 0x902) ≤ ticksFrom t s.now)
include due

theorem readbackMismatch_digital (stands : (s.fld.dos.getD (ix ch) {}).since = some t) :
    readbackMismatch true ch s =
      (let was := (s.fld.dos.getD (ix ch) {}).mis
      let u : State := { s with fld.dos := updAt (ix ch) (fun d => { d with mis := !was, since := none }) s.fld.dos }
      if was then u else u.event 0x6020 9 0 0 ch) := by
  have lasted := lasted_due stands due
  refine (if_neg (by simpa using lasted)).trans ?_
  cases (s.fld.dos.getD (ix ch) {}).mis <;> rfl
theorem readbackMismatch_analogue (stands : (s.fld.aos.getD (ix ch) {}).since = some t) :
    readbackMismatch false ch s =
      (let was := (s.fld.aos.getD (ix ch) {}).mis
      let u : State := { s with fld.aos := updAt (ix ch) (fun a => { a with mis := !was, since := none }) s.fld.aos }
      if was then u else u.event 0x6020 9 0 1 ch) := by
  have lasted := lasted_due stands due
  refine (if_neg (by simpa using lasted)).trans ?_
  cases (s.fld.aos.getD (ix ch) {}).mis <;> rfl

end

section
variable {s : State} (awake : s.awake = true)
include awake

theorem fieldPhantomLimit_trips (on : s.fld.power = .on) :
    fieldPhantomLimit s = { s with fld.power := .tripped, fld.powerOffAt := s.now } :=
  if_pos (by simp [awake, on])
theorem fieldPhantomRetry_due (tripped : s.fld.power = .tripped) (due : secT 1 ≤ ticksFrom s.fld.powerOffAt s.now) :
    fieldPhantomRetry s = { s with fld.power := .on } :=
  if_pos (by simp [awake, tripped, due])

end

/-! ### The tachometer (R376) -/

/-- An edge after those of this run that closes a period is taken. -/
theorem tachEdge_takes {n : Nat} {at_ : Tick} {s : State} {e : List Tick} {sum k p : Nat} (awake : s.awake = true)
    (up : s.fld.link.up = true) (first : 1 ≤ n) (last : n ≤ 8) (past : tickLe at_ s.now = true)
    (later : ∀ t l, (s.fan n).edges = t :: l → tickBefore t at_ = true) (he : e = (at_ :: (s.fan n).edges).take 6)
    (mean : meanPeriod (s.num (fanP 0 n)) e = (sum, k)) (closes : k ≠ 0) (hp : p = (periodsOf e).headD 0 * s.num (fanP 0 n)) :
    tachEdge n at_ s = s.updFan n fun f => { f with
      edges := e
      rpm := rpmOf (s.num (fanP 0 n)) sum k
      periods := f.periods + 1
      good := if (s.fan n).tLost ≤ 2 * p ∧ p ≤ 2 * (s.fan n).tLost then f.good + 1 else 0 } := by
  have later' : ((s.fan n).edges.head?).elim true (tickBefore · at_) = true := by
    cases edges : (s.fan n).edges with
    | nil => rfl
    | cons t l => exact later t l edges
  have guard : ¬ (!s.awake || !s.fld.link.up || !(1 ≤ n && n ≤ 8) || !tickLe at_ s.now ||
      !((s.fan n).edges.head?).elim true (tickBefore · at_)) = true := by
    simp [awake, up, Nat.one_le_iff_ne_zero.1 first, last, past, later']
  rw [tachEdge, if_neg guard, ← he]
  dsimp only
  rw [mean]
  simp only [closes, if_false, hp, mul_assoc, Bool.and_eq_true, decide_eq_true_eq]

/-! ### The fault bit and the link (R149, R373, R392) -/

section
variable {s u : State} (awake : s.awake = true) (up : s.fld.link.up = true)
include awake up

section
variable (holds : s.ctl.state ≠ .standby)
include holds

/-- A fault of the bank is recorded and fails a bring-up. -/
theorem fieldFaultBit_sets (sound : s.fld.fault = false) :
    fieldFaultBit true s =
      (State.event { s with fld.fault := true } 0x6010 9 0).failBringup 601 "field fault" :=
  if_neg (by simp [s.exchanges_iff.2 ⟨awake, holds, up⟩, sound])
theorem fieldFaultBit_clears (faulty : s.fld.fault = true) :
    fieldFaultBit false s = State.event { s with fld.fault := false } 0x6011 9 0 :=
  if_neg (by simp [s.exchanges_iff.2 ⟨awake, holds, up⟩, faulty])

end

theorem fieldLinkLoss_up (hu : u = s.updLink .field fun x => { x with up := false, training := false, sent := [] }) :
    fieldLinkLoss s = ((u.event 0x6012 9 0).fieldLost).enterFault 1 := by
  subst hu
  exact (if_pos awake).trans (if_neg (by simp [up]))

end

/-- Settles O34, by the equation of each command of the field bank where it is due. -/
theorem fieldCommandsComplete : Obligations.FieldCommandsComplete := by
  refine ⟨?cycle, fun _ => rfl, fun levels s awake due powered => ?sample, fun s i inRange => State.takeDi_getLsbD inRange,
    fun ch s u t due => ⟨?digital, ?analogue⟩, fun ch s => ?limit, fun s awake => ⟨fun on => ?trip, fun tripped due => ?retry⟩,
    ?edge, fun s u awake up => ⟨fun holds sound => ?fault, fun holds faulty => ?clear, fun hu => ?loss⟩⟩
  case cycle =>
    intro inp s s1 s2 s3 s4 s5 s6 awake holds up due h1 h2 h3 h4 h5 h6
    rw [exec_fieldCycle, fieldCycle_due (s.exchanges_iff.2 ⟨awake, holds, up⟩) due h1 h2 h3 h4 h5 h6]
  case sample => rw [exec_diSample, diSample_due awake due powered]
  case digital =>
    rintro stands rfl
    rw [exec_readbackMismatch, readbackMismatch_digital due stands]
  case analogue =>
    rintro stands rfl
    rw [exec_readbackMismatch, readbackMismatch_analogue due stands]
  case limit => rw [exec_doCurrentLimit, doCurrentLimit]
  case trip => rw [exec_fieldPhantomLimit, fieldPhantomLimit_trips awake on]
  case retry => rw [exec_fieldPhantomRetry, fieldPhantomRetry_due awake tripped due]
  case edge =>
    intro n at_ s e sum k p awake up first last past later he mean closes hp
    rw [exec_tachEdge, tachEdge_takes awake up first last past later he mean closes hp]
  case fault => rw [exec_fieldFaultBit, fieldFaultBit_sets awake up holds sound]
  case clear => rw [exec_fieldFaultBit, fieldFaultBit_clears awake up holds faulty]
  case loss => rw [exec_fieldLinkLoss, fieldLinkLoss_up awake up hu]

end Sys2Proof.Machine
end

section
/-! PROOFS. Fans (chapter 11): the FAN verb, the ends of a fan's waits, and the opening of a relay. -/
namespace Sys2Proof.Machine

/-! ### FAN START, STOP and RESET (R378 to R380) -/

section
variable {ln : Ln} {n : Nat} {s u : State} (h : s.Runs ln .operate) (hu : u = s.lineTaken ln) (first : 1 ≤ n) (last : n ≤ 8)
include h hu first last

section
variable (serves : s.inAny [.ready, .run, .drain] = true) (stopped : (s.fan n).state = .stopped)
  (shut : (s.fan n).opening = none) (rests : (s.fan n).runIn = false) (room : s.pendFull ln = false)
include serves stopped shut rests room

/-- FAN START of a stopped fan whose drive is at rest begins its first attempt (R378). -/
theorem fanStart_begins : fanStart ln n none s =
    u.started ln (.fanStart n) ("starting fan " ++ natText n) (·.fanBegin n) := by
  subst hu
  exact State.verb_starts h (by simpa using room)
    (by simp [Nat.one_le_iff_ne_zero.1 first, last, serves, Fan.stopping, stopped, shut, rests])
/-- FAN START with a speed sets it before the first attempt. -/
theorem fanStart_begins_at {l : Lit} {v : Int} (arg : litArg { unit := some .pct, stepD := 100 } 0 10000 l = .ok v) :
    fanStart ln n (some l) s = u.started ln (.fanStart n) ("starting fan " ++ natText n) fun w =>
      (w.setRaw (fanP 6 n) 0 v).fanBegin n := by
  subst hu
  exact State.verb_starts h (by simpa using room)
    (by simp [arg, Except.map, Nat.one_le_iff_ne_zero.1 first, last, serves, Fan.stopping, stopped, shut, rests])

end

theorem fanStop_stops (runs : (s.fan n).state = .running ∨ (s.fan n).state = .tachLost ∨ (s.fan n).state = .starting)
    (shut : (s.fan n).opening = none) (room : s.pendFull ln = false) :
    fanStop ln n s = u.started ln (.fanStop n) ("stopping fan " ++ natText n) (·.fanStopSeq n) := by
  subst hu
  refine State.verb_starts h (by simpa using room) ?_
  obtain state | state | state := runs <;>
    simp [Nat.one_le_iff_ne_zero.1 first, last, Fan.stopping, stoppable, state, shut]
theorem fanReset_stops (failed : (s.fan n).state = .fanStall ∨ (s.fan n).state = .driveFault) :
    fanReset ln n s = (u.fanOpen n .stopped).replied ln (.ok "STOPPED") := by
  refine State.verb_replied_at h hu ((if_neg (by simp [Nat.one_le_iff_ne_zero.1 first, last])).trans (if_pos ?_))
  simpa [hu] using failed

end

/-! ### The ends of a fan's waits (R378, R380) -/

section
variable {n : Nat} {s : State}

theorem fanStartWindowEnd_due (starting : (s.fan n).state = .starting) (shut : (s.fan n).opening = none)
    (due : 400000 * s.num (fanP 5 n) ≤ ticksFrom (s.fan n).since s.now) :
    fanStartWindowEnd n s = if s.fanUp n then s.fanRunning n else s.fanFail n :=
  if_pos (by simp [starting, shut, due])
theorem fanRetryWaitEnd_due (waits : (s.fan n).state = .retryWait)
    (due : secT (backOff (s.fan n).tries) ≤ ticksFrom (s.fan n).since s.now) : fanRetryWaitEnd n s = s.fanAttempt n :=
  if_pos (by simp [waits, due])
theorem fanCoastTimeout_due (coasts : (s.fan n).state = .coasting)
    (due : secT (s.num (fanP 0xC n)) ≤ ticksFrom (s.fan n).since s.now) :
    fanCoastTimeout n s = (s.event 0x6006 8 n).fanStopped n :=
  if_pos (by simp [coasts, due])

/-! ### The opening of a relay (R377) -/

/-- A fan that runs with its relay closed goes the way of R377 when the outputs go off. -/
theorem State.coastFan_running (runs : (s.fan n).state = .running ∨ (s.fan n).state = .tachLost) (closed : (s.fan n).relay = true)
    (up : s.fld.link.up = true) (shut : (s.fan n).opening = none) : s.coastFan n = s.fanLeave n .coasting := by
  obtain state | state := runs <;> simp [State.coastFan, stoppable, state, closed, up, shut]
/-- A relay stays closed until a field cycle has sent the 4 mA demand. -/
theorem State.openDue_unsent {st : FanState} (opens : (s.fan n).opening = some st) (unsent : (s.fan n).openSent = false) :
    s.openDue n = s := by
  simp [State.openDue, opens, unsent]

end

/-- Settles O35, by the equation of each command of a fan where it is due. -/
theorem fanCommandsComplete : Obligations.FanCommandsComplete := by
  refine ⟨fun ln n s u h hu first last => ⟨fun serves stopped shut rests room => ⟨?start, fun l v arg => ?speed⟩,
    fun runs shut room => ?stop, fun failed => ?reset⟩, fun n s starting shut due => ?window, fun n s waits due => ?retry,
    fun n s coasts due => ?coast, fun n s => ⟨fun _ => rfl, State.coastFan_running, fun _ => State.openDue_unsent⟩⟩
  case start => rw [exec_fanStart, fanStart_begins h hu first last serves stopped shut rests room]
  case speed => rw [exec_fanStart, fanStart_begins_at h hu first last serves stopped shut rests room arg]
  case stop => rw [exec_fanStop, fanStop_stops h hu first last runs shut room]
  case reset => rw [exec_fanReset, fanReset_stops h hu first last failed]
  case window => rw [exec_fanStartWindowEnd, fanStartWindowEnd_due starting shut due]
  case retry => rw [exec_fanRetryWaitEnd, fanRetryWaitEnd_due waits due]
  case coast => rw [exec_fanCoastTimeout, fanCoastTimeout_due coasts due]

end Sys2Proof.Machine
end

section
/-! PROOFS. The probe rings (chapter 11): the sweep, its replies and its abort, and the nodes. -/
namespace Sys2Proof.Machine

/-! ### The sweep (R386, R387, R391) -/

section
variable {r : Nat} {s : State}

section
variable (first : 1 ≤ r) (last : r ≤ 2) (awake : s.awake = true) (serves : s.inAny [.standby, .collapse] = false)
  (up : s.fld.link.up = true) (runs : s.on (ringP 2 r) = false)
  (due : s.now.toNat % secT (s.num (ringP 0 r)) = 2000000 * (r - 1))
include first last awake serves up runs due

/-- At its tick a sweep passes the guard of PROBE_SWEEP_START (R386). -/
theorem probeSweepStart_passes : probeSweepStart r s =
    if s.sweeping r then s.updRing r fun x => { x with overruns := x.overruns + 1 }
    else (s.updRing r fun x => { x with
      sweep := some { number := x.number, startAt := s.now, n := s.num (ringP 1 r) }
      number := x.number + 1
      closed := false }).sendMeasure r false :=
  if_neg (by simp [Nat.one_le_iff_ne_zero.1 first, last, awake, serves, up, runs, due])
theorem probeSweepStart_idle {u : State} (idle : (s.ring r).sweep = none) (hu : u = s.updRing r fun x => { x with
      sweep := some { number := x.number, startAt := s.now, n := s.num (ringP 1 r) }
      number := x.number + 1
      closed := false }) : probeSweepStart r s = u.sendMeasure r false := by
  rw [probeSweepStart_passes first last awake serves up runs due, hu]
  exact if_neg (by simp [State.sweeping, idle])
/-- A sweep that is still under way at the next one's tick is an overrun (R386). -/
theorem probeSweepStart_overrun (busy : (s.ring r).sweep ≠ none) :
    probeSweepStart r s = s.updRing r fun x => { x with overruns := x.overruns + 1 } := by
  rw [probeSweepStart_passes first last awake serves up runs due]
  exact if_pos (Option.isSome_iff_ne_none.2 busy)

end

section
variable {w : Sweep} (sweeps : (s.ring r).sweep = some w)
include sweeps

theorem State.nextRead_sweeping : s.nextRead r = if w.k + w.j < w.n then s.sendRead r 1 else s.finishSweep r := by
  rw [State.nextRead, sweeps]
theorem probeMeasureWaitEnd_due (waits : w.phase = .measOut ∨ w.phase = .measRet) (due : 100000 ≤ ticksFrom w.slotAt s.now) :
    probeMeasureWaitEnd r s = if w.k + w.j < w.n then s.sendRead r 1 else s.finishSweep r := by
  rw [probeMeasureWaitEnd, sweeps, ← State.nextRead_sweeping sweeps]
  exact if_pos (by simp [waits, due])
theorem probeSlotEnd_due (reads : w.phase = .fromOut ∨ w.phase = .fromRet) (due : 2000 ≤ ticksFrom w.slotAt s.now) :
    probeSlotEnd r s =
      if w.got then (s.updSweep r fun w => if w.phase == .fromOut then { w with k := w.k + 1 } else { w with j := w.j + 1 }).nextRead r
      else if w.stopAt.isSome then s.abortSweep r
      else if w.attempt = 1 then s.sendRead r 2
      else if w.phase == .fromOut then s.sendMeasure r true
      else s.finishSweep r := by
  rw [probeSlotEnd, sweeps]
  exact if_neg (by simpa [due, or_iff_not_imp_left] using reads)

/-! ### Replies (R388, R389) -/

/-- A good reply from the end OUT, in its slot, sets its position (R388). -/
theorem probeReply_good {f : List Byte} (reads : w.phase = .fromOut) (waits : w.got = false) (soon : ticksFrom w.slotAt s.now < 2000)
    (whole : f.length = 16) (start : byteAt f 0 = 0xA5) (reply : byteAt f 1 = 0x81) (dist : byteAt f 2 = w.k + 1)
    (seq : byteAt f 3 = w.number.toNat) (crc : leNat (sliceB f 14 2) = (crc16 (f.take 14)).toNat) :
    probeReply r f s = (s.takeReply r w.k false f).updSweep r fun w => { w with got := true } := by
  have out : (w.phase == .fromRet) = false := by rw [reads]; rfl
  simp only [probeReply, sweeps, out]
  exact (if_neg (by simp [whole])).trans (if_pos (by simp [reads, waits, soon, whole, start, reply, dist, seq, crc]))
/-- The MEASURE of the sweep that arrives at RET closes the ring (R389). -/
theorem probeReply_closes {f : List Byte} (whole : f.length = 8) (measure : byteAt f 1 = 3) (seq : byteAt f 4 = w.number.toNat)
    (crc : queryOk f = true) (waits : w.phase = .measOut) : probeReply r f s = s.updRing r fun x => { x with closed := true } := by
  have closed : s.ringClosed r = s.updRing r fun x => { x with closed := true } := if_pos (by simp [sweeps, waits])
  rw [probeReply, sweeps, ← closed]
  exact if_pos (by simp [whole, measure, seq, crc])

end

end

/-- SET probe.r.run STOP aborts the sweep, or marks its end (R391). -/
theorem probeRunStop_stops {ln : Ln} {r : Nat} {s u : State} (h : s.Runs ln .operate) (hu : u = s.lineTaken ln) (first : 1 ≤ r)
    (last : r ≤ 2) : probeRunStop ln r s = ((u.stopSweep r).setRaw (ringP 2 r) 0 1).replied ln (.ok "STOP") :=
  State.verb_replied_at h hu (if_neg (by simp [Nat.one_le_iff_ne_zero.1 first, last]))

/-! ### Nodes (R385) -/

section
variable {r pos : Nat} {fromRet : Bool} {f : List Byte} {s : State}

/-- A node answers a READ that has come to its last hop. -/
theorem probeNodeRead_answers (hop : byteAt f 2 = 1) (crc : queryOk f = true) :
    probeNodeRead r pos fromRet f s = s.updNode r pos fun d => { d.emit fromRet (d.reply f) with stale := true } := by
  simp only [probeNodeRead, hop, crc, if_true]
/-- A node forwards any other READ with a hop less. -/
theorem probeNodeRead_forwards (hop : byteAt f 2 ≠ 1) :
    probeNodeRead r pos fromRet f s = s.updNode r pos fun d => d.emit (!fromRet) (f.set 2 (f.getD 2 0 - 1)) := by
  simp only [probeNodeRead, hop, if_false]
theorem probeNodeMeasure_converts (crc : queryOk f = true) :
    probeNodeMeasure r pos fromRet f s =
      s.updNode r pos fun d => { d.emit (!fromRet) f with converting := some s.now, stale := false } := by
  simp only [probeNodeMeasure, crc, if_true]
theorem probeConversionDone_ends (c : Conversion) : probeConversionDone r pos c s = s.updNode r pos fun d =>
    if d.converting = none then d
    else { d with
      moist := c.moist
      temp := c.temp
      mInvalid := c.mInvalid
      tInvalid := c.tInvalid
      selfTest := c.selfTest
      converting := none } := by
  simp only [probeConversionDone, Option.isNone_iff_eq_none]

end

/-- Settles O36, by the equation of each command of the rings where it has its own effect. -/
theorem probeCommandsComplete : Obligations.ProbeCommandsComplete := by
  refine ⟨fun r s u first last awake serves up runs due => ⟨fun idle hu => ?start, fun busy => ?overrun⟩,
    fun r s w sweeps waits due => ?wait, fun r s w sweeps reads due => ?slot, ?good, ?closes,
    fun ln r s u h hu first last => ?stop, fun r pos b f s => ⟨fun hop crc => ?answer, fun hop => ?forward, ?measure, ?reply⟩,
    fun r pos c s => ?conversion⟩
  case start => rw [exec_probeSweepStart, probeSweepStart_idle first last awake serves up runs due idle hu]
  case overrun => rw [exec_probeSweepStart, probeSweepStart_overrun first last awake serves up runs due busy]
  case wait => rw [exec_probeMeasureWaitEnd, probeMeasureWaitEnd_due sweeps waits due]
  case slot => rw [exec_probeSlotEnd, probeSlotEnd_due sweeps reads due]
  case good =>
    intro r f s w sweeps reads waits soon whole start reply dist seq crc
    rw [exec_probeReply, probeReply_good sweeps reads waits soon whole start reply dist seq crc]
  case closes =>
    intro r f s w sweeps whole measure seq crc waits
    rw [exec_probeReply, probeReply_closes sweeps whole measure seq crc waits]
  case stop => rw [exec_probeRunStop, probeRunStop_stops h hu first last]
  case answer => rw [exec_probeNodeRead, probeNodeRead_answers hop crc]
  case forward => rw [exec_probeNodeRead, probeNodeRead_forwards hop]
  case measure =>
    rintro _ crc rfl
    rw [exec_probeNodeMeasure, probeNodeMeasure_converts crc]
  case reply => rw [exec_probeNodeReplyForward, probeNodeReplyForward]
  case conversion => rw [exec_probeConversionDone, probeConversionDone_ends]

end Sys2Proof.Machine
end

section
/-! PROOFS. A step as the front command's meaning, and the canonical form of the memory along a step (chapter 14). -/
namespace Sys2Proof.Machine

theorem step_of_cons {c : Instr} {rest : List Instr} {s : State} (h : s.pending = c :: rest) :
    step s = exec c { s with pending := rest } := by
  unfold step
  rw [h]
/-- Settles O42: the front of the queue decides which branch of the step runs. -/
theorem stepRunsTheFrontCommand : Obligations.StepRunsTheFrontCommand := fun _ _ _ => step_of_cons

/-- No command breaks the canonical form: POWER_UP leaves an empty memory, the others write by the memory operations. -/
theorem exec_inv {c : Instr} {s t : State} (h : exec c s = .next t) (inv : s.Inv) : t.Inv := by
  by_cases p : ∃ q, c = .powerUp q
  · obtain ⟨q, rfl⟩ := p
    obtain ⟨-, -, -, dram⟩ := powerUp_keeps q s
    exact of_next (P := State.Inv) ((exec_powerUp q s).symm.trans h) (dram inv)
  · exact (exec_keeps (fun q e => p ⟨q, e⟩) h).dram inv
/-- A tick leaves the memory alone. -/
theorem State.tickOn_inv {s : State} (inv : s.Inv) : s.tickOn.Inv := by
  have dram : s.tickOn.mp.dram = s.mp.dram := by
    by_cases dark : s.ctl.state = .dark
    · obtain ⟨-, -, -, same⟩ := State.kept_eq_iff.1 (State.tickOn_dark dark)
      exact same
    · obtain ⟨-, -, -, same⟩ := State.kept_eq_iff.1 (State.tickOn_awake dark)
      exact same
  exact (congrArg (Memory.wf · = true) dram).mpr inv
/-- Settles O45, by the two kinds of a step: a tick, and the command at the front of the queue. -/
theorem everyStepKeepsTheInvariant : Obligations.EveryStepKeepsTheInvariant := by
  intro s t inv h
  cases e : s.pending with
  | nil => exact of_next ((step_of_empty e).symm.trans h) (State.tickOn_inv inv)
  | cons c rest => exact exec_inv ((step_of_cons e).symm.trans h) inv

end Sys2Proof.Machine
end

section
/-! PROOFS. The codes of the tape (chapter 12): the stone code, the decoder of the product code, and the interleave. -/
namespace Sys2Proof.Machine

/-! ### The stone code (R399, Table 12.4) -/

/-- Table 12.4: the number whose bits tell the zero bytes of a word. -/
def zeroMask (w : List Byte) : Nat := w.zipIdx.foldl (fun a q => if q.1 = 0 then a + 2 ^ q.2 else a) 0
/-- The first slot of a word with a zero byte. -/
def maskByte (w : List Byte) : Byte := BitVec.ofNat 8 (zeroMask w * 16 + 1)

/-- Above the 1 at its foot, the first slot has a bit for each byte of a word of four, set where that byte is zero. -/
theorem maskByte_getLsbD (b0 b1 b2 b3 : Byte) : ∀ (k : Nat) (h : k < [b0, b1, b2, b3].length),
    (maskByte [b0, b1, b2, b3]).getLsbD (4 + (0 + k)) = ([b0, b1, b2, b3][k] == 0) := by
  have bits : ∀ p0 p1 p2 p3 : Bool, ∀ j : Fin 4, (BitVec.ofNat 8 ([(p0, 0), (p1, 1), (p2, 2), (p3, 3)].foldl
      (fun a q => if q.1 then a + 2 ^ q.2 else a) 0 * 16 + 1)).getLsbD (4 + (0 + j)) = [p0, p1, p2, p3][j] := by decide
  have mask : zeroMask [b0, b1, b2, b3] = [(b0 == 0, 0), (b1 == 0, 1), (b2 == 0, 2), (b3 == 0, 3)].foldl
      (fun a q => if q.1 then a + 2 ^ q.2 else a) 0 := by
    simp only [zeroMask, List.zipIdx_cons, List.zipIdx_nil, List.foldl_cons, List.foldl_nil, beq_iff_eq]
  intro k h
  rw [maskByte, mask]
  exact (bits _ _ _ _ ⟨k, h⟩).trans (List.getElem_map (l := [b0, b1, b2, b3]) (· == 0))
theorem maskByte_ne_zero (w : List Byte) : maskByte w ≠ 0 := by
  intro h
  have foot := congrArg BitVec.toNat h
  simp only [maskByte, BitVec.toNat_ofNat, BitVec.ofNat_eq_ofNat] at foot
  omega
/-- Under a mask whose bits tell the zero bytes of a word, its other bytes go back to their places, whatever follows them. -/
theorem stonePut_filter {z : Byte} (rest : List Byte) {w : List Byte} {i : Nat}
    (mask : ∀ (k : Nat) (h : k < w.length), z.getLsbD (4 + (i + k)) = (w[k] == 0)) :
    stonePut z w.length i (w.filter (· != 0) ++ rest) = w := by
  induction w generalizing i with
  | nil => rfl
  | cons b w ih =>
    have head : z.getLsbD (4 + i) = (b == 0) := mask 0 (by simp)
    have tail := ih (i := i + 1) fun k h => by
      rw [add_assoc, add_comm 1 k]
      exact mask (k + 1) (by simpa using h)
    by_cases hb : b = 0
    · rw [List.filter_cons_of_neg (by simp [hb])]
      simp only [List.length_cons, stonePut, head, hb, beq_self_eq_true, if_true, tail]
    · rw [List.filter_cons_of_pos (by simpa using hb)]
      simp only [List.length_cons, stonePut, head, beq_eq_false_iff_ne.2 hb, Bool.false_eq_true, if_false, List.cons_append,
        List.headD_cons, List.tail_cons, tail]
theorem stoneSlots_of_full {w : List Byte} (full : (w.filter (· != 0)).length = 4) : stoneSlots w = (true, w) := if_pos full
/-- What a word with a zero byte is written as (Table 12.4): the mask of its zero bytes, and the others with the fill behind. -/
theorem stoneSlots_of_zero {w : List Byte} (short : (w.filter (· != 0)).length < 4) : ∃ rest : List Byte,
    (w.filter (· != 0) ++ rest).length = 3 ∧ (∀ x ∈ rest, x ≠ 0) ∧
      stoneSlots w = (false, maskByte w :: (w.filter (· != 0) ++ rest)) := by
  refine ⟨(List.replicate 3 0xFF#8).take (3 - (w.filter (· != 0)).length), ?_, fun x hx => ?_, ?_⟩
  · simp only [List.length_append, List.length_take, List.length_replicate]
    omega
  · rw [List.eq_of_mem_replicate (List.mem_of_mem_take hx)]
    decide
  · rw [stoneSlots, if_neg (by omega), List.take_append, List.take_of_length_le (by omega)]
    rfl
/-- A word of four bytes is encoded in four slots, none of them zero, and decodes to itself (R399). -/
theorem stone_code (b0 b1 b2 b3 : Byte) : (stoneSlots [b0, b1, b2, b3]).2.length = 4 ∧
    (∀ x ∈ (stoneSlots [b0, b1, b2, b3]).2, x ≠ 0) ∧
    stoneBack (stoneSlots [b0, b1, b2, b3]).1 (stoneSlots [b0, b1, b2, b3]).2 = [b0, b1, b2, b3] := by
  have nonzero : ∀ x ∈ [b0, b1, b2, b3].filter (· != 0), x ≠ 0 := fun x hx => by simpa using (List.mem_filter.1 hx).2
  rcases (List.length_filter_le (· != 0) [b0, b1, b2, b3]).eq_or_lt with full | short
  · rw [stoneSlots_of_full full]
    rw [List.filter_eq_self.2 (List.length_filter_eq_length_iff.1 full)] at nonzero
    exact ⟨rfl, nonzero, rfl⟩
  · obtain ⟨rest, len, fill, e⟩ := stoneSlots_of_zero short
    rw [e]
    refine ⟨by simpa using len, fun x hx => ?_, stonePut_filter rest (maskByte_getLsbD b0 b1 b2 b3)⟩
    rcases List.mem_cons.1 hx with rfl | hx
    · exact maskByte_ne_zero _
    · exact (List.mem_append.1 hx).elim (nonzero x) (fill x)

/-! ### The decoder of the product code (R405) -/

/-- A word changed in its bytes one by one is what it was where its byte is left alone. -/
theorem getD_mapIdx_of_same {f : Nat → Byte → Byte} {j : Nat} (same : ∀ b, f j b = b) (w : List Byte) :
    (w.mapIdx f).getD j 0 = w.getD j 0 := by
  rw [List.getD_eq_getElem?_getD, List.getD_eq_getElem?_getD, List.getElem?_mapIdx, show f j = id from funext same, Option.map_id_fun]
  rfl
/-- Two words that are the same outside a list of places differ in no more places than it names. -/
theorem differences_le {w c : List Byte} {erased bad : List Nat} (same : ∀ j, j ∉ erased → j ∉ bad → c.getD j 0 = w.getD j 0) :
    ((List.range w.length).filter fun j => !erased.contains j && c.getD j 0 != w.getD j 0).length ≤ bad.length := by
  refine (List.subperm_of_subset (List.nodup_range.filter _) fun j hj => ?_).length_le
  simp only [List.mem_filter, Bool.and_eq_true, Bool.not_eq_true', List.contains_eq_mem, decide_eq_false_iff_not, bne_iff_ne] at hj
  obtain ⟨-, kept, differ⟩ := hj
  by_contra good
  exact differ (same j kept good)
/-- What the decoder answers is a codeword, within its bound; outside the erasures it has changed at most the places that the
locator polynomial names, whose number is the erasures' and the errors'. -/
theorem rsDecode_sound {p : Nat} {w c : List Byte} {erased : List Nat} {k : Nat} (h : rsDecode p w erased = some (c, k)) :
    c.length = w.length ∧ (∀ x ∈ syndromes p c, x = 0) ∧ 2 * k + erased.length ≤ p ∧
      ∃ bad : List Nat, bad.length ≤ k + erased.length ∧ ∀ j, j ∉ erased → j ∉ bad → c.getD j 0 = w.getD j 0 := by
  have cleared : ∀ j, j ∉ erased → (w.mapIdx fun j b => if erased.contains j then 0 else b).getD j 0 = w.getD j 0 :=
    fun j kept => getD_mapIdx_of_same (fun b => if_neg (by simpa using kept)) w
  unfold rsDecode at h
  extract_lets n r syn q bad d at h
  split at h
  · cases h
  next room =>
  split at h
  · next clean =>
    obtain ⟨rfl, rfl⟩ := Prod.mk.inj (Option.some.inj h)
    exact ⟨List.length_mapIdx, by simpa using clean, by omega, [], by simp, fun j kept _ => cleared j kept⟩
  · split at h
    · next good =>
      obtain ⟨rfl, rfl⟩ := Prod.mk.inj (Option.some.inj h)
      simp only [Bool.and_eq_true, decide_eq_true_eq, List.all_eq_true, beq_iff_eq] at good
      obtain ⟨⟨count, codeword⟩, bound⟩ := good
      refine ⟨by simp [d, r], codeword, by omega, bad, by omega, fun j kept right => ?_⟩
      exact (getD_mapIdx_of_same (fun b => if_neg (by simpa using right)) r).trans (cleared j kept)
    · cases h

/-- Settles O59: the stone code by its mask, the product code by what its decoder checks before it answers. -/
theorem theTapeCodesReadBack : Obligations.TheTapeCodesReadBack := by
  refine ⟨stone_code, fun p w c erased k h => ?_⟩
  obtain ⟨len, codeword, bound, bad, few, same⟩ := rsDecode_sound h
  exact ⟨len, codeword, bound, (differences_le same).trans few⟩

/-! ### The interleave (R406) -/

theorem rowSlot_div (m r : Nat) : rowSlot m r / 128 = r / 16 := by
  rw [rowSlot]
  omega
theorem rowSlot_mod (m r : Nat) : rowSlot m r % 128 = (m + 8 * (r % 16)) % 128 := by
  rw [rowSlot]
  omega
theorem rowSlot_lt {r : Nat} (m : Nat) (hr : r < 96) : rowSlot m r < 768 := by
  rw [rowSlot]
  omega
/-- The inversion of the manual finds the matrix: 39 is the inverse of 8 × 3 - 1 modulo 128. -/
theorem slotMatrix_of_row {m : Nat} (hm : m < 128) (r : Nat) : slotMatrix (rowChannel m r) (rowSlot m r) = m := by
  rw [slotMatrix, rowSlot_mod, rowChannel]
  omega
theorem slotRow_of_row {m : Nat} (hm : m < 128) (r : Nat) : slotRow (rowChannel m r) (rowSlot m r) = r := by
  have channel : (rowChannel m r + 16 * 24 - 3 * m) % 16 = r % 16 := by
    rw [rowChannel]
    omega
  rw [slotRow, slotMatrix_of_row hm, channel, rowSlot_div]
  omega
/-- The inversion as the manual writes it, over the integers. -/
theorem row_inversion {m : Nat} (hm : m < 128) (r : Nat) :
    (m : Int) = 39 * (8 * (rowChannel m r : Int) - rowSlot m r % 128) % 128 ∧
      ((r % 16 : Nat) : Int) = ((rowChannel m r : Int) - 3 * m) % 16 ∧ r / 16 = rowSlot m r / 128 := by
  refine ⟨?_, ?_, (rowSlot_div m r).symm⟩
  · have place := rowSlot_mod m r
    rw [rowChannel]
    omega
  · rw [rowChannel]
    omega
theorem slotMatrix_lt (c s : Nat) : slotMatrix c s < 128 := Nat.mod_lt _ (by decide)
theorem slotRow_div (c s : Nat) : slotRow c s / 16 = s / 128 := by
  rw [slotRow]
  omega
theorem slotRow_mod (c s : Nat) : slotRow c s % 16 = (c + 16 * 24 - 3 * slotMatrix c s) % 16 := by
  rw [slotRow]
  omega
/-- The row that the inversion finds for a slot of a channel is one of the ashlar's, and stands there. -/
theorem slot_holds {c s : Nat} (hc : c < 16) (hs : s < 768) : slotRow c s < 96 ∧ rowChannel (slotMatrix c s) (slotRow c s) = c ∧
    rowSlot (slotMatrix c s) (slotRow c s) = s := by
  have matrix := slotMatrix_lt c s
  have row := slotRow_mod c s
  refine ⟨?_, ?_, ?_⟩
  · have := slotRow_div c s
    omega
  · rw [rowChannel]
    omega
  · rw [rowSlot, slotRow_div, row, slotMatrix]
    omega

/-- Settles O60: the inversion is one in both directions, so a slot's row exists and is the only one. -/
theorem eachSlotHoldsOneRow : Obligations.EachSlotHoldsOneRow := by
  refine ⟨fun m r hm hr => ⟨rfl, rfl, rowSlot_lt m hr, row_inversion hm r, slotMatrix_of_row hm r, slotRow_of_row hm r⟩,
    fun c s hc hs => ?_⟩
  obtain ⟨row, channel, slot⟩ := slot_holds hc hs
  refine ⟨(slotMatrix c s, slotRow c s), ⟨⟨slotMatrix_lt c s, row⟩, channel, slot⟩, ?_⟩
  rintro ⟨m, r⟩ ⟨⟨hm, -⟩, rfl, rfl⟩
  exact Prod.ext (slotMatrix_of_row hm r).symm (slotRow_of_row hm r).symm

end Sys2Proof.Machine
end

section
/-! PROOFS. Writing the ledger (chapter 13): the journal and staging, the tape and its verify, and the ledger's faults. -/
namespace Sys2Proof.Machine

/-! ### The journal, staging and the formatter (R428, R430, R431, R434) -/

section
variable {s : State}

/-- A journal that takes records and is not full takes the oldest one (R428, R434). -/
theorem recordJournal_takes {r : Record} {l : List Record} (made : s.made = r :: l) (takes : s.journals = true)
    (room : s.led.full = false) : recordJournal s = State.fillMarks { s with
      made := l
      led.journal.frames := s.led.journal.frames ++ [{ serial := s.led.serial, record := r }]
      led.serial := s.led.serial + 1 } := by
  simp [recordJournal, made, takes, room]
/-- The next frame goes into staging where it has room (R430). -/
theorem stagingPage_stages {f : Frame} (awake : s.awake = true) (replayed : s.led.replayed = true)
    (next : s.led.journal.frames.find? (fun f => !f.staged) = some f)
    (room : s.led.stagingUsed + frameSize f.record ≤ stagingRoom) :
    stagingPage s = (State.fillMarks { s with led.journal.frames := stageFirst s.led.journal.frames }).format := by
  simp only [stagingPage, next]
  exact (if_neg (by simp [awake, replayed])).trans (if_neg (Nat.not_lt.2 room))
theorem ledgerFlushTimer_due {a : Ashlar} (formats : s.formats = true) (forming : s.led.forming = some a)
    (due : secT (s.num 0xB16) ≤ ticksFrom a.firstAt s.now) : ledgerFlushTimer s = s.closeForming := by
  simp [ledgerFlushTimer, formats, forming, due]

/-! ### The tape (R405, R443, R444, R445) -/

theorem tapeStart_starts (writes : s.writes = true) (free : s.led.onTape = none) (still : s.led.streaming = false)
    (capped : s.capstoneDue = none) (ready : s.nextReady = true) :
    tapeStart s = State.putOnTape { s with led.speed := startSpeed s.led.fill } := by
  simp only [tapeStart, capped, ready]
  exact if_neg (by simp [writes, free, still])
/-- A block that fails is written again on its channel while the ashlar has copies and wedges left (R444, R446, R427). -/
theorem blockReadback_rewrites {read : Option RowRead} {ch : Nat} {a b : Ashlar} (fails : blockFails read = true)
    (awake : s.awake = true) (channel : ch < 16) (on : s.led.onTape = some a) (copies : a.perCh.foldl (· + ·) 0 < 256)
    (hb : b = { a with perCh := updAt ch (· + 1) a.perCh }) (wedges : wedgesOf b - 1 ≤ zoneLeft a.wrap a.wedge) :
    blockReadback read ch s =
      { s with led.onTape := some b, led.rewrites := s.led.rewrites + 1, led.blocksDue := s.led.blocksDue + 1 } := by
  subst hb
  simp [blockReadback, on, fails, awake, Nat.not_le.2 channel, Nat.not_le.2 copies, Nat.not_lt.2 wedges]
theorem blockReadback_good {x : RowRead} {ch : Nat} (good : blockFails (some x) = false) : blockReadback (some x) ch s = s := by
  unfold blockReadback
  split
  · rfl
  · exact if_pos (by simp [good])
/-- A row with a sound header fails when C1 corrects more than four of its symbols (R444). -/
theorem blockFails_iff {a b : List Byte} {h : RowId} {q : List Byte × Nat} (header : headerOf a = some h ∨ headerOf b = some h)
    (decoded : rsDecode 20 (sliceB a 8 124 ++ sliceB b 8 124) [] = some q) :
    blockFails (some { partA := some a, partB := some b }) = true ↔ 4 < q.2 := by
  obtain header | header := header <;> simp [blockFails, rowC1, decoded, header]
/-- The end of an ashlar leaves it on tape to be verified; the tape streams on with the next closed one, or stops (R443). -/
theorem ashlarWriteEnd_ends {trailers : Nat} {a b : Ashlar} {u v : State} (awake : s.awake = true) (on : s.led.onTape = some a)
    (hb : b = { a with trailers := min 16 trailers, sound := true })
    (hu : u = s.stood b a.wrap (wedgeOn a.wrap a.wedge (wedgesPast b)))
    (hv : v = { u with led.awaiting := u.led.awaiting ++ [b] }) :
    ashlarWriteEnd trailers s =
      if v.writes && v.nextReady then State.putOnTape { v with led.speed := stepSpeed v.led.speed v.led.fill }
      else { v with led.streaming := false } := by
  subst hb hu hv
  simp only [ashlarWriteEnd, on]
  exact if_neg (by simp [awake])

section
variable {trailers : Nat} {ok : Bool} {a : Ashlar} {l : List Ashlar} {u : State} (awake : s.awake = true)
  (open_ : s.led.journal.sealed = false) (waits : s.led.awaiting = a :: l)
  (hu : u = State.setTape { s with led.awaiting := l } a.seq (min 16 trailers) ok)
include awake open_ waits hu

/-- What a verify finds goes onto the ashlar's facts, then into what becomes of its records (R445). -/
theorem ashlarVerified_judges : ashlarVerified trailers ok s =
    State.ledgerHandover (if 12 ≤ trailers && ok then
      if a.kind == .capstone then u.capVerified a.reason else (u.markVerified a).release
    else
      (State.event { u with led.redo := u.led.redo + 1 } 0x7012 0x0B 0 (a.seq % 2 ^ 32) (min 16 trailers)).redoAshlar a) := by
  subst hu
  simp only [ashlarVerified, waits]
  exact if_neg (by simp [awake, open_])
theorem ashlarVerified_capstone (sound : 12 ≤ trailers) (rows : ok = true) (capstone : a.kind = .capstone) :
    ashlarVerified trailers ok s = (u.capVerified a.reason).ledgerHandover := by
  rw [ashlarVerified_judges awake open_ waits hu, if_pos (by simp [sound, rows]), if_pos (by simp [capstone])]
theorem ashlarVerified_data (sound : 12 ≤ trailers) (rows : ok = true) (data : a.kind ≠ .capstone) :
    ashlarVerified trailers ok s = (u.markVerified a).release.ledgerHandover := by
  rw [ashlarVerified_judges awake open_ waits hu, if_pos (by simp [sound, rows]), if_neg (by simp [data])]
theorem ashlarVerified_redo {v : State} (unsound : trailers < 12 ∨ ok = false)
    (hv : v = State.event { u with led.redo := u.led.redo + 1 } 0x7012 0x0B 0 (a.seq % 2 ^ 32) (min 16 trailers)) :
    ashlarVerified trailers ok s = (v.redoAshlar a).ledgerHandover := by
  rw [ashlarVerified_judges awake open_ waits hu, hv, if_neg]
  obtain few | bad := unsound
  · simp [Nat.not_le.2 few]
  · simp [bad]

end

/-! ### Faults (R456 to R458, R546) -/

section
variable (awake : s.awake = true)
include awake

theorem journalMramFail_fails (works : s.led.mramFailed = false) :
    journalMramFail s = State.enterFault { s with led.mramFailed := true } 4 :=
  if_neg (by simp [awake, works])
theorem ledgerLinkLoss_up {u : State} (up : s.led.link.up = true)
    (hu : u = s.updLink .ledger (fun x => { x with up := false, training := false, sent := [] })) :
    ledgerLinkLoss s = { u.ledgerFault 0 with led.linkFault := true } := by
  subst hu
  simp only [ledgerLinkLoss, awake, State.loseLedger, up, if_true, Bool.not_true, Bool.false_eq_true, if_false]
theorem transportFault_faults {why : Nat} (first : 1 ≤ why) (last : why ≤ 3) : transportFault why s = s.ledgerFault why :=
  if_pos (by simp [awake, first, last])
theorem transportSupplyCollapse_faults :
    transportSupplyCollapse s = State.ledgerFault { s with led.headsUp := true, led.streaming := false } 3 :=
  if_pos awake

end

end

/-- Settles O37, by the equation of each command of the ledger where it has its own effect. -/
theorem ledgerWritingComplete : Obligations.LedgerWritingComplete := by
  refine ⟨fun r l s made takes room => ?journal, fun f s awake replayed next room => ?stage,
    fun a s formats forming due => ?flush, fun s writes free still capped ready => ?start, ?rewrite,
    fun ch s => ⟨fun x good => ?good, rfl⟩, fun a b h q => blockFails_iff, ?ends,
    fun trailers ok a l s u awake open_ waits hu => ⟨fun sound rows capstone => ?capstone, fun sound rows data => ?data,
      fun v unsound hv => ?redo⟩,
    fun s awake => ⟨fun works => ?mram, fun u up hu => ?link, fun why first last => ?fault, ?supply⟩⟩
  case journal => rw [exec_recordJournal, recordJournal_takes made takes room]
  case stage => rw [exec_stagingPage, stagingPage_stages awake replayed next room]
  case flush => rw [exec_ledgerFlushTimer, ledgerFlushTimer_due formats forming due]
  case start => rw [exec_tapeStart, tapeStart_starts writes free still capped ready]
  case rewrite =>
    intro read ch a b s fails awake channel on copies hb wedges
    rw [exec_blockReadback, blockReadback_rewrites fails awake channel on copies hb wedges]
  case good => rw [exec_blockReadback, blockReadback_good good]
  case ends =>
    intro trailers a b s u v awake on hb hu hv
    rw [exec_ashlarWriteEnd, ashlarWriteEnd_ends awake on hb hu hv]
  case capstone => rw [exec_ashlarVerified, ashlarVerified_capstone awake open_ waits hu sound rows capstone]
  case data => rw [exec_ashlarVerified, ashlarVerified_data awake open_ waits hu sound rows data]
  case redo => rw [exec_ashlarVerified, ashlarVerified_redo awake open_ waits hu unsound hv]
  case mram => rw [exec_journalMramFail, journalMramFail_fails awake works]
  case link => rw [exec_ledgerLinkLoss, ledgerLinkLoss_up awake up hu]
  case fault => rw [exec_transportFault, transportFault_faults awake first last]
  case supply => rw [exec_transportSupplyCollapse, transportSupplyCollapse_faults awake]

end Sys2Proof.Machine
end

section
/-! PROOFS. Cartridges and the LEDGER verbs (chapter 13). -/
namespace Sys2Proof.Machine

@[simp] theorem State.lineTaken_led (s : State) (ln : Ln) : (s.lineTaken ln).led = s.led := rfl
/-- What refuses a tape operation lies in the unit's state and the ledger's alone, so that taking a line changes nothing of it. -/
@[simp] theorem State.lineTaken_tapeRefusal (s : State) (ln : Ln) : (s.lineTaken ln).tapeRefusal = s.tapeRefusal := rfl
/-- The states in which the ledger serves a load leave out STANDBY, WAKING and COLLAPSE. -/
theorem State.serves_load {s : State} (serves : s.inAny [.held, .ready, .run, .drain, .fault] = true) :
    s.ctl.state ≠ .standby ∧ s.ctl.state ≠ .waking ∧ s.ctl.state ≠ .collapse := by
  refine ⟨?_, ?_, ?_⟩ <;> intro state <;> simp [State.inAny, state] at serves

/-! ### Cartridges (R438, R457) -/

section
variable {c : Cartridge} {s : State}

section
variable {u : State} (empty : s.led.cart = none) (hu : u = { s with
    led.cart := some c
    led.state := if s.led.state = .fault ∧ s.led.linkFault = false then .empty else s.led.state })
include empty hu

theorem cartridgeInserted_manual (manual : s.on 0xB18 = false) : cartridgeInserted c s = u := by
  subst hu
  have off : ∀ l, State.on { s with led := l } 0xB18 = false := fun _ => manual
  simp [cartridgeInserted, empty, off]
/-- With autoload a cartridge that comes into an empty transport is loaded (R438). -/
theorem cartridgeInserted_autoload (awake : s.awake = true) (auto : s.on 0xB18 = true) (state : s.led.state = .empty)
    (idle : s.led.op = .none) (up : s.led.link.up = true) (serves : s.inAny [.held, .ready, .run, .drain, .fault] = true) :
    cartridgeInserted c s = u.beginLoad := by
  subst hu
  have on : ∀ l, State.on { s with led := l } 0xB18 = true := fun _ => auto
  have wake : ∀ l, State.awake { s with led := l } = true := fun _ => awake
  obtain ⟨standby, waking, collapse⟩ := State.serves_load serves
  simp [cartridgeInserted, empty, on, wake, state, idle, up, standby, waking, collapse]

end

theorem cartridgeRemoved_takes (stands : s.led.cart ≠ none) (loose : s.led.threaded = false) (idle : s.led.op = .none)
    (sound : s.led.linkFault = false) :
    cartridgeRemoved s = { s with led.cart := none, led.threaded := false, led.state := .empty } := by
  simp [cartridgeRemoved, stands, loose, idle, sound]

end

/-! ### The verbs begin (R442, R447 to R450) -/

section
variable {ln : Ln} {s u : State} (h : s.Runs ln .operate) (hu : u = s.lineTaken ln)
include h hu

section
variable (room : s.pendFull ln = false)
include room

theorem ledgerLoad_begins (serves : s.inAny [.held, .ready, .run, .drain, .fault] = true) (empty : s.led.state = .empty)
    (idle : s.led.op = .none) (stands : s.led.cart ≠ none) (up : s.led.link.up = true) :
    ledgerLoad ln s = u.started ln .ledgerLoad "loading" State.beginLoad := by
  subst hu
  obtain ⟨standby, waking, collapse⟩ := State.serves_load serves
  exact State.verb_starts h (by simpa using room) (by simp [standby, waking, collapse, empty, idle, stands, up])
theorem ledgerUnload_begins {close : Bool} (active : s.ctl.state ≠ .standby) (idle : s.led.op = .none)
    (loaded : s.led.state = .writable ∨ s.led.state = .closed ∨ s.led.state = .full ∨ s.led.state = .foreign) :
    ledgerUnload ln close s = u.started ln .ledgerUnload "unloading" (·.beginUnload close) := by
  subst hu
  refine State.verb_starts h (by simpa using room) ?_
  obtain state | state | state | state := loaded <;> simp [active, idle, state]

section
variable (serves : s.tapeRefusal = none)
include serves

theorem ledgerSeek_begins (t : SeekTarget) : ledgerSeek ln t s =
    u.started ln .ledgerSeek "seeking" fun v => { v.beginTape .seek with led.seekTo := t } := by
  subst hu
  exact State.verb_starts h (by simpa using room) (by simp only [State.lineTaken_tapeRefusal, serves])
theorem ledgerVerify_begins (first last : Option Nat) : ledgerVerify ln first last s =
    u.started ln .ledgerVerify "verifying" fun v => { v.beginTape .verify with
      led.verifyFrom := first.getD 2
      led.verifyTo := last.getD (v.led.cart.elim 0 fun c => seqAfter c - 1) } := by
  subst hu
  exact State.verb_starts h (by simpa using room) (by simp only [State.lineTaken_tapeRefusal, serves])
theorem ledgerReplay_begins {serial count off len : Nat} (range : shareRange off len = true) (positive : 0 < count)
    (few : count < 2 ^ 32) : ledgerReplay ln serial count off len s = u.started ln .ledgerReplay "replaying" fun v =>
      { v.beginTape .replay with led.replay := some { serial := serial, count := count, off := off, len := len } } := by
  subst hu
  refine State.verb_starts h (by simpa using room) ((if_neg ?_).trans (by simp only [State.lineTaken_tapeRefusal, serves]))
  simpa [range, Nat.pos_iff_ne_zero.1 positive] using few

end

end

/-- LEDGER ABORT before the completion step breaks the operation off (R451). -/
theorem ledgerAbort_breaks {six : Option Tick} (runs : s.led.op = .seek ∨ s.led.op = .verify ∨ s.led.op = .unload)
    (early : ∀ t, six = some t → tickLe t s.now = false) : ledgerAbort ln six s = u.abortTape.replied ln (.ok "aborted") := by
  refine State.verb_replied_at h hu ((if_neg ?_).trans ((if_neg ?_).trans rfl))
  · obtain op | op | op := runs <;> simp [hu, op]
  · cases six with
    | none => simp
    | some t => simpa [hu] using early t rfl

end

/-! ### They end (R438, R442, R448 to R450) -/

section
variable {s : State} (awake : s.awake = true)
include awake

theorem ledgerLoadDone_used {v : Bool} {c : Cartridge} (stands : s.led.cart = some c) (loads : s.led.op = .load)
    (used : c.blank = false) : ledgerLoadDone true v s = s.endLoad (s.cartState c) c := by
  simp [ledgerLoadDone, stands, awake, loads, used]
/-- Once all that is closed is verified, the cartridge comes out (R442). -/
theorem ledgerUnloadDone_ejects (unloads : s.led.op = .unload) (closed : s.led.closed = []) (free : s.led.onTape = none)
    (verified : s.led.awaiting = []) (capped : s.capstoneDue = none)
    (held : (s.eject.finish (· == PendOp.ledgerUnload) (.ok "EMPTY")).led.loadQueued = false) :
    ledgerUnloadDone s = s.eject.finish (· == PendOp.ledgerUnload) (.ok "EMPTY") :=
  (if_neg (by simp [awake, unloads, closed, free, verified, capped])).trans (if_neg (by simp [held]))
theorem ledgerSeekDone_finds {c : Cartridge} {n w i : Nat} (seeks : s.led.op = .seek) (stands : s.led.cart = some c)
    (place : seekPlace c s.led.seekTo = some (n, w, i)) :
    ledgerSeekDone true s = State.finish { s with led.op := .none } (· == PendOp.ledgerSeek)
      (.ok ("ashlar " ++ natText n ++ " wrap " ++ natText w ++ " wedge " ++ natText i)) := by
  simp [ledgerSeekDone, awake, seeks, stands, place]
theorem ledgerVerifyDone_counts {n : List Nat} (verifies : s.led.op = .verify) (hn : n = verifyCounts s.verifyRange) :
    ledgerVerifyDone s = State.finish { s with led.op := .none, led.lastVerify := n } (· == PendOp.ledgerVerify)
      (.ok ("sound " ++ natText (n.getD 0 0) ++ " complete " ++ natText (n.getD 1 0) ++ " skipped " ++ natText (n.getD 2 0) ++
        " failed " ++ natText (n.getD 3 0) ++ ", last serial " ++ natText (lastSerial s.verifyRange))) := by
  subst hn
  exact if_neg (by simp [awake, verifies])
/-- Within 120 s a replay writes as many of the records asked for as fit (R450). -/
theorem ledgerReplayDone_delivers {q : ReplayReq} {c : Cartridge} {asked out : List (Nat × Record)} (replays : s.led.op = .replay)
    (hq : s.led.replay = some q) (stands : s.led.cart = some c) (soon : ticksFrom s.led.opAt s.now < secT 120)
    (hasked : asked = ((tapeRecords c).filter fun p => q.serial ≤ p.1).take q.count) (hout : out = fitRecords q.len asked) :
    ∃ o, ledgerReplayDone s =
      (s.sealWrite 2 q.off (out.flatMap fun p => recBytes p.2) none false false).1.replayEnds o := by
  subst hasked hout
  have serves : ¬(!s.awake || s.led.op != .replay) = true := by simp [awake, replays]
  simp only [ledgerReplayDone, hq, stands, serves, Nat.not_le.2 soon, if_false]
  exact ⟨_, rfl⟩

end

/-- Settles O38, by the equation of each verb and of each end where nothing stands in its way. -/
theorem ledgerVerbsComplete : Obligations.LedgerVerbsComplete := by
  refine ⟨fun c s u empty hu => ⟨fun manual => ?manual, fun awake auto state idle up serves => ?autoload⟩,
    fun s stands loose idle sound => ?removed,
    fun ln s u h hu room => ⟨fun serves empty idle stands up => ?load, fun close active idle loaded => ?unload,
      fun serves => ⟨fun t => ?seek, fun first last => ?verify, fun serial count off len range positive few => ?replay⟩⟩,
    fun v c s awake stands loads used => ?loaded, fun s awake unloads closed free verified capped held => ?unloaded,
    fun c n w i s awake seeks stands place => ?sought, fun s n awake verifies hn => ?verified, ?replayed,
    fun ln six s u h hu runs early => ?abort⟩
  case manual => rw [exec_cartridgeInserted, cartridgeInserted_manual empty hu manual]
  case autoload => rw [exec_cartridgeInserted, cartridgeInserted_autoload empty hu awake auto state idle up serves]
  case removed => rw [exec_cartridgeRemoved, cartridgeRemoved_takes stands loose idle sound]
  case load => rw [exec_ledgerLoad, ledgerLoad_begins h hu room serves empty idle stands up]
  case unload => rw [exec_ledgerUnload, ledgerUnload_begins h hu room active idle loaded]
  case seek => rw [exec_ledgerSeek, ledgerSeek_begins h hu room serves]
  case verify => rw [exec_ledgerVerify, ledgerVerify_begins h hu room serves]
  case replay => rw [exec_ledgerReplay, ledgerReplay_begins h hu room serves range positive few]
  case loaded => rw [exec_ledgerLoadDone, ledgerLoadDone_used awake stands loads used]
  case unloaded => rw [exec_ledgerUnloadDone, ledgerUnloadDone_ejects awake unloads closed free verified capped held]
  case sought => rw [exec_ledgerSeekDone, ledgerSeekDone_finds awake seeks stands place]
  case verified => rw [exec_ledgerVerifyDone, ledgerVerifyDone_counts awake verifies hn]
  case replayed =>
    intro q c s asked out awake replays hq stands soon hasked hout
    rw [exec_ledgerReplayDone]
    obtain ⟨o, e⟩ := ledgerReplayDone_delivers awake replays hq stands soon hasked hout
    exact ⟨o, congrArg _ e⟩
  case abort => rw [exec_ledgerAbort, ledgerAbort_breaks h hu runs early]

end Sys2Proof.Machine
end

section
/-! PROOFS. Who reaches an address (chapter 14): the regions of the DRAM and their keys, and the refusal of any other key. -/
namespace Sys2Proof.Machine

/-! ### Regions and keys (Table 14.1, R459, R460) -/

theorem mem_slots_of_region {slot : Nat} {r : Nat × Nat} (region : regionOf slot = some r) : slot ∈ [1, 2, 3, 4, 5, 6] := by
  unfold regionOf at region
  split at region
  case h_7 => cases region
  all_goals decide
/-- Every region ends below the metadata area. -/
theorem region_bounds {slot : Nat} {r : Nat × Nat} (region : regionOf slot = some r) : r.1 + r.2 ≤ 0x3F0000000 := by
  unfold regionOf at region
  split at region <;> cases region <;> omega
/-- No address lies in two regions. -/
theorem region_unique {i j addr : Nat} {r q : Nat × Nat} (hi : regionOf i = some r) (hj : regionOf j = some q)
    (inI : r.1 ≤ addr ∧ addr < r.1 + r.2) (inJ : q.1 ≤ addr ∧ addr < q.1 + q.2) : i = j := by
  unfold regionOf at hi hj
  split at hi <;> cases hi <;> split at hj <;> cases hj <;> omega
/-- The slot at an address is the one whose region holds it. -/
theorem slotAt_eq_some {slot addr : Nat} :
    slotAt addr = some slot ↔ ∃ r, regionOf slot = some r ∧ r.1 ≤ addr ∧ addr < r.1 + r.2 := by
  have holds : ∀ {i}, slotAt addr = some i → ∃ r, regionOf i = some r ∧ r.1 ≤ addr ∧ addr < r.1 + r.2 := fun {i} h => by
    have inside := List.find?_some h
    cases region : regionOf i <;> simp_all
  refine ⟨holds, fun ⟨r, region, inside⟩ => ?_⟩
  have found : (slotAt addr).isSome = true :=
    List.find?_isSome.2 ⟨slot, mem_slots_of_region region, by simpa [region] using inside⟩
  obtain ⟨i, hi⟩ := Option.isSome_iff_exists.1 found
  obtain ⟨q, other, within⟩ := holds hi
  rw [hi, region_unique other region within inside]
theorem isMeta_eq_true {addr : Nat} : isMeta addr = true ↔ 0x3F0000000 ≤ addr ∧ addr < 0x400000000 := by simp [isMeta]
/-- The key of a region reaches every address of it. -/
theorem keyFor_of_region {slot addr : Nat} {r : Nat × Nat} (region : regionOf slot = some r) (low : r.1 ≤ addr)
    (high : addr < r.1 + r.2) : keyFor addr = some slot := by
  have := region_bounds region
  rw [keyFor, if_neg (by rw [isMeta_eq_true]; omega), slotAt_eq_some.2 ⟨r, region, low, high⟩]
  rfl
/-- No key reaches the metadata area. -/
theorem keyFor_meta {addr : Nat} (low : 0x3F0000000 ≤ addr) (high : addr < 0x400000000) : keyFor addr = none :=
  if_pos (isMeta_eq_true.2 ⟨low, high⟩)
/-- The key that reaches an address is its region's, or 0 where it lies in none. -/
theorem slotAt_of_keyFor {key addr : Nat} (h : keyFor addr = some key) : slotAt addr = some key ∨ slotAt addr = none ∧ key = 0 := by
  unfold keyFor at h
  split at h
  · cases h
  · cases e : slotAt addr <;> simp_all
theorem keyFor_le {key addr : Nat} (h : keyFor addr = some key) : key ≤ 6 := by
  obtain slot | ⟨-, rfl⟩ := slotAt_of_keyFor h
  · obtain ⟨r, region, -⟩ := slotAt_eq_some.1 slot
    have := mem_slots_of_region region
    simp only [List.mem_cons, List.not_mem_nil, or_false] at this
    omega
  · omega

/-! ### A wrong key (R460) -/

section
variable {key addr : Nat} {s : State} (awake : s.awake = true) (wrong : keyFor addr ≠ some key)
include awake wrong

theorem wrongKeyAccess_refused (who : Nat) : wrongKeyAccess who key addr s = s.wrongKey (some who) key addr :=
  if_pos (by simp [awake, wrong])
theorem sealWriteCmd_wrongKey (who : Nat) (data : List Byte) (altered : Bool) :
    sealWriteCmd who key addr data altered s = s.wrongKey (some who) key addr :=
  (if_neg (by simp [awake])).trans (if_pos (by simp [wrong]))
theorem sealReadCmd_wrongKey (who len : Nat) (altered : Option (List Byte)) :
    sealReadCmd who key addr len altered s = s.wrongKey (some who) key addr :=
  (if_neg (by simp [awake])).trans (if_pos (by simp [wrong]))
theorem sealReadBy_wrongKey (who len : Nat) (altered : Option (List Byte)) :
    sealReadBy who key addr len altered s = s.wrongKey (some who) key addr :=
  (if_neg (by simp [wrong])).trans (sealReadCmd_wrongKey awake wrong who len altered)
/-- A GROUT access is the Keystone's own, whose requester's number is a free value. -/
theorem groutAccess_wrongKey (wr : Option (List Byte)) (len : Nat) :
    groutAccess key addr wr len s = s.wrongKey none key addr :=
  (if_neg (by simp [awake])).trans (if_pos (by simp [wrong]))

end

/-- Settles O52: every access asks first whether its key reaches the address. -/
theorem aWrongKeyIsRefused : Obligations.AWrongKeyIsRefused := by
  refine ⟨fun who key addr s t powered wrong ht => ?named, fun key addr len wr s powered wrong => ?grout,
    fun slot addr r => keyFor_of_region, fun key addr => keyFor_le, fun key addr low high => ?meta_, by decide⟩
  case named =>
    subst ht
    have awake := s.awake_iff.2 powered
    refine ⟨fun len altered => ?_, fun data altered => ?_, ?_⟩
    · rw [exec_sealRead, sealReadBy_wrongKey awake wrong]
      rfl
    · rw [exec_sealWrite, sealWriteCmd_wrongKey awake wrong]
      rfl
    · rw [exec_wrongKeyAccess, wrongKeyAccess_refused awake wrong]
      rfl
  case grout =>
    refine ⟨s.requester none, s.wrongKey none key addr, ?_, rfl, rfl, rfl, rfl⟩
    rw [exec_groutAccess, groutAccess_wrongKey (s.awake_iff.2 powered) wrong]
  case meta_ => simp [keyFor_meta low high]

end Sys2Proof.Machine
end

section
/-! PROOFS. The key store (chapter 14, R481 and R486). -/
namespace Sys2Proof.Machine

@[simp] theorem State.finish_mp (s : State) (p : PendOp → Bool) (o : Out) : (s.finish p o).mp = s.mp := (s.finish_parts p o).1
/-- Which copy is in force lies in memory protection alone. -/
theorem State.ulk_of_mp {s t : State} (h : t.mp = s.mp) : t.ulk = s.ulk := by
  rw [State.ulk, State.storeBNewer, h]
  rfl
theorem State.ulk_of_newer {s : State} (newer : s.storeBNewer = true) : s.ulk = s.mp.storeB.ulk := if_pos newer
theorem State.ulk_of_older {s : State} (older : s.storeBNewer = false) :
    s.ulk = if s.mp.storeA.valid then s.mp.storeA.ulk else [] := if_neg (by simp [older])

section
variable {s : State} {login : Nat} {key : List Byte}

/-- A failed write of copy A, the older, leaves copy B in force. -/
theorem State.ulk_failedA (newer : s.storeBNewer = true) (g : U32) :
    State.ulk { s with mp.storeBusy := none, mp.storeA := { valid := false, generation := g, ulk := key } } = s.ulk := by
  rw [State.ulk_of_newer newer]
  refine State.ulk_of_newer ?_
  have valid : s.mp.storeB.valid = true := (Bool.and_eq_true_iff.1 newer).1
  simp [State.storeBNewer, valid]
/-- A failed write of copy B leaves what copy A gives. -/
theorem State.ulk_failedB (older : s.storeBNewer = false) (g : U32) :
    State.ulk { s with mp.storeBusy := none, mp.storeB := { valid := false, generation := g, ulk := key } } = s.ulk := by
  rw [State.ulk_of_older older]
  exact State.ulk_of_older rfl

section
variable (busy : s.mp.storeBusy = some (login, key))
include busy

/-- A write goes to the older copy, and a failed one leaves that copy invalid (R486). -/
theorem keyStoreWriteComplete_fails : keyStoreWriteComplete false s = State.finish
    (if s.storeBNewer then
      { s with mp.storeBusy := none, mp.storeA := { valid := false, generation := s.mp.storeB.generation + 1, ulk := key } }
    else { s with mp.storeBusy := none, mp.storeB := { valid := false, generation := s.mp.storeA.generation + 1, ulk := key } })
      (· == PendOp.sealLedger) (.err 601 "") := by
  have same : State.storeBNewer { s with mp.storeBusy := none } = s.storeBNewer := rfl
  simp only [keyStoreWriteComplete, busy, same, Bool.false_eq_true, if_false]
  cases s.storeBNewer <;> rfl
/-- With copy A in force copy B takes the new key (R481). -/
theorem keyStoreWriteComplete_writesB {u : State} (older : s.storeBNewer = false)
    (hu : u = { s with mp.storeBusy := none, mp.storeB := { valid := true, generation := s.mp.storeA.generation + 1, ulk := key } }) :
    keyStoreWriteComplete true s =
      (u.event 0x8051 0 0 (leNat (sliceB (keyidOf key) 0 4)) (leNat (sliceB (keyidOf key) 4 4)) 0 login).finish
        (· == PendOp.sealLedger) (.ok ("keyid " ++ hexOf (keyidOf key))) := by
  subst hu
  have same : State.storeBNewer { s with mp.storeBusy := none } = false := older
  simp only [keyStoreWriteComplete, busy, same, older, Bool.false_eq_true, if_false, if_true]

end

end

/-- Settles O53: the write that fails is the older copy's, so the copy in force is left. -/
theorem aFailedKeyStoreWrite : Obligations.AFailedKeyStoreWrite := by
  rintro s _ login key busy rfl
  rw [exec_keyStoreWriteComplete, keyStoreWriteComplete_fails busy]
  refine ⟨rfl, (State.ulk_of_mp (State.finish_mp _ _ _)).trans ?_, fun newer => ?_, fun older => ?_⟩
  · cases which : s.storeBNewer
    · exact State.ulk_failedB which _
    · exact State.ulk_failedA which _
  · rw [State.finish_mp, if_pos newer]
  · rw [State.finish_mp, if_neg (by simp [older])]

end Sys2Proof.Machine
end

section
/-! PROOFS. Accesses to protected memory (chapter 14): what is written reads back, and a poisoned line gives no byte. -/
namespace Sys2Proof.Machine

/-! ### Places in a region -/

theorem lineAddr_eq (slot line : Nat) : lineAddr slot line = lineAddr slot 0 + 64 * line := by simp [lineAddr]
/-- The bytes of an access that lies within a line are its one piece. -/
theorem piecesOf_within (line : Nat) {off : Nat} {data : List Byte} (nonempty : 0 < data.length) (within : off + data.length ≤ 64) :
    piecesOf (64 * line + off) data = [{ line := line, off := off, data := data }] := by
  have count : ((64 * line + off) % 64 + data.length + 63) / 64 = 1 := by omega
  have place : (64 * line + off) / 64 = line := by omega
  have stop : min (64 * line + off + data.length) (64 * (line + 1)) = 64 * line + off + data.length := by omega
  have whole : sliceB data 0 data.length = data := by simp [sliceB, padTo]
  rw [piecesOf, count]
  simp [List.range_succ, place, stop, whole]
/-- The line of an access that lies within one. -/
theorem linesIn_within (line : Nat) {off len : Nat} (nonempty : 0 < len) (within : off + len ≤ 64) :
    linesIn (64 * line + off) len = [line] := by
  have count : ((64 * line + off) % 64 + len + 63) / 64 = 1 := by omega
  have place : (64 * line + off) / 64 = line := by omega
  rw [linesIn, count]
  simp [List.range_succ, place]

/-! ### The accesses by address (R460, R462, R465, R466) -/

section
variable {who key addr len : Nat} {data : List Byte} {altered : Bool} {s : State} (awake : s.awake = true)
  (reaches : keyFor addr = some key)
include awake reaches

theorem sealReadCmd_seal (inside : pastEnd addr len = false) (keyed : isSeal key = true) (altered : Option (List Byte)) :
    sealReadCmd who key addr len altered s =
      State.answerRead (s.sealRead key (addr - lineAddr key 0) len (some who) altered.isSome) := by
  simp [sealReadCmd, awake, reaches, inside, keyed]
theorem sealReadCmd_plain (inside : pastEnd addr len = false) (plain : isSeal key = false) :
    sealReadCmd who key addr len none s = { s with mp.busError := none, mp.readData := readCells s.mp.dram addr len } := by
  simp [sealReadCmd, awake, reaches, inside, plain]
/-- A bus error of STAGING makes its reader recover (R477). -/
theorem sealReadBy_reaches {u : State} {altered : Option (List Byte)} (hu : u = sealReadCmd who key addr len altered s) :
    sealReadBy who key addr len altered s = if key = 1 ∧ u.mp.busError ≠ none then u.stagingError who else u := by
  subst hu
  simp only [sealReadBy, awake, reaches, beq_self_eq_true, Bool.true_and, Bool.and_true, Bool.and_eq_true, decide_eq_true_eq,
    Option.isSome_iff_ne_none]
theorem sealReadBy_plain (inside : pastEnd addr len = false) (plain : isSeal key = false) :
    sealReadBy who key addr len none s = { s with mp.busError := none, mp.readData := readCells s.mp.dram addr len } := by
  rw [sealReadBy_reaches awake reaches (sealReadCmd_plain awake reaches inside plain).symm]
  exact if_neg fun h => h.2 rfl
theorem sealWriteCmd_seal {t : State} {e : Option BusError} (inside : pastEnd addr data.length = false) (keyed : isSeal key = true)
    (w : s.sealWrite key (addr - lineAddr key 0) data (some who) (who = 0 && key = 3) altered = (t, e)) :
    sealWriteCmd who key addr data altered s = t.busAnswer e := by
  simp [sealWriteCmd, awake, reaches, inside, keyed, w]
theorem sealWriteCmd_plain (inside : pastEnd addr data.length = false) (plain : isSeal key = false) :
    sealWriteCmd who key addr data altered s = (s.writeDram addr data).busAnswer none := by
  simp [sealWriteCmd, awake, reaches, inside, plain]

end

/-! ### A whole line (R462, R463) -/

section
variable {slot line : Nat} {s : State}

/-- The gate of a region lies in its key slot and in the engine. -/
theorem State.sealGate_of_parts {t : State} (slots : t.mp.slots = s.mp.slots) (engine : t.mp.engineFailed = s.mp.engineFailed) :
    t.sealGate slot = s.sealGate slot := by
  rw [State.sealGate, State.slot, slots, engine]
  rfl
/-- A write of a whole line stores its bytes and advances its counter, where that has room. -/
theorem State.sealWrite_line {data : List Byte} {who : Option Nat} {own altered : Bool} (whole : data.length = 64)
    (gate : s.sealGate slot = none) (room : (s.lineMeta slot line).ctr ≠ ctrMax) :
    s.sealWrite slot (64 * line) data who own altered =
      (((s.touch slot line).writeDram (lineAddr slot line) data).advance slot line false, none) := by
  have touched := State.lineMeta_of_lines (s.touch_parts slot line).1 slot line
  have put : (s.touch slot line).putLine slot line 0 data =
      ((s.touch slot line).writeDram (lineAddr slot line) data).advance slot line false :=
    if_neg (by rw [touched]; exact room)
  simp only [State.sealWrite, gate, piecesOf_line line whole, State.writePieces, State.writePiece, whole, put, if_true]
  rfl
/-- A read of a whole sound line returns its bytes. -/
theorem State.sealRead_line {who : Option Nat} (gate : s.sealGate slot = none) (sound : (s.lineMeta slot line).poison = false) :
    s.sealRead slot (64 * line) 64 who false = (s.touch slot line, .ok (readCells s.mp.dram (lineAddr slot line) 64)) := by
  obtain ⟨lines, dram, -⟩ := s.touch_parts slot line
  simp only [State.sealRead, gate, linesIn_line, State.checkLines, State.lineMeta_of_lines lines, sound, dram, Bool.false_eq_true,
    if_false]
  rfl
/-- What a write of a whole line leaves: the bytes, the line's counter and its soundness, the gate and the unit. -/
theorem State.wholeLine_parts {t : State} {data : List Byte}
    (ht : t = ((s.touch slot line).writeDram (lineAddr slot line) data).advance slot line false) :
    t.lineMeta slot line = { slot := slot, line := line, ctr := (s.lineMeta slot line).ctr + 1, poison := false } ∧
      t.mp.dram = writeCells s.mp.dram (lineAddr slot line) data ∧ t.sealGate slot = s.sealGate slot ∧ t.ctl = s.ctl := by
  subst ht
  obtain ⟨lines, dram, slots, engine, ctl⟩ := s.touch_parts slot line
  obtain ⟨line', dram', slots', engine', ctl'⟩ :=
    ((s.touch slot line).writeDram (lineAddr slot line) data).advance_parts slot line false
  refine ⟨?_, ?_, State.sealGate_of_parts (slots'.trans slots) (engine'.trans engine), ctl'.trans ctl⟩
  · rw [line', State.lineMeta_of_lines (s := s) (t := (s.touch slot line).writeDram _ data) lines]
  · rw [dram', State.writeDram, dram]

end

/-- A plain write and read of the same range (R465). -/
theorem plain_reads_back {who key addr : Nat} {data : List Byte} {s : State} (inv : s.Inv) (awake : s.awake = true)
    (reaches : keyFor addr = some key) (plain : isSeal key = false) (inside : pastEnd addr data.length = false) :
    ∃ t u, exec (.sealWrite who key addr data false) s = .next t ∧ t.mp.busError = none ∧
      (∀ a, a < addr ∨ addr + data.length ≤ a → cellAt t.mp.dram a = cellAt s.mp.dram a) ∧
      exec (.sealRead who key addr data.length none) t = .next u ∧ u.mp.busError = none ∧ u.mp.readData = data := by
  have read := sealReadBy_plain (who := who) (s := (s.writeDram addr data).busAnswer none) awake reaches inside plain
  refine ⟨(s.writeDram addr data).busAnswer none, _, ?_, rfl, fun a out => cellAt_writeCells_outside data addr inv out,
    (exec_sealRead _ _ _ _ _ _).trans (congrArg _ read), rfl, readCells_writeCells data addr inv⟩
  rw [exec_sealWrite, sealWriteCmd_plain awake reaches inside plain]
/-- A write and a read of one whole sound line (R462, R463). -/
theorem line_reads_back {who key line : Nat} {data : List Byte} {s : State} (inv : s.Inv) (awake : s.awake = true)
    (reaches : keyFor (lineAddr key line) = some key) (keyed : isSeal key = true) (inside : pastEnd (lineAddr key line) 64 = false)
    (whole : data.length = 64) (gate : s.sealGate key = none) (room : (s.lineMeta key line).ctr ≠ ctrMax) :
    ∃ t u, exec (.sealWrite who key (lineAddr key line) data false) s = .next t ∧ t.mp.busError = none ∧
      (∀ a, a < lineAddr key line ∨ lineAddr key line + 64 ≤ a → cellAt t.mp.dram a = cellAt s.mp.dram a) ∧
      (t.lineMeta key line).ctr = (s.lineMeta key line).ctr + 1 ∧ (t.lineMeta key line).poison = false ∧
      exec (.sealRead who key (lineAddr key line) 64 none) t = .next u ∧ u.mp.busError = none ∧ u.mp.readData = data := by
  have place : lineAddr key line - lineAddr key 0 = 64 * line := by rw [lineAddr_eq]; omega
  obtain ⟨t, ht⟩ : ∃ t, t = ((s.touch key line).writeDram (lineAddr key line) data).advance key line false := ⟨_, rfl⟩
  obtain ⟨written, dram, open_, ctl⟩ := State.wholeLine_parts ht
  have wake : (t.busAnswer none).awake = true := (congrArg (fun c : UnitCtl => c.state != .dark) ctl).trans awake
  have command : sealReadCmd who key (lineAddr key line) 64 none (t.busAnswer none) =
      State.answerRead ((t.busAnswer none).touch key line, .ok (readCells t.mp.dram (lineAddr key line) 64)) := by
    rw [sealReadCmd_seal wake reaches inside keyed, place]
    exact congrArg _ (State.sealRead_line (open_.trans gate) (congrArg LineMeta.poison written))
  have read := (sealReadBy_reaches (who := who) wake reaches command.symm).trans (if_neg fun h => h.2 rfl)
  refine ⟨t.busAnswer none, _, ?write, rfl, fun a out => ?others, congrArg LineMeta.ctr written, congrArg LineMeta.poison written,
    (exec_sealRead _ _ _ _ _ _).trans (congrArg _ read), rfl, ?back⟩
  case write =>
    have store := State.sealWrite_line (who := some who) (own := who = 0 && key = 3) (altered := false) whole gate room
    rw [exec_sealWrite, sealWriteCmd_seal awake reaches (whole ▸ inside) keyed (place ▸ store), ← ht]
  case others =>
    rw [← whole] at out
    exact (congrArg (cellAt · a) dram).trans (cellAt_writeCells_outside data _ inv out)
  case back =>
    have back := readCells_writeCells data (lineAddr key line) inv
    rwa [whole, ← dram] at back

/-- Settles O56: plain bytes by the laws of byte memory, a line by what its write leaves of its metadata. -/
theorem writtenBytesReadBack : Obligations.WrittenBytesReadBack := by
  refine ⟨fun who key addr data s inv powered reaches plain inside => ?_,
    fun who key addr line data s inv powered reaches keyed place inside whole gate room => ?_⟩
  · exact plain_reads_back inv (s.awake_iff.2 powered) reaches plain inside
  · subst place
    exact line_reads_back inv (s.awake_iff.2 powered) reaches keyed inside whole gate room

end Sys2Proof.Machine
end

section
/-! PROOFS. What is refused or recorded about protected memory (chapter 14): poisoned lines, ECC, held writes, unsealed paths, JTAG,
the lid and the engine. -/
namespace Sys2Proof.Machine

/-! ### Poisoned lines (R475, R477, R478) -/

section
variable {slot line off : Nat} {s : State} (gate : s.sealGate slot = none) (poisoned : (s.lineMeta slot line).poison = true)
include gate poisoned

/-- A read within a poisoned line answers a bus error, whatever the DRAM returns. -/
theorem State.sealRead_poisoned {len : Nat} {who : Option Nat} {altered : Bool} (nonempty : 0 < len) (within : off + len ≤ 64) :
    s.sealRead slot (64 * line + off) len who altered = (s.touch slot line, .error .poison) := by
  have touched := State.lineMeta_of_lines (s.touch_parts slot line).1 slot line
  simp only [State.sealRead, gate, linesIn_within line nonempty within, State.checkLines, touched, poisoned, if_true]
/-- A partial write to a poisoned line is refused but for the Keystone's own writer. -/
theorem State.sealWrite_poisoned {data : List Byte} {who : Option Nat} {altered : Bool} (nonempty : 0 < data.length)
    (part : data.length < 64) (within : off + data.length ≤ 64) :
    s.sealWrite slot (64 * line + off) data who false altered = ((s.touch slot line).countPartial, some .poison) := by
  have touched : ((s.touch slot line).countPartial.lineMeta slot line).poison = true := by
    rw [State.lineMeta_of_lines (s := s) (t := (s.touch slot line).countPartial) (s.touch_parts slot line).1, poisoned]
  simp only [State.sealWrite, gate, piecesOf_within line nonempty within, State.writePieces, State.writePiece, if_neg part.ne,
    touched, Bool.not_true, Bool.and_false, if_true, Bool.false_eq_true, if_false]
  rfl

end

/-- What a reader of STAGING does on a bus error stays in the ledger. -/
theorem State.stagingError_mp (s : State) (who : Nat) : (s.stagingError who).mp = s.mp := by
  unfold State.stagingError
  split
  · rfl
  · split
    · split
      · unfold State.redoAshlar
        split <;> rfl
      · rfl
    · rfl
/-- Only the ledger writer records an event on a bus error of STAGING (Table 14.7). -/
theorem State.stagingError_raised {who : Nat} (other : who ≠ 2) (s : State) : (s.stagingError who).raised = s.raised := by
  unfold State.stagingError
  rw [if_neg other]
  split <;> rfl
theorem State.touch_raised (s : State) (slot line : Nat) : (s.touch slot line).raised = s.raised := by
  unfold State.touch
  dsimp only
  split <;> rfl

section
variable {who key line off : Nat} {s : State} (awake : s.awake = true)
  (reaches : keyFor (lineAddr key line + off) = some key) (keyed : isSeal key = true) (gate : s.sealGate key = none)
  (poisoned : (s.lineMeta key line).poison = true)
include awake reaches keyed gate poisoned

theorem sealRead_poisoned {len : Nat} {altered : Option (List Byte)} (nonempty : 0 < len) (within : off + len ≤ 64)
    (inside : pastEnd (lineAddr key line + off) len = false) :
    ∃ t, exec (.sealRead who key (lineAddr key line + off) len altered) s = .next t ∧ t.mp.busError = some .poison ∧
      t.mp.readData = [] ∧ t.mp.dram = s.mp.dram ∧ t.mp.lines = s.mp.lines ∧ t.mp.slots = s.mp.slots ∧
      (¬ (who = 2 ∧ key = 1) → t.raised = s.raised) := by
  have place : lineAddr key line + off - lineAddr key 0 = 64 * line + off := by rw [lineAddr_eq key line]; omega
  obtain ⟨lines, dram, slots, -⟩ := s.touch_parts key line
  have command : sealReadCmd who key (lineAddr key line + off) len altered s =
      State.answerRead (s.touch key line, .error .poison) := by
    rw [sealReadCmd_seal awake reaches inside keyed, place, State.sealRead_poisoned gate poisoned nonempty within]
  rw [exec_sealRead, sealReadBy_reaches awake reaches command.symm]
  refine ⟨_, rfl, ?_⟩
  split
  · next staging =>
    simp only [State.stagingError_mp]
    refine ⟨rfl, rfl, dram, lines, slots, fun other => ?_⟩
    exact (State.stagingError_raised (fun writer => other ⟨writer, staging.1⟩) _).trans (s.touch_raised key line)
  · exact ⟨rfl, rfl, dram, lines, slots, fun _ => s.touch_raised key line⟩
theorem sealWrite_poisoned {data : List Byte} {altered : Bool} (nonempty : 0 < data.length) (part : data.length < 64)
    (within : off + data.length ≤ 64) (inside : pastEnd (lineAddr key line + off) data.length = false)
    (other : ¬ (who = 0 ∧ key = 3)) :
    ∃ t, exec (.sealWrite who key (lineAddr key line + off) data altered) s = .next t ∧ t.mp.busError = some .poison ∧
      t.mp.dram = s.mp.dram ∧ t.mp.lines = s.mp.lines ∧ t.mp.slots = s.mp.slots ∧ t.raised = s.raised := by
  have place : lineAddr key line + off - lineAddr key 0 = 64 * line + off := by rw [lineAddr_eq key line]; omega
  have foreign : (decide (who = 0) && decide (key = 3)) = false := by simpa using other
  obtain ⟨lines, dram, slots, -⟩ := s.touch_parts key line
  refine ⟨(s.touch key line).countPartial.busAnswer (some .poison), ?_, rfl, dram, lines, slots, s.touch_raised key line⟩
  rw [exec_sealWrite, sealWriteCmd_seal awake reaches inside keyed]
  rw [place, foreign, State.sealWrite_poisoned gate poisoned nonempty part within]

end

/-- Settles O57: the check of the one line stops the access before it reads, writes or records. -/
theorem aPoisonedLineAnswersNoByte : Obligations.APoisonedLineAnswersNoByte := by
  rintro who key _ line off s powered reaches keyed rfl gate poisoned
  have awake := s.awake_iff.2 powered
  exact ⟨fun len altered nonempty within inside => sealRead_poisoned awake reaches keyed gate poisoned nonempty within inside,
    fun data altered nonempty part within inside other =>
      sealWrite_poisoned awake reaches keyed gate poisoned nonempty part within inside other⟩

/-! ### GROUT (R465 to R467) -/

section
variable {key addr : Nat} {s : State} (awake : s.awake = true) (reaches : keyFor addr = some key) (grout : isGrout key = true)
include awake reaches grout

theorem groutAccess_writes {data : List Byte} (inside : pastEnd addr data.length = false) (n : Nat) :
    groutAccess key addr (some data) n s = (s.writeDram addr data).busAnswer none := by
  simp [groutAccess, awake, reaches, grout, inside]
theorem groutAccess_reads {n : Nat} (inside : pastEnd addr n = false) :
    groutAccess key addr none n s = { s with mp.busError := none, mp.readData := readCells s.mp.dram addr n } := by
  simp [groutAccess, awake, reaches, grout, inside]

end

/-! ### ECC, held writes and unsealed paths (R479, R482, R485) -/

section
variable {addr : Nat} {s : State} (awake : s.awake = true)
include awake

/-- In a SEAL region an uncorrectable error poisons the line (R479). -/
theorem eccUncorrectable_line {who slot line : Nat} {u : State} (at_ : slotAt addr = some slot) (keyed : isSeal slot = true)
    (hline : line = (addr - lineAddr slot 0) / 64) (hu : u = s.poisonLine slot line) :
    eccUncorrectable who addr s = State.event { u with mp.busError := some .poison } 0x8012 0x0C slot line who := by
  subst hline hu
  simp [eccUncorrectable, awake, at_, keyed]
/-- In the metadata area it poisons the four lines that the metadata line is of (R479). -/
theorem eccUncorrectable_meta {who slot line : Nat} (out : slotAt addr = none) (owner : metaOwner addr = some (slot, line)) :
    eccUncorrectable who addr s = (((s.poisonLine slot (line / 4 * 4)).poisonLine slot (line / 4 * 4 + 1)).poisonLine slot
      (line / 4 * 4 + 2)).poisonLine slot (line / 4 * 4 + 3) := by
  simp [eccUncorrectable, awake, out, owner]
theorem eccUncorrectable_plain {who : Nat} (out : slotAt addr = none) (unowned : metaOwner addr = none) :
    eccUncorrectable who addr s = s.enterFault 3 := by
  simp [eccUncorrectable, awake, out, unowned]
theorem heldWriteTimeout_refuses {u : State} {late : List Held} (nonempty : late ≠ [])
    (hlate : late = s.mp.heldWrites.filter fun h => s.mp.running != some h.slot && msT 10 ≤ ticksFrom h.at_ s.now)
    (hu : u = { s with mp.heldWrites := s.mp.heldWrites.filter (fun h => !late.contains h), mp.busError := some .held }) :
    heldWriteTimeout s = late.foldl (fun (s : State) h => s.event 0x8071 0x0C h.slot h.line) u := by
  subst hu
  unfold heldWriteTimeout
  extract_lets l
  have e : l = late := hlate.symm
  rw [e, if_neg (by simp [nonempty, awake])]

section
variable {engine : Nat} {wr : Bool} {u : State} (sealed : slotAt addr ≠ none ∨ isMeta addr = true)
  (hu : u = (if wr then s else { s with mp.readData := List.replicate 64 0 }))
include sealed hu

/-- An unsealed path gets zeros; the first time of each engine is recorded (R482). -/
theorem debugAccessBlocked_blocks : debugAccessBlocked engine addr wr s =
    if s.mp.blocked.contains engine then u else State.event { u with mp.blocked := engine :: s.mp.blocked } 0x8060 0 0 engine := by
  have guard : ¬(!s.awake || !((slotAt addr).isSome || isMeta addr)) = true := by
    simpa [awake, Option.isSome_iff_ne_none, or_iff_not_imp_left] using sealed
  have blocked : u.mp.blocked = s.mp.blocked := by
    subst hu
    split <;> rfl
  simp only [debugAccessBlocked, if_neg guard, ← hu, blocked]

end

/-! ### JTAG, the lid and the engine (R483, R484, R487) -/

theorem jtagInstruction_judges (ir : JtagIr) :
    jtagInstruction ir s = { s with mp.jtagLast := some (ir != .other || s.on 0xC32) } := if_pos awake
theorem lidSwitch_opens (closed : s.mp.lidOpen = false) : lidSwitch true s =
    State.event { s with mp.lidOpen := true, mp.lidCount := s.mp.lidCount + 1 } 0x8030 0 0 (s.mp.lidCount + 1).toNat := by
  simp [lidSwitch, awake, closed]
theorem lidSwitch_closes (opened : s.mp.lidOpen = true) :
    lidSwitch false s = State.event { s with mp.lidOpen := false } 0x8031 0 0 := by
  simp [lidSwitch, awake, opened]
theorem sealEngineFail_fails (works : s.mp.engineFailed = false) :
    sealEngineFail s = (State.event { s with mp.engineFailed := true } 0x8072 0 0).enterFault 6 :=
  if_neg (by simp [awake, works])

end

/-- A switch that reads as it did changes nothing. -/
theorem lidSwitch_same (s : State) : lidSwitch s.mp.lidOpen s = s := if_pos (by simp)
theorem lidSwitch_dark (b : Bool) {s : State} (dark : s.ctl.state = .dark) : lidSwitch b s = s :=
  if_pos (by simp [State.awake, dark])

/-- Settles O51: the lid switch outside DARK where it has moved, where it has not, and in DARK. -/
theorem theLidIsRecorded : Obligations.TheLidIsRecorded := by
  refine ⟨fun s powered closed => ⟨?opens, ?shut⟩, fun s powered opened => ⟨?closes, ?open_⟩, fun b s dark => ?dark, by decide, by decide⟩
  case opens =>
    rw [exec_lidSwitch, lidSwitch_opens (s.awake_iff.2 powered) closed]
    simp only [State.event, State.raise, BitVec.ofNat_toNat, BitVec.setWidth_eq]
    rfl
  case shut => rw [exec_lidSwitch, ← closed, lidSwitch_same]
  case closes =>
    rw [exec_lidSwitch, lidSwitch_closes (s.awake_iff.2 powered) opened]
    rfl
  case open_ => rw [exec_lidSwitch, ← opened, lidSwitch_same]
  case dark => rw [exec_lidSwitch, lidSwitch_dark b dark]

/-- Settles O39, by the equation of each access and of each fault of protected memory. -/
theorem sealAccessesComplete : Obligations.SealAccessesComplete := by
  refine ⟨fun who key addr len s awake reaches inside => ⟨?read, fun plain => ?plainRead⟩,
    fun who key addr data altered s awake reaches inside => ⟨fun t e keyed w => ?write, fun plain => ?plainWrite⟩,
    fun key addr s awake reaches grout => ⟨fun data n inside => ?groutWrite, fun n inside => ?groutRead⟩,
    fun who key addr s awake wrong => ?wrong,
    fun who addr s awake => ⟨fun slot line u at_ keyed hline hu => ?line, fun slot line out owner => ?meta_, fun out unowned => ?plain⟩,
    fun s u late awake nonempty hlate hu => ?held, fun engine addr wr s u awake sealed hu => ⟨fun known => ?known, fun new => ?new⟩,
    fun s awake => ⟨fun ir => ?jtag, fun closed => ?opens, fun opened => ?closes, fun works => ?engine⟩⟩
  case read =>
    rintro keyed altered u rfl
    rw [exec_sealRead, sealReadBy_reaches awake reaches (sealReadCmd_seal awake reaches inside keyed altered).symm]
  case plainRead => rw [exec_sealRead, sealReadBy_plain awake reaches inside plain]
  case write => rw [exec_sealWrite, sealWriteCmd_seal awake reaches inside keyed w]
  case plainWrite => rw [exec_sealWrite, sealWriteCmd_plain awake reaches inside plain]
  case groutWrite => rw [exec_groutAccess, groutAccess_writes awake reaches grout inside]
  case groutRead => rw [exec_groutAccess, groutAccess_reads awake reaches grout inside]
  case wrong =>
    rw [exec_wrongKeyAccess, wrongKeyAccess_refused awake wrong]
    rfl
  case line => rw [exec_eccUncorrectable, eccUncorrectable_line awake at_ keyed hline hu]
  case meta_ => rw [exec_eccUncorrectable, eccUncorrectable_meta awake out owner]
  case plain => rw [exec_eccUncorrectable, eccUncorrectable_plain awake out unowned]
  case held => rw [exec_heldWriteTimeout, heldWriteTimeout_refuses awake nonempty hlate hu]
  case known => rw [exec_debugAccessBlocked, debugAccessBlocked_blocks awake sealed hu, if_pos (by simpa using known)]
  case new => rw [exec_debugAccessBlocked, debugAccessBlocked_blocks awake sealed hu, if_neg (by simpa using new)]
  case jtag => rw [exec_jtagInstruction, jtagInstruction_judges awake]
  case opens => rw [exec_lidSwitch, lidSwitch_opens awake closed]
  case closes => rw [exec_lidSwitch, lidSwitch_closes awake opened]
  case engine => rw [exec_sealEngineFail, sealEngineFail_fails awake works]

end Sys2Proof.Machine
end

section
/-! PROOFS. Keys (chapter 14): the SEAL verbs, the repointer and the unit ledger key. -/
namespace Sys2Proof.Machine

theorem region_of_slot {slot : Nat} (first : 1 ≤ slot) (last : slot ≤ 6) : (regionOf slot).isNone = false := by
  interval_cases slot <;> rfl
/-- A verb that starts an operation from a state that its body has come to. -/
theorem State.verb_starts_from {s t : State} {ln : Ln} {need : Level} {body : State → VerbRes} {op : PendOp} {text : String}
    {f : State → State} (h : s.Runs ln need) (room : t.pendFull ln = false)
    (e : body (s.lineTaken ln) = t.startOp ln op text f) : s.verb ln need body = t.started ln op text f :=
  State.verb_started h (by rw [e, State.startOp, room]; rfl)

/-- A rekey that is being stopped runs. -/
theorem State.rekeyDue_of_stops {s : State} {slot : Nat} (stops : s.rekeyStops slot = true) : s.rekeyDue slot = true := by
  simp only [State.rekeyStops, Bool.and_eq_true] at stops
  simp [State.rekeyDue, stops.1]

/-! ### SEAL REKEY and its forms (R156 to R159, R472, R473) -/

section
variable {ln : Ln} {slot : Nat} {s u : State} (h : s.Runs ln .engineer) (hu : u = s.lineTaken ln)
include h hu

theorem sealRekey_queues (first : 1 ≤ slot) (last : slot ≤ 6) (room : s.pendFull ln = false) : sealRekey ln slot s =
    u.started ln (.sealRekey slot) (if u.rekeyStops slot then "queued" else "repointing " ++ regionName slot) fun v =>
      if v.rekeyJoins slot then v else v.queueRekey { slot := slot } := by
  subst hu
  exact State.verb_starts h (by simpa using room) (if_neg (by simp [region_of_slot first last]))
/-- A CLEAR of STAGING or EXPORT asks for HELD. -/
theorem sealRekeyClear_queues (first : 1 ≤ slot) (serves : slot = 2 ∨ slot = 4 ∨ (slot ≤ 4 ∧ s.ctl.state = .held))
    (room : s.pendFull ln = false) : sealRekeyClear ln slot s =
    u.started ln (.sealClear slot) (if u.rekeyStops slot then "queued" else "repointing " ++ regionName slot) fun v =>
      if (v.mp.running == some slot && v.mp.stopping.isNone && (v.slot slot).clearing) ||
        v.mp.queue.any (fun r => r.slot == slot && r.clear) then v
      else v.queueRekey { slot := slot, clear := true } := by
  subst hu
  have keyed : isSeal slot = true := by
    simp only [isSeal, Bool.and_eq_true, decide_eq_true_eq]
    omega
  refine State.verb_starts h (by simpa using room) ((if_neg (by simp [keyed])).trans (if_neg ?_))
  obtain rfl | rfl | ⟨-, held⟩ := serves
  · simp
  · simp
  · simp [held]

section
variable (first : 1 ≤ slot) (last : slot ≤ 6)
include first last

theorem sealRekeyAbort_aborts (due : u.rekeyDue slot = true) (runs : u.rekeyStops slot = false)
    (early : s.mp.running ≠ some slot ∨ (u.slot slot).boundary + 1 < linesOf slot) :
    sealRekeyAbort ln slot s = (u.abortRekey slot).replied ln (.ok "aborted") := by
  have going : ¬(u.mp.running == some slot && linesOf slot ≤ (u.slot slot).boundary + 1) = true := by
    have same : u.mp.running = s.mp.running := by rw [hu]; rfl
    simpa [same, imp_iff_not_or] using early
  exact State.verb_replied_at h hu <| (if_neg (by simp [region_of_slot first last])).trans <| (if_neg (by simp [due])).trans <|
    (if_neg (by simp [runs])).trans (if_neg going)
/-- While an abort stops the repointer, another cancels a rekey that waits (R156, R157). -/
theorem sealRekeyAbort_cancels (stops : u.rekeyStops slot = true) (waits : u.rekeyWaits slot = true) :
    sealRekeyAbort ln slot s = (u.cancelRekey slot).replied ln (.ok "enable cancelled") :=
  State.verb_replied_at h hu <| (if_neg (by simp [region_of_slot first last])).trans <|
    (if_neg (by simp [State.rekeyDue_of_stops stops])).trans <| (if_pos stops).trans (if_pos waits)
theorem sealRekeyAbort_late (stops : u.rekeyStops slot = true) (alone : u.rekeyWaits slot = false) :
    sealRekeyAbort ln slot s = u.replied ln (.ok "already stopping") :=
  State.verb_replied_at h hu <| (if_neg (by simp [region_of_slot first last])).trans <|
    (if_neg (by simp [State.rekeyDue_of_stops stops])).trans <| (if_pos stops).trans (if_neg (by simp [alone]))
theorem sealRekeyAbort_nothing (idle : u.rekeyDue slot = false) :
    sealRekeyAbort ln slot s = u.replied ln (.err 301 "nothing to abort") :=
  State.verb_replied_at h hu <| (if_neg (by simp [region_of_slot first last])).trans (if_pos (by simp [idle]))

end

end

/-! ### The repointer (R471 to R473, R485) -/

section
variable {s : State}

theorem State.nextRekey_takes {r : RekeyReq} {l : List RekeyReq} (rests : s.mp.running = none) (queued : s.mp.queue = r :: l)
    (works : s.net.rngOk = true) : s.nextRekey = State.takeRekey { s with mp.queue := l } r := by
  simp only [State.nextRekey, rests, queued, works, if_true]

section
variable (awake : s.awake = true)
include awake

theorem rekeyPeriodExpire_queues {slot : Nat} (first : 1 ≤ slot) (last : slot ≤ 6) (timed : 0 < s.num 0xC09 slot)
    (due : secT (3600 * s.num 0xC09 slot) ≤ ticksFrom (s.slot slot).changedAt s.now) (idle : s.rekeyDue slot = false) :
    rekeyPeriodExpire slot s = { s with mp.queue := s.mp.queue ++ [{ slot := slot }] } := by
  have region : (regionOf slot).isSome = true := by simpa using region_of_slot first last
  exact (if_pos (by simp [awake, region, Nat.pos_iff_ne_zero.1 timed, due, idle])).trans rfl
/-- A line moves; past the last the rekey ends, and where an abort waits the repointer stops (R471, R473). -/
theorem repointLine_moves {slot line : Nat} {altered : Bool} {t : State} (runs : s.mp.running = some slot)
    (hline : line = (s.slot slot).boundary) (ht : t = s.moveLine slot line altered) : repointLine altered s =
    if linesOf slot ≤ line + 1 then t.finishRekey slot else if t.mp.stopping.isSome then t.repointerStopped slot else t := by
  subst hline ht
  simp only [repointLine, runs]
  exact if_neg (by simp [awake])

end

end

/-! ### SEAL SHOW and the unit ledger key (R480, R481) -/

section
variable {ln : Ln} {s u : State}

theorem sealShow_all (h : s.Runs ln .view) (hu : u = s.lineTaken ln) : sealShow ln none s =
    u.replied ln (.multi ([1, 2, 3, 4, 5, 6].map u.slotLine ++
      ["cache hits " ++ natText s.mp.hits.toNat ++ " misses " ++ natText s.mp.misses.toNat])) := by
  subst hu
  exact State.verb_replied_at h rfl (if_neg (by simp))

@[simp] theorem State.drew_pendFull (s : State) (ln : Ln) : s.drew.pendFull ln = s.pendFull ln := rfl
/-- With a fresh login, no cartridge and the store at rest the key that `f` answers is written. -/
theorem State.startStore_starts {f : State → State × Option (List Byte)} {code : Nat} {t : State} {key : List Byte}
    (fresh : u.fresh ln = true) (empty : u.led.state = .empty) (free : u.mp.storeBusy = none) (answers : f u = (t, some key)) :
    u.startStore ln f code = t.startOp ln .sealLedger "writing key store" fun w =>
      { w.spendFresh ln with mp.storeBusy := some (w.loginOf ln, key) } := by
  refine (if_pos fresh).trans <| (if_neg (by simp [answers])).trans <| (if_neg (by simp [empty])).trans <|
    (if_neg (by simp [free])).trans ?_
  rw [answers]

section
variable (h : s.Runs ln .engineer) (hu : u = s.lineTaken ln) (fresh : u.fresh ln = true)
include h hu fresh

theorem sealShowLedger_shows {v : State} (exports : u.isSet 0xC40 = true)
    (hv : v = (u.spendFresh ln).event 0x8050 0 0 0 0 0 (u.loginOf ln)) : sealShowLedger ln s =
    v.replied ln (.multi ["keyid " ++ hexOf (keyidOf v.ulk), "wrapped " ++ hexOf (keyWrap (v.key 0xC40) v.ulk)]) := by
  subst hv
  exact State.verb_replied_at h hu ((if_pos fresh).trans (if_neg (by simp [exports])))

section
variable (empty : s.led.state = .empty) (free : s.mp.storeBusy = none) (room : s.pendFull ln = false)
include empty free room

theorem sealRekeyLedger_starts (works : s.net.rngOk = true) : sealRekeyLedger ln s =
    u.drew.started ln .sealLedger "writing key store" fun w =>
      { w.spendFresh ln with mp.storeBusy := some (w.loginOf ln, u.randomBytes 32) } := by
  have draws : (if u.net.rngOk then (u.drew, some (u.randomBytes 32)) else (u, none)) = (u.drew, some (u.randomBytes 32)) :=
    if_pos (by rw [hu]; exact works)
  refine State.verb_starts_from h (by rw [hu]; simpa using room) ?_
  rw [← hu]
  exact State.startStore_starts fresh (by rw [hu]; exact empty) (by rw [hu]; exact free) draws
theorem sealRekeyLedgerImport_starts {wrapped key : List Byte} (exports : u.isSet 0xC40 = true) (whole : wrapped.length = 40)
    (unwraps : keyUnwrap (u.key 0xC40) wrapped = some key) : sealRekeyLedgerImport ln wrapped s =
    u.started ln .sealLedger "writing key store" fun w =>
      { w.spendFresh ln with mp.storeBusy := some (w.loginOf ln, key) } := by
  have answers : (u, if u.isSet 0xC40 && wrapped.length = 40 then keyUnwrap (u.key 0xC40) wrapped else none) = (u, some key) := by
    simp [exports, whole, unwraps]
  refine State.verb_starts_from h (by rw [hu]; simpa using room) ?_
  rw [← hu]
  exact State.startStore_starts fresh (by rw [hu]; exact empty) (by rw [hu]; exact free) answers

end

end

end

/-- Settles O40, by the equation of each verb, of the repointer and of the key store. -/
theorem sealKeysComplete : Obligations.SealKeysComplete := by
  refine ⟨fun ln slot s u h hu first last => ⟨fun room => ?rekey, fun room serves => ?clear, fun due runs early => ?abort,
      fun stops waits => ?cancel, fun stops alone => ?late, fun idle => ?nothing⟩,
    fun r l s awake rests queued works => ?takes, fun slot s awake first last timed due idle => ?period,
    fun slot line altered s t awake runs hline ht => ⟨fun more on => ?moves, fun more stops => ?stops, fun last => ?ends⟩,
    fun ln s u h hu => ?show_, fun ln s u v h hu fresh => ⟨fun exports hv => ?shows, fun empty free room => ⟨fun works => ?draws,
      fun wrapped key exports whole unwraps => ?imports⟩⟩, ?stored⟩
  case rekey => rw [exec_sealRekey, sealRekey_queues h hu first last room]
  case clear => rw [exec_sealRekeyClear, sealRekeyClear_queues h hu first serves room]
  case abort => rw [exec_sealRekeyAbort, sealRekeyAbort_aborts h hu first last due runs early]
  case cancel => rw [exec_sealRekeyAbort, sealRekeyAbort_cancels h hu first last stops waits]
  case late => rw [exec_sealRekeyAbort, sealRekeyAbort_late h hu first last stops alone]
  case nothing => rw [exec_sealRekeyAbort, sealRekeyAbort_nothing h hu first last idle]
  case takes =>
    have next := State.nextRekey_takes rests queued works
    rw [exec_rekeyBegin, exec_rekeyRngRetry, rekeyBegin, rekeyRngRetry, if_pos awake, next]
    exact ⟨rfl, rfl⟩
  case period => rw [exec_rekeyPeriodExpire, rekeyPeriodExpire_queues awake first last timed due idle]
  case moves => rw [exec_repointLine, repointLine_moves awake runs hline ht, if_neg (Nat.not_le.2 more), if_neg (by simp [on])]
  case stops =>
    rw [exec_repointLine, repointLine_moves awake runs hline ht, if_neg (Nat.not_le.2 more),
      if_pos (Option.isSome_iff_ne_none.2 stops)]
  case ends => rw [exec_repointLine, repointLine_moves awake runs hline ht, if_pos last]
  case show_ => rw [exec_sealShow, sealShow_all h hu]
  case shows => rw [exec_sealShowLedger, sealShowLedger_shows h hu fresh exports hv]
  case draws => rw [exec_sealRekeyLedger, sealRekeyLedger_starts h hu fresh empty free room works]
  case imports =>
    rw [exec_sealRekeyLedgerImport, sealRekeyLedgerImport_starts h hu fresh empty free room exports whole unwraps]
  case stored =>
    rintro login key _ s u busy older rfl hu
    rw [exec_keyStoreWriteComplete, keyStoreWriteComplete_writesB busy older hu]

end Sys2Proof.Machine
end

section
/-! PROOFS. The pair and the crown (chapter 15): heartbeats and epochs, taking and yielding the crown, and how the field side judges it. -/
namespace Sys2Proof.Machine

/-! ### Heartbeats and epochs (R492, R493, R495, R497) -/

section
variable {s : State}

section
variable (awake : s.awake = true)
include awake

theorem heartbeatSend_posts {c : Nat} {u : State} (paired : s.paired = true)
    (due : s.now.toNat % 400 = (if s.crown.holds then 0 else 200)) (ready : s.pairConn 0x0C00 = some c)
    (hu : u = { s with crown.beat := s.crown.beat + 1 }) : heartbeatSend s =
    u.postEntry c { op := .write, ticket := true, length := 32, rkey := (s.conn c).remote, data := beatBytes s.ownBeat
                    id := s.crown.beat + 1 } := by
  subst hu
  simp only [heartbeatSend, ready]
  exact if_neg (by simp [awake, paired, due])

section
variable {b : Heartbeat} {u : State} (sound : b.crcOk = true)
  (hu : u = { s with crown.peerBeat := some b, crown.path1 := s.now, crown.heard := true })
include sound hu

theorem heartbeatReceive_holder (holds : s.crown.holds = true) : heartbeatReceive b s =
    { u with crown.peerApplied := b.epoch, crown.baseDue := s.crown.baseDue || (b.rebase && s.crown.baseFrom.isNone) } := by
  subst hu
  exact (if_neg (by simp [awake, sound])).trans (if_pos holds)
theorem heartbeatReceive_standby (bare : s.crown.holds = false) (standby : s.ctl.state = .standby) :
    heartbeatReceive b s = u.followPeer b := by
  subst hu
  exact (if_neg (by simp [awake, sound])).trans <| (if_neg (by simp [bare])).trans (if_pos (by simp [standby]))

end

theorem epochCut_cuts (holds : s.crown.holds = true) (paired : s.paired = true) (due : s.now.toNat % 4000 = 0)
    (free : s.crown.yieldAsked = false) : epochCut s = s.cutEpoch 0 :=
  if_pos (by simp [State.atCut, awake, holds, paired, due, free])
/-- An epoch that is judged sound is applied; only the YIELD epoch hands the crown over (R497, R512). -/
theorem epochApply_applies {e : Epoch} (standby : s.ctl.state = .standby) (ready : s.pairConn 0x0C01 ≠ none)
    (noticed : s.noticed e = true) (sound : (s.noticeTaken e).judgeEpoch e = some true) (kind : e.kind ≠ 2) :
    epochApply e s = (s.noticeTaken e).applyEpoch e := by
  simp only [epochApply, sound]
  exact (if_neg (by simp [awake, standby, ready, noticed])).trans (if_neg (by simp [kind]))

end

/-! ### Taking the crown by silence (R506, R518) -/

section
variable (standby : s.ctl.state = .standby) (silent : s.peerSilent = true) (auto : s.on 0xD03 = true)
  (new : s.crown.silentNoted = false)
include standby silent auto new

/-- What silence on both paths brings about, once for each silence. -/
theorem crownSilenceTakeover_silent (ok : Bool) : crownSilenceTakeover ok s =
    if s.crown.synced == .yes then
      if ok then s.takeOver false else State.crownNotWritten { s with crown.silentNoted := true }
    else State.event { s with crown.silentNoted := true } 0x9031 0x0D 0 0 :=
  if_neg (by simp [standby, silent, auto, new])
theorem crownSilenceTakeover_takes (synced : s.crown.synced = .yes) : crownSilenceTakeover true s = s.takeOver false := by
  rw [crownSilenceTakeover_silent standby silent auto new, if_pos (by simp [synced]), if_pos rfl]
theorem crownSilenceTakeover_unwritten (synced : s.crown.synced = .yes) :
    crownSilenceTakeover false s = State.crownNotWritten { s with crown.silentNoted := true } := by
  rw [crownSilenceTakeover_silent standby silent auto new, if_pos (by simp [synced]), if_neg (by simp)]
theorem crownSilenceTakeover_unsynced (behind : s.crown.synced ≠ .yes) (ok : Bool) :
    crownSilenceTakeover ok s = State.event { s with crown.silentNoted := true } 0x9031 0x0D 0 0 := by
  rw [crownSilenceTakeover_silent standby silent auto new, if_neg (by simp [behind])]

end

/-! ### Yielding (R512, R513) -/

theorem yieldAtCut_yields {u v w : State} (cut : s.atCut = true) (asked : s.crown.yieldAsked = true)
    (serves : s.ctl.state ∈ [.ready, .run, .drain]) (hu : u = { s with
      crown.yieldAsked := false
      crown.yielding := true
      tk.sources := s.tk.sources.map fun q => { q with open_ := false } })
    (hv : v = (u.coursesUsed.foldl (fun s n => s.commitDue n (tickPlus s.now (400 : Nat))) u).cutEpoch 2)
    (hw : w = (v.courseLinks ++ [LinkId.field]).foldl (fun s l => s.crownOn (s.crown.gen + 1) 0 true l) v) :
    yieldAtCut s = State.ledgerHandover { w with crown.yieldAt := some w.now, crown.ledgerHandover := true } := by
  have guard : ¬(!s.atCut || !s.crown.yieldAsked || !s.inAny [.ready, .run, .drain]) = true := by
    simp [cut, asked, (s.inAny_iff _).2 serves]
  rw [yieldAtCut, if_neg guard, ← hu]
  simp only [← hv, ← hw]
/-- Without a course's report within 5 ms the crown is taken back under the generation after the one offered (R513). -/
theorem yieldTimeout_reclaims {t : Tick} {u : State} {g : U32} (yielded : s.crown.yieldAt = some t)
    (late : msT 5 ≤ ticksFrom t s.now) (hg : g = s.crown.gen + 2) (hu : u = { s with
      crown.gen := g
      crown.nvGen := g
      crown.horizon := tickPlus s.now (800 : Nat)
      crown.yielding := false
      crown.yieldAt := none
      crown.ledgerHandover := false }) : yieldTimeout s =
    (u.offerCrown.openRings.event 0x9012 0x0D 0 g.toNat).finish (· == PendOp.crownYield) (.err 601 "standby did not take") := by
  subst hg hu
  simp only [yieldTimeout, yielded]
  exact if_neg (Nat.not_lt.2 late)

/-! ### The field side (R505, R516) -/

theorem lineSyncRelease_releases (holds : s.crown.holds = true) (drives : s.sync.driving = true)
    (silent : 400 ≤ ticksFrom s.sync.ownGenSince s.now) : lineSyncRelease s = { s with sync.driving := false } :=
  if_pos (by simp [holds, drives, silent])
theorem fieldCrownSilence_off (silent : s.crownSilent s.fld.crown .field (msT 10) = true) :
    fieldCrownSilence s = { s with fld.bankOff := true } := if_pos silent
theorem transportCrownSilence_stops (silent : s.crownSilent s.led.crown .ledger 400 = true) :
    transportCrownSilence s = { s with led.stopped := true, led.streaming := false } := if_pos silent

end

/-! ### The CROWN verbs (R512, R514, R518) -/

section
variable {ln : Ln} {s u : State} (hu : u = s.lineTaken ln)
include hu

theorem crownShow_lines (h : s.Runs ln .view) : ∃ o, crownShow ln s = u.replied ln (.multi o) :=
  ⟨_, State.verb_replied_at h hu rfl⟩

section
variable (h : s.Runs ln .engineer)
include h

theorem crownYield_waits (serves : s.inAny [.ready, .run, .drain] = true) (synced : u.peerSynced = true)
    (free : s.crown.yieldAsked = false) (holds : s.crown.yielding = false) (room : s.pendFull ln = false) :
    crownYield ln s = u.started ln .crownYield "yielding" fun v => { v with crown.yieldAsked := true } := by
  subst hu
  have crown : (s.lineTaken ln).crown = s.crown := rfl
  exact State.verb_starts h (by simpa using room) <|
    (if_neg (by simp [serves, synced])).trans (if_neg (by simp [crown, free, holds]))

section
variable (standby : s.ctl.state = .standby) (silent : u.peerSilent = true)
include standby silent

/-- A standby that has lost its peer answers by its MRAM and by how far it has followed (R514, R518). -/
theorem crownTake_silent {ok : Bool} {t : State} {o : Out}
    (e : (if !ok then refuse u.crownNotWritten 601
      else if u.crown.synced == .yes then
        done (u.takeOver false) (stateText (u.takeOver false).ctl.state ++ " generation " ++ natText (u.takeOver false).crown.gen.toNat)
      else done u.takeBare ("HELD generation " ++ natText u.takeBare.crown.gen.toNat)) = (t, some o)) :
    crownTake ln ok s = t.replied ln o :=
  State.verb_replied_at h hu <| (if_neg (by simp [hu, standby])).trans <| (if_neg (by simp [silent])).trans e
theorem crownTake_unwritten : crownTake ln false s = u.crownNotWritten.replied ln (.err 601 "") :=
  crownTake_silent hu h standby silent (if_pos rfl)
theorem crownTake_synced (synced : s.crown.synced = .yes) : crownTake ln true s = (u.takeOver false).replied ln
    (.ok (stateText (u.takeOver false).ctl.state ++ " generation " ++ natText (u.takeOver false).crown.gen.toNat)) :=
  crownTake_silent hu h standby silent <| (if_neg (by simp)).trans (if_pos (by rw [hu]; exact beq_iff_eq.2 synced))
theorem crownTake_bare (behind : s.crown.synced ≠ .yes) : crownTake ln true s =
    u.takeBare.replied ln (.ok ("HELD generation " ++ natText u.takeBare.crown.gen.toNat)) :=
  crownTake_silent hu h standby silent <| (if_neg (by simp)).trans (if_neg (by rw [hu]; exact fun e => behind (beq_iff_eq.1 e)))

end

end

end

/-- Settles O54: the refused generation goes to cause [4], by silence and by verb, and the cause stands at an entry to HELD. -/
theorem aFailedGenerationWrite : Obligations.AFailedGenerationWrite := by
  refine ⟨fun s standby silent auto new synced => ?silence, fun ln s u h hu standby silent => ?verb, fun s standby cause => ?held, by decide⟩
  case silence =>
    rw [exec_crownSilenceTakeover, crownSilenceTakeover_unwritten standby silent auto new synced]
    rfl
  case verb =>
    subst hu
    rw [exec_crownTake, crownTake_unwritten rfl h standby silent]
    rfl
  case held => exact State.enterHeld_faults (by simp [standby]) cause

/-- Settles O41, by the equation of each command of the pair where it has its own effect. -/
theorem crownCommandsComplete : Obligations.CrownCommandsComplete := by
  refine ⟨fun c s u awake paired due ready hu => ?send, fun b s u awake sound hu => ⟨fun holds => ?holder, fun bare standby => ?standby⟩,
    fun s awake holds paired due free => ?cut, fun e s awake standby ready noticed sound kind => ?apply,
    fun s standby silent auto new => ⟨fun synced => ?takes, fun behind ok => ?unsynced⟩, fun s holds drives silent => ?release,
    fun d g handover s x => ⟨fun hx => ?field, fun hx => ?transport⟩, fun s => ⟨fun silent => ?off, fun silent => ?stops⟩,
    fun ln s u hu => ⟨fun h => ?show_, fun h serves synced free holds room => ?yield,
      fun h standby silent => ⟨fun synced => ?take, fun behind => ?bare⟩⟩, ?cutYield, ?reclaim⟩
  case send => rw [exec_heartbeatSend, heartbeatSend_posts awake paired due ready hu]
  case holder => rw [exec_heartbeatReceive, heartbeatReceive_holder awake sound hu holds]
  case standby => rw [exec_heartbeatReceive, heartbeatReceive_standby awake sound hu bare standby]
  case cut => rw [exec_epochCut, epochCut_cuts awake holds paired due free]
  case apply => rw [exec_epochApply, epochApply_applies awake standby ready noticed sound kind]
  case takes => rw [exec_crownSilenceTakeover, crownSilenceTakeover_takes standby silent auto new synced]
  case unsynced => rw [exec_crownSilenceTakeover, crownSilenceTakeover_unsynced standby silent auto new behind]
  case release => rw [exec_lineSyncRelease, lineSyncRelease_releases holds drives silent]
  case field => rw [exec_fieldRxCrown, fieldRxCrown, hx]
  case transport => rw [exec_transportRxCrown, transportRxCrown, hx]
  case off => rw [exec_fieldCrownSilence, fieldCrownSilence_off silent]
  case stops => rw [exec_transportCrownSilence, transportCrownSilence_stops silent]
  case show_ =>
    obtain ⟨o, e⟩ := crownShow_lines hu h
    exact ⟨o, (exec_crownShow ln s).trans (congrArg _ e)⟩
  case yield => rw [exec_crownYield, crownYield_waits hu h serves synced free holds room]
  case take => rw [exec_crownTake, crownTake_synced hu h standby silent synced]
  case bare => rw [exec_crownTake, crownTake_bare hu h standby silent behind]
  case cutYield =>
    intro s u v cut asked serves hu hv w hw
    rw [exec_yieldAtCut, yieldAtCut_yields cut asked serves hu hv hw]
  case reclaim =>
    intro s u t g yielded late hg hu
    rw [exec_yieldTimeout, yieldTimeout_reclaims yielded late hg hu]

end Sys2Proof.Machine
end

section
/-! PROOFS. The event recorder (chapter 16): taking events in, flushing, freeze and thaw, clearing, and a failed MRAM. -/
namespace Sys2Proof.Machine

/-! ### Taking in and flushing (R522, R525, R526, R530, R536) -/

theorem grave_iff (e : Event) : grave e = true ↔ 2 ≤ sevRank (sevOf e.code) := decide_eq_true_iff

section
variable {s : State}

/-- A new record takes the next number (R521). -/
theorem State.record_next (s : State) (e : Event) : (s.record e).evr.next = s.evr.next + 1 := by
  unfold State.record
  extract_lets r ctl store t u v
  have evr : v.evr = u.evr := by
    simp only [v]
    split <;> rfl
  exact congrArg Recorder.next evr

section
variable {e : Event} {rest : List Event} (awake : s.awake = true) (raised : s.raised = e :: rest)
include awake raised

theorem eventRecord_takes : eventRecord s = State.takeEvent { s with raised := rest } e := by
  rw [eventRecord, raised]
  exact if_pos awake
theorem eventRecord_holds (open_ : s.evr.fixed = false) :
    eventRecord s = { s with raised := rest, evr.heldEvents := s.evr.heldEvents ++ [e] } :=
  (eventRecord_takes awake raised).trans (if_pos (by simp [open_]))
/-- During a freeze an INFO or NOTE event is counted in its class (R530). -/
theorem eventRecord_counts (numbered : s.evr.fixed = true) (frozen : s.evr.frozen ≠ none) (light : sevRank (sevOf e.code) < 2) :
    eventRecord s = { s with raised := rest, evr.counts := updAt (e.code / 4096) (· + 1) s.evr.counts } := by
  have small : grave e = false := Bool.eq_false_iff.2 fun g => Nat.not_le.2 light ((grave_iff e).1 g)
  exact (eventRecord_takes awake raised).trans <|
    (if_neg (by simp [numbered])).trans (if_pos (by simp [Option.isSome_iff_ne_none, frozen, small]))
theorem eventRecord_records (numbered : s.evr.fixed = true) (free : s.evr.frozen = none ∨ 2 ≤ sevRank (sevOf e.code)) :
    eventRecord s = State.record { s with raised := rest } e := by
  refine (eventRecord_takes awake raised).trans ((if_neg (by simp [numbered])).trans (if_neg ?_))
  obtain thawed | heavy := free
  · simp [thawed]
  · simp [(grave_iff e).2 heavy]

end

section
variable (awake : s.awake = true)
include awake

theorem evFlush_due (numbered : s.evr.fixed = true) (thawed : s.evr.frozen = none)
    (due : s.evr.flushDue = true ∨ s.now.toNat % 40000000 = 0) : evFlush s = s.flush :=
  if_pos (by simp [awake, numbered, thawed, due])
theorem evMramFail_fails (works : s.evr.mramFailed = false) (ceiling : Bool) : evMramFail ceiling s = State.enterFault { s with
    evr.mramFailed := true
    evr.ceiling := if ceiling then s.evr.ceiling - 8192 else s.evr.ceiling } 4 :=
  if_neg (by simp [awake, works])

end

theorem evAutoThaw_due {t0 : Tick} (frozen : s.evr.frozen = some t0) (due : secT 60 ≤ ticksFrom t0 s.now) :
    evAutoThaw s = s.thaw := by
  rw [evAutoThaw, frozen]
  exact if_pos due

end

/-! ### The EV verbs (R530, R531, R534) -/

section
variable {ln : Ln} {s u : State} (hu : u = s.lineTaken ln)
include hu

section
variable (h : s.Runs ln .operate)
include h

/-- EV FREEZE begins a freeze with its counts at 0, or lengthens one (R530). -/
theorem evFreeze_freezes : evFreeze ln s = State.replied { u with
    evr.frozen := some u.now
    evr.counts := if u.evr.frozen = none then List.replicate 16 0 else u.evr.counts } ln (.ok "frozen 60s") := by
  refine State.verb_replied_at h hu ?_
  cases u.evr.frozen <;> simp [done]
/-- EV THAW answers whether the freeze has held anything back (R531). -/
theorem evThaw_thaws (frozen : s.evr.frozen ≠ none) : evThaw ln s =
    u.thaw.replied ln (.ok (if ∀ n ∈ s.evr.counts, n = 0 then "thawed, nothing held"
      else "thawed, summary " ++ natText s.evr.next.toNat)) := by
  have evr : u.evr = s.evr := by rw [hu]; rfl
  refine State.verb_replied_at h hu ((if_neg (by simp [evr, frozen])).trans ?_)
  by_cases quiet : ∀ n ∈ s.evr.counts, n = 0
  · rw [if_pos quiet, if_neg (by simpa [evr] using quiet)]
    rfl
  · rw [if_neg quiet, if_pos (by simpa [evr] using quiet), evr]
    rfl

end

theorem evClear_clears {range : Option (Nat × Nat)} {r : State × Nat} (h : s.Runs ln .engineer) (fresh : u.fresh ln = true)
    (thawed : s.evr.frozen = none)
    (sound : ∀ a b, range = some (a, b) → a < 2 ^ 32 ∧ b < 2 ^ 32 ∧ u32Before (BitVec.ofNat 32 b) (BitVec.ofNat 32 a) = false)
    (hr : r = (u.spendFresh ln).clearRecs ln (range.map fun p => (BitVec.ofNat 32 p.1, BitVec.ofNat 32 p.2))) :
    evClear ln range s = r.1.replied ln (.ok ("cleared " ++ natText r.2 ++ ", record " ++ natText s.evr.next.toNat)) := by
  have evr : u.evr = s.evr := by rw [hu]; rfl
  subst hr
  refine State.verb_replied_at h hu ((if_neg (by simp [fresh])).trans ((if_neg ?range).trans ((if_neg (by simp [evr, thawed])).trans ?_)))
  case range =>
    cases range with
    | none => simp
    | some p =>
      obtain ⟨low, high, order⟩ := sound p.1 p.2 rfl
      simpa [order] using And.intro low high
  rw [evr]
  rfl

end

/-- Settles O14, by the equation of each command of the recorder where it is due. -/
theorem recorderCommandsComplete : Obligations.RecorderCommandsComplete := by
  refine ⟨fun s e rest powered raised => ⟨fun open_ => ?holds, fun numbered frozen light => ?counts, fun numbered free => ?records⟩,
    State.record_next, fun s powered numbered thawed due => ?flush, fun ln s u h hu => ?freeze, fun ln s u h hu frozen => ?thaw,
    fun s t0 frozen due => ?auto, fun ln range s u r h hu fresh thawed sound hr => ?clear, fun ceiling s powered works => ?mram⟩
  case holds => rw [exec_eventRecord, eventRecord_holds (s.awake_iff.2 powered) raised open_]
  case counts => rw [exec_eventRecord, eventRecord_counts (s.awake_iff.2 powered) raised numbered frozen light]
  case records => rw [exec_eventRecord, eventRecord_records (s.awake_iff.2 powered) raised numbered free]
  case flush => rw [exec_evFlush, evFlush_due (s.awake_iff.2 powered) numbered thawed due]
  case freeze => rw [exec_evFreeze, evFreeze_freezes hu h]
  case thaw => rw [exec_evThaw, evThaw_thaws hu h frozen]
  case auto => rw [exec_evAutoThaw, evAutoThaw_due frozen due]
  case clear => rw [exec_evClear, evClear_clears hu h fresh thawed sound hr]
  case mram => rw [exec_evMramFail, evMramFail_fails (s.awake_iff.2 powered) works]

end Sys2Proof.Machine
end

section
/-! PROOFS. Waking (chapter 4): POWER_UP, the ends of the self-test, its timeout, and the replay of the journal (chapter 13). -/
namespace Sys2Proof.Machine

/-! ### POWER_UP and the self-test (Tables 4.2 and 4.4, R146, R165) -/

theorem State.enter_state (s : State) (u : UnitState) : (s.enter u).ctl.state = u := s.enter_unit u
theorem State.wakingFault_state (s : State) (n : Nat) : (s.wakingFault n).ctl.state = .fault := State.goFault_unit _ _

section
variable {s : State}

theorem powerUp_wakes {p : PowerOn} {u : State} (dark : s.ctl.state = .dark) (volts : 1920 ≤ p.bus) (images : s.ctl.imageFail = false)
    (hu : u = ((s.dormant p.bus).spoilBanks p.spoiled).checkBanks.drawKeys.enter .waking) :
    powerUp p s = u.chooseConfig.chooseCal.settle0.endUnload := by
  have guard : ¬(s.ctl.state != .dark || p.bus < 1920 || s.ctl.imageFail) = true := by
    simp [dark, images, Nat.not_lt.2 volts]
  rw [powerUp, if_neg guard, ← hu]

section
variable {r : SelfTest} (tests : s.testing = true)
include tests

theorem wakingEnd_images (bad : r.imagesBad = true) : wakingEnd r s = { s with
    ctl.state := .dark
    ctl.prev := .waking
    ctl.noImage := true
    ctl.imageFail := true
    raised := []
    made := []
    evr.heldEvents := [] } :=
  (if_neg (by simp [tests])).trans (if_pos bad)
theorem wakingTimeout_faults {stage : Nat} (late : secT 6 ≤ s.clk.tick.toNat) : wakingTimeout stage s = s.wakingFault stage :=
  if_pos (by simp [tests, late])

section
variable {u : State} (good : r.imagesBad = false)
  (hu : u = ((s.testKeys r.lidOpen).restoreStore r.recorderBad r.slotsBad).setHoldup r.holdup)
include good hu

theorem wakingEnd_faults {n : Nat} (failed : u.faultStep r = some n) : wakingEnd r s = u.wakingFault n := by
  have guard : ¬(!s.testing) = true := by simp [tests]
  simp only [wakingEnd, if_neg guard, good, Bool.false_eq_true, if_false, ← hu, failed]
/-- Without a failed step, a link that is missing leaves the unit in HELD; else the hold-up energy decides (R146, R148). -/
theorem wakingEnd_wakes (passed : u.faultStep r = none) : wakingEnd r s =
    if u.linkMissing r then State.wakeTo (u.event 0x1012 0 0 7) false else u.wakeTo u.ctl.holdupOk := by
  have guard : ¬(!s.testing) = true := by simp [tests]
  simp only [wakingEnd, if_neg guard, good, Bool.false_eq_true, if_false, ← hu, passed]
  cases u.linkMissing r <;> rfl

end

end

/-! ### Where the unit goes from WAKING (R148, R501) -/

theorem State.wakeTo_standby (clean : Bool) (leaves : s.takesCrown = false) : s.wakeTo clean = s.enterStandby :=
  if_pos (by simp [leaves])
theorem State.wakeTo_bringup {clean : Bool} (takes : s.takesCrown = true) (sound : clean = true) (auto : s.crownAtWaking.on 0x012 = true)
    (trusted : s.crownAtWaking.par.trusted = true) (ready : s.crownAtWaking.readyRefusal = none) :
    s.wakeTo clean = s.crownAtWaking.beginBringup true :=
  (if_neg (by simp [takes])).trans (if_pos (by simp [sound, auto, trusted, ready]))
theorem State.wakeTo_held {clean : Bool} (takes : s.takesCrown = true) (amiss : clean = false) :
    s.wakeTo clean = s.crownAtWaking.enterHeld :=
  (if_neg (by simp [takes])).trans (if_neg (by simp [amiss]))

/-! ### The journal (R147, R430, R455) -/

/-- The next serial is the greater of the one kept and the one after the journal's last frame. -/
theorem serial_max (x : BitVec 64) (n : Nat) : (if x.toNat < n then BitVec.ofNat 64 n else x) = BitVec.ofNat 64 (max x.toNat n) := by
  split
  · next less => rw [max_eq_right less.le]
  · next more => rw [max_eq_left (Nat.not_lt.1 more), BitVec.ofNat_toNat, BitVec.setWidth_eq]
theorem journalReplay_replays {bad : Option Nat} {u v : State} (serves : s.ctl.state ∈ [.held, .ready, .run, .drain, .fault])
    (new : s.led.replayed = false) (idle : s.led.op ≠ .load) (settled : s.led.cart = none ∨ s.led.state ≠ .empty)
    (hv : (∀ i, bad = some i → s.led.journal.frames.length ≤ i) ∧ v = s ∨
      ∃ i, bad = some i ∧ i < s.led.journal.frames.length ∧
        v = State.event { s with led.journal.frames := s.led.journal.frames.take i } 0x7041 0x0B 0
          (sumOf (fun (f : Frame) => frameSize f.record) (s.led.journal.frames.drop (i + 1))))
    (hu : u = if v.led.journal.sealed then v else v.event 0x7040 0x0B 0) :
    journalReplay bad s = ((State.reform (State.release { u with
      led.journal.frames := u.led.journal.frames.map fun f => { f with staged := true }
      led.serial := BitVec.ofNat 64 (max u.led.serial.toNat ((u.led.journal.frames.getLast?).elim 0 fun f => f.num + 1))
      led.journal.sealed := false
      led.replayed := true
      led.restartDue := true
      led.redoDue := u.led.redoDue || u.led.cart.elim false u.needsRedo })).fillMarks.format) := by
  have due : ¬(!s.inAny [.held, .ready, .run, .drain, .fault] || s.led.replayed || s.led.op == .load) = true := by
    simp [(s.inAny_iff _).2 serves, new, idle]
  have loaded : ¬(s.led.cart.isSome && s.on 0xB18 && s.led.state == .empty && s.led.link.up) = true := by
    obtain absent | full := settled
    · simp [absent]
    · simp [full]
  unfold journalReplay
  rw [if_neg due, if_neg loaded]
  extract_lets +onlyGivenNames all led journal cut told
  have hcut : cut = v := by
    obtain ⟨whole, rfl⟩ | ⟨i, rfl, inside, rfl⟩ := hv
    · cases bad with
      | none => rfl
      | some i => exact if_neg (Nat.not_lt.2 (whole i rfl))
    · exact if_pos inside
  have htold : told = u := by
    rw [hu, ← hcut]
  clear_value told
  subst htold
  simp only [serial_max]

end

/-- Settles O11, by the equation of POWER_UP, of each end of WAKING, and of the journal's replay. -/
theorem wakingCommandsComplete : Obligations.WakingCommandsComplete := by
  refine ⟨fun p s u dark volts images hu => ⟨?up, ?waking⟩, fun r s tests bad => ?images,
    fun r s u tests good hu => ⟨fun n failed => ?faults, fun passed => ⟨fun missing => ?missing, fun whole => ?wakes⟩⟩,
    fun s clean => ⟨State.wakeTo_standby clean, fun takes => ⟨?bringup, State.wakeTo_held takes⟩⟩,
    fun stage s tests late => ?timeout, fun bad s u v serves new idle settled hv hu => ?replay⟩
  case up => rw [exec_powerUp, powerUp_wakes dark volts images hu]
  case waking => rw [hu, State.enter_state]
  case images => rw [exec_wakingEnd, wakingEnd_images tests bad]
  case faults =>
    rw [exec_wakingEnd, wakingEnd_faults tests good hu failed]
    exact ⟨_, rfl, rfl, State.wakingFault_state _ _⟩
  case missing => rw [exec_wakingEnd, wakingEnd_wakes tests good hu passed, if_pos missing]
  case wakes => rw [exec_wakingEnd, wakingEnd_wakes tests good hu passed, if_neg (by simp [whole])]
  case bringup =>
    rintro ⟨sound, auto, trusted, ready⟩
    exact State.wakeTo_bringup takes sound auto trusted ready
  case timeout =>
    rw [exec_wakingTimeout, wakingTimeout_faults tests late]
    exact ⟨_, rfl, rfl, State.wakingFault_state _ _⟩
  case replay => rw [exec_journalReplay, journalReplay_replays serves new idle settled hv hu]

end Sys2Proof.Machine
end
